-- ==== Sys2Proof/Word.lean ====
section
/-! DEFINITION. The widths the spec gives its words, and the plainest operations on them: a register is 32 bits
(R6), a byte 8 bits; a field of a word is read and written as a number. -/

namespace Sys2Proof

/-- A 32-bit register (R6). -/
abbrev Word := BitVec 32

/-- One byte of a frame or of host memory. -/
abbrev Byte := BitVec 8

end Sys2Proof
end

