-- ==== Sys2Proof/Syntax.lean ====
section
/-! DEFINITION. The commands the block takes: one constructor for each row of spec/opcode_table.json, with the row's
operands. A register write names the writing master (R324); an event names the object it happens to; an SFI command
carries its channel, tag and arguments (R348). An operand's default is the row's plain case: no memory fault met, the
device's own side and not the partner's, one codeword lost, a reply from its first word. -/

namespace Sys2Proof

/-- What every SFI request carries (R318, R348, R353): its channel, its tag, whether it came on the channel's command
ring (R313), and its first argument word where the command needs the unlock key. -/
structure Sfi where
  ch : Fin 32
  tag : Fin 256
  ring : Bool
  key : Word
  deriving DecidableEq, Repr, Inhabited

/-- Arguments of TIO_SET (R364). -/
structure TioArgs where
  pin : Nat
  mode : Nat
  edge : Nat
  src : Nat
  align : Bool
  polarity : Bool
  level : Bool
  target : Nat
  periodNs : Nat
  periodFrac : Nat
  width : Nat
  count : Nat
  trim : Nat
  deriving DecidableEq, Repr, Inhabited

/-- One lane's arguments of LANE_MODE_SET (R363). -/
structure LaneArgs where
  lmode : Nat
  fec : Nat
  an : Bool
  rxInv : Bool
  txInv : Bool
  loopback : Nat
  deriving DecidableEq, Repr, Inhabited

/-- The fields of VLAN_SET (R133, R162). -/
structure VlanArgs where
  valid : Bool
  fid : Nat
  group : Nat
  memberAll : Bool
  filter : Bool
  learn : Bool
  unkUc : Nat
  unkMc : Nat
  deriving DecidableEq, Repr, Inhabited

/-- A fault of memory that a step meets: a table place whose parity is bad from now on (2^32 × kind + index: 0 rules,
1 FDB, 2 routes, 3 next hops, 4 groups, 5 streams, 6 express entries, 7 policers, 8 edit instructions, 9 cue-list
entries); a single-bit error or an uncorrectable data or link word at an address (R218); an ICRC mismatch, bad byte
parity in the edit path (R218); a reference count lost in both copies, or in one (R213); a bitmap word of a pool (R220). -/
inductive Upset where
  | place (code : Nat)
  | single (addr : Nat)
  | data (addr : Nat)
  | link (addr : Nat)
  | icrc
  | editPath
  | refcnt
  | refcntOne
  | bitmap (pool word : Nat)
  deriving DecidableEq, Repr, Inhabited

/-- The arguments of STREAM_ADMIT (R167). `ing` empty is any ingress port; `gmac` the key slot; `hmac` asks for an
HMAC-based variant (R183); `exprKey`, `exprMask` the express key of R184. -/
structure AdmitArgs where
  prof : Nat
  key : Nat
  type : Nat
  tc : Nat
  fMax : Nat
  burst : Nat
  interval : Nat
  egress : List Nat
  express : Nat
  ing : List Nat
  offA : Nat
  offB : Nat
  offC : Nat
  smpRate : Nat
  smpWrap : Nat
  rateTol : Nat := 2
  stateRec : Bool
  acts : Nat := 5445
  dd : Bool
  cb : Bool
  fixedPos : Bool
  gmac : Option Nat
  hmac : Bool
  exprKey : List Byte
  exprMask : Nat
  deriving DecidableEq, Repr, Inhabited

/-- The arguments of QUEUE_SET (R257): the words of a queue's registers, by field. -/
structure QueueArgs where
  quantum : Nat
  limit : Nat
  wredProf : Nat
  wredEn : Bool
  cbsEn : Bool
  idle : Nat
  hi : Nat
  lo : Nat
  tbsEn : Bool
  tbsRate : Nat
  tbsBurst : Nat
  mirror : Nat
  deriving DecidableEq, Repr, Inhabited

/-- The arguments of POLICER_SET (R257): the general policer's configuration. -/
structure PolicerArgs where
  en : Bool
  type : Nat
  aware : Bool
  redAct : Bool
  cir : Nat
  pir : Nat
  cbs : Nat
  ebs : Nat
  deriving DecidableEq, Repr, Inhabited

/-- What FOLIO_START finds of one drive (R279, R280, R281): its link, whether its namespace has the 4,096-byte format, its
segments of 4 MiB. -/
structure DriveArgs where
  drive : Nat
  width : Nat
  speed : Nat
  lba : Bool
  segs : Nat
  deriving DecidableEq, Repr, Inhabited

/-- The arguments of FOLIO_READ (R290): a PT range in ns, the optional filters, the host buffer. -/
structure FolioReadArgs where
  lo : Nat
  hi : Nat
  port : Option Nat
  cls : Option Nat
  stream : Option Nat
  addr : Nat
  len : Nat
  deriving DecidableEq, Repr, Inhabited

/-- A descriptor as fetched (R309, R313), with the buffer's bytes as the device reads them for TX and
command rings. -/
structure Desc where
  addr : Nat
  len : Nat
  first : Bool
  last : Bool
  port : Nat
  tc : Nat
  direct : Bool
  tsReq : Bool
  tag : Nat
  rspAddr : Nat
  rspLen : Nat
  bytes : List Byte
  deriving DecidableEq, Repr, Inhabited

/-- The arguments of FUNC_WINDOW_SET (R328). -/
structure WindowArgs where
  fn : Nat
  win : Nat
  base : Nat
  log2 : Nat
  rd : Bool
  wr : Bool
  en : Bool
  deriving DecidableEq, Repr, Inhabited

/-- What the ROM or FW_UPDATE_END finds of an image slot (R339, R342, R264): 0 verified, or the cause (1 header, 2 digest,
3 signature, 4 revoked key, 5 SVN); its SVN and version; its stagehand programs, number and version, that verify, and
those that do not. -/
structure ImageArgs where
  cause : Nat
  svn : Nat
  version : Nat
  progs : List (Nat × Nat)
  bad : List Nat
  deriving DecidableEq, Repr, Inhabited

/-- The arguments of KEY_SLOT_LOAD (R365): slot, next or current key, key ID, key words (4 or 8), validity in PT (ns). -/
structure KeyArgs where
  slot : Nat
  next : Bool
  keyId : Nat
  key : List Nat
  start : Nat
  stop : Nat
  deriving DecidableEq, Repr, Inhabited

/-- The arguments of BOOK_READ (R391, R404): a SEQ range, the filters, the host buffer. -/
structure BookReadArgs where
  lo : Nat
  hi : Nat
  minSev : Nat
  code : Nat
  mask : Nat
  addr : Nat
  len : Nat
  deriving DecidableEq, Repr, Inhabited

/-- The arguments of BOOK_TRIGGER_SET (R393, R404). -/
structure TriggerArgs where
  code : Nat
  mask : Nat
  minSev : Nat
  en : Bool
  pin : Bool
  notify : Bool
  dump : Bool
  chan : Nat
  deriving DecidableEq, Repr, Inhabited

/-- The arguments of PERF_CONFIG (R400, R405). -/
structure PerfArgs where
  slot : Nat
  index : Nat
  tcMask : Nat
  roleMask : Nat
  master : Nat
  addrEn : Bool
  ovfMode : Bool
  lo : Nat
  hi : Nat
  deriving DecidableEq, Repr, Inhabited

/-- A HELLO of the peer die (R413, R426): its straps, state, claim, firmware version, configuration digest. -/
structure HelloArgs where
  unit : Bool
  preferred : Bool
  state : Fin 16
  claim : Fin 64
  version : Nat
  digest : Nat
  deriving DecidableEq, Repr, Inhabited

/-- What a message of the understudy link carries (R422, R425, R428): an FDB change; a write of a TABLES or STREAM entry;
a plate command (0 open, 1 commit, 2 arm, 3 disarm, 4 abort) with whether the digest of the shadow agrees; a base's state,
EPOCH, RATE (48 bits) and offset to it (80-bit LT); statistics bases by port, class and stream counter; the answer to a
proposal; a cancellation. -/
inductive MirMsg where
  | fdb (reason mac fid newPort oldPort stamp : Nat)
  | tbl (id index : Nat) (words : List Nat)
  | sac (table index : Nat) (words : List Nat)
  | plate (op plate target : Nat) (digestOk : Bool)
  | time (base : Fin 2) (state epoch rate offset : Nat)
  | stats (port cls stream : List (Nat × Nat))
  | answer (accept : Bool)
  | cancel
  deriving DecidableEq, Repr, Inhabited

/-- A message of the link as a lane delivers it (R427): sequence number, whether its CRC holds, the PT it is stamped with
(80-bit LT), the state the peer reports, its content. -/
structure MirArgs where
  lane : Fin 2
  seq : Nat
  crcOk : Bool
  stamp : Nat
  state : Fin 16
  msg : MirMsg
  deriving DecidableEq, Repr, Inhabited

/-- The arguments of PAIR_CONFIG (R432). -/
structure PairArgs where
  level : Nat
  hbHalf : Nat
  hbFw : Bool
  revertEn : Bool
  revertHold : Nat
  overlap : Nat
  startWait : Nat
  deriving DecidableEq, Repr, Inhabited

/-- DOMAIN_JOIN (R436, R455): the identity, the addresses, the domain key of 8 words. -/
structure DomJoinArgs where
  domainId : Nat
  index : Nat
  root : Bool
  depth : Nat
  depthLimit : Nat
  parentIndex : Nat
  parentMac : Nat
  mac : Nat
  groupDa : Nat
  key : List Nat
  deriving DecidableEq, Repr, Inhabited

/-- DOMAIN_CONFIG (R455, R456): the port set as 256 bits, class, rate in kb/s, the four timers in their register units,
DOM_LEAD in ms, MAX_ROLE. -/
structure DomCfgArgs where
  ports : Nat
  tc : Nat
  rate : Nat
  hopWait : Nat
  armMin : Nat
  skewMax : Nat
  helloPeriod : Nat
  lead : Nat
  maxRole : Nat
  deriving DecidableEq, Repr, Inhabited


/-- The commands, in the order of spec/opcode_table.json. -/
inductive Instr where
  /-- A frame's header becomes complete (256 bytes or frame end, or frame end on a PRP_LAN port) and enters the port's ingress holding queue to wait for a decision slot (R92). -/
  | headerComplete (p : Fin 261) (mac : Fin 2) (bytes : List Byte)
  /-- A waiting header is granted a pipe decision slot and the frame takes its whole decision: parse, classify, stream checks, buffering and enqueue (R16). -/
  | decisionSlotGrant (pipe : Fin 2) (us : List Upset)
  /-- The last byte of a frame is received: FCS, length and ICRC are settled, the writer reference released and the learn request issued (R36). -/
  | frameRxEnd (p : Fin 261) (mac : Fin 2) (bytes : List Byte) (pcsErr : Bool) (frags : Nat) (assyErr : Bool) (us : List Upset)
  /-- When a chain buffer fills, the next buffer is chosen from a pool by the remaining length (R203). -/
  | nextBufferAlloc (p : Fin 256) (mac : Fin 2) (bytes : List Byte) (us : List Upset)
  /-- The 18th byte completes an express key match and the frame is cut through to its express egress ports (R186); with no byte, the first bit after the SFD (R54), from which the matcher compares. -/
  | expressMatch (p : Fin 256) (mac : Fin 2) (bytes : List Byte) (us : List Upset)
  /-- The preemptable MAC reaches a permitted point and yields to a waiting express frame (R44). -/
  | preemptableYield (p : Fin 256)
  /-- At a frame boundary the port's selector chooses the next eligible queue and starts its head copy with its edits (R232). -/
  | egressSelect (p : Fin 261) (us : List Upset)
  /-- A copy's last byte leaves the egress MAC and the copy is consumed (R116). -/
  | copyTxEnd (p : Fin 261) (mac : Fin 2) (us : List Upset)
  /-- The pause time of a received pause or PFC frame runs out and the classes resume (R240). -/
  | pauseExpire (p : Fin 256) (c : Fin 8)
  /-- Every half quanta time the MAC resends pause while a LOSSLESS account stays at or above XON (R210). -/
  | pauseRepeat (p : Fin 256)
  /-- The learn engine takes a request from a pipe FIFO and learns, moves, refreshes or refuses it (R144). -/
  | learnRequestProcess
  /-- The ager visits an FDB entry, increments AGE or removes it (R147). -/
  | agerVisit (n : Fin 262144) (us : List Upset)
  /-- FDB_CMD FLUSH_START starts or queues an FDB flush with FDB_FLUSH_SPEC (R149). -/
  | flushStart (m : Fin 32)
  /-- A down-flush sweep starts for the ports awaiting it once no sweep runs (R149). -/
  | downFlushSweepStart
  /-- A flush sweep ends, raising FLUSH_DONE for an FDB_FLUSH and starting any queued sweep (R149). -/
  | flushSweepDone
  /-- The host advances the learn ring consumer index (R153). -/
  | lrConsWrite (m : Fin 32) (w : Word)
  /-- An indirect READ copies a TABLES entry into the data words (R161). -/
  | tblRead (m : Fin 32) (c : Fin 2)
  /-- An indirect WRITE writes the data words to a TABLES entry (R161). -/
  | tblWrite (m : Fin 32) (c : Fin 2)
  /-- An indirect LOOKUP finds a key in a TABLES structure (R161). -/
  | tblLookup (m : Fin 32) (c : Fin 2)
  /-- An indirect INSERT inserts a key into a hashed table (R161). -/
  | tblInsert (m : Fin 32) (c : Fin 2)
  /-- An indirect DELETE removes a key or clears its shadow bit (R161). -/
  | tblDelete (m : Fin 32) (c : Fin 2)
  /-- An indirect access command completes and its RESULT is set (R161). -/
  | indirectAccessDone (blk : Fin 3) (c : Fin 2)
  /-- A STREAM indirect READ copies a stream-block table entry into SAC_DATA (R192). -/
  | sacRead (m : Fin 32) (c : Fin 2)
  /-- A STREAM indirect WRITE writes SAC_DATA to a stream-block table entry (R192). -/
  | sacWrite (m : Fin 32) (c : Fin 2)
  /-- A TM indirect READ copies a policer or cue-list entry into the data words (R258). -/
  | tmRead (m : Fin 32) (c : Fin 2)
  /-- A TM indirect WRITE writes a policer or cue-list entry (R258). -/
  | tmWrite (m : Fin 32) (c : Fin 2)
  /-- The PCS reports a port down and the port goes to HOLD or DOWN (R52). -/
  | pcsDown (p : Fin 256)
  /-- The PCS reports a port up, starting a LINK_UP_TIME window (R51). -/
  | pcsUp (p : Fin 256)
  /-- The PCS has stayed up for LINK_UP_TIME and the port enters UP (R52). -/
  | linkUpTimeExpire (p : Fin 256)
  /-- The hold expires with the PCS down and the port goes DOWN with a queue flush (R52). -/
  | linkHoldExpire (p : Fin 256)
  /-- A PHY auto-negotiation word reports a speed and link state for a port (R29). -/
  | anWordRx (p : Fin 256) (speed : Fin 16) (link : Bool)
  /-- A quad PLL in use loses lock (R60). -/
  | quadPllUnlock (q : Fin 16) (pll : Fin 2)
  /-- A lane receives an uncorrectable FEC codeword (R60): codewords it corrected and could not correct since the last (R58). -/
  | fecUncorrCodeword (l : Fin 64) (corr : Nat := 0) (uncorr : Nat := 1)
  /-- A QUAD_MODE write changes the quad mode or is discarded with MODE_CONFLICT (R28). -/
  | quadModeWrite (m : Fin 32) (q : Fin 16) (w : Word)
  /-- A LANE_CFG write changes lane mode, FEC, enable, polarity or loopback, checked for PLL rates (R26). -/
  | laneCfgWrite (m : Fin 32) (l : Fin 64) (w : Word)
  /-- A PORT_CFG write sets MAX_FRAME and PORT_EN; clearing PORT_EN takes the port DOWN with flush (R52). -/
  | portCfgWrite (m : Fin 32) (p : Fin 256) (w : Word)
  /-- VERIFY_TIME passes without a respond mPacket, resending verify or entering FAILED (R43). -/
  | verifyTimeout (p : Fin 256)
  /-- A received verify mPacket is answered with a respond mPacket (R43). -/
  | verifyMpacketRx (p : Fin 256)
  /-- A respond mPacket received in VERIFYING makes preemption SUCCEEDED (R43). -/
  | respondMpacketRx (p : Fin 256)
  /-- After EEE_IDLE µs idle the transmit MAC enters LPI, or the partner signals LPI (R48). -/
  | eeeIdleExpire (p : Fin 256) (partner : Bool := false)
  /-- The wake time after leaving LPI ends and the held frame is transmitted, or the partner ends LPI (R48). -/
  | twTxExpire (p : Fin 256) (partner : Bool := false)
  /-- A time base advances by one tick at its rate, committing any pending rate (R63). -/
  | tbTick (n : Fin 2)
  /-- A TB_RATE_1 write forms a new RATE to commit at the next tick, or is discarded when out of range (R63). -/
  | tbRate1Write (m : Fin 32) (n : Fin 2) (w : Word)
  /-- START moves a base from FREE to ACQUIRING in a new epoch (R65). -/
  | tbStart (m : Fin 32) (n : Fin 2)
  /-- LOCK applies the staged step and moves ACQUIRING to LOCKED, or is refused (R66). -/
  | tbLock (m : Fin 32) (n : Fin 2) (abs : Bool)
  /-- RELOCK returns a base from HOLDOVER to LOCKED without a step (R65). -/
  | tbRelock (m : Fin 32) (n : Fin 2)
  /-- EPOCH_END ends the base's epoch and sends it to FREE (R65). -/
  | tbEpochEnd (m : Fin 32) (n : Fin 2)
  /-- The servo timer reaches SERVO_TIMEOUT and the base enters HOLDOVER (R65). -/
  | servoTimeout (n : Fin 2)
  /-- HOLDOVER_LIMIT elapses and the base enters FREE (R65). -/
  | holdoverLimit (n : Fin 2)
  /-- A time PLL first locks and its base begins to tick (R64). -/
  | tpllLock (n : Fin 2)
  /-- A time PLL loses lock and its base enters FREE (R62). -/
  | tpllUnlock (n : Fin 2)
  /-- A time PLL loses its reference and holds its frequency word (R62). -/
  | tpllRefLoss (n : Fin 2)
  /-- A write of ACTIVE_TB changes the base PT follows, keeping PT continuous (R78). -/
  | activeTbWrite (m : Fin 32) (w : Word)
  /-- The PT slew brings OFF to zero (R76). -/
  | ptAligned
  /-- TIME_CMD SNAP latches TB_0, TB_1 and PT into the read registers (R68). -/
  | timeSnap (m : Fin 32)
  /-- TIME_CMD PT_JAM sets OFF to 0 when all PT outputs are disabled, or is refused (R79). -/
  | timeCmdPtJam (m : Fin 32)
  /-- A TIO_START_1 write arms or re-arms the pin's compare (R83). -/
  | tioStart1Write (m : Fin 32) (n : Fin 8) (w : Word)
  /-- A TIO_CFG write of MODE disarms the pin's compare (R83). -/
  | tioModeWrite (m : Fin 32) (n : Fin 8) (w : Word)
  /-- A TIO compare reaches its target and drives the pin's pulse, level or periodic edge (R80). -/
  | compareFire (n : Fin 8)
  /-- A pulse's WIDTH ends and the output goes inactive (R83); 8 names PPS_OUT (R87). -/
  | tioPulseEnd (n : Fin 9)
  /-- A selected edge on a capture pin is timestamped into its FIFO or dropped when full (R86). -/
  | tioInputEdge (n : Fin 8) (rising : Bool)
  /-- A PPS_IN edge is captured on channel 8 (R87). -/
  | ppsInEdge (rising : Bool)
  /-- A write of TIO_CAP_POP removes the head capture record (R86). -/
  | tioCapPop (m : Fin 32) (n : Fin 9)
  /-- At each PT second boundary PPS_OUT goes active for PPS_WIDTH (R87). -/
  | ppsOutSecond
  /-- The SyncE source lane loses CDR lock and the output is held low (R88). -/
  | synceSquelch (n : Fin 2)
  /-- 10 ms after lock returns the SyncE output resumes (R88). -/
  | synceResume (n : Fin 2)
  /-- A follow-up match entry unmatched for 100 ms is freed (R72). -/
  | fuEntryExpire (n : Nat)
  /-- Core 0's 1 s tick arms held targets, or releases HOLD, once 512 s or less remain (R333). -/
  | heldTargetTick
  /-- PLATE_CMD OPEN starts the open sweep of a shadow plate, or is refused (R111). -/
  | plateCmdOpen (m : Fin 32)
  /-- PLATE_CMD COMMIT makes the shadow active in one core cycle, or is refused (R113). -/
  | plateCmdCommit (m : Fin 32)
  /-- PLATE_CMD COMMIT_AT arms a timed commit at the PLATE_AT target (R115). -/
  | plateCmdCommitAt (m : Fin 32)
  /-- PLATE_CMD DISARM cancels an armed timed commit (R115). -/
  | plateCmdDisarm (m : Fin 32)
  /-- PLATE_CMD ABORT discards the shadow through an abort sweep (R119). -/
  | plateCmdAbort (m : Fin 32)
  /-- A PLATE_AT_1 write sets the target, or changes HOLD of an armed commit (R115). -/
  | plateAt1Write (m : Fin 32) (w : Word)
  /-- The open sweep ends, OPENED is raised and a held abort proceeds (R111). -/
  | openSweepDone
  /-- A timed commit's target is reached and the commit takes effect (R115). -/
  | timedCommitFire
  /-- A retiring plate's in-flight count is 0 with no fragment entry, so its retire sweep starts (R117). -/
  | plateRetire
  /-- The retire sweep ends and RETIRED is raised (R117). -/
  | retireSweepDone
  /-- The abort sweep ends, the shadow closes and ABORTED is raised (R119). -/
  | abortSweepDone
  /-- A plate still retiring after RETIRE_LIMIT has its queued copies and fragment entries flushed (R118). -/
  | retireLimitExpire
  /-- A fragment-table entry reaches FRAG_LIFE and expires (R123). -/
  | fragEntryExpire (n : Fin 4096)
  /-- A stream's deadline passes with no frame and SILENCE is raised (R175). -/
  | silenceDeadline (st : Fin 16384)
  /-- At each PT second an SV stream's frame count is compared with SMP_RATE (R174). -/
  | smpRateCheck (st : Fin 16384)
  /-- A duplicate-discard source unused for DD_FORGET becomes free (R179). -/
  | ddSourceForget (n : Fin 65536)
  /-- CARVE_APPLY starts rebuilding the pools, or is refused with CARVE_REFUSED (R199). -/
  | carveApply (m : Fin 32)
  /-- The carve rebuild completes (R199). -/
  | carveDone
  /-- A reclaim sweep frees orphaned buffers and rebuilds bad bitmap words (R220). -/
  | reclaimSweep (us : List Upset)
  /-- CL_CMD ARM computes T_c and arms the cue-list takeover (R247). -/
  | clCmdArm (m : Fin 32) (p : Fin 256)
  /-- CL_CMD DISARM cancels the armed takeover (R247). -/
  | clCmdDisarm (m : Fin 32) (p : Fin 256)
  /-- At T_c the administrative list becomes the operating list (R247). -/
  | cueTakeover (p : Fin 256)
  /-- A cue-list entry comes into force and sets the gate states (R243). -/
  | gateEntryChange (p : Fin 256) (us : List Upset)
  /-- Hold is asserted HOLD_ADVANCE before a Set-And-Hold-MAC entry (R246). -/
  | holdAssert (p : Fin 256)
  /-- An engine takes the next frame from its input queue and runs its program (R267). -/
  | programStart (e : Fin 128)
  /-- A program instance exceeds its cycle ceiling and ends with its default verdict (R272). -/
  | progOverrun (e : Fin 128)
  /-- A program's verdict returns and the parked copies are released, dropped or recirculated (R270). -/
  | verdictMerge (e : Fin 128) (code : Fin 6) (res : List Nat)
  /-- An uncorrectable engine memory error stops the engine and its queued frames take default verdicts (R272). -/
  | engineFault (e : Fin 128)
  /-- The cluster's reload is verified and the engine returns to service (R272). -/
  | engineReloadDone (c : Fin 16)
  /-- A cluster step change pauses the cluster, or stops dispatch for step 0 (R263). -/
  | clCfgWrite (m : Fin 32) (c : Fin 16) (w : Word)
  /-- After queued frames complete, a cluster going to step 0 stops its clock (R263). -/
  | clusterClockStop (c : Fin 16)
  /-- Every LIFE_CHECK a supervision frame is generated for each enabled pair (R275). -/
  | supvGenPass
  /-- Every P events an engine writes a profile sample (R278). -/
  | profileSample (e : Fin 128) (offset : Nat)
  /-- The formatter takes a capture copy, sheds it or assembles its record (R285). -/
  | folioFormatterTake (us : List Upset := [])
  /-- Fill below SHED_LO for 1 ms lowers the shed level (R285). -/
  | shedDown
  /-- A 128 KiB write from the assembly buffer is issued to a drive (R285). -/
  | assemblyDrainWrite
  /-- An NVMe command completes, or completes with an error status (R280). -/
  | nvmeCompletion (n : Fin 4) (write err fatal : Bool)
  /-- An NVMe command not completed in 100 ms is aborted, and a drive may be marked LOST (R280). -/
  | nvmeTimeout (n : Fin 4)
  /-- Every 10 s the SMART log of each drive is read (R280). -/
  | smartPoll (wear : List Nat)
  /-- Every 1 s the drive headers are written with FUA (R288). -/
  | folioHeaderWrite
  /-- FOLIO_START finishes reading headers and resuming or formatting (R288). -/
  | folioStartDone (ds : List DriveArgs) (hdr : Option (Nat × Nat × Nat))
  /-- A Folio read-back completes with its counts (R290). -/
  | folioReadDone
  /-- A RING_DB write posts a new producer index, or is ignored as invalid (R305). -/
  | ringDb (m : Fin 32) (s : Fin 136) (w : Word)
  /-- Fetched descriptors arrive and form jobs, which start when complete (R308). -/
  | descriptorFetch (s : Fin 136) (es : List Desc)
  /-- In poll mode the device rereads the entry at C after POLL_INTERVAL (R306). -/
  | pollRead (s : Fin 136) (phase : Bool) (e : Desc)
  /-- A port 256 copy leaves its queue and is written to an RX ring, or discarded (R311). -/
  | rxDeliver (es : List Desc) (us : List Upset := [])
  /-- The host advances CQ_CONS and the stash drains (R315). -/
  | cqConsWrite (m : Fin 32) (k : Fin 8) (w : Word)
  /-- INT_TIME passes after an unsignalled completion and the MSI-X vector fires (R316). -/
  | intTimeExpire (k : Fin 8)
  /-- A RING_CFG EN write enables or stops a submission ring, or is refused (R304). -/
  | ringEnable (m : Fin 32) (s : Fin 136) (w : Word)
  /-- A CQ_CFG EN write enables or disables a completion ring, or is refused (R304). -/
  | cqEnable (m : Fin 32) (k : Fin 8) (w : Word)
  /-- A function-level reset stops the function's rings and marks its channels' messages stale (R323). -/
  | flr (f : Fin 8)
  /-- A function-level reset completes (R323). -/
  | flrDone (f : Fin 8)
  /-- A write of MB_POST appends a staged message to a request queue, or is refused (R319). -/
  | mbPost (m : Fin 32) (c : Fin 32) (w : Word)
  /-- The receiving core's domain is powered after a wake event (R319). -/
  | coreWake (n : Fin 4)
  /-- A write of MB_RSP_POP removes the head response (R321). -/
  | mbRspPop (m : Fin 32) (c : Fin 32)
  /-- The Prompter takes a request from a channel and settles stale, frozen, role and admission checks (R351). -/
  | sfiRequestTake (c : Fin 32)
  /-- A PENDING command's job on core 3 finishes and its completion is posted (R350). -/
  | sfiJobDone (c : Fin 32) (tag : Fin 256) (im : ImageArgs)
  /-- The host link leaves L0 other than for L1 (R332). -/
  | pcieLinkDown
  /-- A PCIe uncorrectable error is reported through AER (R332). -/
  | pcieAerError
  /-- PCIE_PERST_N, hot reset or link disable resets the endpoint and all functions (R478). -/
  | hostLinkReset (kind : Fin 3)
  /-- A write to a register with no row of its own takes effect by its type and permissions (R370). -/
  | registerWrite (m : Fin 32) (addr : Nat) (w : Word) (be : Fin 16)
  /-- A key write to GUARD_UNLOCK unlocks the block for the writing master (R371). -/
  | guardUnlock (m : Fin 32) (slot : Fin 97) (w : Word)
  /-- A write to an RSQ register clears flags when its SEQ matches (R373). -/
  | rsqClear (m : Fin 32) (addr : Nat) (w : Word)
  /-- The background checker reads a register and raises CFG_PARITY on mismatch (R376). -/
  | paritySweep (addr : Nat) (upset : Option Word)
  /-- Core 0 rewrites a register or table entry from its shadow after a parity record (R376). -/
  | shadowRestore (table : Bool) (place : Nat)
  /-- BOOK_CMD CURTAIN_UP raises the curtain (R389). -/
  | curtainUp (m : Fin 32)
  /-- BOOK_CMD CURTAIN_DOWN lowers the curtain and writes held records and CURTAIN_LIFTED (R390). -/
  | curtainDown (m : Fin 32)
  /-- BOOK_CMD CLEAR invalidates every stored record and writes BOOK_CLEARED (R392). -/
  | bookCmdClear (m : Fin 32) (chan : Fin 256) (role : Fin 4)
  /-- The curtain has been up for CURTAIN_LIMIT and is lowered (R389). -/
  | curtainLimitExpire
  /-- Staged records are written to the Folio book segments (R386). -/
  | bookStagingWrite
  /-- A BOOK_EVENT notification is sent to a subscribed or notified channel (R395). -/
  | bookEvent (c : Fin 24)
  /-- The statistics are latched periodically, or the latch is skipped while a dump is written (R397). -/
  | statsLatch
  /-- A dump image's header is written, completing the dump (R398). -/
  | dumpWriteDone
  /-- PERF_CMD SNAP starts a performance snapshot (R399). -/
  | perfCmdSnap (m : Fin 32)
  /-- PERF_CMD DUMP_NOW latches and dumps the statistics at once (R397). -/
  | perfCmdDumpNow (m : Fin 32)
  /-- A performance snapshot completes (R399). -/
  | perfSnapDone
  /-- A PC_CLEAR write zeroes counters and their OVF bits (R401). -/
  | pcClear (m : Fin 32) (slot : Fin 97) (w : Word)
  /-- The boot ROM loads and verifies an image, starts the firmware and posts READY (R341). -/
  | boot (a b : ImageArgs)
  /-- After READY the Prompter applies the stored startup configuration (R344). -/
  | configAutoApply (fail : Option (Nat × Nat))
  /-- Every 10 ms core 0 checks cores 1 to 3 and resets one silent for 100 ms (R335). -/
  | coreHeartbeatCheck (beats : Fin 8)
  /-- Core 0 shows no heartbeat for 50 ms and the Prompter restarts, or halts DEGRADED (R335). -/
  | core0WatchdogExpire
  /-- An SRAM ECC error is corrected or resets a core or the Prompter (R336). -/
  | sramEccError (n : Fin 4) (corrected image : Bool)
  /-- Core 0 load above 80 % for 1 s raises CORE0_OVERLOAD (R337). -/
  | core0LoadCheck (loads : List (Nat × Nat))
  /-- No FW_CONFIRM within CONFIRM_TIME reverts to the previous slot (R345). -/
  | confirmTimeExpire
  /-- A write of PROMPTER_CMD RESTART restarts the Prompter when permitted (R347). -/
  | prompterCmdRestart (m : Fin 32)
  /-- A session idle for SESSION_IDLE seconds ends (R354). -/
  | sessionIdleExpire (c : Fin 32)
  /-- A Prompter core takes a frame from a port 257 queue (R334). -/
  | prompterRxFrame (core : Fin 4) (us : List Upset := [])
  /-- The LLDP transmit interval expires and an LLDP frame is sent (R363). -/
  | lldpTx (p : Fin 256)
  /-- ARB_GO falls and the gate removes claim bit 5 from the pins (R415). -/
  | arbGoFall
  /-- A new ARB_GO or ARB_FAULT_IN level has been stable for 16 µs and the state machine acts on it (R417). -/
  | arbInputSettled (go fault : Bool)
  /-- Every HB_HALF ARB_HB toggles while health holds, or stops with HEALTH_FAIL (R416). -/
  | hbToggle (tmStuck fwLate : Bool)
  /-- A claim readback differs from the driven value for over 1 µs (R411). -/
  | claimMismatch (read : Fin 128)
  /-- The understudy link comes up and HELLO is exchanged (R426). -/
  | ulkLinkUp (lane : Fin 2)
  /-- The understudy link goes down, ending the peer binding (R426). -/
  | ulkLinkDown
  /-- A peer HELLO is received and the state machine reacts to the peer's state (R426). -/
  | helloRx (x : HelloArgs)
  /-- No HELLO arrives within START_WAIT and the preferred die goes active (R418). -/
  | startWaitExpire
  /-- A mirror message from the active die is applied at the standby (R428). -/
  | mirrorMessageRx (x : MirArgs)
  /-- A sequence gap persisting 2 µs sends the standby to STANDBY_UNSYNC (R427). -/
  | mirrorGap
  /-- Every 1 ms the active die mirrors its time-base state (R428). -/
  | timeMirrorTick
  /-- The bulk copy ends and the standby enters STANDBY_SYNC or raises CFG_DIVERGED (R429). -/
  | resyncCopyDone
  /-- 1 s after CFG_DIVERGED the copy is repeated (R429). -/
  | resyncRetry
  /-- REVERT_HOLD has held and the preferred standby proposes a revert (R422). -/
  | revertHoldMet
  /-- The active die accepts or rejects a revert proposal (R422). -/
  | revertProposalRx (tr : Nat)
  /-- No answer to a revert proposal arrives and the revert is aborted (R422). -/
  | revertNoAnswer
  /-- At T_r the incoming die opens ingress and the outgoing die stops mirroring (R423). -/
  | handoverTr
  /-- The outgoing die receives OVERLAP_STARTED (R423). -/
  | overlapStartedRx
  /-- At T_s the incoming die drives the active claim and the outgoing die yields (R423). -/
  | handoverTs
  /-- Every HELLO_PERIOD a member sends HELLO to its parent (R437). -/
  | domainHelloTick
  /-- A child without HELLO for three periods becomes not live (R437). -/
  | childLost (n : Fin 64)
  /-- No HELLO reply from the parent for three periods (R437). -/
  | parentLost
  /-- The domain agent takes a management frame, authenticates it and handles its TYPE (R439). -/
  | mgmtFrameRx (us : List Upset := [])
  /-- 300 ms after PT_VALID the agent begins sending domain frames (R440). -/
  | domainTxEnable
  /-- A frame held for its MSEQ lead is sent once PT catches up (R440). -/
  | mgmtFrameHoldRelease
  /-- A last-accepted entry not updated for 2^30 counts is emptied (R440). -/
  | mseqEntryAge (index : Fin 16384)
  /-- At T the member latches statistics, snapshots and PROOF_SNAP words (R445). -/
  | proofLatch
  /-- A member forwards proof records upward at its deadline or when all children reported (R447). -/
  | proofReportDeadline
  /-- An armed curtain action takes effect at T (R451). -/
  | actionTake
  /-- The root completes a curtain action at its deadline (R450). -/
  | actionCompletionDeadline
  /-- A barrier not ready within TIMEOUT completes with BUSY and takes no action (R453). -/
  | barrierTimeout
  /-- Every 10 µs each rail is sampled and SUPPLY_FAULT raised or cleared (R462). -/
  | railMonitorSample (mv : List Nat)
  /-- Every 1 ms the sensors are sampled and THERM_WARN or THERM_CRIT raised (R467). -/
  | thermalSample (temps : List Int)
  /-- All sensors 5 °C below threshold for 1 s re-arm the thermal events (R467). -/
  | thermClear
  /-- The 125 °C comparator trips and the device shuts itself down (R468). -/
  | thermalTrip
  /-- Once per second equivalent life hours are accumulated (R470). -/
  | lifeHoursUpdate (hottest : Int)
  /-- A core, Prompter, PCIe or ULK PLL loses lock (R494). -/
  | corePllUnlock (pll : Fin 5)
  /-- VDDAO falls below 0.70 V or is first applied and everything resets (R461). -/
  | powerOnReset
  /-- RESET_N goes low and the device resets except the always-on domain (R476). -/
  | resetNAssert
  /-- RESET_N is released, straps are sampled and boot begins (R479). -/
  | resetNRelease (straps : Fin 32) (temps : List Int)
  /-- RESET_CTRL DEVICE_RESET asserts a 1 ms internal device reset (R491). -/
  | resetCtrlDeviceReset (m : Fin 32)
  /-- The 1 ms internal device reset ends and straps are sampled again (R476). -/
  | internalResetEnd (straps : Fin 32)
  /-- SYS_CAPS returns a capability page (R360). -/
  | sysCaps (rq : Sfi) (page : Nat)
  /-- SYS_QUERY returns Prompter status and loads (R362). -/
  | sysQuery (rq : Sfi)
  /-- SYS_RESET restarts the Prompter or resets the device (R362). -/
  | sysReset (rq : Sfi) (kind : Nat)
  /-- FW_UPDATE_BEGIN erases the slot not running (R345). -/
  | fwUpdateBegin (rq : Sfi) (len : Nat)
  /-- FW_UPDATE_WRITE writes image data at an offset (R345). -/
  | fwUpdateWrite (rq : Sfi) (offset : Nat) (words : List Nat)
  /-- FW_UPDATE_END verifies the written slot (R345). -/
  | fwUpdateEnd (rq : Sfi)
  /-- FW_ACTIVATE sets the trial slot and restarts now or later (R345). -/
  | fwActivate (rq : Sfi) (now : Bool)
  /-- FW_CONFIRM makes the trial slot preferred and raises the OTP SVN (R345). -/
  | fwConfirm (rq : Sfi)
  /-- CONFIG_SAVE writes the running configuration to flash (R344). -/
  | configSave (rq : Sfi)
  /-- SYS_CONFIG sets SESSION_IDLE, CONFIRM_TIME and AUTO_APPLY (R362). -/
  | sysConfig (rq : Sfi) (idle confirm : Nat) (auto : Bool)
  /-- RECOVERY_WRITE writes flash data in the recovery state (R342). -/
  | recoveryWrite (rq : Sfi) (offset : Nat) (words : List Nat)
  /-- RECOVERY_REBOOT restarts boot from the recovery state (R342). -/
  | recoveryReboot (rq : Sfi)
  /-- POWER_QUERY returns power, thermal and reset status (R490). -/
  | powerQuery (rq : Sfi) (start : Nat)
  /-- THERMAL_SET sets WARN_C and CRIT_C (R490). -/
  | thermalSet (rq : Sfi) (warn crit : Nat)
  /-- GPIO_SET sets GPIO output enables and levels (R490). -/
  | gpioSet (rq : Sfi) (oe out : Fin 256)
  /-- PORT_QUERY returns a port's status and configuration (R363). -/
  | portQuery (rq : Sfi) (port : Nat)
  /-- LANE_MODE_SET sets a quad's mode and its lanes' modes (R363). -/
  | laneModeSet (rq : Sfi) (quad qmode : Nat) (lanes : List LaneArgs)
  /-- LANE_ENABLE enables or disables lanes by mask (R363). -/
  | laneEnable (rq : Sfi) (mask : Nat) (en : Bool)
  /-- PORT_CONFIG_SET sets MAX_FRAME, PORT_EN and link timers (R363). -/
  | portConfigSet (rq : Sfi) (port : Nat) (en : Bool) (maxFrame hold upTime : Nat)
  /-- PORT_PRE_SET sets preemption fields (R363). -/
  | portPreSet (rq : Sfi) (port : Nat) (en verify : Bool) (time addFrag expressTc : Nat)
  /-- PORT_EEE_SET sets EEE fields (R363). -/
  | portEeeSet (rq : Sfi) (port : Nat) (en : Bool) (idle : Nat) (ovr : Bool)
  /-- PORT_PARSE_SET sets a port's parser configuration (R363). -/
  | portParseSet (rq : Sfi) (port : Nat) (prpLan slowFrag : Bool) (grp pcp pvid fwd : Nat)
  /-- PORT_TS_TRIM_SET sets timestamp trims (R363). -/
  | portTsTrimSet (rq : Sfi) (port ing egr : Nat)
  /-- PCP_MAP_SET sets a pipe's PCP to TC map (R363). -/
  | pcpMapSet (rq : Sfi) (pipe map : Nat)
  /-- LLDP_SET enables LLDP on a port with its interval (R363). -/
  | lldpSet (rq : Sfi) (port : Nat) (en : Bool) (interval : Nat)
  /-- TIME_QUERY returns time status and PT (R364). -/
  | timeQuery (rq : Sfi)
  /-- TB_PROFILE_SET sets a base's PTP profile, domain and reference (R364). -/
  | tbProfileSet (rq : Sfi) (base profile domain transports refSel lane : Nat)
  /-- PTP_PORT_ROLE_SET sets a port's role for a base (R364). -/
  | ptpPortRoleSet (rq : Sfi) (port base role : Nat)
  /-- TB_CONTROL starts or ends an epoch and sets servo timers (R364). -/
  | tbControl (rq : Sfi) (base : Nat) (start epochEnd servo : Bool) (timeout limit : Nat)
  /-- PT_SELECT sets the active base and PT selection fields (R364). -/
  | ptSelect (rq : Sfi) (base : Nat) (auto hold : Bool) (slew : Nat) (freeRun : Bool)
  /-- PT_JAM jams PT onto the active base when outputs are disabled (R364). -/
  | ptJam (rq : Sfi)
  /-- TIO_SET configures and arms a time pin, holding far targets in core 0 (R364). -/
  | tioSet (rq : Sfi) (x : TioArgs)
  /-- TIO_CAPTURE_POP returns and removes the head capture record (R364). -/
  | tioCapturePop (rq : Sfi) (pin : Nat)
  /-- PPS_SET configures PPS_OUT and PPS_IN (R364). -/
  | ppsSet (rq : Sfi) (outEn : Bool) (width trim : Nat) (inEn inEdge : Bool)
  /-- SYNCE_SET configures a SyncE output (R364). -/
  | synceSet (rq : Sfi) (o lane div : Nat) (en : Bool)
  /-- TIME_OF_DAY_SET gives the PTP seconds of the next PPS_IN edge (R364). -/
  | timeOfDaySet (rq : Sfi) (base secs : Nat)
  /-- PLATE_QUERY returns plate numbers, in-flight counts and owner (R127). -/
  | plateQuery (rq : Sfi)
  /-- PLATE_OPEN opens a shadow owned by the session (R127). -/
  | plateOpen (rq : Sfi)
  /-- PROFILE_SET stages a key profile (R127). -/
  | profileSet (rq : Sfi) (prof : Nat) (en : Bool) (table types groups : Nat) (slots : List (Nat × Nat × Nat))
  /-- RULE_ADD stages a rule into the shadow (R127). -/
  | ruleAdd (rq : Sfi) (prof key action : Nat)
  /-- RULE_DELETE removes a rule from the shadow (R127). -/
  | ruleDelete (rq : Sfi) (prof key : Nat)
  /-- PLATE_COMMIT commits the shadow now or arms a timed commit (R115). -/
  | plateCommit (rq : Sfi) (target : Option Nat)
  /-- PLATE_ABORT discards the shadow (R127). -/
  | plateAbort (rq : Sfi)
  /-- FRAG_CONFIG sets FRAG_LIFE (R127). -/
  | fragConfig (rq : Sfi) (life : Nat)
  /-- PLATE_DISARM cancels an armed timed commit (R127). -/
  | plateDisarm (rq : Sfi)
  /-- FDB_QUERY returns FDB entries (R162). -/
  | fdbQuery (rq : Sfi) (key : Option (Nat × Nat)) (start count filter : Nat)
  /-- FDB_STATIC_ADD stages a static FDB entry (R162). -/
  | fdbStaticAdd (rq : Sfi) (mac fid dtype dest : Nat)
  /-- FDB_STATIC_DELETE stages removal of a static entry (R162). -/
  | fdbStaticDelete (rq : Sfi) (mac fid : Nat)
  /-- FDB_FLUSH requests a flush of learned entries (R162). -/
  | fdbFlush (rq : Sfi) (port fid : Option Nat) (report : Bool)
  /-- FDB_CONFIG sets ageing, hold-down, eviction and route miss action (R162). -/
  | fdbConfig (rq : Sfi) (age hold evict miss : Nat)
  /-- PORT_LEARN_SET sets a port's learning fields (R162). -/
  | portLearnSet (rq : Sfi) (port : Nat) (learn flush : Bool) (as : Nat)
  /-- VLAN_SET writes VLAN table fields (R162). -/
  | vlanSet (rq : Sfi) (vid mask : Nat) (x : VlanArgs)
  /-- GROUP_SET stages a multicast group bitmap (R162). -/
  | groupSet (rq : Sfi) (group bitmap : Nat)
  /-- ROUTE_ADD stages a route prefix (R162). -/
  | routeAdd (rq : Sfi) (v6 : Bool) (pfx len nh : Nat)
  /-- ROUTE_DELETE stages removal of a prefix (R162). -/
  | routeDelete (rq : Sfi) (v6 : Bool) (pfx len : Nat)
  /-- NEXTHOP_SET stages a next-hop entry (R162). -/
  | nexthopSet (rq : Sfi) (index dtype dest : Nat) (edit : Option Nat)
  /-- LEARN_RING_SET configures the learn ring (R162). -/
  | learnRingSet (rq : Sfi) (fn base size mask : Nat) (en : Bool)
  /-- STREAM_ADMIT admits a protection stream and stages its rule (R166). -/
  | streamAdmit (rq : Sfi) (x : AdmitArgs)
  /-- STREAM_WITHDRAW withdraws a stream at a commit (R166). -/
  | streamWithdraw (rq : Sfi) (index : Nat)
  /-- STREAM_QUERY returns a stream's entry, state and counters (R191). -/
  | streamQuery (rq : Sfi) (index : Nat) (start : Nat := 0)
  /-- STREAM_ACTIONS sets a stream's anomaly actions (R191). -/
  | streamActions (rq : Sfi) (index acts : Nat) (stateRec : Bool)
  /-- RPAIR_SET writes a redundancy pair entry (R191). -/
  | rpairSet (rq : Sfi) (pair mode a b : Nat) (inter : Option Nat) (quad : Bool) (peer : Nat)
  /-- DD_CONFIG sets DD_FORGET (R191). -/
  | ddConfig (rq : Sfi) (forget : Nat)
  /-- STREAM_LIMITS sets TC7_SHARE (R191). -/
  | streamLimits (rq : Sfi) (share : Nat)
  /-- QUEUE_SET configures a queue (R257). -/
  | queueSet (rq : Sfi) (port queue : Nat) (x : QueueArgs)
  /-- PORT_SCHED_SET sets SP_LEVEL, OVERHEAD and PAUSE_EXEMPT (R257). -/
  | portSchedSet (rq : Sfi) (port sp overhead exempt : Nat)
  /-- QUEUE_QUERY returns queue configuration and state (R257). -/
  | queueQuery (rq : Sfi) (port : Nat) (queue : Option Nat) (start : Nat)
  /-- CUE_LIST_LOAD writes the administrative cue list (R257). -/
  | cueListLoad (rq : Sfi) (port : Nat) (entries : List (Nat × Nat)) (cycle : Nat)
  /-- CUE_LIST_ARM arms a cue-list takeover at a base time (R257). -/
  | cueListArm (rq : Sfi) (port base : Nat)
  /-- CUE_LIST_DISARM cancels an armed takeover (R257). -/
  | cueListDisarm (rq : Sfi) (port : Nat)
  /-- GATE_CONFIG sets gate and guard controls (R257). -/
  | gateConfig (rq : Sfi) (port : Nat) (en la guard : Bool) (hold : Nat)
  /-- CUE_LIST_QUERY returns both lists and the current entry (R257). -/
  | cueListQuery (rq : Sfi) (port start : Nat)
  /-- POLICER_SET configures a general policer (R257). -/
  | policerSet (rq : Sfi) (n : Nat) (x : PolicerArgs)
  /-- POLICER_QUERY returns a policer's state (R257). -/
  | policerQuery (rq : Sfi) (n : Nat)
  /-- WRED_PROFILE_SET writes a WRED profile (R257). -/
  | wredProfileSet (rq : Sfi) (prof weight : Nat) (curves : List (Nat × Nat × Nat))
  /-- MIRROR_SET configures a mirror session (R257). -/
  | mirrorSet (rq : Sfi) (session dest tc : Nat) (en : Bool)
  /-- BPM_CARVE applies new pool sizes (R224). -/
  | bpmCarve (rq : Sfi) (mib : List Nat)
  /-- QUOTA_PROFILE_SET writes a quota profile (R224). -/
  | quotaProfileSet (rq : Sfi) (prof min alpha max headroom hyst warn : Nat)
  /-- QUOTA_BIND binds accounts to a profile (R224). -/
  | quotaBind (rq : Sfi) (lo hi prof : Nat) (lossless : Bool)
  /-- PORT_FLOW_SET sets flow-control mode and quanta (R224). -/
  | portFlowSet (rq : Sfi) (port mode quanta : Nat)
  /-- BPM_QUERY returns pool and account figures (R224). -/
  | bpmQuery (rq : Sfi) (range : Option (Nat × Nat)) (start : Nat)
  /-- EDIT_SET stages an edit instruction (R224). -/
  | editSet (rq : Sfi) (index : Nat) (words : List Nat)
  /-- STAGE_QUERY returns stagehand state (R292). -/
  | stageQuery (rq : Sfi) (start : Nat)
  /-- CLUSTER_STEP_SET changes a cluster's frequency step (R292). -/
  | clusterStepSet (rq : Sfi) (cluster step : Nat) (force : Bool)
  /-- PROGRAM_ASSIGN sets a program's cluster mask (R292). -/
  | programAssign (rq : Sfi) (prog mask : Nat)
  /-- PIN_REBALANCE refills a program's pin table (R292). -/
  | pinRebalance (rq : Sfi) (prog : Nat)
  /-- SAMPLER_SET configures a port sampler (R292). -/
  | samplerSet (rq : Sfi) (port n : Nat) (random en : Bool) (ring : Nat)
  /-- PROFILE_START arms or stops engine profiling (R278). -/
  | profileStart (rq : Sfi) (x : Option (Nat × Nat))
  /-- PROFILE_READ returns profile samples (R292). -/
  | profileRead (rq : Sfi)
  /-- SUPV_GEN_SET configures supervision frame generation (R292). -/
  | supvGenSet (rq : Sfi) (pair : Nat) (en : Bool) (life last : Nat)
  /-- A stagehand cluster sends a program report on channels 24 to 31 (R352). -/
  | stageReport (c : Fin 16) (ch : Fin 32) (op tag : Nat) (words : List Nat)
  /-- FOLIO_CONFIG sets Folio parameters (R293). -/
  | folioConfig (rq : Sfi) (links pinLimit hi lo : Nat) (capDup : Bool) (rb : Nat)
  /-- FOLIO_START trains the links and resumes or formats the Folio (R288). -/
  | folioStart (rq : Sfi) (format : Bool)
  /-- FOLIO_STOP stops capture and writes the headers (R293). -/
  | folioStop (rq : Sfi)
  /-- FOLIO_QUERY returns Folio state (R293). -/
  | folioQuery (rq : Sfi) (start : Nat)
  /-- CAPTURE_CLASS_SET sets a class's SNAP_LEN (R293). -/
  | captureClassSet (rq : Sfi) (cls snap : Nat)
  /-- PORT_CAPTURE_SET sets a port's capture class and TC mask (R293). -/
  | portCaptureSet (rq : Sfi) (port ing mask : Nat)
  /-- PIN_BINDING_SET sets a trigger binding and its window (R293). -/
  | pinBindingSet (rq : Sfi) (k code mask sev pre post : Nat)
  /-- PIN_NOW opens a pinned window at a given PT (R286). -/
  | pinNow (rq : Sfi) (t pre post : Nat)
  /-- PIN_RELEASE frees a pinned window (R287). -/
  | pinRelease (rq : Sfi) (id : Nat)
  /-- FOLIO_READ starts reading matching records to host memory (R290). -/
  | folioRead (rq : Sfi) (x : FolioReadArgs)
  /-- FOLIO_ERASE releases every window and deallocates the ring (R293). -/
  | folioErase (rq : Sfi)
  /-- BOOK_QUERY returns Promptbook status and counts (R404). -/
  | bookQuery (rq : Sfi) (start : Nat)
  /-- BOOK_READ copies stored records to host memory (R391). -/
  | bookRead (rq : Sfi) (x : BookReadArgs)
  /-- BOOK_CURTAIN raises or lowers the curtain (R389). -/
  | bookCurtain (rq : Sfi) (up : Bool)
  /-- BOOK_CLEAR clears the book with the clearing channel recorded (R392). -/
  | bookClear (rq : Sfi)
  /-- BOOK_CONFIG sets MODE, RECORD_MIN_SEV and CURTAIN_LIMIT (R404). -/
  | bookConfig (rq : Sfi) (mode : Bool) (minSev limit : Nat)
  /-- BOOK_SNAP_SET writes a snapshot list entry (R404). -/
  | bookSnapSet (rq : Sfi) (src entry addr : Nat) (rel internal en : Bool)
  /-- BOOK_TRIGGER_SET configures a trigger (R393). -/
  | bookTriggerSet (rq : Sfi) (k : Nat) (x : TriggerArgs)
  /-- BOOK_SUBSCRIBE sets a channel's record subscription (R395). -/
  | bookSubscribe (rq : Sfi) (minSev code mask : Nat) (en : Bool)
  /-- STATS_QUERY returns a latched counter set (R405). -/
  | statsQuery (rq : Sfi) (kind idx cls start : Nat)
  /-- STATS_DUMP_SET configures periodic dumps (R405). -/
  | statsDumpSet (rq : Sfi) (sets period mask buf0 buf1 : Nat) (en : Bool)
  /-- STATS_DUMP_NOW latches and dumps at once (R405). -/
  | statsDumpNow (rq : Sfi)
  /-- PERF_CONFIG sets a performance counter's filters (R405). -/
  | perfConfig (rq : Sfi) (x : PerfArgs)
  /-- PERF_SNAP takes a performance snapshot (R405). -/
  | perfSnap (rq : Sfi)
  /-- PERF_CLEAR clears performance counters (R405). -/
  | perfClear (rq : Sfi) (slot mask : Nat)
  /-- PERF_ALLOW_SET sets which functions may read performance counters (R402). -/
  | perfAllowSet (rq : Sfi) (mask : Nat)
  /-- PAIR_QUERY returns pair state (R432). -/
  | pairQuery (rq : Sfi)
  /-- PAIR_CONFIG sets claim, heartbeat and revert parameters (R432). -/
  | pairConfig (rq : Sfi) (x : PairArgs)
  /-- PAIR_RESYNC starts a resynchronisation (R432). -/
  | pairResync (rq : Sfi)
  /-- PAIR_SWITCHOVER starts a handover to the synchronised standby (R424). -/
  | pairSwitchover (rq : Sfi)
  /-- PAIR_REVERT_CANCEL aborts a pending revert before T_r (R425). -/
  | pairRevertCancel (rq : Sfi)
  /-- A peer message arrives on channels 16 to 19 (R432). -/
  | peerMessage (c : Fin 4) (op tag : Nat) (words : List Nat)
  /-- DOMAIN_QUERY returns domain configuration and status (R455). -/
  | domainQuery (rq : Sfi)
  /-- DOMAIN_JOIN writes the member's domain identity and key (R436). -/
  | domainJoin (rq : Sfi) (x : DomJoinArgs)
  /-- DOMAIN_CONFIG sets domain ports, class, rate and timers (R455). -/
  | domainConfig (rq : Sfi) (x : DomCfgArgs)
  /-- DOMAIN_LEAVE erases the key and clears DOM_EN (R455). -/
  | domainLeave (rq : Sfi)
  /-- DOMAIN_SEND sends an SFI message to a target member (R455). -/
  | domainSend (rq : Sfi) (target : Nat) (msg : List Nat)
  /-- DOMAIN_BROADCAST broadcasts an SFI message to all members (R455). -/
  | domainBroadcast (rq : Sfi) (msg : List Nat)
  /-- PROOF_START broadcasts PROOF_ARM with a target T (R444). -/
  | proofStart (rq : Sfi) (t addr len : Nat)
  /-- CURTAIN_ARM broadcasts a coordinated action at T (R450). -/
  | curtainArm (rq : Sfi) (kind t ports : Nat)
  /-- CURTAIN_CANCEL broadcasts ACTION_CANCEL (R452). -/
  | curtainCancel (rq : Sfi) (opId : Nat)
  /-- BARRIER_START broadcasts BARRIER_ARM with a condition (R453). -/
  | barrierStart (rq : Sfi) (cond arg timeout : Nat) (action : Option (Nat × Nat))
  /-- BARRIER_READY marks the host ready for a barrier (R453). -/
  | barrierReady (rq : Sfi) (opId : Nat)
  /-- DOMAIN_TREE_QUERY returns the child table (R455). -/
  | domainTreeQuery (rq : Sfi) (start : Nat)
  /-- FUNC_WINDOW_SET writes a function's DMA window (R328). -/
  | funcWindowSet (rq : Sfi) (x : WindowArgs)
  /-- FUNC_GRANT sets CFG_WRITE and DIRECT_EN for a function (R328). -/
  | funcGrant (rq : Sfi) (fn : Nat) (cfgWrite direct : Bool)
  /-- RING_ASSIGN assigns a ring to a function (R328). -/
  | ringAssign (rq : Sfi) (isCq : Bool) (ring fn : Nat)
  /-- RX_MAP_SET maps a port group and class to an RX ring (R328). -/
  | rxMapSet (rq : Sfi) (grp tc ring : Nat) (en : Bool)
  /-- MBOX_CHANNEL_SET configures a mailbox channel (R328). -/
  | mboxChannelSet (rq : Sfi) (c : Nat) (sender : Option Nat) (prio core vector : Nat)
  /-- MASTER_QUERY returns masters' frozen state (R328). -/
  | masterQuery (rq : Sfi) (m : Option Nat) (start : Nat)
  /-- MASTER_RELEASE unfreezes a master with RESUME or RESET (R326). -/
  | masterRelease (rq : Sfi) (m : Nat) (reset : Bool)
  /-- SESSION_OPEN opens an OBSERVER session or issues a nonce (R354). -/
  | sessionOpen (rq : Sfi) (role : Nat)
  /-- SESSION_AUTH opens a session on a correct answer, counting failures toward lockout (R354). -/
  | sessionAuth (rq : Sfi) (answer : List Nat)
  /-- SESSION_CLOSE ends the channel's session (R354). -/
  | sessionClose (rq : Sfi)
  /-- SESSION_QUERY returns session state (R365). -/
  | sessionQuery (rq : Sfi) (c : Option Nat) (start : Nat)
  /-- CREDENTIAL_SET stores a role credential (R365). -/
  | credentialSet (rq : Sfi) (role : Nat) (words : List Nat)
  /-- KEY_SLOT_LOAD loads a GMAC key slot (R365). -/
  | keySlotLoad (rq : Sfi) (x : KeyArgs)
  /-- KEY_SLOT_CLEAR clears a GMAC key slot (R365). -/
  | keySlotClear (rq : Sfi) (slot which : Nat)
  /-- The lost reference of a time PLL returns, TPLL_n_REF_LOSS clears and the PLL stops holding its frequency word (R62). -/
  | tpllRefReturn (n : Fin 2)
  /-- A quad's PLL group locks, within 2 ms of the first LANE_EN, and PLL_n_LOCK and QUAD_PLL_ON are set (R465). -/
  | quadPllLock (q : Fin 16) (pll : Fin 2)
  /-- A Folio root-port link to an NVMe drive goes down and the drive is marked LOST (R280). -/
  | folioLinkDown (n : Fin 4)
  /-- PCIE_PERST_N is released and the endpoint starts link training within 20 ms (R478). -/
  | pciePerstNRelease
  /-- Host link training completes, the link reaches L0 and LINK_WIDTH and LINK_SPEED are reported (R478). -/
  | pcieLinkUp (width speed : Nat)
  /-- One understudy-link lane loses block or FEC lock while the link stays up, and ULK_LANE_DOWN is raised and recorded (R431). -/
  | ulkLaneDown (lane : Fin 2)
  /-- An understudy-link lane regains block and FEC lock while the link is already up, and its ULK_n_UP sets (R412). -/
  | ulkLaneUp (lane : Fin 2)
  /-- No remote reply reaches a pending DOMAIN_SEND within 1 s, and it completes with BUSY, CAUSE 9 (R455). -/
  | domainSendTimeout
  /-- A Prompter core of 1 to 3 that was reset by the watchdog or an SRAM error comes back up and resumes serving its channels (R335). -/
  | coreResetDone (n : Fin 4)
  deriving DecidableEq, Repr

end Sys2Proof
end

