-- ==== Sys2Proof/Config.lean ====
section
/-! DEFINITION. What the spec leaves to the die, or leaves open as a value: constants without a body, so that no
proof can see them. A statement about one of them holds for every value. -/

namespace Sys2Proof

/-- A free value: what the spec leaves open at the `n`-th place in a run where it is asked for. `kind` names what is
drawn (1 the FDB LFSR, R139; 2 the RANDOM eviction, R140; 3 the WRED draw, R241; 4 the sampler gap, R276; 5 the
SESSION_OPEN nonce, R354; 6 a RETRY_HINT, R358; 7 a rounding; 8 an ARG0 or ARG1 that no table names, R382; others
are named where they are used). -/
opaque Config.free (kind n : Nat) : Nat

/-- The fused die identifier of R491: the spec gives the fields and no value. -/
opaque Config.uniqueId (word : Nat) : Nat

/-- CFG_DIGEST over the mirrored configuration registers (R428): a CRC-32C whose byte layout the spec does not give. -/
opaque Config.cfgDigest (words : List Nat) : Nat

/-- The device's own MAC address (R182, R275): the spec names it and gives no value. -/
opaque Config.deviceAddr : Nat

/-- The digest of a shadow plate (R453): computed as R428's, whose layout the spec does not give. -/
opaque Config.shadowDigest (words : List Nat) : Nat

end Sys2Proof
end

