-- ==== Sys2Proof/Machine/RegMap.lean ====
section
/-! DEFINITION. The register map of BAR0: every register's name, address, type, access class, reset value and
fields, chapter by chapter from the register tables of spec/02 to spec/15 (R58, R89, R128, R129, R163, R192, R225,
R258, R294, R295, R329, R330, R367, R377, R378, R381, R406, R407, R433, R456, R491, R492). -/

namespace Sys2Proof.Machine

/-- The register types of R370. -/
inductive RegKind where
  | ro | rw | rwk | wo | rsq | rl | w1p
  deriving DecidableEq, Repr

/-- Who may write a register through BAR0 (R300): `cfg` a function with CFG_WRITE, `prompter` the Prompter only,
`ring`, `cq`, `chan`, `learnRing`, `dump` the owner of the object, `ctx` an indirect access context (context 0 the
Prompter, context 1 any function), `queue` as `cfg` but the Prompter only for port 257 (R258), `restart` R347. -/
inductive RegAccess where
  | cfg | prompter | ring | cq | chan | learnRing | dump | ctx | queue | restart
  deriving DecidableEq, Repr

/-- The registers of the device, one name per register of the spec's maps; an indexed register is one name. -/
inductive RegName where
  | GLOBAL_EVENT | PARITY_LAST | PARITY_COUNT | DEVICE_ID | STRAPS | RESET_CAUSE | RESET_CTRL | UNIQUE_ID_0
  | UNIQUE_ID_1 | GPIO_CFG | QUAD_MODE | QUAD_STATUS | QUAD_EVENT | LANE_CFG | LANE_STATUS | FEC_CORR
  | FEC_UNCORR | PORT_CFG | PORT_LINK | PORT_PRE | PORT_EEE | TS_ING_TRIM | TS_EGR_TRIM | PORT_STATUS
  | PORT_EVENT | TIME_CTRL | TIME_STATUS | TIME_EVENT | TIME_CMD | PT_READ | PT_OFF | PPS_CFG
  | PPS_OUT_TRIM | SYNCE_CFG | TB_CFG | TB_STATE | TB_RATE_0 | TB_RATE_1 | TB_STEP | TB_CMD | TB_TIMERS
  | TB_READ | TIO_CFG | TIO_START_0 | TIO_START_1 | TIO_PERIOD_0 | TIO_PERIOD_1 | TIO_WIDTH | TIO_COUNT
  | TIO_TRIM | TIO_STATUS | TIO_CAP | TIO_CAP_POP | PTP_PORT_CFG | PTP_PDELAY | PARSER_CTRL | PARSER_EVENT
  | PCP_TO_TC | PARSER_PORT_CFG | PLATE_STATUS | PLATE_CMD | PLATE_EVENT | PLATE_AT_0 | PLATE_AT_1
  | INFLIGHT_ACTIVE | INFLIGHT_RETIRING | PLATE_LIMITS | FRAG_CFG | PROF_CFG | PROF_SLOT | PROF_GRP
  | ACT_PROF_CFG | ACT_PROF_SLOT | ACT_PROF_GRP | FDB_CFG | FDB_STATUS | FDB_EVENT | FDB_FLUSH_SPEC
  | FDB_CMD | FDB_CNT | LR_BASE_LO | LR_BASE_HI | LR_CFG | LR_PROD | LR_CONS | LR_DROPPED | TBL_SEL
  | TBL_CMD | TBL_STATUS | TBL_DATA | FDB_PORT_CFG | STREAM_CTRL | STREAM_STATUS | STREAM_EVENT
  | DD_ROGUE_CNT | HSR_OWN_RETURN_CNT | DD_TAGLESS_CNT | SAC_SEL | SAC_CMD | SAC_STATUS | SAC_DATA
  | BPM_CTRL | BPM_STATUS | BPM_EVENT | CARVE | CARVE_CMD | POOL_FREE | COMMON_FREE | RESERVE_FREE
  | ECC_CORR_CNT | ECC_UNCORR_CNT | ECC_LAST_ADDR | QP_MIN | QP_MAX | QP_FC | QP_WARN | ACCT_BIND
  | ACCT_USED | PORT_FC | TM_STATUS | TM_EVENT | MIR_CFG | WRED_CFG | WRED_MIN | WRED_MAX | Q_CFG | Q_LIMIT
  | Q_CBS_IDLE | Q_CBS_CREDIT | Q_TBS_RATE | Q_TBS_BURST | Q_DEPTH | TM_PORT_CFG | TM_PORT_GATE
  | TM_PORT_STATUS | CL_ADMIN_BASE_0 | CL_ADMIN_BASE_1 | CL_ADMIN_CYCLE_0 | CL_ADMIN_CYCLE_1 | CL_ADMIN_LEN
  | CL_CMD | CL_TAKEOVER | TM_SEL | TM_CMD | TM_ACC_STATUS | TM_DATA | STAGE_CTRL | STAGE_STATUS
  | STAGE_EVENT | PIN_SEL | PIN_DATA | SUPV_EN | CL_CFG | PROG_CFG | ENG_STATUS | SAMPLER_CFG | FOLIO_CTRL
  | FOLIO_STATUS | FOLIO_EVENT | SEG_SEQ | RING_SEGMENTS | PINNED | CLASS_CFG | SHED | OVERRUN
  | DRIVE_STATUS | FOLIO_PORT_CAP | HOST_STATUS | HOST_EVENT | FUNC_PERM | WIN_LO | WIN_HI | HOST_RX_MAP
  | RING_BASE_LO | RING_BASE_HI | RING_CFG | RING_DB | RING_CONS | RING_STATUS | RING_OWNER | CQ_BASE_LO
  | CQ_BASE_HI | CQ_CFG | CQ_CONS | CQ_PROD | CQ_STATUS | CQ_OWNER | MBOX_STATUS | MBOX_EVENT | MB_CFG
  | MB_STAGE | MB_POST | MB_REQ_STATUS | MB_RSP_HDR | MB_RSP_DATA | MB_RSP_STATUS | MB_RSP_POP | MB_EVENT
  | PROMPTER_CTRL | PROMPTER_STATUS | PROMPTER_EVENT | PROMPTER_CMD | FW_VERSION | FW_SVN | BOOT_TIME
  | CORE_LOAD | FROZEN_MASTERS | VIOL_INFO | VIOL_ADDR | VIOL_DATA | SRAM_ECC_CORR | SRAM_ECC_UNCORR
  | BOOK_CFG | BOOK_STATUS | BOOK_EVENT | BOOK_CMD | BOOK_NEXT_SEQ | BOOK_OLDEST_SEQ | BOOK_COUNT | DROPPED
  | OVERWRITTEN | HOLD_DROPPED | FILTERED | TRIG_MATCH | TRIG_CTRL | TRIG_COUNT | SNAP_ENTRY | PERF_STATUS
  | PERF_EVENT | PERF_CMD | PERF_ALLOW | SNAP_FIRST_PT | SNAP_LAST_PT | DUMP_FN | DUMP_CFG
  | DUMP_STREAM_MASK | DUMP_BASE | DUMP_SEQ | DUMP_SKIPPED | PC_LO | PC_HI | PC_CFG | ADDR_LO | ADDR_HI
  | PC_CLEAR | PAIR_CFG | PAIR_STATUS | PAIR_EVENT | PAIR_TIMERS | PEER_STATUS | MIRROR_STATUS
  | LAST_TAKEOVER_PT | TAKEOVER_INFO | MIRROR_TX_SEQ | MIRROR_RX_SEQ | CFG_DIGEST | PEER_CFG_DIGEST
  | DOM_CFG | DOM_STATUS | DOM_EVENT | DOM_ID | DOM_MAC_0 | DOM_MAC_1 | DOM_PARENT_MAC_0 | DOM_PARENT_MAC_1
  | DOM_GROUP_DA_0 | DOM_GROUP_DA_1 | DOM_TIMERS | DOM_LEAD | DOM_RATE | DOMAIN_PORTS | PROOF_SNAP
  | OP_TARGET_0 | OP_TARGET_1 | OP_ID | CHILD_0 | CHILD_1 | PWR_CTRL | PWR_STATUS | PWR_EVENT | TEMP
  | TEMP_MAX | GATE_STATUS_0 | GATE_STATUS_1 | LIFE_HOURS | VMON | CAP_HEADER | CAP_INFO | GUARD_UNLOCK
  deriving DecidableEq, Repr

/-- Where a register lies: element `i` is at `base + (i / n2) * s1 + (i % n2) * s2`, for `i < n`. -/
structure RegInfo where
  base : Nat
  n : Nat
  n2 : Nat
  s1 : Nat
  s2 : Nat
  kind : RegKind
  acc : RegAccess
  deriving DecidableEq, Repr

/-- One field of a register: its bits, its own type, and the values that are not reserved (none listed: all). -/
structure Fld where
  reg : RegName
  hi : Nat
  lo : Nat
  kind : RegKind
  legal : List (Nat × Nat)
  deriving DecidableEq, Repr

/-- The register maps' addresses, types and access classes. -/
def regInfo : RegName → RegInfo
  | .GLOBAL_EVENT => ⟨0x18, 1, 1, 0, 0, .rsq, .cfg⟩
  | .PARITY_LAST => ⟨0x20, 1, 1, 0, 0, .ro, .cfg⟩
  | .PARITY_COUNT => ⟨0x24, 1, 1, 0, 0, .ro, .cfg⟩
  | .DEVICE_ID => ⟨0x10, 1, 1, 0, 0, .ro, .cfg⟩
  | .STRAPS => ⟨0x14, 1, 1, 0, 0, .ro, .cfg⟩
  | .RESET_CAUSE => ⟨0x28, 1, 1, 0, 0, .ro, .cfg⟩
  | .RESET_CTRL => ⟨0x2C, 1, 1, 0, 0, .w1p, .prompter⟩
  | .UNIQUE_ID_0 => ⟨0x30, 1, 1, 0, 0, .ro, .cfg⟩
  | .UNIQUE_ID_1 => ⟨0x34, 1, 1, 0, 0, .ro, .cfg⟩
  | .GPIO_CFG => ⟨0x38, 1, 1, 0, 0, .rwk, .cfg⟩
  | .QUAD_MODE => ⟨0x10010, 16, 1, 0x10000, 0, .rwk, .cfg⟩
  | .QUAD_STATUS => ⟨0x10014, 16, 1, 0x10000, 0, .rl, .cfg⟩
  | .QUAD_EVENT => ⟨0x10018, 16, 1, 0x10000, 0, .rsq, .cfg⟩
  | .LANE_CFG => ⟨0x10100, 64, 4, 0x10000, 0x40, .rwk, .cfg⟩
  | .LANE_STATUS => ⟨0x10104, 64, 4, 0x10000, 0x40, .rl, .cfg⟩
  | .FEC_CORR => ⟨0x10108, 64, 4, 0x10000, 0x40, .ro, .cfg⟩
  | .FEC_UNCORR => ⟨0x1010C, 64, 4, 0x10000, 0x40, .ro, .cfg⟩
  | .PORT_CFG => ⟨0x11000, 256, 16, 0x10000, 0x100, .rwk, .cfg⟩
  | .PORT_LINK => ⟨0x11004, 256, 16, 0x10000, 0x100, .rwk, .cfg⟩
  | .PORT_PRE => ⟨0x11008, 256, 16, 0x10000, 0x100, .rwk, .cfg⟩
  | .PORT_EEE => ⟨0x1100C, 256, 16, 0x10000, 0x100, .rwk, .cfg⟩
  | .TS_ING_TRIM => ⟨0x11010, 256, 16, 0x10000, 0x100, .rwk, .cfg⟩
  | .TS_EGR_TRIM => ⟨0x11014, 256, 16, 0x10000, 0x100, .rwk, .cfg⟩
  | .PORT_STATUS => ⟨0x11018, 256, 16, 0x10000, 0x100, .rl, .cfg⟩
  | .PORT_EVENT => ⟨0x1101C, 256, 16, 0x10000, 0x100, .rsq, .cfg⟩
  | .TIME_CTRL => ⟨0x380010, 1, 1, 0, 0, .rwk, .cfg⟩
  | .TIME_STATUS => ⟨0x380014, 1, 1, 0, 0, .rl, .cfg⟩
  | .TIME_EVENT => ⟨0x380018, 1, 1, 0, 0, .rsq, .cfg⟩
  | .TIME_CMD => ⟨0x38001C, 1, 1, 0, 0, .w1p, .cfg⟩
  | .PT_READ => ⟨0x380020, 3, 3, 0, 4, .ro, .cfg⟩
  | .PT_OFF => ⟨0x38002C, 1, 1, 0, 0, .ro, .cfg⟩
  | .PPS_CFG => ⟨0x380030, 1, 1, 0, 0, .rwk, .cfg⟩
  | .PPS_OUT_TRIM => ⟨0x380034, 1, 1, 0, 0, .rwk, .cfg⟩
  | .SYNCE_CFG => ⟨0x380038, 1, 1, 0, 0, .rwk, .cfg⟩
  | .TB_CFG => ⟨0x380100, 2, 1, 0x100, 0, .rwk, .cfg⟩
  | .TB_STATE => ⟨0x380104, 2, 1, 0x100, 0, .rl, .cfg⟩
  | .TB_RATE_0 => ⟨0x380108, 2, 1, 0x100, 0, .rwk, .cfg⟩
  | .TB_RATE_1 => ⟨0x38010C, 2, 1, 0x100, 0, .rwk, .cfg⟩
  | .TB_STEP => ⟨0x380110, 6, 3, 0x100, 4, .rwk, .cfg⟩
  | .TB_CMD => ⟨0x38011C, 2, 1, 0x100, 0, .w1p, .cfg⟩
  | .TB_TIMERS => ⟨0x380120, 2, 1, 0x100, 0, .rwk, .cfg⟩
  | .TB_READ => ⟨0x380124, 6, 3, 0x100, 4, .ro, .cfg⟩
  | .TIO_CFG => ⟨0x380400, 9, 1, 0x80, 0, .rwk, .cfg⟩
  | .TIO_START_0 => ⟨0x380404, 9, 1, 0x80, 0, .rwk, .cfg⟩
  | .TIO_START_1 => ⟨0x380408, 9, 1, 0x80, 0, .rwk, .cfg⟩
  | .TIO_PERIOD_0 => ⟨0x38040C, 9, 1, 0x80, 0, .rwk, .cfg⟩
  | .TIO_PERIOD_1 => ⟨0x380410, 9, 1, 0x80, 0, .rwk, .cfg⟩
  | .TIO_WIDTH => ⟨0x380414, 9, 1, 0x80, 0, .rwk, .cfg⟩
  | .TIO_COUNT => ⟨0x380418, 9, 1, 0x80, 0, .rwk, .cfg⟩
  | .TIO_TRIM => ⟨0x38041C, 9, 1, 0x80, 0, .rwk, .cfg⟩
  | .TIO_STATUS => ⟨0x380420, 9, 1, 0x80, 0, .rl, .cfg⟩
  | .TIO_CAP => ⟨0x380440, 81, 9, 0x80, 4, .ro, .cfg⟩
  | .TIO_CAP_POP => ⟨0x380464, 9, 1, 0x80, 0, .w1p, .cfg⟩
  | .PTP_PORT_CFG => ⟨0x381000, 256, 256, 0, 4, .rwk, .cfg⟩
  | .PTP_PDELAY => ⟨0x381400, 256, 256, 0, 4, .rwk, .cfg⟩
  | .PARSER_CTRL => ⟨0x200010, 2, 1, 0x10000, 0, .rwk, .cfg⟩
  | .PARSER_EVENT => ⟨0x200018, 2, 1, 0x10000, 0, .rsq, .cfg⟩
  | .PCP_TO_TC => ⟨0x200020, 2, 1, 0x10000, 0, .rwk, .cfg⟩
  | .PARSER_PORT_CFG => ⟨0x201000, 256, 128, 0x10000, 4, .rwk, .cfg⟩
  | .PLATE_STATUS => ⟨0x240010, 1, 1, 0, 0, .rl, .cfg⟩
  | .PLATE_CMD => ⟨0x240014, 1, 1, 0, 0, .w1p, .cfg⟩
  | .PLATE_EVENT => ⟨0x240018, 1, 1, 0, 0, .rsq, .cfg⟩
  | .PLATE_AT_0 => ⟨0x24001C, 1, 1, 0, 0, .rwk, .cfg⟩
  | .PLATE_AT_1 => ⟨0x240020, 1, 1, 0, 0, .rwk, .cfg⟩
  | .INFLIGHT_ACTIVE => ⟨0x240024, 1, 1, 0, 0, .ro, .cfg⟩
  | .INFLIGHT_RETIRING => ⟨0x240028, 1, 1, 0, 0, .ro, .cfg⟩
  | .PLATE_LIMITS => ⟨0x24002C, 1, 1, 0, 0, .rwk, .cfg⟩
  | .FRAG_CFG => ⟨0x240030, 1, 1, 0, 0, .rwk, .cfg⟩
  | .PROF_CFG => ⟨0x241000, 32, 1, 0x40, 0, .rwk, .cfg⟩
  | .PROF_SLOT => ⟨0x241004, 320, 10, 0x40, 4, .rwk, .cfg⟩
  | .PROF_GRP => ⟨0x24102C, 32, 1, 0x40, 0, .rwk, .cfg⟩
  | .ACT_PROF_CFG => ⟨0x242000, 32, 1, 0x40, 0, .ro, .cfg⟩
  | .ACT_PROF_SLOT => ⟨0x242004, 320, 10, 0x40, 4, .ro, .cfg⟩
  | .ACT_PROF_GRP => ⟨0x24202C, 32, 1, 0x40, 0, .ro, .cfg⟩
  | .FDB_CFG => ⟨0x240100, 1, 1, 0, 0, .rwk, .cfg⟩
  | .FDB_STATUS => ⟨0x240104, 1, 1, 0, 0, .rl, .cfg⟩
  | .FDB_EVENT => ⟨0x240108, 1, 1, 0, 0, .rsq, .cfg⟩
  | .FDB_FLUSH_SPEC => ⟨0x24010C, 1, 1, 0, 0, .rwk, .cfg⟩
  | .FDB_CMD => ⟨0x240110, 1, 1, 0, 0, .w1p, .cfg⟩
  | .FDB_CNT => ⟨0x240120, 10, 10, 0, 4, .ro, .cfg⟩
  | .LR_BASE_LO => ⟨0x240150, 1, 1, 0, 0, .rwk, .cfg⟩
  | .LR_BASE_HI => ⟨0x240154, 1, 1, 0, 0, .rwk, .cfg⟩
  | .LR_CFG => ⟨0x240158, 1, 1, 0, 0, .rwk, .cfg⟩
  | .LR_PROD => ⟨0x24015C, 1, 1, 0, 0, .ro, .cfg⟩
  | .LR_CONS => ⟨0x240160, 1, 1, 0, 0, .rw, .learnRing⟩
  | .LR_DROPPED => ⟨0x240164, 1, 1, 0, 0, .ro, .cfg⟩
  | .TBL_SEL => ⟨0x240200, 2, 1, 0x80, 0, .rw, .ctx⟩
  | .TBL_CMD => ⟨0x240204, 2, 1, 0x80, 0, .w1p, .ctx⟩
  | .TBL_STATUS => ⟨0x240208, 2, 1, 0x80, 0, .rl, .ctx⟩
  | .TBL_DATA => ⟨0x240240, 32, 16, 0x80, 4, .rw, .ctx⟩
  | .FDB_PORT_CFG => ⟨0x243000, 256, 256, 0, 4, .rwk, .cfg⟩
  | .STREAM_CTRL => ⟨0x280010, 1, 1, 0, 0, .rwk, .cfg⟩
  | .STREAM_STATUS => ⟨0x280014, 1, 1, 0, 0, .rl, .cfg⟩
  | .STREAM_EVENT => ⟨0x280018, 1, 1, 0, 0, .rsq, .cfg⟩
  | .DD_ROGUE_CNT => ⟨0x280020, 1, 1, 0, 0, .ro, .cfg⟩
  | .HSR_OWN_RETURN_CNT => ⟨0x280024, 1, 1, 0, 0, .ro, .cfg⟩
  | .DD_TAGLESS_CNT => ⟨0x280028, 1, 1, 0, 0, .ro, .cfg⟩
  | .SAC_SEL => ⟨0x280100, 2, 1, 0x80, 0, .rw, .ctx⟩
  | .SAC_CMD => ⟨0x280104, 2, 1, 0x80, 0, .w1p, .ctx⟩
  | .SAC_STATUS => ⟨0x280108, 2, 1, 0x80, 0, .rl, .ctx⟩
  | .SAC_DATA => ⟨0x280140, 16, 8, 0x80, 4, .rw, .ctx⟩
  | .BPM_CTRL => ⟨0x2C0010, 1, 1, 0, 0, .rwk, .cfg⟩
  | .BPM_STATUS => ⟨0x2C0014, 1, 1, 0, 0, .rl, .cfg⟩
  | .BPM_EVENT => ⟨0x2C0018, 1, 1, 0, 0, .rsq, .cfg⟩
  | .CARVE => ⟨0x2C0020, 1, 1, 0, 0, .rwk, .cfg⟩
  | .CARVE_CMD => ⟨0x2C0024, 1, 1, 0, 0, .w1p, .cfg⟩
  | .POOL_FREE => ⟨0x2C0030, 4, 4, 0, 4, .ro, .cfg⟩
  | .COMMON_FREE => ⟨0x2C0040, 1, 1, 0, 0, .ro, .cfg⟩
  | .RESERVE_FREE => ⟨0x2C0044, 2, 2, 0, 4, .ro, .cfg⟩
  | .ECC_CORR_CNT => ⟨0x2C0050, 1, 1, 0, 0, .ro, .cfg⟩
  | .ECC_UNCORR_CNT => ⟨0x2C0054, 1, 1, 0, 0, .ro, .cfg⟩
  | .ECC_LAST_ADDR => ⟨0x2C0058, 1, 1, 0, 0, .ro, .cfg⟩
  | .QP_MIN => ⟨0x2C0100, 16, 1, 0x10, 0, .rwk, .cfg⟩
  | .QP_MAX => ⟨0x2C0104, 16, 1, 0x10, 0, .rwk, .cfg⟩
  | .QP_FC => ⟨0x2C0108, 16, 1, 0x10, 0, .rwk, .cfg⟩
  | .QP_WARN => ⟨0x2C010C, 16, 1, 0x10, 0, .rwk, .cfg⟩
  | .ACCT_BIND => ⟨0x2C4000, 2052, 2052, 0, 4, .rwk, .cfg⟩
  | .ACCT_USED => ⟨0x2C8000, 2052, 2052, 0, 4, .ro, .cfg⟩
  | .PORT_FC => ⟨0x2CC000, 256, 256, 0, 4, .rwk, .cfg⟩
  | .TM_STATUS => ⟨0x300014, 1, 1, 0, 0, .rl, .cfg⟩
  | .TM_EVENT => ⟨0x300018, 1, 1, 0, 0, .rsq, .cfg⟩
  | .MIR_CFG => ⟨0x300204, 7, 7, 0, 4, .rwk, .cfg⟩
  | .WRED_CFG => ⟨0x300400, 16, 1, 0x20, 0, .rwk, .cfg⟩
  | .WRED_MIN => ⟨0x300404, 48, 3, 0x20, 8, .rwk, .cfg⟩
  | .WRED_MAX => ⟨0x300408, 48, 3, 0x20, 8, .rwk, .cfg⟩
  | .Q_CFG => ⟨0x310000, 2088, 1, 0x20, 0, .rwk, .queue⟩
  | .Q_LIMIT => ⟨0x310004, 2088, 1, 0x20, 0, .rwk, .queue⟩
  | .Q_CBS_IDLE => ⟨0x310008, 2088, 1, 0x20, 0, .rwk, .queue⟩
  | .Q_CBS_CREDIT => ⟨0x31000C, 2088, 1, 0x20, 0, .rwk, .queue⟩
  | .Q_TBS_RATE => ⟨0x310010, 2088, 1, 0x20, 0, .rwk, .queue⟩
  | .Q_TBS_BURST => ⟨0x310014, 2088, 1, 0x20, 0, .rwk, .queue⟩
  | .Q_DEPTH => ⟨0x310018, 2088, 1, 0x20, 0, .ro, .cfg⟩
  | .TM_PORT_CFG => ⟨0x330000, 261, 1, 0x40, 0, .rwk, .cfg⟩
  | .TM_PORT_GATE => ⟨0x330004, 256, 1, 0x40, 0, .rwk, .cfg⟩
  | .TM_PORT_STATUS => ⟨0x330008, 261, 1, 0x40, 0, .rl, .cfg⟩
  | .CL_ADMIN_BASE_0 => ⟨0x33000C, 256, 1, 0x40, 0, .rwk, .cfg⟩
  | .CL_ADMIN_BASE_1 => ⟨0x330010, 256, 1, 0x40, 0, .rwk, .cfg⟩
  | .CL_ADMIN_CYCLE_0 => ⟨0x330014, 256, 1, 0x40, 0, .rwk, .cfg⟩
  | .CL_ADMIN_CYCLE_1 => ⟨0x330018, 256, 1, 0x40, 0, .rwk, .cfg⟩
  | .CL_ADMIN_LEN => ⟨0x33001C, 256, 1, 0x40, 0, .rwk, .cfg⟩
  | .CL_CMD => ⟨0x330020, 256, 1, 0x40, 0, .w1p, .cfg⟩
  | .CL_TAKEOVER => ⟨0x330024, 512, 2, 0x40, 4, .ro, .cfg⟩
  | .TM_SEL => ⟨0x340000, 2, 1, 0x80, 0, .rw, .ctx⟩
  | .TM_CMD => ⟨0x340004, 2, 1, 0x80, 0, .w1p, .ctx⟩
  | .TM_ACC_STATUS => ⟨0x340008, 2, 1, 0x80, 0, .rl, .ctx⟩
  | .TM_DATA => ⟨0x340040, 20, 10, 0x80, 4, .rw, .ctx⟩
  | .STAGE_CTRL => ⟨0x3C0010, 1, 1, 0, 0, .rwk, .cfg⟩
  | .STAGE_STATUS => ⟨0x3C0014, 1, 1, 0, 0, .rl, .cfg⟩
  | .STAGE_EVENT => ⟨0x3C0018, 1, 1, 0, 0, .rsq, .cfg⟩
  | .PIN_SEL => ⟨0x3C0030, 1, 1, 0, 0, .rw, .cfg⟩
  | .PIN_DATA => ⟨0x3C0034, 1, 1, 0, 0, .rw, .prompter⟩
  | .SUPV_EN => ⟨0x3C0040, 4, 4, 0, 4, .rwk, .cfg⟩
  | .CL_CFG => ⟨0x3C0100, 16, 16, 0, 4, .rwk, .cfg⟩
  | .PROG_CFG => ⟨0x3C0200, 64, 64, 0, 4, .rwk, .prompter⟩
  | .ENG_STATUS => ⟨0x3C0400, 128, 128, 0, 4, .rl, .cfg⟩
  | .SAMPLER_CFG => ⟨0x3C1000, 256, 256, 0, 4, .rwk, .cfg⟩
  | .FOLIO_CTRL => ⟨0x400010, 1, 1, 0, 0, .rwk, .cfg⟩
  | .FOLIO_STATUS => ⟨0x400014, 1, 1, 0, 0, .rl, .cfg⟩
  | .FOLIO_EVENT => ⟨0x400018, 1, 1, 0, 0, .rsq, .cfg⟩
  | .SEG_SEQ => ⟨0x400020, 2, 2, 0, 4, .ro, .cfg⟩
  | .RING_SEGMENTS => ⟨0x400028, 1, 1, 0, 0, .ro, .cfg⟩
  | .PINNED => ⟨0x40002C, 1, 1, 0, 0, .ro, .cfg⟩
  | .CLASS_CFG => ⟨0x400040, 8, 8, 0, 4, .rwk, .cfg⟩
  | .SHED => ⟨0x400060, 8, 8, 0, 4, .ro, .cfg⟩
  | .OVERRUN => ⟨0x400080, 8, 8, 0, 4, .ro, .cfg⟩
  | .DRIVE_STATUS => ⟨0x400100, 4, 1, 0x10, 0, .rl, .cfg⟩
  | .FOLIO_PORT_CAP => ⟨0x401000, 256, 256, 0, 4, .rwk, .cfg⟩
  | .HOST_STATUS => ⟨0x440014, 1, 1, 0, 0, .rl, .cfg⟩
  | .HOST_EVENT => ⟨0x440018, 1, 1, 0, 0, .rsq, .cfg⟩
  | .FUNC_PERM => ⟨0x440020, 8, 8, 0, 4, .rwk, .prompter⟩
  | .WIN_LO => ⟨0x440100, 64, 8, 0x40, 8, .rwk, .prompter⟩
  | .WIN_HI => ⟨0x440104, 64, 8, 0x40, 8, .rwk, .prompter⟩
  | .HOST_RX_MAP => ⟨0x440400, 32, 32, 0, 4, .rwk, .cfg⟩
  | .RING_BASE_LO => ⟨0x441000, 136, 1, 0x20, 0, .rw, .ring⟩
  | .RING_BASE_HI => ⟨0x441004, 136, 1, 0x20, 0, .rw, .ring⟩
  | .RING_CFG => ⟨0x441008, 136, 1, 0x20, 0, .rw, .ring⟩
  | .RING_DB => ⟨0x44100C, 136, 1, 0x20, 0, .rw, .ring⟩
  | .RING_CONS => ⟨0x441010, 136, 1, 0x20, 0, .ro, .cfg⟩
  | .RING_STATUS => ⟨0x441014, 136, 1, 0x20, 0, .rl, .cfg⟩
  | .RING_OWNER => ⟨0x441018, 136, 1, 0x20, 0, .rwk, .prompter⟩
  | .CQ_BASE_LO => ⟨0x443000, 8, 1, 0x20, 0, .rw, .cq⟩
  | .CQ_BASE_HI => ⟨0x443004, 8, 1, 0x20, 0, .rw, .cq⟩
  | .CQ_CFG => ⟨0x443008, 8, 1, 0x20, 0, .rw, .cq⟩
  | .CQ_CONS => ⟨0x44300C, 8, 1, 0x20, 0, .rw, .cq⟩
  | .CQ_PROD => ⟨0x443010, 8, 1, 0x20, 0, .ro, .cfg⟩
  | .CQ_STATUS => ⟨0x443014, 8, 1, 0x20, 0, .rl, .cfg⟩
  | .CQ_OWNER => ⟨0x443018, 8, 1, 0x20, 0, .rwk, .prompter⟩
  | .MBOX_STATUS => ⟨0x480014, 1, 1, 0, 0, .rl, .cfg⟩
  | .MBOX_EVENT => ⟨0x480018, 1, 1, 0, 0, .rsq, .cfg⟩
  | .MB_CFG => ⟨0x480100, 32, 32, 0, 4, .rwk, .prompter⟩
  | .MB_STAGE => ⟨0x481000, 480, 15, 0x100, 4, .wo, .chan⟩
  | .MB_POST => ⟨0x48103C, 32, 1, 0x100, 0, .wo, .chan⟩
  | .MB_REQ_STATUS => ⟨0x481040, 32, 1, 0x100, 0, .rl, .cfg⟩
  | .MB_RSP_HDR => ⟨0x481044, 32, 1, 0x100, 0, .ro, .cfg⟩
  | .MB_RSP_DATA => ⟨0x481048, 480, 15, 0x100, 4, .ro, .cfg⟩
  | .MB_RSP_STATUS => ⟨0x481084, 32, 1, 0x100, 0, .rl, .cfg⟩
  | .MB_RSP_POP => ⟨0x481088, 32, 1, 0x100, 0, .w1p, .chan⟩
  | .MB_EVENT => ⟨0x48108C, 32, 1, 0x100, 0, .rsq, .chan⟩
  | .PROMPTER_CTRL => ⟨0x4C0010, 1, 1, 0, 0, .rwk, .prompter⟩
  | .PROMPTER_STATUS => ⟨0x4C0014, 1, 1, 0, 0, .rl, .cfg⟩
  | .PROMPTER_EVENT => ⟨0x4C0018, 1, 1, 0, 0, .rsq, .cfg⟩
  | .PROMPTER_CMD => ⟨0x4C001C, 1, 1, 0, 0, .rwk, .restart⟩
  | .FW_VERSION => ⟨0x4C0020, 1, 1, 0, 0, .ro, .cfg⟩
  | .FW_SVN => ⟨0x4C0024, 1, 1, 0, 0, .ro, .cfg⟩
  | .BOOT_TIME => ⟨0x4C0028, 1, 1, 0, 0, .ro, .cfg⟩
  | .CORE_LOAD => ⟨0x4C0030, 4, 4, 0, 4, .ro, .cfg⟩
  | .FROZEN_MASTERS => ⟨0x4C0040, 1, 1, 0, 0, .rl, .cfg⟩
  | .VIOL_INFO => ⟨0x4C0044, 1, 1, 0, 0, .ro, .cfg⟩
  | .VIOL_ADDR => ⟨0x4C0048, 1, 1, 0, 0, .ro, .cfg⟩
  | .VIOL_DATA => ⟨0x4C004C, 1, 1, 0, 0, .ro, .cfg⟩
  | .SRAM_ECC_CORR => ⟨0x4C0050, 1, 1, 0, 0, .ro, .cfg⟩
  | .SRAM_ECC_UNCORR => ⟨0x4C0054, 1, 1, 0, 0, .ro, .cfg⟩
  | .BOOK_CFG => ⟨0x500010, 1, 1, 0, 0, .rwk, .cfg⟩
  | .BOOK_STATUS => ⟨0x500014, 1, 1, 0, 0, .rl, .cfg⟩
  | .BOOK_EVENT => ⟨0x500018, 1, 1, 0, 0, .rsq, .cfg⟩
  | .BOOK_CMD => ⟨0x50001C, 1, 1, 0, 0, .w1p, .prompter⟩
  | .BOOK_NEXT_SEQ => ⟨0x500020, 1, 1, 0, 0, .ro, .cfg⟩
  | .BOOK_OLDEST_SEQ => ⟨0x500024, 1, 1, 0, 0, .ro, .cfg⟩
  | .BOOK_COUNT => ⟨0x500028, 1, 1, 0, 0, .ro, .cfg⟩
  | .DROPPED => ⟨0x500030, 8, 8, 0, 4, .ro, .cfg⟩
  | .OVERWRITTEN => ⟨0x500050, 8, 8, 0, 4, .ro, .cfg⟩
  | .HOLD_DROPPED => ⟨0x500070, 8, 8, 0, 4, .ro, .cfg⟩
  | .FILTERED => ⟨0x500090, 1, 1, 0, 0, .ro, .cfg⟩
  | .TRIG_MATCH => ⟨0x500100, 16, 1, 0x10, 0, .rwk, .cfg⟩
  | .TRIG_CTRL => ⟨0x500104, 16, 1, 0x10, 0, .rwk, .cfg⟩
  | .TRIG_COUNT => ⟨0x500108, 16, 1, 0x10, 0, .ro, .cfg⟩
  | .SNAP_ENTRY => ⟨0x500200, 160, 8, 0x20, 4, .rwk, .cfg⟩
  | .PERF_STATUS => ⟨0x540014, 1, 1, 0, 0, .rl, .cfg⟩
  | .PERF_EVENT => ⟨0x540018, 1, 1, 0, 0, .rsq, .dump⟩
  | .PERF_CMD => ⟨0x54001C, 1, 1, 0, 0, .w1p, .dump⟩
  | .PERF_ALLOW => ⟨0x540020, 1, 1, 0, 0, .rwk, .prompter⟩
  | .SNAP_FIRST_PT => ⟨0x540024, 1, 1, 0, 0, .ro, .cfg⟩
  | .SNAP_LAST_PT => ⟨0x540028, 1, 1, 0, 0, .ro, .cfg⟩
  | .DUMP_FN => ⟨0x540040, 1, 1, 0, 0, .rwk, .prompter⟩
  | .DUMP_CFG => ⟨0x540044, 1, 1, 0, 0, .rw, .dump⟩
  | .DUMP_STREAM_MASK => ⟨0x540048, 1, 1, 0, 0, .rw, .dump⟩
  | .DUMP_BASE => ⟨0x540050, 4, 4, 0, 4, .rw, .dump⟩
  | .DUMP_SEQ => ⟨0x540060, 1, 1, 0, 0, .ro, .cfg⟩
  | .DUMP_SKIPPED => ⟨0x540064, 1, 1, 0, 0, .ro, .cfg⟩
  | .PC_LO => ⟨0x541000, 776, 8, 0x40, 8, .ro, .cfg⟩
  | .PC_HI => ⟨0x541004, 776, 8, 0x40, 8, .ro, .cfg⟩
  | .PC_CFG => ⟨0x544000, 776, 8, 0x20, 4, .rwk, .cfg⟩
  | .ADDR_LO => ⟨0x547000, 97, 1, 0x10, 0, .rwk, .cfg⟩
  | .ADDR_HI => ⟨0x547004, 97, 1, 0x10, 0, .rwk, .cfg⟩
  | .PC_CLEAR => ⟨0x547008, 97, 1, 0x10, 0, .w1p, .cfg⟩
  | .PAIR_CFG => ⟨0x580010, 1, 1, 0, 0, .rwk, .cfg⟩
  | .PAIR_STATUS => ⟨0x580014, 1, 1, 0, 0, .rl, .cfg⟩
  | .PAIR_EVENT => ⟨0x580018, 1, 1, 0, 0, .rsq, .cfg⟩
  | .PAIR_TIMERS => ⟨0x58001C, 1, 1, 0, 0, .rwk, .cfg⟩
  | .PEER_STATUS => ⟨0x580020, 1, 1, 0, 0, .ro, .cfg⟩
  | .MIRROR_STATUS => ⟨0x580024, 1, 1, 0, 0, .rl, .cfg⟩
  | .LAST_TAKEOVER_PT => ⟨0x580028, 1, 1, 0, 0, .ro, .cfg⟩
  | .TAKEOVER_INFO => ⟨0x58002C, 1, 1, 0, 0, .ro, .cfg⟩
  | .MIRROR_TX_SEQ => ⟨0x580030, 1, 1, 0, 0, .ro, .cfg⟩
  | .MIRROR_RX_SEQ => ⟨0x580034, 1, 1, 0, 0, .ro, .cfg⟩
  | .CFG_DIGEST => ⟨0x580038, 1, 1, 0, 0, .ro, .cfg⟩
  | .PEER_CFG_DIGEST => ⟨0x58003C, 1, 1, 0, 0, .ro, .cfg⟩
  | .DOM_CFG => ⟨0x5C0010, 1, 1, 0, 0, .rwk, .cfg⟩
  | .DOM_STATUS => ⟨0x5C0014, 1, 1, 0, 0, .rl, .cfg⟩
  | .DOM_EVENT => ⟨0x5C0018, 1, 1, 0, 0, .rsq, .cfg⟩
  | .DOM_ID => ⟨0x5C001C, 1, 1, 0, 0, .rwk, .prompter⟩
  | .DOM_MAC_0 => ⟨0x5C0020, 1, 1, 0, 0, .rwk, .prompter⟩
  | .DOM_MAC_1 => ⟨0x5C0024, 1, 1, 0, 0, .rwk, .prompter⟩
  | .DOM_PARENT_MAC_0 => ⟨0x5C0028, 1, 1, 0, 0, .rwk, .prompter⟩
  | .DOM_PARENT_MAC_1 => ⟨0x5C002C, 1, 1, 0, 0, .rwk, .prompter⟩
  | .DOM_GROUP_DA_0 => ⟨0x5C0030, 1, 1, 0, 0, .rwk, .prompter⟩
  | .DOM_GROUP_DA_1 => ⟨0x5C0034, 1, 1, 0, 0, .rwk, .prompter⟩
  | .DOM_TIMERS => ⟨0x5C0038, 1, 1, 0, 0, .rwk, .cfg⟩
  | .DOM_LEAD => ⟨0x5C003C, 1, 1, 0, 0, .rwk, .cfg⟩
  | .DOM_RATE => ⟨0x5C0040, 1, 1, 0, 0, .rwk, .cfg⟩
  | .DOMAIN_PORTS => ⟨0x5C0050, 8, 8, 0, 4, .rwk, .cfg⟩
  | .PROOF_SNAP => ⟨0x5C0070, 8, 8, 0, 4, .rwk, .cfg⟩
  | .OP_TARGET_0 => ⟨0x5C0090, 1, 1, 0, 0, .ro, .cfg⟩
  | .OP_TARGET_1 => ⟨0x5C0094, 1, 1, 0, 0, .ro, .cfg⟩
  | .OP_ID => ⟨0x5C0098, 1, 1, 0, 0, .ro, .cfg⟩
  | .CHILD_0 => ⟨0x5C0100, 64, 64, 0, 8, .rl, .cfg⟩
  | .CHILD_1 => ⟨0x5C0104, 64, 64, 0, 8, .rl, .cfg⟩
  | .PWR_CTRL => ⟨0x600010, 1, 1, 0, 0, .rwk, .cfg⟩
  | .PWR_STATUS => ⟨0x600014, 1, 1, 0, 0, .rl, .cfg⟩
  | .PWR_EVENT => ⟨0x600018, 1, 1, 0, 0, .rsq, .cfg⟩
  | .TEMP => ⟨0x600020, 8, 8, 0, 4, .ro, .cfg⟩
  | .TEMP_MAX => ⟨0x600040, 1, 1, 0, 0, .ro, .cfg⟩
  | .GATE_STATUS_0 => ⟨0x600044, 1, 1, 0, 0, .rl, .cfg⟩
  | .GATE_STATUS_1 => ⟨0x600048, 1, 1, 0, 0, .rl, .cfg⟩
  | .LIFE_HOURS => ⟨0x600050, 1, 1, 0, 0, .ro, .cfg⟩
  | .VMON => ⟨0x600060, 6, 6, 0, 4, .ro, .cfg⟩
  | .CAP_HEADER => ⟨0, 97, 1, 0x10000, 0, .ro, .cfg⟩
  | .CAP_INFO => ⟨4, 97, 1, 0x10000, 0, .ro, .cfg⟩
  | .GUARD_UNLOCK => ⟨8, 97, 1, 0x10000, 0, .wo, .cfg⟩

/-- The register names, part 0. -/
def allRegs0 : List RegName :=
  [.GLOBAL_EVENT, .PARITY_LAST, .PARITY_COUNT, .DEVICE_ID, .STRAPS, .RESET_CAUSE, .RESET_CTRL, .UNIQUE_ID_0,
   .UNIQUE_ID_1, .GPIO_CFG, .QUAD_MODE, .QUAD_STATUS, .QUAD_EVENT, .LANE_CFG, .LANE_STATUS, .FEC_CORR,
   .FEC_UNCORR, .PORT_CFG, .PORT_LINK, .PORT_PRE, .PORT_EEE, .TS_ING_TRIM, .TS_EGR_TRIM, .PORT_STATUS,
   .PORT_EVENT, .TIME_CTRL, .TIME_STATUS, .TIME_EVENT, .TIME_CMD, .PT_READ, .PT_OFF, .PPS_CFG, .PPS_OUT_TRIM,
   .SYNCE_CFG, .TB_CFG, .TB_STATE, .TB_RATE_0, .TB_RATE_1, .TB_STEP, .TB_CMD]

/-- The register names, part 1. -/
def allRegs1 : List RegName :=
  [.TB_TIMERS, .TB_READ, .TIO_CFG, .TIO_START_0, .TIO_START_1, .TIO_PERIOD_0, .TIO_PERIOD_1, .TIO_WIDTH,
   .TIO_COUNT, .TIO_TRIM, .TIO_STATUS, .TIO_CAP, .TIO_CAP_POP, .PTP_PORT_CFG, .PTP_PDELAY, .PARSER_CTRL,
   .PARSER_EVENT, .PCP_TO_TC, .PARSER_PORT_CFG, .PLATE_STATUS, .PLATE_CMD, .PLATE_EVENT, .PLATE_AT_0,
   .PLATE_AT_1, .INFLIGHT_ACTIVE, .INFLIGHT_RETIRING, .PLATE_LIMITS, .FRAG_CFG, .PROF_CFG, .PROF_SLOT,
   .PROF_GRP, .ACT_PROF_CFG, .ACT_PROF_SLOT, .ACT_PROF_GRP, .FDB_CFG, .FDB_STATUS, .FDB_EVENT,
   .FDB_FLUSH_SPEC, .FDB_CMD, .FDB_CNT]

/-- The register names, part 2. -/
def allRegs2 : List RegName :=
  [.LR_BASE_LO, .LR_BASE_HI, .LR_CFG, .LR_PROD, .LR_CONS, .LR_DROPPED, .TBL_SEL, .TBL_CMD, .TBL_STATUS,
   .TBL_DATA, .FDB_PORT_CFG, .STREAM_CTRL, .STREAM_STATUS, .STREAM_EVENT, .DD_ROGUE_CNT, .HSR_OWN_RETURN_CNT,
   .DD_TAGLESS_CNT, .SAC_SEL, .SAC_CMD, .SAC_STATUS, .SAC_DATA, .BPM_CTRL, .BPM_STATUS, .BPM_EVENT, .CARVE,
   .CARVE_CMD, .POOL_FREE, .COMMON_FREE, .RESERVE_FREE, .ECC_CORR_CNT, .ECC_UNCORR_CNT, .ECC_LAST_ADDR,
   .QP_MIN, .QP_MAX, .QP_FC, .QP_WARN, .ACCT_BIND, .ACCT_USED, .PORT_FC, .TM_STATUS]

/-- The register names, part 3. -/
def allRegs3 : List RegName :=
  [.TM_EVENT, .MIR_CFG, .WRED_CFG, .WRED_MIN, .WRED_MAX, .Q_CFG, .Q_LIMIT, .Q_CBS_IDLE, .Q_CBS_CREDIT,
   .Q_TBS_RATE, .Q_TBS_BURST, .Q_DEPTH, .TM_PORT_CFG, .TM_PORT_GATE, .TM_PORT_STATUS, .CL_ADMIN_BASE_0,
   .CL_ADMIN_BASE_1, .CL_ADMIN_CYCLE_0, .CL_ADMIN_CYCLE_1, .CL_ADMIN_LEN, .CL_CMD, .CL_TAKEOVER, .TM_SEL,
   .TM_CMD, .TM_ACC_STATUS, .TM_DATA, .STAGE_CTRL, .STAGE_STATUS, .STAGE_EVENT, .PIN_SEL, .PIN_DATA,
   .SUPV_EN, .CL_CFG, .PROG_CFG, .ENG_STATUS, .SAMPLER_CFG, .FOLIO_CTRL, .FOLIO_STATUS, .FOLIO_EVENT,
   .SEG_SEQ]

/-- The register names, part 4. -/
def allRegs4 : List RegName :=
  [.RING_SEGMENTS, .PINNED, .CLASS_CFG, .SHED, .OVERRUN, .DRIVE_STATUS, .FOLIO_PORT_CAP, .HOST_STATUS,
   .HOST_EVENT, .FUNC_PERM, .WIN_LO, .WIN_HI, .HOST_RX_MAP, .RING_BASE_LO, .RING_BASE_HI, .RING_CFG,
   .RING_DB, .RING_CONS, .RING_STATUS, .RING_OWNER, .CQ_BASE_LO, .CQ_BASE_HI, .CQ_CFG, .CQ_CONS, .CQ_PROD,
   .CQ_STATUS, .CQ_OWNER, .MBOX_STATUS, .MBOX_EVENT, .MB_CFG, .MB_STAGE, .MB_POST, .MB_REQ_STATUS,
   .MB_RSP_HDR, .MB_RSP_DATA, .MB_RSP_STATUS, .MB_RSP_POP, .MB_EVENT, .PROMPTER_CTRL, .PROMPTER_STATUS]

/-- The register names, part 5. -/
def allRegs5 : List RegName :=
  [.PROMPTER_EVENT, .PROMPTER_CMD, .FW_VERSION, .FW_SVN, .BOOT_TIME, .CORE_LOAD, .FROZEN_MASTERS, .VIOL_INFO,
   .VIOL_ADDR, .VIOL_DATA, .SRAM_ECC_CORR, .SRAM_ECC_UNCORR, .BOOK_CFG, .BOOK_STATUS, .BOOK_EVENT, .BOOK_CMD,
   .BOOK_NEXT_SEQ, .BOOK_OLDEST_SEQ, .BOOK_COUNT, .DROPPED, .OVERWRITTEN, .HOLD_DROPPED, .FILTERED,
   .TRIG_MATCH, .TRIG_CTRL, .TRIG_COUNT, .SNAP_ENTRY, .PERF_STATUS, .PERF_EVENT, .PERF_CMD, .PERF_ALLOW,
   .SNAP_FIRST_PT, .SNAP_LAST_PT, .DUMP_FN, .DUMP_CFG, .DUMP_STREAM_MASK, .DUMP_BASE, .DUMP_SEQ,
   .DUMP_SKIPPED, .PC_LO]

/-- The register names, part 6. -/
def allRegs6 : List RegName :=
  [.PC_HI, .PC_CFG, .ADDR_LO, .ADDR_HI, .PC_CLEAR, .PAIR_CFG, .PAIR_STATUS, .PAIR_EVENT, .PAIR_TIMERS,
   .PEER_STATUS, .MIRROR_STATUS, .LAST_TAKEOVER_PT, .TAKEOVER_INFO, .MIRROR_TX_SEQ, .MIRROR_RX_SEQ,
   .CFG_DIGEST, .PEER_CFG_DIGEST, .DOM_CFG, .DOM_STATUS, .DOM_EVENT, .DOM_ID, .DOM_MAC_0, .DOM_MAC_1,
   .DOM_PARENT_MAC_0, .DOM_PARENT_MAC_1, .DOM_GROUP_DA_0, .DOM_GROUP_DA_1, .DOM_TIMERS, .DOM_LEAD, .DOM_RATE,
   .DOMAIN_PORTS, .PROOF_SNAP, .OP_TARGET_0, .OP_TARGET_1, .OP_ID, .CHILD_0, .CHILD_1, .PWR_CTRL,
   .PWR_STATUS, .PWR_EVENT]

/-- The register names, part 7. -/
def allRegs7 : List RegName :=
  [.TEMP, .TEMP_MAX, .GATE_STATUS_0, .GATE_STATUS_1, .LIFE_HOURS, .VMON, .CAP_HEADER, .CAP_INFO,
   .GUARD_UNLOCK]

/-- Every register name, in the order of the maps. -/
def allRegs : List RegName :=
  allRegs0 ++ allRegs1 ++ allRegs2 ++ allRegs3 ++ allRegs4 ++ allRegs5 ++ allRegs6 ++ allRegs7

/-! The fields, named REGISTER_FIELD. The SEQ byte of an RSQ register (R373) is bits 31 to 24 of each. -/
namespace F

def GLOBAL_EVENT_CFG_PARITY : Fld := ⟨.GLOBAL_EVENT, 0, 0, .rsq, []⟩
def GLOBAL_EVENT_PARTIAL_WRITE : Fld := ⟨.GLOBAL_EVENT, 1, 1, .rsq, []⟩
def PARITY_LAST_OFFSET : Fld := ⟨.PARITY_LAST, 15, 0, .ro, []⟩
def PARITY_LAST_SLOT : Fld := ⟨.PARITY_LAST, 23, 16, .ro, []⟩
def PARITY_COUNT_COUNT : Fld := ⟨.PARITY_COUNT, 31, 0, .ro, []⟩
def DEVICE_ID_PART : Fld := ⟨.DEVICE_ID, 15, 0, .ro, []⟩
def DEVICE_ID_STEPPING : Fld := ⟨.DEVICE_ID, 19, 16, .ro, []⟩
def DEVICE_ID_VENDOR : Fld := ⟨.DEVICE_ID, 31, 20, .ro, []⟩
def STRAPS_PAIR_EN : Fld := ⟨.STRAPS, 0, 0, .ro, []⟩
def STRAPS_UNIT_ID : Fld := ⟨.STRAPS, 1, 1, .ro, []⟩
def STRAPS_PREFERRED : Fld := ⟨.STRAPS, 2, 2, .ro, []⟩
def STRAPS_XTAL_BYPASS : Fld := ⟨.STRAPS, 3, 3, .ro, []⟩
def STRAPS_TEST_EN : Fld := ⟨.STRAPS, 4, 4, .ro, []⟩
def RESET_CAUSE_CAUSE : Fld := ⟨.RESET_CAUSE, 3, 0, .ro, []⟩
def RESET_CTRL_DEVICE_RESET : Fld := ⟨.RESET_CTRL, 0, 0, .w1p, []⟩
def UNIQUE_ID_0_ID : Fld := ⟨.UNIQUE_ID_0, 31, 0, .ro, []⟩
def UNIQUE_ID_1_ID : Fld := ⟨.UNIQUE_ID_1, 31, 0, .ro, []⟩
def GPIO_CFG_GPIO_OE : Fld := ⟨.GPIO_CFG, 7, 0, .rwk, []⟩
def GPIO_CFG_GPIO_OUT : Fld := ⟨.GPIO_CFG, 15, 8, .rwk, []⟩
def GPIO_CFG_GPIO_IN : Fld := ⟨.GPIO_CFG, 23, 16, .ro, []⟩
def QUAD_MODE_QMODE : Fld := ⟨.QUAD_MODE, 1, 0, .rwk, [(0, 2)]⟩
def QUAD_STATUS_PLL_0_LOCK : Fld := ⟨.QUAD_STATUS, 0, 0, .rl, []⟩
def QUAD_STATUS_PLL_1_LOCK : Fld := ⟨.QUAD_STATUS, 1, 1, .rl, []⟩
def QUAD_EVENT_MODE_CONFLICT : Fld := ⟨.QUAD_EVENT, 0, 0, .rsq, []⟩
def QUAD_EVENT_PLL_0_UNLOCK : Fld := ⟨.QUAD_EVENT, 1, 1, .rsq, []⟩
def QUAD_EVENT_PLL_1_UNLOCK : Fld := ⟨.QUAD_EVENT, 2, 2, .rsq, []⟩
def QUAD_EVENT_FEC_UNCORR : Fld := ⟨.QUAD_EVENT, 7, 4, .rsq, []⟩
def LANE_CFG_LANE_EN : Fld := ⟨.LANE_CFG, 0, 0, .rwk, []⟩
def LANE_CFG_LMODE : Fld := ⟨.LANE_CFG, 4, 1, .rwk, [(0, 8)]⟩
def LANE_CFG_FEC : Fld := ⟨.LANE_CFG, 6, 5, .rwk, [(0, 2)]⟩
def LANE_CFG_AN_EN : Fld := ⟨.LANE_CFG, 7, 7, .rwk, []⟩
def LANE_CFG_RX_INV : Fld := ⟨.LANE_CFG, 8, 8, .rwk, []⟩
def LANE_CFG_TX_INV : Fld := ⟨.LANE_CFG, 9, 9, .rwk, []⟩
def LANE_CFG_LOOPBACK : Fld := ⟨.LANE_CFG, 11, 10, .rwk, [(0, 2)]⟩
def LANE_STATUS_SIG_DET : Fld := ⟨.LANE_STATUS, 0, 0, .rl, []⟩
def LANE_STATUS_CDR_LOCK : Fld := ⟨.LANE_STATUS, 1, 1, .rl, []⟩
def LANE_STATUS_PCS_LOCK : Fld := ⟨.LANE_STATUS, 2, 2, .rl, []⟩
def LANE_STATUS_FEC_LOCK : Fld := ⟨.LANE_STATUS, 3, 3, .rl, []⟩
def LANE_STATUS_AN_DONE : Fld := ⟨.LANE_STATUS, 4, 4, .rl, []⟩
def LANE_STATUS_PLL_IDX : Fld := ⟨.LANE_STATUS, 5, 5, .rl, []⟩
def FEC_CORR_COUNT : Fld := ⟨.FEC_CORR, 31, 0, .ro, []⟩
def FEC_UNCORR_COUNT : Fld := ⟨.FEC_UNCORR, 31, 0, .ro, []⟩
def PORT_CFG_MAX_FRAME : Fld := ⟨.PORT_CFG, 13, 0, .rwk, [(1518, 10240)]⟩
def PORT_CFG_PORT_EN : Fld := ⟨.PORT_CFG, 14, 14, .rwk, []⟩
def PORT_LINK_LINK_HOLD : Fld := ⟨.PORT_LINK, 13, 0, .rwk, [(0, 10000)]⟩
def PORT_LINK_LINK_UP_TIME : Fld := ⟨.PORT_LINK, 27, 16, .rwk, []⟩
def PORT_PRE_PRE_EN : Fld := ⟨.PORT_PRE, 0, 0, .rwk, []⟩
def PORT_PRE_VERIFY_EN : Fld := ⟨.PORT_PRE, 1, 1, .rwk, []⟩
def PORT_PRE_VERIFY_TIME : Fld := ⟨.PORT_PRE, 9, 2, .rwk, [(1, 128)]⟩
def PORT_PRE_ADD_FRAG : Fld := ⟨.PORT_PRE, 11, 10, .rwk, []⟩
def PORT_PRE_EXPRESS_TC : Fld := ⟨.PORT_PRE, 18, 12, .rwk, []⟩
def PORT_PRE_EXPRESS_TC7 : Fld := ⟨.PORT_PRE, 19, 19, .ro, []⟩
def PORT_PRE_PARTNER_ADD_FRAG : Fld := ⟨.PORT_PRE, 21, 20, .rwk, []⟩
def PORT_EEE_EEE_EN : Fld := ⟨.PORT_EEE, 0, 0, .rwk, []⟩
def PORT_EEE_EEE_IDLE : Fld := ⟨.PORT_EEE, 15, 4, .rwk, [(1, 4095)]⟩
def PORT_EEE_TW_TX : Fld := ⟨.PORT_EEE, 31, 16, .rwk, []⟩
def TS_ING_TRIM_TRIM : Fld := ⟨.TS_ING_TRIM, 31, 0, .rwk, []⟩
def TS_EGR_TRIM_TRIM : Fld := ⟨.TS_EGR_TRIM, 31, 0, .rwk, []⟩
def PORT_STATUS_LINK_STATE : Fld := ⟨.PORT_STATUS, 1, 0, .rl, []⟩
def PORT_STATUS_SPEED : Fld := ⟨.PORT_STATUS, 5, 2, .rl, []⟩
def PORT_STATUS_PRE_STATE : Fld := ⟨.PORT_STATUS, 8, 6, .rl, []⟩
def PORT_STATUS_PRE_ACTIVE : Fld := ⟨.PORT_STATUS, 9, 9, .rl, []⟩
def PORT_STATUS_EEE_INHIBIT : Fld := ⟨.PORT_STATUS, 10, 10, .rl, []⟩
def PORT_STATUS_TX_LPI : Fld := ⟨.PORT_STATUS, 11, 11, .rl, []⟩
def PORT_STATUS_RX_LPI : Fld := ⟨.PORT_STATUS, 12, 12, .rl, []⟩
def PORT_STATUS_HOLD_ACTIVE : Fld := ⟨.PORT_STATUS, 13, 13, .rl, []⟩
def PORT_EVENT_LINK_DOWN : Fld := ⟨.PORT_EVENT, 0, 0, .rsq, []⟩
def PORT_EVENT_LINK_UP : Fld := ⟨.PORT_EVENT, 1, 1, .rsq, []⟩
def PORT_EVENT_HOLD_EXPIRED : Fld := ⟨.PORT_EVENT, 2, 2, .rsq, []⟩
def PORT_EVENT_PRE_VERIFY_FAILED : Fld := ⟨.PORT_EVENT, 3, 3, .rsq, []⟩
def PORT_EVENT_EXPRESS_HELD : Fld := ⟨.PORT_EVENT, 4, 4, .rsq, []⟩
def PORT_EVENT_EXPR_Q_FULL : Fld := ⟨.PORT_EVENT, 5, 5, .rsq, []⟩
def PORT_EVENT_PARTNER_10M : Fld := ⟨.PORT_EVENT, 6, 6, .rsq, []⟩
def PORT_EVENT_EEE_INHIBIT_SET : Fld := ⟨.PORT_EVENT, 7, 7, .rsq, []⟩
def PORT_EVENT_PARTNER_SPEED : Fld := ⟨.PORT_EVENT, 8, 8, .rsq, []⟩
def TIME_CTRL_ACTIVE_TB : Fld := ⟨.TIME_CTRL, 0, 0, .rwk, []⟩
def TIME_CTRL_AUTO_SEL : Fld := ⟨.TIME_CTRL, 1, 1, .rwk, []⟩
def TIME_CTRL_SEL_ON_HOLDOVER : Fld := ⟨.TIME_CTRL, 2, 2, .rwk, []⟩
def TIME_CTRL_FREE_RUN_OUT : Fld := ⟨.TIME_CTRL, 3, 3, .rwk, []⟩
def TIME_CTRL_PT_SLEW : Fld := ⟨.TIME_CTRL, 11, 4, .rwk, [(1, 50)]⟩
def TIME_STATUS_PT_TB : Fld := ⟨.TIME_STATUS, 0, 0, .rl, []⟩
def TIME_STATUS_PT_VALID : Fld := ⟨.TIME_STATUS, 1, 1, .rl, []⟩
def TIME_STATUS_PT_SLEWING : Fld := ⟨.TIME_STATUS, 2, 2, .rl, []⟩
def TIME_STATUS_TPLL_LOCK : Fld := ⟨.TIME_STATUS, 4, 3, .rl, []⟩
def TIME_STATUS_TPLL_REF_LOSS : Fld := ⟨.TIME_STATUS, 6, 5, .rl, []⟩
def TIME_EVENT_TRIG_LATE : Fld := ⟨.TIME_EVENT, 7, 0, .rsq, []⟩
def TIME_EVENT_CAP_OVERFLOW : Fld := ⟨.TIME_EVENT, 15, 8, .rsq, []⟩
def TIME_EVENT_TB_HOLDOVER : Fld := ⟨.TIME_EVENT, 17, 16, .rsq, []⟩
def TIME_EVENT_TB_FREE : Fld := ⟨.TIME_EVENT, 19, 18, .rsq, []⟩
def TIME_EVENT_STEP_REFUSED : Fld := ⟨.TIME_EVENT, 20, 20, .rsq, []⟩
def TIME_EVENT_PT_SWITCH : Fld := ⟨.TIME_EVENT, 21, 21, .rsq, []⟩
def TIME_EVENT_PT_ALIGNED : Fld := ⟨.TIME_EVENT, 22, 22, .rsq, []⟩
def TIME_EVENT_SYNCE_SQUELCH : Fld := ⟨.TIME_EVENT, 23, 23, .rsq, []⟩
def TIME_CMD_SNAP : Fld := ⟨.TIME_CMD, 0, 0, .w1p, []⟩
def TIME_CMD_PT_JAM : Fld := ⟨.TIME_CMD, 1, 1, .w1p, []⟩
def PT_READ_WORD : Fld := ⟨.PT_READ, 31, 0, .ro, []⟩
def PT_OFF_OFF : Fld := ⟨.PT_OFF, 31, 0, .ro, []⟩
def PPS_CFG_PPS_OUT_EN : Fld := ⟨.PPS_CFG, 0, 0, .rwk, []⟩
def PPS_CFG_PPS_WIDTH : Fld := ⟨.PPS_CFG, 19, 1, .rwk, [(1, 500000)]⟩
def PPS_CFG_PPS_IN_EN : Fld := ⟨.PPS_CFG, 20, 20, .rwk, []⟩
def PPS_CFG_PPS_IN_EDGE : Fld := ⟨.PPS_CFG, 21, 21, .rwk, []⟩
def PPS_OUT_TRIM_TRIM : Fld := ⟨.PPS_OUT_TRIM, 31, 0, .rwk, []⟩
def SYNCE_CFG_SYNCE_0_LANE : Fld := ⟨.SYNCE_CFG, 5, 0, .rwk, []⟩
def SYNCE_CFG_SYNCE_0_EN : Fld := ⟨.SYNCE_CFG, 6, 6, .rwk, []⟩
def SYNCE_CFG_SYNCE_0_DIV : Fld := ⟨.SYNCE_CFG, 14, 7, .rwk, []⟩
def SYNCE_CFG_SYNCE_1_LANE : Fld := ⟨.SYNCE_CFG, 20, 15, .rwk, []⟩
def SYNCE_CFG_SYNCE_1_EN : Fld := ⟨.SYNCE_CFG, 21, 21, .rwk, []⟩
def SYNCE_CFG_SYNCE_1_DIV : Fld := ⟨.SYNCE_CFG, 29, 22, .rwk, []⟩
def TB_CFG_REF_SEL : Fld := ⟨.TB_CFG, 1, 0, .rwk, []⟩
def TB_CFG_SYNCE_LANE : Fld := ⟨.TB_CFG, 7, 2, .rwk, []⟩
def TB_CFG_PTP_DOMAIN : Fld := ⟨.TB_CFG, 15, 8, .rwk, []⟩
def TB_CFG_PTP_EN : Fld := ⟨.TB_CFG, 16, 16, .rwk, []⟩
def TB_CFG_TRANSPORT_L2 : Fld := ⟨.TB_CFG, 17, 17, .rwk, []⟩
def TB_CFG_TRANSPORT_UDP4 : Fld := ⟨.TB_CFG, 18, 18, .rwk, []⟩
def TB_CFG_TRANSPORT_UDP6 : Fld := ⟨.TB_CFG, 19, 19, .rwk, []⟩
def TB_STATE_STATE : Fld := ⟨.TB_STATE, 1, 0, .rl, []⟩
def TB_STATE_STEP_AVAIL : Fld := ⟨.TB_STATE, 2, 2, .rl, []⟩
def TB_STATE_EPOCH : Fld := ⟨.TB_STATE, 15, 8, .rl, []⟩
def TB_RATE_0_RATE_LO : Fld := ⟨.TB_RATE_0, 31, 0, .rwk, []⟩
def TB_RATE_1_RATE_HI : Fld := ⟨.TB_RATE_1, 15, 0, .rwk, []⟩
def TB_STEP_WORD : Fld := ⟨.TB_STEP, 31, 0, .rwk, []⟩
def TB_CMD_START : Fld := ⟨.TB_CMD, 0, 0, .w1p, []⟩
def TB_CMD_LOCK : Fld := ⟨.TB_CMD, 1, 1, .w1p, []⟩
def TB_CMD_STEP_ABS : Fld := ⟨.TB_CMD, 2, 2, .w1p, []⟩
def TB_CMD_RELOCK : Fld := ⟨.TB_CMD, 3, 3, .w1p, []⟩
def TB_CMD_EPOCH_END : Fld := ⟨.TB_CMD, 4, 4, .w1p, []⟩
def TB_TIMERS_SERVO_TIMEOUT : Fld := ⟨.TB_TIMERS, 15, 0, .rwk, [(1, 65535)]⟩
def TB_TIMERS_HOLDOVER_LIMIT : Fld := ⟨.TB_TIMERS, 31, 16, .rwk, []⟩
def TB_READ_WORD : Fld := ⟨.TB_READ, 31, 0, .ro, []⟩
def TIO_CFG_MODE : Fld := ⟨.TIO_CFG, 2, 0, .rwk, [(0, 4)]⟩
def TIO_CFG_EDGE : Fld := ⟨.TIO_CFG, 4, 3, .rwk, [(1, 3)]⟩
def TIO_CFG_CMP_SRC : Fld := ⟨.TIO_CFG, 6, 5, .rwk, [(0, 2)]⟩
def TIO_CFG_ALIGN_SEC : Fld := ⟨.TIO_CFG, 7, 7, .rwk, []⟩
def TIO_CFG_POLARITY : Fld := ⟨.TIO_CFG, 8, 8, .rwk, []⟩
def TIO_CFG_LEVEL : Fld := ⟨.TIO_CFG, 9, 9, .rwk, []⟩
def TIO_START_0_LOW : Fld := ⟨.TIO_START_0, 31, 0, .rwk, []⟩
def TIO_START_1_HIGH : Fld := ⟨.TIO_START_1, 23, 0, .rwk, []⟩
def TIO_PERIOD_0_PERIOD_NS : Fld := ⟨.TIO_PERIOD_0, 31, 0, .rwk, [(100, 4294967295)]⟩
def TIO_PERIOD_1_PERIOD_FRAC : Fld := ⟨.TIO_PERIOD_1, 15, 0, .rwk, []⟩
def TIO_WIDTH_WIDTH : Fld := ⟨.TIO_WIDTH, 31, 0, .rwk, []⟩
def TIO_COUNT_COUNT : Fld := ⟨.TIO_COUNT, 31, 0, .rwk, []⟩
def TIO_TRIM_TRIM : Fld := ⟨.TIO_TRIM, 31, 0, .rwk, []⟩
def TIO_STATUS_CAP_LEVEL : Fld := ⟨.TIO_STATUS, 4, 0, .rl, []⟩
def TIO_STATUS_ARMED : Fld := ⟨.TIO_STATUS, 8, 8, .rl, []⟩
def TIO_CAP_WORD : Fld := ⟨.TIO_CAP, 31, 0, .ro, []⟩
def TIO_CAP_POP_POP : Fld := ⟨.TIO_CAP_POP, 0, 0, .w1p, []⟩
def PTP_PORT_CFG_ROLE_0 : Fld := ⟨.PTP_PORT_CFG, 1, 0, .rwk, []⟩
def PTP_PORT_CFG_ROLE_1 : Fld := ⟨.PTP_PORT_CFG, 3, 2, .rwk, []⟩
def PTP_PDELAY_PDELAY : Fld := ⟨.PTP_PDELAY, 31, 0, .rwk, []⟩
def PARSER_CTRL_HDR_ERR_ACT : Fld := ⟨.PARSER_CTRL, 0, 0, .rwk, []⟩
def PARSER_CTRL_FRAG_MISS_ACT : Fld := ⟨.PARSER_CTRL, 2, 1, .rwk, [(0, 2)]⟩
def PARSER_EVENT_HDR_ERR : Fld := ⟨.PARSER_EVENT, 0, 0, .rsq, []⟩
def PARSER_EVENT_CFG_ERR : Fld := ⟨.PARSER_EVENT, 1, 1, .rsq, []⟩
def PARSER_EVENT_TC7_DEMOTED : Fld := ⟨.PARSER_EVENT, 2, 2, .rsq, []⟩
def PARSER_EVENT_FRAG_MISS : Fld := ⟨.PARSER_EVENT, 3, 3, .rsq, []⟩
def PCP_TO_TC_TC_FOR_PCP : Fld := ⟨.PCP_TO_TC, 23, 0, .rwk, []⟩
def PARSER_PORT_CFG_PRP_LAN : Fld := ⟨.PARSER_PORT_CFG, 0, 0, .rwk, []⟩
def PARSER_PORT_CFG_SLOW_FRAG : Fld := ⟨.PARSER_PORT_CFG, 1, 1, .rwk, []⟩
def PARSER_PORT_CFG_PORT_GRP : Fld := ⟨.PARSER_PORT_CFG, 5, 2, .rwk, []⟩
def PARSER_PORT_CFG_DEFAULT_PCP : Fld := ⟨.PARSER_PORT_CFG, 8, 6, .rwk, []⟩
def PARSER_PORT_CFG_PVID : Fld := ⟨.PARSER_PORT_CFG, 20, 9, .rwk, [(1, 4094)]⟩
def PARSER_PORT_CFG_DEFAULT_FWD : Fld := ⟨.PARSER_PORT_CFG, 23, 22, .rwk, []⟩
def PLATE_STATUS_ACTIVE : Fld := ⟨.PLATE_STATUS, 2, 0, .rl, []⟩
def PLATE_STATUS_SHADOW_OPEN : Fld := ⟨.PLATE_STATUS, 3, 3, .rl, []⟩
def PLATE_STATUS_RETIRING : Fld := ⟨.PLATE_STATUS, 4, 4, .rl, []⟩
def PLATE_STATUS_RETIRING_PLATE : Fld := ⟨.PLATE_STATUS, 7, 5, .rl, []⟩
def PLATE_STATUS_SWEEP_BUSY : Fld := ⟨.PLATE_STATUS, 8, 8, .rl, []⟩
def PLATE_STATUS_COMMIT_ARMED : Fld := ⟨.PLATE_STATUS, 9, 9, .rl, []⟩
def PLATE_STATUS_REFUSE_REASON : Fld := ⟨.PLATE_STATUS, 13, 10, .rl, []⟩
def PLATE_CMD_OPEN : Fld := ⟨.PLATE_CMD, 0, 0, .w1p, []⟩
def PLATE_CMD_COMMIT : Fld := ⟨.PLATE_CMD, 1, 1, .w1p, []⟩
def PLATE_CMD_COMMIT_AT : Fld := ⟨.PLATE_CMD, 2, 2, .w1p, []⟩
def PLATE_CMD_DISARM : Fld := ⟨.PLATE_CMD, 3, 3, .w1p, []⟩
def PLATE_CMD_ABORT : Fld := ⟨.PLATE_CMD, 4, 4, .w1p, []⟩
def PLATE_EVENT_OPENED : Fld := ⟨.PLATE_EVENT, 0, 0, .rsq, []⟩
def PLATE_EVENT_COMMITTED : Fld := ⟨.PLATE_EVENT, 1, 1, .rsq, []⟩
def PLATE_EVENT_RETIRED : Fld := ⟨.PLATE_EVENT, 2, 2, .rsq, []⟩
def PLATE_EVENT_ABORTED : Fld := ⟨.PLATE_EVENT, 3, 3, .rsq, []⟩
def PLATE_EVENT_COMMIT_REFUSED : Fld := ⟨.PLATE_EVENT, 4, 4, .rsq, []⟩
def PLATE_EVENT_RETIRE_LIMIT : Fld := ⟨.PLATE_EVENT, 5, 5, .rsq, []⟩
def PLATE_EVENT_RULE_PARITY : Fld := ⟨.PLATE_EVENT, 6, 6, .rsq, []⟩
def PLATE_EVENT_FRAG_TABLE_FULL : Fld := ⟨.PLATE_EVENT, 7, 7, .rsq, []⟩
def PLATE_AT_0_LOW : Fld := ⟨.PLATE_AT_0, 31, 0, .rwk, []⟩
def PLATE_AT_1_HIGH : Fld := ⟨.PLATE_AT_1, 23, 0, .rwk, []⟩
def PLATE_AT_1_HOLD : Fld := ⟨.PLATE_AT_1, 24, 24, .rwk, []⟩
def INFLIGHT_ACTIVE_COUNT : Fld := ⟨.INFLIGHT_ACTIVE, 31, 0, .ro, []⟩
def INFLIGHT_RETIRING_COUNT : Fld := ⟨.INFLIGHT_RETIRING, 31, 0, .ro, []⟩
def PLATE_LIMITS_RETIRE_LIMIT : Fld := ⟨.PLATE_LIMITS, 15, 0, .rwk, []⟩
def FRAG_CFG_FRAG_LIFE : Fld := ⟨.FRAG_CFG, 7, 0, .rwk, [(1, 255)]⟩
def PROF_CFG_PROF_EN : Fld := ⟨.PROF_CFG, 0, 0, .rwk, []⟩
def PROF_CFG_TABLE : Fld := ⟨.PROF_CFG, 3, 1, .rwk, []⟩
def PROF_CFG_TYPE_MASK : Fld := ⟨.PROF_CFG, 19, 4, .rwk, []⟩
def PROF_SLOT_FIELD_ID : Fld := ⟨.PROF_SLOT, 7, 0, .rwk, []⟩
def PROF_SLOT_START : Fld := ⟨.PROF_SLOT, 14, 8, .rwk, []⟩
def PROF_SLOT_WIDTH : Fld := ⟨.PROF_SLOT, 22, 15, .rwk, []⟩
def PROF_GRP_GROUP_MASK : Fld := ⟨.PROF_GRP, 15, 0, .rwk, []⟩
def ACT_PROF_CFG_PROF_EN : Fld := ⟨.ACT_PROF_CFG, 0, 0, .ro, []⟩
def ACT_PROF_CFG_TABLE : Fld := ⟨.ACT_PROF_CFG, 3, 1, .ro, []⟩
def ACT_PROF_CFG_TYPE_MASK : Fld := ⟨.ACT_PROF_CFG, 19, 4, .ro, []⟩
def ACT_PROF_SLOT_FIELD_ID : Fld := ⟨.ACT_PROF_SLOT, 7, 0, .ro, []⟩
def ACT_PROF_SLOT_START : Fld := ⟨.ACT_PROF_SLOT, 14, 8, .ro, []⟩
def ACT_PROF_SLOT_WIDTH : Fld := ⟨.ACT_PROF_SLOT, 22, 15, .ro, []⟩
def ACT_PROF_GRP_GROUP_MASK : Fld := ⟨.ACT_PROF_GRP, 15, 0, .ro, []⟩
def FDB_CFG_LEARN_GLOBAL_EN : Fld := ⟨.FDB_CFG, 0, 0, .rwk, []⟩
def FDB_CFG_EVICT_POLICY : Fld := ⟨.FDB_CFG, 1, 1, .rwk, []⟩
def FDB_CFG_AGE_TIME : Fld := ⟨.FDB_CFG, 13, 2, .rwk, [(0, 0), (10, 3000)]⟩
def FDB_CFG_MOVE_HOLD : Fld := ⟨.FDB_CFG, 27, 14, .rwk, [(0, 10000)]⟩
def FDB_CFG_ROUTE_MISS_ACT : Fld := ⟨.FDB_CFG, 28, 28, .rwk, []⟩
def FDB_STATUS_OCCUPANCY : Fld := ⟨.FDB_STATUS, 18, 0, .rl, []⟩
def FDB_STATUS_FLUSH_BUSY : Fld := ⟨.FDB_STATUS, 19, 19, .rl, []⟩
def FDB_STATUS_FLUSH_QUEUED : Fld := ⟨.FDB_STATUS, 20, 20, .rl, []⟩
def FDB_STATUS_LR_FULL : Fld := ⟨.FDB_STATUS, 21, 21, .rl, []⟩
def FDB_EVENT_FDB_PARITY : Fld := ⟨.FDB_EVENT, 0, 0, .rsq, []⟩
def FDB_EVENT_EVICTED : Fld := ⟨.FDB_EVENT, 1, 1, .rsq, []⟩
def FDB_EVENT_REFUSED : Fld := ⟨.FDB_EVENT, 2, 2, .rsq, []⟩
def FDB_EVENT_MOVE_CONFLICT : Fld := ⟨.FDB_EVENT, 3, 3, .rsq, []⟩
def FDB_EVENT_LEARN_DROPPED : Fld := ⟨.FDB_EVENT, 4, 4, .rsq, []⟩
def FDB_EVENT_LR_OVERFLOW : Fld := ⟨.FDB_EVENT, 5, 5, .rsq, []⟩
def FDB_EVENT_FLUSH_DONE : Fld := ⟨.FDB_EVENT, 6, 6, .rsq, []⟩
def FDB_EVENT_TRIE_PARITY : Fld := ⟨.FDB_EVENT, 7, 7, .rsq, []⟩
def FDB_EVENT_GROUP_PARITY : Fld := ⟨.FDB_EVENT, 8, 8, .rsq, []⟩
def FDB_FLUSH_SPEC_PORT : Fld := ⟨.FDB_FLUSH_SPEC, 8, 0, .rwk, []⟩
def FDB_FLUSH_SPEC_FID : Fld := ⟨.FDB_FLUSH_SPEC, 20, 9, .rwk, []⟩
def FDB_FLUSH_SPEC_MATCH_PORT : Fld := ⟨.FDB_FLUSH_SPEC, 21, 21, .rwk, []⟩
def FDB_FLUSH_SPEC_MATCH_FID : Fld := ⟨.FDB_FLUSH_SPEC, 22, 22, .rwk, []⟩
def FDB_FLUSH_SPEC_REPORT : Fld := ⟨.FDB_FLUSH_SPEC, 23, 23, .rwk, []⟩
def FDB_CMD_FLUSH_START : Fld := ⟨.FDB_CMD, 0, 0, .w1p, []⟩
def FDB_CNT_COUNT : Fld := ⟨.FDB_CNT, 31, 0, .ro, []⟩
def LR_BASE_LO_ADDR : Fld := ⟨.LR_BASE_LO, 31, 4, .rwk, []⟩
def LR_BASE_HI_ADDR : Fld := ⟨.LR_BASE_HI, 31, 0, .rwk, []⟩
def LR_CFG_LR_EN : Fld := ⟨.LR_CFG, 0, 0, .rwk, []⟩
def LR_CFG_LR_SIZE : Fld := ⟨.LR_CFG, 4, 1, .rwk, [(4, 15)]⟩
def LR_CFG_LR_FN : Fld := ⟨.LR_CFG, 7, 5, .rwk, []⟩
def LR_CFG_LR_MASK : Fld := ⟨.LR_CFG, 23, 8, .rwk, []⟩
def LR_PROD_INDEX : Fld := ⟨.LR_PROD, 15, 0, .ro, []⟩
def LR_CONS_INDEX : Fld := ⟨.LR_CONS, 15, 0, .rw, []⟩
def LR_DROPPED_COUNT : Fld := ⟨.LR_DROPPED, 31, 0, .ro, []⟩
def TBL_SEL_TBL_ID : Fld := ⟨.TBL_SEL, 4, 0, .rw, [(0, 15)]⟩
def TBL_SEL_SHADOW_RD : Fld := ⟨.TBL_SEL, 5, 5, .rw, []⟩
def TBL_SEL_INDEX : Fld := ⟨.TBL_SEL, 25, 8, .rw, []⟩
def TBL_CMD_READ : Fld := ⟨.TBL_CMD, 0, 0, .w1p, []⟩
def TBL_CMD_WRITE : Fld := ⟨.TBL_CMD, 1, 1, .w1p, []⟩
def TBL_CMD_LOOKUP : Fld := ⟨.TBL_CMD, 2, 2, .w1p, []⟩
def TBL_CMD_INSERT : Fld := ⟨.TBL_CMD, 3, 3, .w1p, []⟩
def TBL_CMD_DELETE : Fld := ⟨.TBL_CMD, 4, 4, .w1p, []⟩
def TBL_STATUS_BUSY : Fld := ⟨.TBL_STATUS, 0, 0, .rl, []⟩
def TBL_STATUS_RESULT : Fld := ⟨.TBL_STATUS, 3, 1, .rl, []⟩
def TBL_STATUS_RESULT_INDEX : Fld := ⟨.TBL_STATUS, 21, 4, .rl, []⟩
def TBL_DATA_WORD : Fld := ⟨.TBL_DATA, 31, 0, .rw, []⟩
def FDB_PORT_CFG_LEARN_EN : Fld := ⟨.FDB_PORT_CFG, 0, 0, .rwk, []⟩
def FDB_PORT_CFG_FLUSH_ON_DOWN : Fld := ⟨.FDB_PORT_CFG, 1, 1, .rwk, []⟩
def FDB_PORT_CFG_LEARN_AS : Fld := ⟨.FDB_PORT_CFG, 10, 2, .rwk, [(0, 255)]⟩
def STREAM_CTRL_SUPV_EN : Fld := ⟨.STREAM_CTRL, 0, 0, .rwk, []⟩
def STREAM_CTRL_TC7_SHARE : Fld := ⟨.STREAM_CTRL, 6, 1, .rwk, [(1, 50)]⟩
def STREAM_CTRL_DD_FORGET : Fld := ⟨.STREAM_CTRL, 16, 7, .rwk, [(1, 1000)]⟩
def STREAM_STATUS_ADMITTED : Fld := ⟨.STREAM_STATUS, 14, 0, .rl, []⟩
def STREAM_STATUS_DD_OCCUPANCY : Fld := ⟨.STREAM_STATUS, 31, 15, .rl, []⟩
def STREAM_EVENT_SEQ_ANOMALY : Fld := ⟨.STREAM_EVENT, 0, 0, .rsq, []⟩
def STREAM_EVENT_SILENCE : Fld := ⟨.STREAM_EVENT, 1, 1, .rsq, []⟩
def STREAM_EVENT_DD_TABLE_FULL : Fld := ⟨.STREAM_EVENT, 2, 2, .rsq, []⟩
def STREAM_EVENT_GMAC_FAIL : Fld := ⟨.STREAM_EVENT, 3, 3, .rsq, []⟩
def STREAM_EVENT_EXPR_FALLBACK : Fld := ⟨.STREAM_EVENT, 4, 4, .rsq, []⟩
def STREAM_EVENT_BOUND_LAPSED : Fld := ⟨.STREAM_EVENT, 5, 5, .rsq, []⟩
def STREAM_EVENT_STREAM_PARITY : Fld := ⟨.STREAM_EVENT, 6, 6, .rsq, []⟩
def STREAM_EVENT_WRONG_LAN : Fld := ⟨.STREAM_EVENT, 7, 7, .rsq, []⟩
def DD_ROGUE_CNT_COUNT : Fld := ⟨.DD_ROGUE_CNT, 31, 0, .ro, []⟩
def HSR_OWN_RETURN_CNT_COUNT : Fld := ⟨.HSR_OWN_RETURN_CNT, 31, 0, .ro, []⟩
def DD_TAGLESS_CNT_COUNT : Fld := ⟨.DD_TAGLESS_CNT, 31, 0, .ro, []⟩
def SAC_SEL_TBL : Fld := ⟨.SAC_SEL, 2, 0, .rw, [(0, 5)]⟩
def SAC_SEL_INDEX : Fld := ⟨.SAC_SEL, 24, 8, .rw, []⟩
def SAC_CMD_READ : Fld := ⟨.SAC_CMD, 0, 0, .w1p, []⟩
def SAC_CMD_WRITE : Fld := ⟨.SAC_CMD, 1, 1, .w1p, []⟩
def SAC_STATUS_BUSY : Fld := ⟨.SAC_STATUS, 0, 0, .rl, []⟩
def SAC_STATUS_RESULT : Fld := ⟨.SAC_STATUS, 2, 1, .rl, []⟩
def SAC_DATA_WORD : Fld := ⟨.SAC_DATA, 31, 0, .rw, []⟩
def BPM_CTRL_CAP_BAD : Fld := ⟨.BPM_CTRL, 0, 0, .rwk, []⟩
def BPM_CTRL_HOST_BAD : Fld := ⟨.BPM_CTRL, 1, 1, .rwk, []⟩
def BPM_CTRL_RECLAIM_PERIOD : Fld := ⟨.BPM_CTRL, 31, 16, .rwk, []⟩
def BPM_STATUS_RECLAIM_BUSY : Fld := ⟨.BPM_STATUS, 0, 0, .rl, []⟩
def BPM_STATUS_RESERVE_A_IN_USE : Fld := ⟨.BPM_STATUS, 1, 1, .rl, []⟩
def BPM_STATUS_RESERVE_B_IN_USE : Fld := ⟨.BPM_STATUS, 2, 2, .rl, []⟩
def BPM_STATUS_MIN_OVER : Fld := ⟨.BPM_STATUS, 3, 3, .rl, []⟩
def BPM_STATUS_CARVE_BUSY : Fld := ⟨.BPM_STATUS, 4, 4, .rl, []⟩
def BPM_STATUS_RETIRED : Fld := ⟨.BPM_STATUS, 31, 16, .rl, []⟩
def BPM_EVENT_WARN : Fld := ⟨.BPM_EVENT, 0, 0, .rsq, []⟩
def BPM_EVENT_XOFF : Fld := ⟨.BPM_EVENT, 1, 1, .rsq, []⟩
def BPM_EVENT_QUOTA_DROP : Fld := ⟨.BPM_EVENT, 2, 2, .rsq, []⟩
def BPM_EVENT_POOL_EMPTY : Fld := ⟨.BPM_EVENT, 3, 3, .rsq, []⟩
def BPM_EVENT_RESERVE_USED : Fld := ⟨.BPM_EVENT, 4, 4, .rsq, []⟩
def BPM_EVENT_RESERVE_EXHAUSTED : Fld := ⟨.BPM_EVENT, 5, 5, .rsq, []⟩
def BPM_EVENT_ECC_CORR : Fld := ⟨.BPM_EVENT, 6, 6, .rsq, []⟩
def BPM_EVENT_ECC_UNCORR : Fld := ⟨.BPM_EVENT, 7, 7, .rsq, []⟩
def BPM_EVENT_ICRC_FAIL : Fld := ⟨.BPM_EVENT, 8, 8, .rsq, []⟩
def BPM_EVENT_LINK_ECC : Fld := ⟨.BPM_EVENT, 9, 9, .rsq, []⟩
def BPM_EVENT_BITMAP_PARITY : Fld := ⟨.BPM_EVENT, 10, 10, .rsq, []⟩
def BPM_EVENT_EDIT_PARITY : Fld := ⟨.BPM_EVENT, 11, 11, .rsq, []⟩
def BPM_EVENT_EDIT_PATH_PARITY : Fld := ⟨.BPM_EVENT, 12, 12, .rsq, []⟩
def BPM_EVENT_MC_PARTIAL_DROP : Fld := ⟨.BPM_EVENT, 13, 13, .rsq, []⟩
def BPM_EVENT_CARVE_DONE : Fld := ⟨.BPM_EVENT, 14, 14, .rsq, []⟩
def BPM_EVENT_CARVE_REFUSED : Fld := ⟨.BPM_EVENT, 15, 15, .rsq, []⟩
def BPM_EVENT_REFCNT_LOST : Fld := ⟨.BPM_EVENT, 16, 16, .rsq, []⟩
def BPM_EVENT_BUF_RETIRED : Fld := ⟨.BPM_EVENT, 17, 17, .rsq, []⟩
def CARVE_P0_MIB : Fld := ⟨.CARVE, 5, 0, .rwk, [(2, 60)]⟩
def CARVE_P1_MIB : Fld := ⟨.CARVE, 13, 8, .rwk, [(2, 60)]⟩
def CARVE_P2_MIB : Fld := ⟨.CARVE, 21, 16, .rwk, [(0, 60)]⟩
def CARVE_P3_MIB : Fld := ⟨.CARVE, 29, 24, .rwk, [(0, 60)]⟩
def CARVE_CMD_CARVE_APPLY : Fld := ⟨.CARVE_CMD, 0, 0, .w1p, []⟩
def POOL_FREE_COUNT : Fld := ⟨.POOL_FREE, 31, 0, .ro, []⟩
def COMMON_FREE_COUNT : Fld := ⟨.COMMON_FREE, 31, 0, .ro, []⟩
def RESERVE_FREE_COUNT : Fld := ⟨.RESERVE_FREE, 31, 0, .ro, []⟩
def ECC_CORR_CNT_COUNT : Fld := ⟨.ECC_CORR_CNT, 31, 0, .ro, []⟩
def ECC_UNCORR_CNT_COUNT : Fld := ⟨.ECC_UNCORR_CNT, 31, 0, .ro, []⟩
def ECC_LAST_ADDR_ADDR : Fld := ⟨.ECC_LAST_ADDR, 22, 0, .ro, []⟩
def ECC_LAST_ADDR_UNCORR : Fld := ⟨.ECC_LAST_ADDR, 31, 31, .ro, []⟩
def QP_MIN_MIN : Fld := ⟨.QP_MIN, 17, 0, .rwk, []⟩
def QP_MIN_ALPHA : Fld := ⟨.QP_MIN, 21, 18, .rwk, [(0, 9)]⟩
def QP_MAX_MAX : Fld := ⟨.QP_MAX, 18, 0, .rwk, []⟩
def QP_FC_HEADROOM : Fld := ⟨.QP_FC, 15, 0, .rwk, []⟩
def QP_FC_XON_HYST : Fld := ⟨.QP_FC, 31, 16, .rwk, []⟩
def QP_WARN_WARN_PCT : Fld := ⟨.QP_WARN, 6, 0, .rwk, [(1, 100)]⟩
def ACCT_BIND_PROFILE : Fld := ⟨.ACCT_BIND, 3, 0, .rwk, []⟩
def ACCT_BIND_LOSSLESS : Fld := ⟨.ACCT_BIND, 4, 4, .rwk, []⟩
def ACCT_USED_U : Fld := ⟨.ACCT_USED, 18, 0, .ro, []⟩
def PORT_FC_FC_MODE : Fld := ⟨.PORT_FC, 1, 0, .rwk, [(0, 2)]⟩
def PORT_FC_PAUSE_QUANTA : Fld := ⟨.PORT_FC, 31, 16, .rwk, []⟩
def TM_STATUS_DESC_FREE : Fld := ⟨.TM_STATUS, 17, 0, .rl, []⟩
def TM_STATUS_DESC_RESERVE_IN_USE : Fld := ⟨.TM_STATUS, 18, 18, .rl, []⟩
def TM_EVENT_DESC_EMPTY : Fld := ⟨.TM_EVENT, 0, 0, .rsq, []⟩
def TM_EVENT_GATE_OVERRUN : Fld := ⟨.TM_EVENT, 1, 1, .rsq, []⟩
def TM_EVENT_GATE_TOO_LONG : Fld := ⟨.TM_EVENT, 2, 2, .rsq, []⟩
def TM_EVENT_TAKEOVER_DONE : Fld := ⟨.TM_EVENT, 3, 3, .rsq, []⟩
def TM_EVENT_TAKEOVER_LATE : Fld := ⟨.TM_EVENT, 4, 4, .rsq, []⟩
def TM_EVENT_CL_PARITY : Fld := ⟨.TM_EVENT, 5, 5, .rsq, []⟩
def TM_EVENT_POLICER_PARITY : Fld := ⟨.TM_EVENT, 6, 6, .rsq, []⟩
def TM_EVENT_LIMIT_DROP : Fld := ⟨.TM_EVENT, 7, 7, .rsq, []⟩
def TM_EVENT_WRED_DROP : Fld := ⟨.TM_EVENT, 8, 8, .rsq, []⟩
def TM_EVENT_DESC_RESERVE_USED : Fld := ⟨.TM_EVENT, 9, 9, .rsq, []⟩
def MIR_CFG_DEST : Fld := ⟨.MIR_CFG, 8, 0, .rwk, [(0, 257)]⟩
def MIR_CFG_MIR_TC : Fld := ⟨.MIR_CFG, 11, 9, .rwk, [(0, 6)]⟩
def MIR_CFG_EN : Fld := ⟨.MIR_CFG, 12, 12, .rwk, []⟩
def WRED_CFG_WEIGHT : Fld := ⟨.WRED_CFG, 3, 0, .rwk, []⟩
def WRED_MIN_MIN_TH : Fld := ⟨.WRED_MIN, 18, 0, .rwk, []⟩
def WRED_MAX_MAX_TH : Fld := ⟨.WRED_MAX, 18, 0, .rwk, []⟩
def WRED_MAX_MAX_P : Fld := ⟨.WRED_MAX, 26, 19, .rwk, []⟩
def Q_CFG_QUANTUM : Fld := ⟨.Q_CFG, 15, 0, .rwk, [(64, 65535)]⟩
def Q_CFG_WRED_PROF : Fld := ⟨.Q_CFG, 19, 16, .rwk, []⟩
def Q_CFG_WRED_EN : Fld := ⟨.Q_CFG, 20, 20, .rwk, []⟩
def Q_CFG_CBS_EN : Fld := ⟨.Q_CFG, 21, 21, .rwk, []⟩
def Q_CFG_TBS_EN : Fld := ⟨.Q_CFG, 22, 22, .rwk, []⟩
def Q_CFG_MIR_SESSION : Fld := ⟨.Q_CFG, 25, 23, .rwk, []⟩
def Q_LIMIT_Q_LIMIT : Fld := ⟨.Q_LIMIT, 18, 0, .rwk, []⟩
def Q_CBS_IDLE_KBPS : Fld := ⟨.Q_CBS_IDLE, 31, 0, .rwk, []⟩
def Q_CBS_CREDIT_HI_CREDIT : Fld := ⟨.Q_CBS_CREDIT, 15, 0, .rwk, []⟩
def Q_CBS_CREDIT_LO_CREDIT : Fld := ⟨.Q_CBS_CREDIT, 31, 16, .rwk, []⟩
def Q_TBS_RATE_KBPS : Fld := ⟨.Q_TBS_RATE, 31, 0, .rwk, []⟩
def Q_TBS_BURST_BYTES : Fld := ⟨.Q_TBS_BURST, 23, 0, .rwk, []⟩
def Q_DEPTH_CELLS : Fld := ⟨.Q_DEPTH, 18, 0, .ro, []⟩
def TM_PORT_CFG_SP_LEVEL : Fld := ⟨.TM_PORT_CFG, 2, 0, .rwk, []⟩
def TM_PORT_CFG_OVERHEAD : Fld := ⟨.TM_PORT_CFG, 10, 4, .rwk, [(0, 63), (96, 127)]⟩
def TM_PORT_CFG_PAUSE_EXEMPT : Fld := ⟨.TM_PORT_CFG, 22, 16, .rwk, []⟩
def TM_PORT_CFG_PAUSE_EXEMPT7 : Fld := ⟨.TM_PORT_CFG, 23, 23, .ro, []⟩
def TM_PORT_GATE_GATE_EN : Fld := ⟨.TM_PORT_GATE, 0, 0, .rwk, []⟩
def TM_PORT_GATE_GATE_LA : Fld := ⟨.TM_PORT_GATE, 1, 1, .rwk, []⟩
def TM_PORT_GATE_GUARD_EN : Fld := ⟨.TM_PORT_GATE, 2, 2, .rwk, []⟩
def TM_PORT_GATE_HOLD_ADVANCE : Fld := ⟨.TM_PORT_GATE, 15, 4, .rwk, []⟩
def TM_PORT_STATUS_GATES : Fld := ⟨.TM_PORT_STATUS, 7, 0, .rl, []⟩
def TM_PORT_STATUS_HOLD : Fld := ⟨.TM_PORT_STATUS, 8, 8, .rl, []⟩
def TM_PORT_STATUS_ARMED : Fld := ⟨.TM_PORT_STATUS, 9, 9, .rl, []⟩
def TM_PORT_STATUS_OPER_VALID : Fld := ⟨.TM_PORT_STATUS, 10, 10, .rl, []⟩
def TM_PORT_STATUS_PAUSED : Fld := ⟨.TM_PORT_STATUS, 18, 11, .rl, []⟩
def TM_PORT_STATUS_EXPRESS_RESTRICT : Fld := ⟨.TM_PORT_STATUS, 19, 19, .rl, []⟩
def TM_PORT_STATUS_ENTRY : Fld := ⟨.TM_PORT_STATUS, 27, 20, .rl, []⟩
def TM_PORT_STATUS_PROTECTED : Fld := ⟨.TM_PORT_STATUS, 28, 28, .rl, []⟩
def CL_ADMIN_BASE_0_LOW : Fld := ⟨.CL_ADMIN_BASE_0, 31, 0, .rwk, []⟩
def CL_ADMIN_BASE_1_HIGH : Fld := ⟨.CL_ADMIN_BASE_1, 23, 0, .rwk, []⟩
def CL_ADMIN_CYCLE_0_NS : Fld := ⟨.CL_ADMIN_CYCLE_0, 29, 0, .rwk, [(8, 1000000000)]⟩
def CL_ADMIN_CYCLE_1_FRAC : Fld := ⟨.CL_ADMIN_CYCLE_1, 15, 0, .rwk, []⟩
def CL_ADMIN_LEN_LEN : Fld := ⟨.CL_ADMIN_LEN, 8, 0, .rwk, [(1, 256)]⟩
def CL_CMD_ARM : Fld := ⟨.CL_CMD, 0, 0, .w1p, []⟩
def CL_CMD_DISARM : Fld := ⟨.CL_CMD, 1, 1, .w1p, []⟩
def CL_TAKEOVER_WORD : Fld := ⟨.CL_TAKEOVER, 31, 0, .ro, []⟩
def TM_SEL_TBL : Fld := ⟨.TM_SEL, 1, 0, .rw, [(0, 2)]⟩
def TM_SEL_INDEX : Fld := ⟨.TM_SEL, 17, 2, .rw, []⟩
def TM_CMD_READ : Fld := ⟨.TM_CMD, 0, 0, .w1p, []⟩
def TM_CMD_WRITE : Fld := ⟨.TM_CMD, 1, 1, .w1p, []⟩
def TM_ACC_STATUS_BUSY : Fld := ⟨.TM_ACC_STATUS, 0, 0, .rl, []⟩
def TM_ACC_STATUS_RESULT : Fld := ⟨.TM_ACC_STATUS, 2, 1, .rl, []⟩
def TM_DATA_WORD : Fld := ⟨.TM_DATA, 31, 0, .rw, []⟩
def STAGE_CTRL_RECIRC_MAX : Fld := ⟨.STAGE_CTRL, 1, 0, .rwk, []⟩
def STAGE_CTRL_SAMPLE_TC : Fld := ⟨.STAGE_CTRL, 4, 2, .rwk, []⟩
def STAGE_CTRL_SUPV_LAST_BYTE : Fld := ⟨.STAGE_CTRL, 12, 5, .rwk, []⟩
def STAGE_CTRL_LIFE_CHECK : Fld := ⟨.STAGE_CTRL, 31, 16, .rwk, [(100, 65535)]⟩
def STAGE_STATUS_RUNNING : Fld := ⟨.STAGE_STATUS, 15, 0, .rl, []⟩
def STAGE_STATUS_FAULTED : Fld := ⟨.STAGE_STATUS, 31, 16, .rl, []⟩
def STAGE_EVENT_QUEUE_FULL : Fld := ⟨.STAGE_EVENT, 0, 0, .rsq, []⟩
def STAGE_EVENT_PROG_OVERRUN : Fld := ⟨.STAGE_EVENT, 1, 1, .rsq, []⟩
def STAGE_EVENT_ENGINE_FAULT : Fld := ⟨.STAGE_EVENT, 2, 2, .rsq, []⟩
def STAGE_EVENT_PROG_ABSENT : Fld := ⟨.STAGE_EVENT, 3, 3, .rsq, []⟩
def STAGE_EVENT_RECIRC_LOOP : Fld := ⟨.STAGE_EVENT, 4, 4, .rsq, []⟩
def STAGE_EVENT_SUPV_LATE : Fld := ⟨.STAGE_EVENT, 5, 5, .rsq, []⟩
def STAGE_EVENT_PROFILE_FULL : Fld := ⟨.STAGE_EVENT, 6, 6, .rsq, []⟩
def STAGE_EVENT_SAMPLE_DROP : Fld := ⟨.STAGE_EVENT, 7, 7, .rsq, []⟩
def PIN_SEL_PROGRAM : Fld := ⟨.PIN_SEL, 5, 0, .rw, []⟩
def PIN_SEL_ENTRY : Fld := ⟨.PIN_SEL, 15, 8, .rw, []⟩
def PIN_DATA_ENGINE : Fld := ⟨.PIN_DATA, 6, 0, .rw, []⟩
def PIN_DATA_PENDING : Fld := ⟨.PIN_DATA, 8, 8, .ro, []⟩
def SUPV_EN_PAIRS : Fld := ⟨.SUPV_EN, 31, 0, .rwk, []⟩
def CL_CFG_STEP : Fld := ⟨.CL_CFG, 2, 0, .rwk, [(0, 4)]⟩
def PROG_CFG_CL_MASK : Fld := ⟨.PROG_CFG, 15, 0, .rwk, []⟩
def PROG_CFG_LOADED : Fld := ⟨.PROG_CFG, 16, 16, .ro, []⟩
def PROG_CFG_DEFAULT : Fld := ⟨.PROG_CFG, 19, 17, .ro, []⟩
def PROG_CFG_VERSION : Fld := ⟨.PROG_CFG, 31, 20, .ro, []⟩
def ENG_STATUS_QUEUE_LEVEL : Fld := ⟨.ENG_STATUS, 6, 0, .rl, []⟩
def ENG_STATUS_BUSY : Fld := ⟨.ENG_STATUS, 7, 7, .rl, []⟩
def ENG_STATUS_STOPPED : Fld := ⟨.ENG_STATUS, 8, 8, .rl, []⟩
def SAMPLER_CFG_N : Fld := ⟨.SAMPLER_CFG, 23, 0, .rwk, [(1, 16777215)]⟩
def SAMPLER_CFG_RANDOM : Fld := ⟨.SAMPLER_CFG, 24, 24, .rwk, []⟩
def SAMPLER_CFG_SAMPLE_EN : Fld := ⟨.SAMPLER_CFG, 25, 25, .rwk, []⟩
def SAMPLER_CFG_SAMPLE_RING : Fld := ⟨.SAMPLER_CFG, 31, 26, .rwk, []⟩
def FOLIO_CTRL_BIFURCATION : Fld := ⟨.FOLIO_CTRL, 1, 0, .rwk, [(0, 2)]⟩
def FOLIO_CTRL_CAP_DUP : Fld := ⟨.FOLIO_CTRL, 2, 2, .rwk, []⟩
def FOLIO_CTRL_PIN_LIMIT : Fld := ⟨.FOLIO_CTRL, 13, 8, .rwk, [(1, 50)]⟩
def FOLIO_CTRL_SHED_HI : Fld := ⟨.FOLIO_CTRL, 22, 16, .rwk, [(1, 100)]⟩
def FOLIO_CTRL_RB_RATE : Fld := ⟨.FOLIO_CTRL, 28, 24, .rwk, [(1, 31)]⟩
def FOLIO_STATUS_STATE : Fld := ⟨.FOLIO_STATUS, 1, 0, .rl, []⟩
def FOLIO_STATUS_DRIVES : Fld := ⟨.FOLIO_STATUS, 5, 2, .rl, []⟩
def FOLIO_STATUS_SHED_LEVEL : Fld := ⟨.FOLIO_STATUS, 8, 6, .rl, []⟩
def FOLIO_STATUS_FILL : Fld := ⟨.FOLIO_STATUS, 15, 9, .rl, []⟩
def FOLIO_STATUS_SHED_LO : Fld := ⟨.FOLIO_STATUS, 22, 16, .rl, []⟩
def FOLIO_STATUS_WINDOWS : Fld := ⟨.FOLIO_STATUS, 29, 23, .rl, []⟩
def FOLIO_EVENT_SHED_UP : Fld := ⟨.FOLIO_EVENT, 0, 0, .rsq, []⟩
def FOLIO_EVENT_OVERRUN : Fld := ⟨.FOLIO_EVENT, 1, 1, .rsq, []⟩
def FOLIO_EVENT_PIN_SET : Fld := ⟨.FOLIO_EVENT, 2, 2, .rsq, []⟩
def FOLIO_EVENT_PIN_TRUNCATED : Fld := ⟨.FOLIO_EVENT, 3, 3, .rsq, []⟩
def FOLIO_EVENT_PIN_REFUSED : Fld := ⟨.FOLIO_EVENT, 4, 4, .rsq, []⟩
def FOLIO_EVENT_DRIVE_LOST : Fld := ⟨.FOLIO_EVENT, 5, 5, .rsq, []⟩
def FOLIO_EVENT_PIN_DAMAGED : Fld := ⟨.FOLIO_EVENT, 6, 6, .rsq, []⟩
def FOLIO_EVENT_WRITE_ERROR : Fld := ⟨.FOLIO_EVENT, 7, 7, .rsq, []⟩
def FOLIO_EVENT_READ_OVERWRITTEN : Fld := ⟨.FOLIO_EVENT, 8, 8, .rsq, []⟩
def SEG_SEQ_WORD : Fld := ⟨.SEG_SEQ, 31, 0, .ro, []⟩
def RING_SEGMENTS_COUNT : Fld := ⟨.RING_SEGMENTS, 31, 0, .ro, []⟩
def PINNED_COUNT : Fld := ⟨.PINNED, 31, 0, .ro, []⟩
def CLASS_CFG_SNAP_LEN : Fld := ⟨.CLASS_CFG, 5, 0, .rwk, [(0, 0), (8, 32)]⟩
def SHED_COUNT : Fld := ⟨.SHED, 31, 0, .ro, []⟩
def OVERRUN_COUNT : Fld := ⟨.OVERRUN, 31, 0, .ro, []⟩
def DRIVE_STATUS_DSTATE : Fld := ⟨.DRIVE_STATUS, 1, 0, .rl, []⟩
def DRIVE_STATUS_LINK_WIDTH : Fld := ⟨.DRIVE_STATUS, 4, 2, .rl, []⟩
def DRIVE_STATUS_LINK_SPEED : Fld := ⟨.DRIVE_STATUS, 6, 5, .rl, []⟩
def DRIVE_STATUS_MEDIA_WEAR : Fld := ⟨.DRIVE_STATUS, 14, 7, .rl, []⟩
def FOLIO_PORT_CAP_ING_CLASS : Fld := ⟨.FOLIO_PORT_CAP, 2, 0, .rwk, []⟩
def FOLIO_PORT_CAP_TC_MASK : Fld := ⟨.FOLIO_PORT_CAP, 10, 3, .rwk, []⟩
def HOST_STATUS_FROZEN : Fld := ⟨.HOST_STATUS, 7, 0, .rl, []⟩
def HOST_STATUS_FLR_BUSY : Fld := ⟨.HOST_STATUS, 15, 8, .rl, []⟩
def HOST_STATUS_LINK_WIDTH : Fld := ⟨.HOST_STATUS, 18, 16, .rl, []⟩
def HOST_STATUS_LINK_SPEED : Fld := ⟨.HOST_STATUS, 20, 19, .rl, []⟩
def HOST_EVENT_DB_INVALID : Fld := ⟨.HOST_EVENT, 0, 0, .rsq, []⟩
def HOST_EVENT_CHAIN_ERR : Fld := ⟨.HOST_EVENT, 1, 1, .rsq, []⟩
def HOST_EVENT_CQ_HALT : Fld := ⟨.HOST_EVENT, 2, 2, .rsq, []⟩
def HOST_EVENT_RX_RING_DROP : Fld := ⟨.HOST_EVENT, 3, 3, .rsq, []⟩
def HOST_EVENT_DMA_ERR : Fld := ⟨.HOST_EVENT, 4, 4, .rsq, []⟩
def HOST_EVENT_CFG_REFUSED : Fld := ⟨.HOST_EVENT, 5, 5, .rsq, []⟩
def HOST_EVENT_FLR_DONE : Fld := ⟨.HOST_EVENT, 6, 6, .rsq, []⟩
def HOST_EVENT_PCIE_LINK_DOWN : Fld := ⟨.HOST_EVENT, 7, 7, .rsq, []⟩
def FUNC_PERM_CFG_WRITE : Fld := ⟨.FUNC_PERM, 0, 0, .rwk, []⟩
def FUNC_PERM_DIRECT_EN : Fld := ⟨.FUNC_PERM, 1, 1, .rwk, []⟩
def WIN_LO_EN : Fld := ⟨.WIN_LO, 0, 0, .rwk, []⟩
def WIN_LO_RD : Fld := ⟨.WIN_LO, 1, 1, .rwk, []⟩
def WIN_LO_WR : Fld := ⟨.WIN_LO, 2, 2, .rwk, []⟩
def WIN_LO_LOG2SIZE : Fld := ⟨.WIN_LO, 8, 3, .rwk, [(12, 48)]⟩
def WIN_LO_BASE : Fld := ⟨.WIN_LO, 31, 12, .rwk, []⟩
def WIN_HI_BASE : Fld := ⟨.WIN_HI, 31, 0, .rwk, []⟩
def HOST_RX_MAP_RING_0 : Fld := ⟨.HOST_RX_MAP, 5, 0, .rwk, []⟩
def HOST_RX_MAP_EN_0 : Fld := ⟨.HOST_RX_MAP, 7, 7, .rwk, []⟩
def HOST_RX_MAP_RING_1 : Fld := ⟨.HOST_RX_MAP, 13, 8, .rwk, []⟩
def HOST_RX_MAP_EN_1 : Fld := ⟨.HOST_RX_MAP, 15, 15, .rwk, []⟩
def HOST_RX_MAP_RING_2 : Fld := ⟨.HOST_RX_MAP, 21, 16, .rwk, []⟩
def HOST_RX_MAP_EN_2 : Fld := ⟨.HOST_RX_MAP, 23, 23, .rwk, []⟩
def HOST_RX_MAP_RING_3 : Fld := ⟨.HOST_RX_MAP, 29, 24, .rwk, []⟩
def HOST_RX_MAP_EN_3 : Fld := ⟨.HOST_RX_MAP, 31, 31, .rwk, []⟩
def RING_BASE_LO_ADDR : Fld := ⟨.RING_BASE_LO, 31, 12, .rw, []⟩
def RING_BASE_HI_ADDR : Fld := ⟨.RING_BASE_HI, 31, 0, .rw, []⟩
def RING_CFG_EN : Fld := ⟨.RING_CFG, 0, 0, .rw, []⟩
def RING_CFG_LOG2SIZE : Fld := ⟨.RING_CFG, 4, 1, .rw, [(4, 15)]⟩
def RING_CFG_MODE : Fld := ⟨.RING_CFG, 5, 5, .rw, []⟩
def RING_CFG_CQ : Fld := ⟨.RING_CFG, 8, 6, .rw, []⟩
def RING_CFG_POLL_INTERVAL : Fld := ⟨.RING_CFG, 22, 9, .rw, [(1, 10000)]⟩
def RING_CFG_META_EN : Fld := ⟨.RING_CFG, 23, 23, .rw, []⟩
def RING_CFG_CMD_CHAN : Fld := ⟨.RING_CFG, 24, 24, .rw, []⟩
def RING_DB_INDEX : Fld := ⟨.RING_DB, 15, 0, .rw, []⟩
def RING_CONS_INDEX : Fld := ⟨.RING_CONS, 15, 0, .ro, []⟩
def RING_STATUS_ACTIVE : Fld := ⟨.RING_STATUS, 0, 0, .rl, []⟩
def RING_STATUS_HALTED : Fld := ⟨.RING_STATUS, 1, 1, .rl, []⟩
def RING_STATUS_CHAIN_OPEN : Fld := ⟨.RING_STATUS, 2, 2, .rl, []⟩
def RING_STATUS_OWNER_FROZEN : Fld := ⟨.RING_STATUS, 3, 3, .rl, []⟩
def RING_OWNER_FUNC : Fld := ⟨.RING_OWNER, 2, 0, .rwk, []⟩
def CQ_BASE_LO_ADDR : Fld := ⟨.CQ_BASE_LO, 31, 12, .rw, []⟩
def CQ_BASE_HI_ADDR : Fld := ⟨.CQ_BASE_HI, 31, 0, .rw, []⟩
def CQ_CFG_EN : Fld := ⟨.CQ_CFG, 0, 0, .rw, []⟩
def CQ_CFG_LOG2SIZE : Fld := ⟨.CQ_CFG, 4, 1, .rw, [(4, 15)]⟩
def CQ_CFG_VECTOR : Fld := ⟨.CQ_CFG, 8, 5, .rw, []⟩
def CQ_CFG_INT_COUNT : Fld := ⟨.CQ_CFG, 16, 9, .rw, [(1, 255)]⟩
def CQ_CFG_INT_TIME : Fld := ⟨.CQ_CFG, 31, 17, .rw, []⟩
def CQ_CONS_INDEX : Fld := ⟨.CQ_CONS, 15, 0, .rw, []⟩
def CQ_PROD_INDEX : Fld := ⟨.CQ_PROD, 15, 0, .ro, []⟩
def CQ_STATUS_STASH : Fld := ⟨.CQ_STATUS, 3, 0, .rl, []⟩
def CQ_STATUS_FULL : Fld := ⟨.CQ_STATUS, 4, 4, .rl, []⟩
def CQ_STATUS_HALTING : Fld := ⟨.CQ_STATUS, 5, 5, .rl, []⟩
def CQ_STATUS_RSV : Fld := ⟨.CQ_STATUS, 31, 16, .rl, []⟩
def CQ_OWNER_FUNC : Fld := ⟨.CQ_OWNER, 2, 0, .rwk, []⟩
def MBOX_STATUS_NOT_EMPTY : Fld := ⟨.MBOX_STATUS, 31, 0, .rl, []⟩
def MBOX_EVENT_POST_REFUSED : Fld := ⟨.MBOX_EVENT, 0, 0, .rsq, []⟩
def MBOX_EVENT_STALE_MARKED : Fld := ⟨.MBOX_EVENT, 1, 1, .rsq, []⟩
def MB_CFG_PRIO : Fld := ⟨.MB_CFG, 1, 0, .rwk, []⟩
def MB_CFG_RX_CORE : Fld := ⟨.MB_CFG, 3, 2, .rwk, []⟩
def MB_CFG_SENDER : Fld := ⟨.MB_CFG, 8, 4, .rwk, []⟩
def MB_CFG_VECTOR : Fld := ⟨.MB_CFG, 12, 9, .rwk, []⟩
def MB_STAGE_WORD : Fld := ⟨.MB_STAGE, 31, 0, .wo, []⟩
def MB_POST_HEADER : Fld := ⟨.MB_POST, 31, 0, .wo, []⟩
def MB_REQ_STATUS_FREE : Fld := ⟨.MB_REQ_STATUS, 4, 0, .rl, []⟩
def MB_REQ_STATUS_SEND_EPOCH : Fld := ⟨.MB_REQ_STATUS, 8, 5, .rl, []⟩
def MB_RSP_HDR_HEADER : Fld := ⟨.MB_RSP_HDR, 31, 0, .ro, []⟩
def MB_RSP_DATA_WORD : Fld := ⟨.MB_RSP_DATA, 31, 0, .ro, []⟩
def MB_RSP_STATUS_WORDS : Fld := ⟨.MB_RSP_STATUS, 4, 0, .rl, []⟩
def MB_RSP_STATUS_HEAD_VALID : Fld := ⟨.MB_RSP_STATUS, 5, 5, .rl, []⟩
def MB_RSP_STATUS_HEAD_STALE : Fld := ⟨.MB_RSP_STATUS, 6, 6, .rl, []⟩
def MB_RSP_POP_POP : Fld := ⟨.MB_RSP_POP, 0, 0, .w1p, []⟩
def MB_EVENT_ARRIVED : Fld := ⟨.MB_EVENT, 0, 0, .rsq, []⟩
def MB_EVENT_TAKEN : Fld := ⟨.MB_EVENT, 1, 1, .rsq, []⟩
def MB_EVENT_POST_REFUSED : Fld := ⟨.MB_EVENT, 2, 2, .rsq, []⟩
def PROMPTER_CTRL_SESSION_IDLE : Fld := ⟨.PROMPTER_CTRL, 15, 0, .rwk, []⟩
def PROMPTER_CTRL_CONFIRM_TIME : Fld := ⟨.PROMPTER_CTRL, 25, 16, .rwk, [(60, 1023)]⟩
def PROMPTER_CTRL_AUTO_APPLY : Fld := ⟨.PROMPTER_CTRL, 26, 26, .rwk, []⟩
def PROMPTER_STATUS_BOOT_STATE : Fld := ⟨.PROMPTER_STATUS, 1, 0, .rl, []⟩
def PROMPTER_STATUS_SLOT : Fld := ⟨.PROMPTER_STATUS, 2, 2, .rl, []⟩
def PROMPTER_STATUS_TRIAL : Fld := ⟨.PROMPTER_STATUS, 3, 3, .rl, []⟩
def PROMPTER_STATUS_FALLBACK : Fld := ⟨.PROMPTER_STATUS, 4, 4, .rl, []⟩
def PROMPTER_STATUS_DEGRADED : Fld := ⟨.PROMPTER_STATUS, 5, 5, .rl, []⟩
def PROMPTER_STATUS_CORE_UP : Fld := ⟨.PROMPTER_STATUS, 9, 6, .rl, []⟩
def PROMPTER_STATUS_CFG_STATE : Fld := ⟨.PROMPTER_STATUS, 11, 10, .rl, []⟩
def PROMPTER_EVENT_CORE_RESET : Fld := ⟨.PROMPTER_EVENT, 0, 0, .rsq, []⟩
def PROMPTER_EVENT_PROMPTER_RESTART : Fld := ⟨.PROMPTER_EVENT, 1, 1, .rsq, []⟩
def PROMPTER_EVENT_BOOT_FALLBACK : Fld := ⟨.PROMPTER_EVENT, 2, 2, .rsq, []⟩
def PROMPTER_EVENT_SRAM_ECC_CORR : Fld := ⟨.PROMPTER_EVENT, 3, 3, .rsq, []⟩
def PROMPTER_EVENT_SRAM_ECC_UNCORR : Fld := ⟨.PROMPTER_EVENT, 4, 4, .rsq, []⟩
def PROMPTER_EVENT_LOAD_SHED : Fld := ⟨.PROMPTER_EVENT, 5, 5, .rsq, []⟩
def PROMPTER_EVENT_AUTH_FAIL : Fld := ⟨.PROMPTER_EVENT, 6, 6, .rsq, []⟩
def PROMPTER_EVENT_CORE0_OVERLOAD : Fld := ⟨.PROMPTER_EVENT, 7, 7, .rsq, []⟩
def PROMPTER_EVENT_DEGRADED : Fld := ⟨.PROMPTER_EVENT, 8, 8, .rsq, []⟩
def PROMPTER_EVENT_FW_REVERTED : Fld := ⟨.PROMPTER_EVENT, 9, 9, .rsq, []⟩
def PROMPTER_CMD_RESTART : Fld := ⟨.PROMPTER_CMD, 0, 0, .w1p, []⟩
def FW_VERSION_VERSION : Fld := ⟨.FW_VERSION, 31, 0, .ro, []⟩
def FW_SVN_IMAGE : Fld := ⟨.FW_SVN, 15, 0, .ro, []⟩
def FW_SVN_OTP : Fld := ⟨.FW_SVN, 31, 16, .ro, []⟩
def BOOT_TIME_TIME : Fld := ⟨.BOOT_TIME, 31, 0, .ro, []⟩
def CORE_LOAD_LOAD : Fld := ⟨.CORE_LOAD, 7, 0, .ro, []⟩
def CORE_LOAD_PENDING : Fld := ⟨.CORE_LOAD, 14, 8, .ro, []⟩
def CORE_LOAD_SERVICE : Fld := ⟨.CORE_LOAD, 31, 16, .ro, []⟩
def FROZEN_MASTERS_FROZEN : Fld := ⟨.FROZEN_MASTERS, 29, 0, .rl, []⟩
def VIOL_INFO_MASTER : Fld := ⟨.VIOL_INFO, 4, 0, .ro, []⟩
def VIOL_INFO_KIND : Fld := ⟨.VIOL_INFO, 7, 5, .ro, []⟩
def VIOL_INFO_COUNT : Fld := ⟨.VIOL_INFO, 31, 8, .ro, []⟩
def VIOL_ADDR_ADDR : Fld := ⟨.VIOL_ADDR, 31, 0, .ro, []⟩
def VIOL_DATA_DATA : Fld := ⟨.VIOL_DATA, 31, 0, .ro, []⟩
def SRAM_ECC_CORR_COUNT : Fld := ⟨.SRAM_ECC_CORR, 31, 0, .ro, []⟩
def SRAM_ECC_UNCORR_COUNT : Fld := ⟨.SRAM_ECC_UNCORR, 31, 0, .ro, []⟩
def BOOK_CFG_MODE : Fld := ⟨.BOOK_CFG, 0, 0, .rwk, []⟩
def BOOK_CFG_RECORD_MIN_SEV : Fld := ⟨.BOOK_CFG, 3, 1, .rwk, []⟩
def BOOK_CFG_CURTAIN_LIMIT : Fld := ⟨.BOOK_CFG, 21, 16, .rwk, [(1, 60)]⟩
def BOOK_STATUS_MODE_ACTIVE : Fld := ⟨.BOOK_STATUS, 0, 0, .rl, []⟩
def BOOK_STATUS_MODE_PENDING : Fld := ⟨.BOOK_STATUS, 1, 1, .rl, []⟩
def BOOK_STATUS_CURTAIN : Fld := ⟨.BOOK_STATUS, 2, 2, .rl, []⟩
def BOOK_STATUS_STAGING : Fld := ⟨.BOOK_STATUS, 3, 3, .rl, []⟩
def BOOK_STATUS_FULL : Fld := ⟨.BOOK_STATUS, 4, 4, .rl, []⟩
def BOOK_STATUS_HELD : Fld := ⟨.BOOK_STATUS, 9, 5, .rl, []⟩
def BOOK_EVENT_FULL_REACHED : Fld := ⟨.BOOK_EVENT, 0, 0, .rsq, []⟩
def BOOK_EVENT_DROPPED : Fld := ⟨.BOOK_EVENT, 1, 1, .rsq, []⟩
def BOOK_EVENT_HOLD_DROPPED : Fld := ⟨.BOOK_EVENT, 2, 2, .rsq, []⟩
def BOOK_EVENT_CLEARED : Fld := ⟨.BOOK_EVENT, 3, 3, .rsq, []⟩
def BOOK_EVENT_CURTAIN_FORCED : Fld := ⟨.BOOK_EVENT, 4, 4, .rsq, []⟩
def BOOK_EVENT_SLOTS_LOST : Fld := ⟨.BOOK_EVENT, 5, 5, .rsq, []⟩
def BOOK_CMD_CURTAIN_UP : Fld := ⟨.BOOK_CMD, 0, 0, .w1p, []⟩
def BOOK_CMD_CURTAIN_DOWN : Fld := ⟨.BOOK_CMD, 1, 1, .w1p, []⟩
def BOOK_CMD_CLEAR : Fld := ⟨.BOOK_CMD, 2, 2, .w1p, []⟩
def BOOK_CMD_CLR_CHAN : Fld := ⟨.BOOK_CMD, 15, 8, .wo, []⟩
def BOOK_CMD_CLR_ROLE : Fld := ⟨.BOOK_CMD, 17, 16, .wo, []⟩
def BOOK_NEXT_SEQ_SEQ_NO : Fld := ⟨.BOOK_NEXT_SEQ, 31, 0, .ro, []⟩
def BOOK_OLDEST_SEQ_SEQ_NO : Fld := ⟨.BOOK_OLDEST_SEQ, 31, 0, .ro, []⟩
def BOOK_COUNT_COUNT : Fld := ⟨.BOOK_COUNT, 26, 0, .ro, []⟩
def DROPPED_COUNT : Fld := ⟨.DROPPED, 31, 0, .ro, []⟩
def OVERWRITTEN_COUNT : Fld := ⟨.OVERWRITTEN, 31, 0, .ro, []⟩
def HOLD_DROPPED_COUNT : Fld := ⟨.HOLD_DROPPED, 31, 0, .ro, []⟩
def FILTERED_COUNT : Fld := ⟨.FILTERED, 31, 0, .ro, []⟩
def TRIG_MATCH_CODE : Fld := ⟨.TRIG_MATCH, 15, 0, .rwk, []⟩
def TRIG_MATCH_MASK : Fld := ⟨.TRIG_MATCH, 31, 16, .rwk, []⟩
def TRIG_CTRL_MIN_SEV : Fld := ⟨.TRIG_CTRL, 2, 0, .rwk, []⟩
def TRIG_CTRL_EN : Fld := ⟨.TRIG_CTRL, 3, 3, .rwk, []⟩
def TRIG_CTRL_PIN : Fld := ⟨.TRIG_CTRL, 4, 4, .rwk, []⟩
def TRIG_CTRL_NOTIFY : Fld := ⟨.TRIG_CTRL, 5, 5, .rwk, []⟩
def TRIG_CTRL_DUMP : Fld := ⟨.TRIG_CTRL, 6, 6, .rwk, []⟩
def TRIG_CTRL_NOTIFY_CHAN : Fld := ⟨.TRIG_CTRL, 12, 8, .rwk, [(0, 23)]⟩
def TRIG_COUNT_COUNT : Fld := ⟨.TRIG_COUNT, 31, 0, .ro, []⟩
def SNAP_ENTRY_ADDR : Fld := ⟨.SNAP_ENTRY, 23, 0, .rwk, []⟩
def SNAP_ENTRY_REL : Fld := ⟨.SNAP_ENTRY, 24, 24, .rwk, []⟩
def SNAP_ENTRY_INTERNAL : Fld := ⟨.SNAP_ENTRY, 25, 25, .rwk, []⟩
def SNAP_ENTRY_EN : Fld := ⟨.SNAP_ENTRY, 26, 26, .rwk, []⟩
def PERF_STATUS_SNAP_BUSY : Fld := ⟨.PERF_STATUS, 0, 0, .rl, []⟩
def PERF_STATUS_DUMP_BUSY : Fld := ⟨.PERF_STATUS, 1, 1, .rl, []⟩
def PERF_STATUS_LAST_BUF : Fld := ⟨.PERF_STATUS, 2, 2, .rl, []⟩
def PERF_EVENT_DUMP_SKIPPED : Fld := ⟨.PERF_EVENT, 0, 0, .rsq, []⟩
def PERF_EVENT_DUMP_DONE : Fld := ⟨.PERF_EVENT, 1, 1, .rsq, []⟩
def PERF_EVENT_WRAP : Fld := ⟨.PERF_EVENT, 2, 2, .rsq, []⟩
def PERF_EVENT_SNAP_DONE : Fld := ⟨.PERF_EVENT, 3, 3, .rsq, []⟩
def PERF_CMD_SNAP : Fld := ⟨.PERF_CMD, 0, 0, .w1p, []⟩
def PERF_CMD_DUMP_NOW : Fld := ⟨.PERF_CMD, 1, 1, .w1p, []⟩
def PERF_ALLOW_ALLOW : Fld := ⟨.PERF_ALLOW, 7, 0, .rwk, []⟩
def SNAP_FIRST_PT_NS : Fld := ⟨.SNAP_FIRST_PT, 31, 0, .ro, []⟩
def SNAP_LAST_PT_NS : Fld := ⟨.SNAP_LAST_PT, 31, 0, .ro, []⟩
def DUMP_FN_DUMP_FN : Fld := ⟨.DUMP_FN, 2, 0, .rwk, []⟩
def DUMP_CFG_DUMP_EN : Fld := ⟨.DUMP_CFG, 0, 0, .rw, []⟩
def DUMP_CFG_SETS : Fld := ⟨.DUMP_CFG, 4, 1, .rw, []⟩
def DUMP_CFG_DUMP_PERIOD : Fld := ⟨.DUMP_CFG, 26, 5, .rw, [(10, 3600000)]⟩
def DUMP_STREAM_MASK_MASK : Fld := ⟨.DUMP_STREAM_MASK, 15, 0, .rw, []⟩
def DUMP_BASE_ADDR : Fld := ⟨.DUMP_BASE, 31, 0, .rw, []⟩
def DUMP_SEQ_SEQ_NO : Fld := ⟨.DUMP_SEQ, 31, 0, .ro, []⟩
def DUMP_SKIPPED_COUNT : Fld := ⟨.DUMP_SKIPPED, 31, 0, .ro, []⟩
def PC_LO_COUNT : Fld := ⟨.PC_LO, 31, 0, .ro, []⟩
def PC_HI_COUNT_HI : Fld := ⟨.PC_HI, 15, 0, .ro, []⟩
def PC_HI_OVF : Fld := ⟨.PC_HI, 16, 16, .ro, []⟩
def PC_HI_CHAINED : Fld := ⟨.PC_HI, 17, 17, .ro, []⟩
def PC_CFG_TC_MASK : Fld := ⟨.PC_CFG, 7, 0, .rwk, []⟩
def PC_CFG_ROLE_MASK : Fld := ⟨.PC_CFG, 11, 8, .rwk, []⟩
def PC_CFG_MASTER : Fld := ⟨.PC_CFG, 16, 12, .rwk, []⟩
def PC_CFG_ADDR_EN : Fld := ⟨.PC_CFG, 17, 17, .rwk, []⟩
def PC_CFG_OVF_MODE : Fld := ⟨.PC_CFG, 18, 18, .rwk, []⟩
def ADDR_LO_ADDR : Fld := ⟨.ADDR_LO, 31, 0, .rwk, []⟩
def ADDR_HI_ADDR : Fld := ⟨.ADDR_HI, 31, 0, .rwk, []⟩
def PC_CLEAR_CLEAR : Fld := ⟨.PC_CLEAR, 7, 0, .w1p, []⟩
def PAIR_CFG_CLAIM_LEVEL : Fld := ⟨.PAIR_CFG, 2, 0, .rwk, [(1, 7)]⟩
def PAIR_CFG_HB_HALF : Fld := ⟨.PAIR_CFG, 11, 4, .rwk, [(10, 255)]⟩
def PAIR_CFG_HB_FW : Fld := ⟨.PAIR_CFG, 12, 12, .rwk, []⟩
def PAIR_CFG_REVERT_EN : Fld := ⟨.PAIR_CFG, 13, 13, .rwk, []⟩
def PAIR_CFG_START_WAIT : Fld := ⟨.PAIR_CFG, 23, 16, .rwk, [(1, 255)]⟩
def PAIR_STATUS_STATE : Fld := ⟨.PAIR_STATUS, 3, 0, .rl, []⟩
def PAIR_STATUS_CLAIM : Fld := ⟨.PAIR_STATUS, 9, 4, .rl, []⟩
def PAIR_STATUS_CLAIM_RB : Fld := ⟨.PAIR_STATUS, 15, 10, .rl, []⟩
def PAIR_STATUS_PAR_RB : Fld := ⟨.PAIR_STATUS, 16, 16, .rl, []⟩
def PAIR_STATUS_ARB_GO : Fld := ⟨.PAIR_STATUS, 17, 17, .rl, []⟩
def PAIR_STATUS_ARB_FAULT_IN : Fld := ⟨.PAIR_STATUS, 18, 18, .rl, []⟩
def PAIR_STATUS_LINK_UP : Fld := ⟨.PAIR_STATUS, 19, 19, .rl, []⟩
def PAIR_STATUS_ULK_UP : Fld := ⟨.PAIR_STATUS, 21, 20, .rl, []⟩
def PAIR_STATUS_HEALTH_OK : Fld := ⟨.PAIR_STATUS, 22, 22, .rl, []⟩
def PAIR_STATUS_UNIT_ID : Fld := ⟨.PAIR_STATUS, 23, 23, .rl, []⟩
def PAIR_STATUS_PREFERRED : Fld := ⟨.PAIR_STATUS, 24, 24, .rl, []⟩
def PAIR_STATUS_PAIR_EN : Fld := ⟨.PAIR_STATUS, 25, 25, .rl, []⟩
def PAIR_STATUS_EFF_PREFERRED : Fld := ⟨.PAIR_STATUS, 26, 26, .rl, []⟩
def PAIR_EVENT_TAKEOVER : Fld := ⟨.PAIR_EVENT, 0, 0, .rsq, []⟩
def PAIR_EVENT_GO_LOST : Fld := ⟨.PAIR_EVENT, 1, 1, .rsq, []⟩
def PAIR_EVENT_PEER_FAULT : Fld := ⟨.PAIR_EVENT, 2, 2, .rsq, []⟩
def PAIR_EVENT_SYNCED : Fld := ⟨.PAIR_EVENT, 3, 3, .rsq, []⟩
def PAIR_EVENT_SYNC_LOST : Fld := ⟨.PAIR_EVENT, 4, 4, .rsq, []⟩
def PAIR_EVENT_REVERT_DONE : Fld := ⟨.PAIR_EVENT, 5, 5, .rsq, []⟩
def PAIR_EVENT_REVERT_ABORTED : Fld := ⟨.PAIR_EVENT, 6, 6, .rsq, []⟩
def PAIR_EVENT_DUAL_ACTIVE : Fld := ⟨.PAIR_EVENT, 7, 7, .rsq, []⟩
def PAIR_EVENT_ULK_LANE_DOWN : Fld := ⟨.PAIR_EVENT, 8, 8, .rsq, []⟩
def PAIR_EVENT_MIRROR_OVERFLOW : Fld := ⟨.PAIR_EVENT, 9, 9, .rsq, []⟩
def PAIR_EVENT_CLAIM_MISMATCH : Fld := ⟨.PAIR_EVENT, 10, 10, .rsq, []⟩
def PAIR_EVENT_HEALTH_FAIL : Fld := ⟨.PAIR_EVENT, 11, 11, .rsq, []⟩
def PAIR_EVENT_STRAP_CONFLICT : Fld := ⟨.PAIR_EVENT, 12, 12, .rsq, []⟩
def PAIR_EVENT_CFG_DIVERGED : Fld := ⟨.PAIR_EVENT, 13, 13, .rsq, []⟩
def PAIR_TIMERS_REVERT_HOLD : Fld := ⟨.PAIR_TIMERS, 15, 0, .rwk, [(1, 65535)]⟩
def PAIR_TIMERS_OVERLAP : Fld := ⟨.PAIR_TIMERS, 27, 16, .rwk, [(10, 4095)]⟩
def PEER_STATUS_PEER_STATE : Fld := ⟨.PEER_STATUS, 3, 0, .ro, []⟩
def PEER_STATUS_PEER_CLAIM : Fld := ⟨.PEER_STATUS, 9, 4, .ro, []⟩
def PEER_STATUS_PEER_PREFERRED : Fld := ⟨.PEER_STATUS, 10, 10, .ro, []⟩
def PEER_STATUS_PEER_UNIT_ID : Fld := ⟨.PEER_STATUS, 11, 11, .ro, []⟩
def PEER_STATUS_PEER_VALID : Fld := ⟨.PEER_STATUS, 12, 12, .ro, []⟩
def MIRROR_STATUS_BACKLOG : Fld := ⟨.MIRROR_STATUS, 9, 0, .rl, []⟩
def MIRROR_STATUS_OVERFLOWED : Fld := ⟨.MIRROR_STATUS, 10, 10, .rl, []⟩
def MIRROR_STATUS_RESYNC_BUSY : Fld := ⟨.MIRROR_STATUS, 11, 11, .rl, []⟩
def MIRROR_STATUS_RESYNC_PCT : Fld := ⟨.MIRROR_STATUS, 18, 12, .rl, []⟩
def LAST_TAKEOVER_PT_NS : Fld := ⟨.LAST_TAKEOVER_PT, 31, 0, .ro, []⟩
def TAKEOVER_INFO_FAILOVER_TIME : Fld := ⟨.TAKEOVER_INFO, 15, 0, .ro, []⟩
def TAKEOVER_INFO_BASE_AGE : Fld := ⟨.TAKEOVER_INFO, 31, 16, .ro, []⟩
def MIRROR_TX_SEQ_SEQ_NO : Fld := ⟨.MIRROR_TX_SEQ, 31, 0, .ro, []⟩
def MIRROR_RX_SEQ_SEQ_NO : Fld := ⟨.MIRROR_RX_SEQ, 31, 0, .ro, []⟩
def CFG_DIGEST_DIGEST : Fld := ⟨.CFG_DIGEST, 31, 0, .ro, []⟩
def PEER_CFG_DIGEST_DIGEST : Fld := ⟨.PEER_CFG_DIGEST, 31, 0, .ro, []⟩
def DOM_CFG_DOM_EN : Fld := ⟨.DOM_CFG, 0, 0, .rwk, []⟩
def DOM_CFG_ROOT : Fld := ⟨.DOM_CFG, 1, 1, .rwk, []⟩
def DOM_CFG_DEPTH : Fld := ⟨.DOM_CFG, 5, 2, .rwk, []⟩
def DOM_CFG_DEPTH_LIMIT : Fld := ⟨.DOM_CFG, 9, 6, .rwk, []⟩
def DOM_CFG_MAX_ROLE : Fld := ⟨.DOM_CFG, 11, 10, .rwk, []⟩
def DOM_CFG_DOM_TC : Fld := ⟨.DOM_CFG, 14, 12, .rwk, [(0, 5)]⟩
def DOM_CFG_DOMAIN_ID : Fld := ⟨.DOM_CFG, 31, 16, .rwk, []⟩
def DOM_STATUS_CHILDREN : Fld := ⟨.DOM_STATUS, 6, 0, .rl, []⟩
def DOM_STATUS_PARENT_LIVE : Fld := ⟨.DOM_STATUS, 7, 7, .rl, []⟩
def DOM_STATUS_OP_STATE : Fld := ⟨.DOM_STATUS, 10, 8, .rl, []⟩
def DOM_STATUS_KEY_SET : Fld := ⟨.DOM_STATUS, 11, 11, .rl, []⟩
def DOM_EVENT_AUTH_FAIL : Fld := ⟨.DOM_EVENT, 0, 0, .rsq, []⟩
def DOM_EVENT_REPLAY : Fld := ⟨.DOM_EVENT, 1, 1, .rsq, []⟩
def DOM_EVENT_CHILD_LOST : Fld := ⟨.DOM_EVENT, 2, 2, .rsq, []⟩
def DOM_EVENT_CHILD_REFUSED : Fld := ⟨.DOM_EVENT, 3, 3, .rsq, []⟩
def DOM_EVENT_DUP_INDEX : Fld := ⟨.DOM_EVENT, 4, 4, .rsq, []⟩
def DOM_EVENT_PARENT_LOST : Fld := ⟨.DOM_EVENT, 5, 5, .rsq, []⟩
def DOM_EVENT_PROOF_LATCHED : Fld := ⟨.DOM_EVENT, 6, 6, .rsq, []⟩
def DOM_EVENT_PROOF_LATE : Fld := ⟨.DOM_EVENT, 7, 7, .rsq, []⟩
def DOM_EVENT_ACTION_ARMED : Fld := ⟨.DOM_EVENT, 8, 8, .rsq, []⟩
def DOM_EVENT_ACTION_DONE : Fld := ⟨.DOM_EVENT, 9, 9, .rsq, []⟩
def DOM_EVENT_ACTION_REFUSED : Fld := ⟨.DOM_EVENT, 10, 10, .rsq, []⟩
def DOM_EVENT_ACTION_CANCELLED : Fld := ⟨.DOM_EVENT, 11, 11, .rsq, []⟩
def DOM_EVENT_BARRIER_TIMEOUT : Fld := ⟨.DOM_EVENT, 12, 12, .rsq, []⟩
def DOM_ID_INDEX : Fld := ⟨.DOM_ID, 13, 0, .rwk, []⟩
def DOM_ID_PARENT_INDEX : Fld := ⟨.DOM_ID, 29, 16, .rwk, []⟩
def DOM_MAC_0_ADDR : Fld := ⟨.DOM_MAC_0, 31, 0, .rwk, []⟩
def DOM_MAC_1_ADDR : Fld := ⟨.DOM_MAC_1, 15, 0, .rwk, []⟩
def DOM_PARENT_MAC_0_ADDR : Fld := ⟨.DOM_PARENT_MAC_0, 31, 0, .rwk, []⟩
def DOM_PARENT_MAC_1_ADDR : Fld := ⟨.DOM_PARENT_MAC_1, 15, 0, .rwk, []⟩
def DOM_GROUP_DA_0_ADDR : Fld := ⟨.DOM_GROUP_DA_0, 31, 0, .rwk, []⟩
def DOM_GROUP_DA_1_ADDR : Fld := ⟨.DOM_GROUP_DA_1, 15, 0, .rwk, []⟩
def DOM_TIMERS_HOP_WAIT : Fld := ⟨.DOM_TIMERS, 7, 0, .rwk, [(1, 255)]⟩
def DOM_TIMERS_ARM_MIN : Fld := ⟨.DOM_TIMERS, 15, 8, .rwk, [(1, 255)]⟩
def DOM_TIMERS_SKEW_MAX : Fld := ⟨.DOM_TIMERS, 23, 16, .rwk, []⟩
def DOM_TIMERS_HELLO_PERIOD : Fld := ⟨.DOM_TIMERS, 31, 24, .rwk, [(1, 255)]⟩
def DOM_LEAD_LEAD : Fld := ⟨.DOM_LEAD, 15, 0, .rwk, [(1, 65535)]⟩
def DOM_RATE_RATE : Fld := ⟨.DOM_RATE, 31, 0, .rwk, [(1000, 10000000)]⟩
def DOMAIN_PORTS_PORTS : Fld := ⟨.DOMAIN_PORTS, 31, 0, .rwk, []⟩
def PROOF_SNAP_ADDR : Fld := ⟨.PROOF_SNAP, 23, 0, .rwk, []⟩
def PROOF_SNAP_EN : Fld := ⟨.PROOF_SNAP, 26, 26, .rwk, []⟩
def OP_TARGET_0_LOW : Fld := ⟨.OP_TARGET_0, 31, 0, .ro, []⟩
def OP_TARGET_1_HIGH : Fld := ⟨.OP_TARGET_1, 23, 0, .ro, []⟩
def OP_TARGET_1_HOLD : Fld := ⟨.OP_TARGET_1, 24, 24, .ro, []⟩
def OP_ID_ID : Fld := ⟨.OP_ID, 31, 0, .ro, []⟩
def CHILD_0_INDEX : Fld := ⟨.CHILD_0, 13, 0, .rl, []⟩
def CHILD_0_LIVE : Fld := ⟨.CHILD_0, 14, 14, .rl, []⟩
def CHILD_0_REPORTED : Fld := ⟨.CHILD_0, 15, 15, .rl, []⟩
def CHILD_1_DELAY : Fld := ⟨.CHILD_1, 19, 0, .rl, []⟩
def PWR_CTRL_WARN_C : Fld := ⟨.PWR_CTRL, 7, 0, .rwk, []⟩
def PWR_CTRL_CRIT_C : Fld := ⟨.PWR_CTRL, 15, 8, .rwk, []⟩
def PWR_STATUS_RAIL_OK : Fld := ⟨.PWR_STATUS, 5, 0, .rl, []⟩
def PWR_STATUS_CORE_PLL_LOCK : Fld := ⟨.PWR_STATUS, 6, 6, .rl, []⟩
def PWR_STATUS_PROMPTER_PLL_LOCK : Fld := ⟨.PWR_STATUS, 7, 7, .rl, []⟩
def PWR_STATUS_PCIE_HOST_PLL_LOCK : Fld := ⟨.PWR_STATUS, 8, 8, .rl, []⟩
def PWR_STATUS_PCIE_STOR_PLL_LOCK : Fld := ⟨.PWR_STATUS, 9, 9, .rl, []⟩
def PWR_STATUS_ULK_PLL_LOCK : Fld := ⟨.PWR_STATUS, 10, 10, .rl, []⟩
def PWR_STATUS_HOT : Fld := ⟨.PWR_STATUS, 11, 11, .rl, []⟩
def PWR_STATUS_CRIT : Fld := ⟨.PWR_STATUS, 12, 12, .rl, []⟩
def PWR_EVENT_SUPPLY_FAULT : Fld := ⟨.PWR_EVENT, 5, 0, .rsq, []⟩
def PWR_EVENT_THERM_WARN : Fld := ⟨.PWR_EVENT, 6, 6, .rsq, []⟩
def PWR_EVENT_THERM_CRIT : Fld := ⟨.PWR_EVENT, 7, 7, .rsq, []⟩
def PWR_EVENT_PLL_UNLOCK : Fld := ⟨.PWR_EVENT, 8, 8, .rsq, []⟩
def TEMP_T16 : Fld := ⟨.TEMP, 15, 0, .ro, []⟩
def TEMP_MAX_T16 : Fld := ⟨.TEMP_MAX, 15, 0, .ro, []⟩
def GATE_STATUS_0_QUAD_PLL_ON : Fld := ⟨.GATE_STATUS_0, 15, 0, .rl, []⟩
def GATE_STATUS_0_CLUSTER_ON : Fld := ⟨.GATE_STATUS_0, 31, 16, .rl, []⟩
def GATE_STATUS_1_FOLIO_LINK_ON : Fld := ⟨.GATE_STATUS_1, 3, 0, .rl, []⟩
def GATE_STATUS_1_CORE_CLK_ON : Fld := ⟨.GATE_STATUS_1, 7, 4, .rl, []⟩
def LIFE_HOURS_HOURS100 : Fld := ⟨.LIFE_HOURS, 31, 0, .ro, []⟩
def VMON_MV : Fld := ⟨.VMON, 11, 0, .ro, []⟩
def CAP_HEADER_CAP_ID : Fld := ⟨.CAP_HEADER, 15, 0, .ro, []⟩
def CAP_HEADER_CAP_VER : Fld := ⟨.CAP_HEADER, 19, 16, .ro, []⟩
def CAP_HEADER_NEXT : Fld := ⟨.CAP_HEADER, 27, 20, .ro, []⟩
def CAP_INFO_INSTANCE : Fld := ⟨.CAP_INFO, 7, 0, .ro, []⟩
def CAP_INFO_SLOTS : Fld := ⟨.CAP_INFO, 15, 8, .ro, []⟩
def GUARD_UNLOCK_KEY : Fld := ⟨.GUARD_UNLOCK, 31, 0, .wo, []⟩

end F

/-- The fields of each register; bits in no field are reserved (R7). -/
def regFields : RegName → List Fld
  | .GLOBAL_EVENT => [F.GLOBAL_EVENT_CFG_PARITY, F.GLOBAL_EVENT_PARTIAL_WRITE]
  | .PARITY_LAST => [F.PARITY_LAST_OFFSET, F.PARITY_LAST_SLOT]
  | .PARITY_COUNT => [F.PARITY_COUNT_COUNT]
  | .DEVICE_ID => [F.DEVICE_ID_PART, F.DEVICE_ID_STEPPING, F.DEVICE_ID_VENDOR]
  | .STRAPS => [F.STRAPS_PAIR_EN, F.STRAPS_UNIT_ID, F.STRAPS_PREFERRED, F.STRAPS_XTAL_BYPASS, F.STRAPS_TEST_EN]
  | .RESET_CAUSE => [F.RESET_CAUSE_CAUSE]
  | .RESET_CTRL => [F.RESET_CTRL_DEVICE_RESET]
  | .UNIQUE_ID_0 => [F.UNIQUE_ID_0_ID]
  | .UNIQUE_ID_1 => [F.UNIQUE_ID_1_ID]
  | .GPIO_CFG => [F.GPIO_CFG_GPIO_OE, F.GPIO_CFG_GPIO_OUT, F.GPIO_CFG_GPIO_IN]
  | .QUAD_MODE => [F.QUAD_MODE_QMODE]
  | .QUAD_STATUS => [F.QUAD_STATUS_PLL_0_LOCK, F.QUAD_STATUS_PLL_1_LOCK]
  | .QUAD_EVENT => [F.QUAD_EVENT_MODE_CONFLICT, F.QUAD_EVENT_PLL_0_UNLOCK, F.QUAD_EVENT_PLL_1_UNLOCK, F.QUAD_EVENT_FEC_UNCORR]
  | .LANE_CFG => [F.LANE_CFG_LANE_EN, F.LANE_CFG_LMODE, F.LANE_CFG_FEC, F.LANE_CFG_AN_EN, F.LANE_CFG_RX_INV, F.LANE_CFG_TX_INV, F.LANE_CFG_LOOPBACK]
  | .LANE_STATUS => [F.LANE_STATUS_SIG_DET, F.LANE_STATUS_CDR_LOCK, F.LANE_STATUS_PCS_LOCK, F.LANE_STATUS_FEC_LOCK, F.LANE_STATUS_AN_DONE, F.LANE_STATUS_PLL_IDX]
  | .FEC_CORR => [F.FEC_CORR_COUNT]
  | .FEC_UNCORR => [F.FEC_UNCORR_COUNT]
  | .PORT_CFG => [F.PORT_CFG_MAX_FRAME, F.PORT_CFG_PORT_EN]
  | .PORT_LINK => [F.PORT_LINK_LINK_HOLD, F.PORT_LINK_LINK_UP_TIME]
  | .PORT_PRE => [F.PORT_PRE_PRE_EN, F.PORT_PRE_VERIFY_EN, F.PORT_PRE_VERIFY_TIME, F.PORT_PRE_ADD_FRAG, F.PORT_PRE_EXPRESS_TC, F.PORT_PRE_EXPRESS_TC7, F.PORT_PRE_PARTNER_ADD_FRAG]
  | .PORT_EEE => [F.PORT_EEE_EEE_EN, F.PORT_EEE_EEE_IDLE, F.PORT_EEE_TW_TX]
  | .TS_ING_TRIM => [F.TS_ING_TRIM_TRIM]
  | .TS_EGR_TRIM => [F.TS_EGR_TRIM_TRIM]
  | .PORT_STATUS => [F.PORT_STATUS_LINK_STATE, F.PORT_STATUS_SPEED, F.PORT_STATUS_PRE_STATE, F.PORT_STATUS_PRE_ACTIVE, F.PORT_STATUS_EEE_INHIBIT, F.PORT_STATUS_TX_LPI, F.PORT_STATUS_RX_LPI, F.PORT_STATUS_HOLD_ACTIVE]
  | .PORT_EVENT => [F.PORT_EVENT_LINK_DOWN, F.PORT_EVENT_LINK_UP, F.PORT_EVENT_HOLD_EXPIRED, F.PORT_EVENT_PRE_VERIFY_FAILED, F.PORT_EVENT_EXPRESS_HELD, F.PORT_EVENT_EXPR_Q_FULL, F.PORT_EVENT_PARTNER_10M, F.PORT_EVENT_EEE_INHIBIT_SET, F.PORT_EVENT_PARTNER_SPEED]
  | .TIME_CTRL => [F.TIME_CTRL_ACTIVE_TB, F.TIME_CTRL_AUTO_SEL, F.TIME_CTRL_SEL_ON_HOLDOVER, F.TIME_CTRL_FREE_RUN_OUT, F.TIME_CTRL_PT_SLEW]
  | .TIME_STATUS => [F.TIME_STATUS_PT_TB, F.TIME_STATUS_PT_VALID, F.TIME_STATUS_PT_SLEWING, F.TIME_STATUS_TPLL_LOCK, F.TIME_STATUS_TPLL_REF_LOSS]
  | .TIME_EVENT => [F.TIME_EVENT_TRIG_LATE, F.TIME_EVENT_CAP_OVERFLOW, F.TIME_EVENT_TB_HOLDOVER, F.TIME_EVENT_TB_FREE, F.TIME_EVENT_STEP_REFUSED, F.TIME_EVENT_PT_SWITCH, F.TIME_EVENT_PT_ALIGNED, F.TIME_EVENT_SYNCE_SQUELCH]
  | .TIME_CMD => [F.TIME_CMD_SNAP, F.TIME_CMD_PT_JAM]
  | .PT_READ => [F.PT_READ_WORD]
  | .PT_OFF => [F.PT_OFF_OFF]
  | .PPS_CFG => [F.PPS_CFG_PPS_OUT_EN, F.PPS_CFG_PPS_WIDTH, F.PPS_CFG_PPS_IN_EN, F.PPS_CFG_PPS_IN_EDGE]
  | .PPS_OUT_TRIM => [F.PPS_OUT_TRIM_TRIM]
  | .SYNCE_CFG => [F.SYNCE_CFG_SYNCE_0_LANE, F.SYNCE_CFG_SYNCE_0_EN, F.SYNCE_CFG_SYNCE_0_DIV, F.SYNCE_CFG_SYNCE_1_LANE, F.SYNCE_CFG_SYNCE_1_EN, F.SYNCE_CFG_SYNCE_1_DIV]
  | .TB_CFG => [F.TB_CFG_REF_SEL, F.TB_CFG_SYNCE_LANE, F.TB_CFG_PTP_DOMAIN, F.TB_CFG_PTP_EN, F.TB_CFG_TRANSPORT_L2, F.TB_CFG_TRANSPORT_UDP4, F.TB_CFG_TRANSPORT_UDP6]
  | .TB_STATE => [F.TB_STATE_STATE, F.TB_STATE_STEP_AVAIL, F.TB_STATE_EPOCH]
  | .TB_RATE_0 => [F.TB_RATE_0_RATE_LO]
  | .TB_RATE_1 => [F.TB_RATE_1_RATE_HI]
  | .TB_STEP => [F.TB_STEP_WORD]
  | .TB_CMD => [F.TB_CMD_START, F.TB_CMD_LOCK, F.TB_CMD_STEP_ABS, F.TB_CMD_RELOCK, F.TB_CMD_EPOCH_END]
  | .TB_TIMERS => [F.TB_TIMERS_SERVO_TIMEOUT, F.TB_TIMERS_HOLDOVER_LIMIT]
  | .TB_READ => [F.TB_READ_WORD]
  | .TIO_CFG => [F.TIO_CFG_MODE, F.TIO_CFG_EDGE, F.TIO_CFG_CMP_SRC, F.TIO_CFG_ALIGN_SEC, F.TIO_CFG_POLARITY, F.TIO_CFG_LEVEL]
  | .TIO_START_0 => [F.TIO_START_0_LOW]
  | .TIO_START_1 => [F.TIO_START_1_HIGH]
  | .TIO_PERIOD_0 => [F.TIO_PERIOD_0_PERIOD_NS]
  | .TIO_PERIOD_1 => [F.TIO_PERIOD_1_PERIOD_FRAC]
  | .TIO_WIDTH => [F.TIO_WIDTH_WIDTH]
  | .TIO_COUNT => [F.TIO_COUNT_COUNT]
  | .TIO_TRIM => [F.TIO_TRIM_TRIM]
  | .TIO_STATUS => [F.TIO_STATUS_CAP_LEVEL, F.TIO_STATUS_ARMED]
  | .TIO_CAP => [F.TIO_CAP_WORD]
  | .TIO_CAP_POP => [F.TIO_CAP_POP_POP]
  | .PTP_PORT_CFG => [F.PTP_PORT_CFG_ROLE_0, F.PTP_PORT_CFG_ROLE_1]
  | .PTP_PDELAY => [F.PTP_PDELAY_PDELAY]
  | .PARSER_CTRL => [F.PARSER_CTRL_HDR_ERR_ACT, F.PARSER_CTRL_FRAG_MISS_ACT]
  | .PARSER_EVENT => [F.PARSER_EVENT_HDR_ERR, F.PARSER_EVENT_CFG_ERR, F.PARSER_EVENT_TC7_DEMOTED, F.PARSER_EVENT_FRAG_MISS]
  | .PCP_TO_TC => [F.PCP_TO_TC_TC_FOR_PCP]
  | .PARSER_PORT_CFG => [F.PARSER_PORT_CFG_PRP_LAN, F.PARSER_PORT_CFG_SLOW_FRAG, F.PARSER_PORT_CFG_PORT_GRP, F.PARSER_PORT_CFG_DEFAULT_PCP, F.PARSER_PORT_CFG_PVID, F.PARSER_PORT_CFG_DEFAULT_FWD]
  | .PLATE_STATUS => [F.PLATE_STATUS_ACTIVE, F.PLATE_STATUS_SHADOW_OPEN, F.PLATE_STATUS_RETIRING, F.PLATE_STATUS_RETIRING_PLATE, F.PLATE_STATUS_SWEEP_BUSY, F.PLATE_STATUS_COMMIT_ARMED, F.PLATE_STATUS_REFUSE_REASON]
  | .PLATE_CMD => [F.PLATE_CMD_OPEN, F.PLATE_CMD_COMMIT, F.PLATE_CMD_COMMIT_AT, F.PLATE_CMD_DISARM, F.PLATE_CMD_ABORT]
  | .PLATE_EVENT => [F.PLATE_EVENT_OPENED, F.PLATE_EVENT_COMMITTED, F.PLATE_EVENT_RETIRED, F.PLATE_EVENT_ABORTED, F.PLATE_EVENT_COMMIT_REFUSED, F.PLATE_EVENT_RETIRE_LIMIT, F.PLATE_EVENT_RULE_PARITY, F.PLATE_EVENT_FRAG_TABLE_FULL]
  | .PLATE_AT_0 => [F.PLATE_AT_0_LOW]
  | .PLATE_AT_1 => [F.PLATE_AT_1_HIGH, F.PLATE_AT_1_HOLD]
  | .INFLIGHT_ACTIVE => [F.INFLIGHT_ACTIVE_COUNT]
  | .INFLIGHT_RETIRING => [F.INFLIGHT_RETIRING_COUNT]
  | .PLATE_LIMITS => [F.PLATE_LIMITS_RETIRE_LIMIT]
  | .FRAG_CFG => [F.FRAG_CFG_FRAG_LIFE]
  | .PROF_CFG => [F.PROF_CFG_PROF_EN, F.PROF_CFG_TABLE, F.PROF_CFG_TYPE_MASK]
  | .PROF_SLOT => [F.PROF_SLOT_FIELD_ID, F.PROF_SLOT_START, F.PROF_SLOT_WIDTH]
  | .PROF_GRP => [F.PROF_GRP_GROUP_MASK]
  | .ACT_PROF_CFG => [F.ACT_PROF_CFG_PROF_EN, F.ACT_PROF_CFG_TABLE, F.ACT_PROF_CFG_TYPE_MASK]
  | .ACT_PROF_SLOT => [F.ACT_PROF_SLOT_FIELD_ID, F.ACT_PROF_SLOT_START, F.ACT_PROF_SLOT_WIDTH]
  | .ACT_PROF_GRP => [F.ACT_PROF_GRP_GROUP_MASK]
  | .FDB_CFG => [F.FDB_CFG_LEARN_GLOBAL_EN, F.FDB_CFG_EVICT_POLICY, F.FDB_CFG_AGE_TIME, F.FDB_CFG_MOVE_HOLD, F.FDB_CFG_ROUTE_MISS_ACT]
  | .FDB_STATUS => [F.FDB_STATUS_OCCUPANCY, F.FDB_STATUS_FLUSH_BUSY, F.FDB_STATUS_FLUSH_QUEUED, F.FDB_STATUS_LR_FULL]
  | .FDB_EVENT => [F.FDB_EVENT_FDB_PARITY, F.FDB_EVENT_EVICTED, F.FDB_EVENT_REFUSED, F.FDB_EVENT_MOVE_CONFLICT, F.FDB_EVENT_LEARN_DROPPED, F.FDB_EVENT_LR_OVERFLOW, F.FDB_EVENT_FLUSH_DONE, F.FDB_EVENT_TRIE_PARITY, F.FDB_EVENT_GROUP_PARITY]
  | .FDB_FLUSH_SPEC => [F.FDB_FLUSH_SPEC_PORT, F.FDB_FLUSH_SPEC_FID, F.FDB_FLUSH_SPEC_MATCH_PORT, F.FDB_FLUSH_SPEC_MATCH_FID, F.FDB_FLUSH_SPEC_REPORT]
  | .FDB_CMD => [F.FDB_CMD_FLUSH_START]
  | .FDB_CNT => [F.FDB_CNT_COUNT]
  | .LR_BASE_LO => [F.LR_BASE_LO_ADDR]
  | .LR_BASE_HI => [F.LR_BASE_HI_ADDR]
  | .LR_CFG => [F.LR_CFG_LR_EN, F.LR_CFG_LR_SIZE, F.LR_CFG_LR_FN, F.LR_CFG_LR_MASK]
  | .LR_PROD => [F.LR_PROD_INDEX]
  | .LR_CONS => [F.LR_CONS_INDEX]
  | .LR_DROPPED => [F.LR_DROPPED_COUNT]
  | .TBL_SEL => [F.TBL_SEL_TBL_ID, F.TBL_SEL_SHADOW_RD, F.TBL_SEL_INDEX]
  | .TBL_CMD => [F.TBL_CMD_READ, F.TBL_CMD_WRITE, F.TBL_CMD_LOOKUP, F.TBL_CMD_INSERT, F.TBL_CMD_DELETE]
  | .TBL_STATUS => [F.TBL_STATUS_BUSY, F.TBL_STATUS_RESULT, F.TBL_STATUS_RESULT_INDEX]
  | .TBL_DATA => [F.TBL_DATA_WORD]
  | .FDB_PORT_CFG => [F.FDB_PORT_CFG_LEARN_EN, F.FDB_PORT_CFG_FLUSH_ON_DOWN, F.FDB_PORT_CFG_LEARN_AS]
  | .STREAM_CTRL => [F.STREAM_CTRL_SUPV_EN, F.STREAM_CTRL_TC7_SHARE, F.STREAM_CTRL_DD_FORGET]
  | .STREAM_STATUS => [F.STREAM_STATUS_ADMITTED, F.STREAM_STATUS_DD_OCCUPANCY]
  | .STREAM_EVENT => [F.STREAM_EVENT_SEQ_ANOMALY, F.STREAM_EVENT_SILENCE, F.STREAM_EVENT_DD_TABLE_FULL, F.STREAM_EVENT_GMAC_FAIL, F.STREAM_EVENT_EXPR_FALLBACK, F.STREAM_EVENT_BOUND_LAPSED, F.STREAM_EVENT_STREAM_PARITY, F.STREAM_EVENT_WRONG_LAN]
  | .DD_ROGUE_CNT => [F.DD_ROGUE_CNT_COUNT]
  | .HSR_OWN_RETURN_CNT => [F.HSR_OWN_RETURN_CNT_COUNT]
  | .DD_TAGLESS_CNT => [F.DD_TAGLESS_CNT_COUNT]
  | .SAC_SEL => [F.SAC_SEL_TBL, F.SAC_SEL_INDEX]
  | .SAC_CMD => [F.SAC_CMD_READ, F.SAC_CMD_WRITE]
  | .SAC_STATUS => [F.SAC_STATUS_BUSY, F.SAC_STATUS_RESULT]
  | .SAC_DATA => [F.SAC_DATA_WORD]
  | .BPM_CTRL => [F.BPM_CTRL_CAP_BAD, F.BPM_CTRL_HOST_BAD, F.BPM_CTRL_RECLAIM_PERIOD]
  | .BPM_STATUS => [F.BPM_STATUS_RECLAIM_BUSY, F.BPM_STATUS_RESERVE_A_IN_USE, F.BPM_STATUS_RESERVE_B_IN_USE, F.BPM_STATUS_MIN_OVER, F.BPM_STATUS_CARVE_BUSY, F.BPM_STATUS_RETIRED]
  | .BPM_EVENT => [F.BPM_EVENT_WARN, F.BPM_EVENT_XOFF, F.BPM_EVENT_QUOTA_DROP, F.BPM_EVENT_POOL_EMPTY, F.BPM_EVENT_RESERVE_USED, F.BPM_EVENT_RESERVE_EXHAUSTED, F.BPM_EVENT_ECC_CORR, F.BPM_EVENT_ECC_UNCORR, F.BPM_EVENT_ICRC_FAIL, F.BPM_EVENT_LINK_ECC, F.BPM_EVENT_BITMAP_PARITY, F.BPM_EVENT_EDIT_PARITY, F.BPM_EVENT_EDIT_PATH_PARITY, F.BPM_EVENT_MC_PARTIAL_DROP, F.BPM_EVENT_CARVE_DONE, F.BPM_EVENT_CARVE_REFUSED, F.BPM_EVENT_REFCNT_LOST, F.BPM_EVENT_BUF_RETIRED]
  | .CARVE => [F.CARVE_P0_MIB, F.CARVE_P1_MIB, F.CARVE_P2_MIB, F.CARVE_P3_MIB]
  | .CARVE_CMD => [F.CARVE_CMD_CARVE_APPLY]
  | .POOL_FREE => [F.POOL_FREE_COUNT]
  | .COMMON_FREE => [F.COMMON_FREE_COUNT]
  | .RESERVE_FREE => [F.RESERVE_FREE_COUNT]
  | .ECC_CORR_CNT => [F.ECC_CORR_CNT_COUNT]
  | .ECC_UNCORR_CNT => [F.ECC_UNCORR_CNT_COUNT]
  | .ECC_LAST_ADDR => [F.ECC_LAST_ADDR_ADDR, F.ECC_LAST_ADDR_UNCORR]
  | .QP_MIN => [F.QP_MIN_MIN, F.QP_MIN_ALPHA]
  | .QP_MAX => [F.QP_MAX_MAX]
  | .QP_FC => [F.QP_FC_HEADROOM, F.QP_FC_XON_HYST]
  | .QP_WARN => [F.QP_WARN_WARN_PCT]
  | .ACCT_BIND => [F.ACCT_BIND_PROFILE, F.ACCT_BIND_LOSSLESS]
  | .ACCT_USED => [F.ACCT_USED_U]
  | .PORT_FC => [F.PORT_FC_FC_MODE, F.PORT_FC_PAUSE_QUANTA]
  | .TM_STATUS => [F.TM_STATUS_DESC_FREE, F.TM_STATUS_DESC_RESERVE_IN_USE]
  | .TM_EVENT => [F.TM_EVENT_DESC_EMPTY, F.TM_EVENT_GATE_OVERRUN, F.TM_EVENT_GATE_TOO_LONG, F.TM_EVENT_TAKEOVER_DONE, F.TM_EVENT_TAKEOVER_LATE, F.TM_EVENT_CL_PARITY, F.TM_EVENT_POLICER_PARITY, F.TM_EVENT_LIMIT_DROP, F.TM_EVENT_WRED_DROP, F.TM_EVENT_DESC_RESERVE_USED]
  | .MIR_CFG => [F.MIR_CFG_DEST, F.MIR_CFG_MIR_TC, F.MIR_CFG_EN]
  | .WRED_CFG => [F.WRED_CFG_WEIGHT]
  | .WRED_MIN => [F.WRED_MIN_MIN_TH]
  | .WRED_MAX => [F.WRED_MAX_MAX_TH, F.WRED_MAX_MAX_P]
  | .Q_CFG => [F.Q_CFG_QUANTUM, F.Q_CFG_WRED_PROF, F.Q_CFG_WRED_EN, F.Q_CFG_CBS_EN, F.Q_CFG_TBS_EN, F.Q_CFG_MIR_SESSION]
  | .Q_LIMIT => [F.Q_LIMIT_Q_LIMIT]
  | .Q_CBS_IDLE => [F.Q_CBS_IDLE_KBPS]
  | .Q_CBS_CREDIT => [F.Q_CBS_CREDIT_HI_CREDIT, F.Q_CBS_CREDIT_LO_CREDIT]
  | .Q_TBS_RATE => [F.Q_TBS_RATE_KBPS]
  | .Q_TBS_BURST => [F.Q_TBS_BURST_BYTES]
  | .Q_DEPTH => [F.Q_DEPTH_CELLS]
  | .TM_PORT_CFG => [F.TM_PORT_CFG_SP_LEVEL, F.TM_PORT_CFG_OVERHEAD, F.TM_PORT_CFG_PAUSE_EXEMPT, F.TM_PORT_CFG_PAUSE_EXEMPT7]
  | .TM_PORT_GATE => [F.TM_PORT_GATE_GATE_EN, F.TM_PORT_GATE_GATE_LA, F.TM_PORT_GATE_GUARD_EN, F.TM_PORT_GATE_HOLD_ADVANCE]
  | .TM_PORT_STATUS => [F.TM_PORT_STATUS_GATES, F.TM_PORT_STATUS_HOLD, F.TM_PORT_STATUS_ARMED, F.TM_PORT_STATUS_OPER_VALID, F.TM_PORT_STATUS_PAUSED, F.TM_PORT_STATUS_EXPRESS_RESTRICT, F.TM_PORT_STATUS_ENTRY, F.TM_PORT_STATUS_PROTECTED]
  | .CL_ADMIN_BASE_0 => [F.CL_ADMIN_BASE_0_LOW]
  | .CL_ADMIN_BASE_1 => [F.CL_ADMIN_BASE_1_HIGH]
  | .CL_ADMIN_CYCLE_0 => [F.CL_ADMIN_CYCLE_0_NS]
  | .CL_ADMIN_CYCLE_1 => [F.CL_ADMIN_CYCLE_1_FRAC]
  | .CL_ADMIN_LEN => [F.CL_ADMIN_LEN_LEN]
  | .CL_CMD => [F.CL_CMD_ARM, F.CL_CMD_DISARM]
  | .CL_TAKEOVER => [F.CL_TAKEOVER_WORD]
  | .TM_SEL => [F.TM_SEL_TBL, F.TM_SEL_INDEX]
  | .TM_CMD => [F.TM_CMD_READ, F.TM_CMD_WRITE]
  | .TM_ACC_STATUS => [F.TM_ACC_STATUS_BUSY, F.TM_ACC_STATUS_RESULT]
  | .TM_DATA => [F.TM_DATA_WORD]
  | .STAGE_CTRL => [F.STAGE_CTRL_RECIRC_MAX, F.STAGE_CTRL_SAMPLE_TC, F.STAGE_CTRL_SUPV_LAST_BYTE, F.STAGE_CTRL_LIFE_CHECK]
  | .STAGE_STATUS => [F.STAGE_STATUS_RUNNING, F.STAGE_STATUS_FAULTED]
  | .STAGE_EVENT => [F.STAGE_EVENT_QUEUE_FULL, F.STAGE_EVENT_PROG_OVERRUN, F.STAGE_EVENT_ENGINE_FAULT, F.STAGE_EVENT_PROG_ABSENT, F.STAGE_EVENT_RECIRC_LOOP, F.STAGE_EVENT_SUPV_LATE, F.STAGE_EVENT_PROFILE_FULL, F.STAGE_EVENT_SAMPLE_DROP]
  | .PIN_SEL => [F.PIN_SEL_PROGRAM, F.PIN_SEL_ENTRY]
  | .PIN_DATA => [F.PIN_DATA_ENGINE, F.PIN_DATA_PENDING]
  | .SUPV_EN => [F.SUPV_EN_PAIRS]
  | .CL_CFG => [F.CL_CFG_STEP]
  | .PROG_CFG => [F.PROG_CFG_CL_MASK, F.PROG_CFG_LOADED, F.PROG_CFG_DEFAULT, F.PROG_CFG_VERSION]
  | .ENG_STATUS => [F.ENG_STATUS_QUEUE_LEVEL, F.ENG_STATUS_BUSY, F.ENG_STATUS_STOPPED]
  | .SAMPLER_CFG => [F.SAMPLER_CFG_N, F.SAMPLER_CFG_RANDOM, F.SAMPLER_CFG_SAMPLE_EN, F.SAMPLER_CFG_SAMPLE_RING]
  | .FOLIO_CTRL => [F.FOLIO_CTRL_BIFURCATION, F.FOLIO_CTRL_CAP_DUP, F.FOLIO_CTRL_PIN_LIMIT, F.FOLIO_CTRL_SHED_HI, F.FOLIO_CTRL_RB_RATE]
  | .FOLIO_STATUS => [F.FOLIO_STATUS_STATE, F.FOLIO_STATUS_DRIVES, F.FOLIO_STATUS_SHED_LEVEL, F.FOLIO_STATUS_FILL, F.FOLIO_STATUS_SHED_LO, F.FOLIO_STATUS_WINDOWS]
  | .FOLIO_EVENT => [F.FOLIO_EVENT_SHED_UP, F.FOLIO_EVENT_OVERRUN, F.FOLIO_EVENT_PIN_SET, F.FOLIO_EVENT_PIN_TRUNCATED, F.FOLIO_EVENT_PIN_REFUSED, F.FOLIO_EVENT_DRIVE_LOST, F.FOLIO_EVENT_PIN_DAMAGED, F.FOLIO_EVENT_WRITE_ERROR, F.FOLIO_EVENT_READ_OVERWRITTEN]
  | .SEG_SEQ => [F.SEG_SEQ_WORD]
  | .RING_SEGMENTS => [F.RING_SEGMENTS_COUNT]
  | .PINNED => [F.PINNED_COUNT]
  | .CLASS_CFG => [F.CLASS_CFG_SNAP_LEN]
  | .SHED => [F.SHED_COUNT]
  | .OVERRUN => [F.OVERRUN_COUNT]
  | .DRIVE_STATUS => [F.DRIVE_STATUS_DSTATE, F.DRIVE_STATUS_LINK_WIDTH, F.DRIVE_STATUS_LINK_SPEED, F.DRIVE_STATUS_MEDIA_WEAR]
  | .FOLIO_PORT_CAP => [F.FOLIO_PORT_CAP_ING_CLASS, F.FOLIO_PORT_CAP_TC_MASK]
  | .HOST_STATUS => [F.HOST_STATUS_FROZEN, F.HOST_STATUS_FLR_BUSY, F.HOST_STATUS_LINK_WIDTH, F.HOST_STATUS_LINK_SPEED]
  | .HOST_EVENT => [F.HOST_EVENT_DB_INVALID, F.HOST_EVENT_CHAIN_ERR, F.HOST_EVENT_CQ_HALT, F.HOST_EVENT_RX_RING_DROP, F.HOST_EVENT_DMA_ERR, F.HOST_EVENT_CFG_REFUSED, F.HOST_EVENT_FLR_DONE, F.HOST_EVENT_PCIE_LINK_DOWN]
  | .FUNC_PERM => [F.FUNC_PERM_CFG_WRITE, F.FUNC_PERM_DIRECT_EN]
  | .WIN_LO => [F.WIN_LO_EN, F.WIN_LO_RD, F.WIN_LO_WR, F.WIN_LO_LOG2SIZE, F.WIN_LO_BASE]
  | .WIN_HI => [F.WIN_HI_BASE]
  | .HOST_RX_MAP => [F.HOST_RX_MAP_RING_0, F.HOST_RX_MAP_EN_0, F.HOST_RX_MAP_RING_1, F.HOST_RX_MAP_EN_1, F.HOST_RX_MAP_RING_2, F.HOST_RX_MAP_EN_2, F.HOST_RX_MAP_RING_3, F.HOST_RX_MAP_EN_3]
  | .RING_BASE_LO => [F.RING_BASE_LO_ADDR]
  | .RING_BASE_HI => [F.RING_BASE_HI_ADDR]
  | .RING_CFG => [F.RING_CFG_EN, F.RING_CFG_LOG2SIZE, F.RING_CFG_MODE, F.RING_CFG_CQ, F.RING_CFG_POLL_INTERVAL, F.RING_CFG_META_EN, F.RING_CFG_CMD_CHAN]
  | .RING_DB => [F.RING_DB_INDEX]
  | .RING_CONS => [F.RING_CONS_INDEX]
  | .RING_STATUS => [F.RING_STATUS_ACTIVE, F.RING_STATUS_HALTED, F.RING_STATUS_CHAIN_OPEN, F.RING_STATUS_OWNER_FROZEN]
  | .RING_OWNER => [F.RING_OWNER_FUNC]
  | .CQ_BASE_LO => [F.CQ_BASE_LO_ADDR]
  | .CQ_BASE_HI => [F.CQ_BASE_HI_ADDR]
  | .CQ_CFG => [F.CQ_CFG_EN, F.CQ_CFG_LOG2SIZE, F.CQ_CFG_VECTOR, F.CQ_CFG_INT_COUNT, F.CQ_CFG_INT_TIME]
  | .CQ_CONS => [F.CQ_CONS_INDEX]
  | .CQ_PROD => [F.CQ_PROD_INDEX]
  | .CQ_STATUS => [F.CQ_STATUS_STASH, F.CQ_STATUS_FULL, F.CQ_STATUS_HALTING, F.CQ_STATUS_RSV]
  | .CQ_OWNER => [F.CQ_OWNER_FUNC]
  | .MBOX_STATUS => [F.MBOX_STATUS_NOT_EMPTY]
  | .MBOX_EVENT => [F.MBOX_EVENT_POST_REFUSED, F.MBOX_EVENT_STALE_MARKED]
  | .MB_CFG => [F.MB_CFG_PRIO, F.MB_CFG_RX_CORE, F.MB_CFG_SENDER, F.MB_CFG_VECTOR]
  | .MB_STAGE => [F.MB_STAGE_WORD]
  | .MB_POST => [F.MB_POST_HEADER]
  | .MB_REQ_STATUS => [F.MB_REQ_STATUS_FREE, F.MB_REQ_STATUS_SEND_EPOCH]
  | .MB_RSP_HDR => [F.MB_RSP_HDR_HEADER]
  | .MB_RSP_DATA => [F.MB_RSP_DATA_WORD]
  | .MB_RSP_STATUS => [F.MB_RSP_STATUS_WORDS, F.MB_RSP_STATUS_HEAD_VALID, F.MB_RSP_STATUS_HEAD_STALE]
  | .MB_RSP_POP => [F.MB_RSP_POP_POP]
  | .MB_EVENT => [F.MB_EVENT_ARRIVED, F.MB_EVENT_TAKEN, F.MB_EVENT_POST_REFUSED]
  | .PROMPTER_CTRL => [F.PROMPTER_CTRL_SESSION_IDLE, F.PROMPTER_CTRL_CONFIRM_TIME, F.PROMPTER_CTRL_AUTO_APPLY]
  | .PROMPTER_STATUS => [F.PROMPTER_STATUS_BOOT_STATE, F.PROMPTER_STATUS_SLOT, F.PROMPTER_STATUS_TRIAL, F.PROMPTER_STATUS_FALLBACK, F.PROMPTER_STATUS_DEGRADED, F.PROMPTER_STATUS_CORE_UP, F.PROMPTER_STATUS_CFG_STATE]
  | .PROMPTER_EVENT => [F.PROMPTER_EVENT_CORE_RESET, F.PROMPTER_EVENT_PROMPTER_RESTART, F.PROMPTER_EVENT_BOOT_FALLBACK, F.PROMPTER_EVENT_SRAM_ECC_CORR, F.PROMPTER_EVENT_SRAM_ECC_UNCORR, F.PROMPTER_EVENT_LOAD_SHED, F.PROMPTER_EVENT_AUTH_FAIL, F.PROMPTER_EVENT_CORE0_OVERLOAD, F.PROMPTER_EVENT_DEGRADED, F.PROMPTER_EVENT_FW_REVERTED]
  | .PROMPTER_CMD => [F.PROMPTER_CMD_RESTART]
  | .FW_VERSION => [F.FW_VERSION_VERSION]
  | .FW_SVN => [F.FW_SVN_IMAGE, F.FW_SVN_OTP]
  | .BOOT_TIME => [F.BOOT_TIME_TIME]
  | .CORE_LOAD => [F.CORE_LOAD_LOAD, F.CORE_LOAD_PENDING, F.CORE_LOAD_SERVICE]
  | .FROZEN_MASTERS => [F.FROZEN_MASTERS_FROZEN]
  | .VIOL_INFO => [F.VIOL_INFO_MASTER, F.VIOL_INFO_KIND, F.VIOL_INFO_COUNT]
  | .VIOL_ADDR => [F.VIOL_ADDR_ADDR]
  | .VIOL_DATA => [F.VIOL_DATA_DATA]
  | .SRAM_ECC_CORR => [F.SRAM_ECC_CORR_COUNT]
  | .SRAM_ECC_UNCORR => [F.SRAM_ECC_UNCORR_COUNT]
  | .BOOK_CFG => [F.BOOK_CFG_MODE, F.BOOK_CFG_RECORD_MIN_SEV, F.BOOK_CFG_CURTAIN_LIMIT]
  | .BOOK_STATUS => [F.BOOK_STATUS_MODE_ACTIVE, F.BOOK_STATUS_MODE_PENDING, F.BOOK_STATUS_CURTAIN, F.BOOK_STATUS_STAGING, F.BOOK_STATUS_FULL, F.BOOK_STATUS_HELD]
  | .BOOK_EVENT => [F.BOOK_EVENT_FULL_REACHED, F.BOOK_EVENT_DROPPED, F.BOOK_EVENT_HOLD_DROPPED, F.BOOK_EVENT_CLEARED, F.BOOK_EVENT_CURTAIN_FORCED, F.BOOK_EVENT_SLOTS_LOST]
  | .BOOK_CMD => [F.BOOK_CMD_CURTAIN_UP, F.BOOK_CMD_CURTAIN_DOWN, F.BOOK_CMD_CLEAR, F.BOOK_CMD_CLR_CHAN, F.BOOK_CMD_CLR_ROLE]
  | .BOOK_NEXT_SEQ => [F.BOOK_NEXT_SEQ_SEQ_NO]
  | .BOOK_OLDEST_SEQ => [F.BOOK_OLDEST_SEQ_SEQ_NO]
  | .BOOK_COUNT => [F.BOOK_COUNT_COUNT]
  | .DROPPED => [F.DROPPED_COUNT]
  | .OVERWRITTEN => [F.OVERWRITTEN_COUNT]
  | .HOLD_DROPPED => [F.HOLD_DROPPED_COUNT]
  | .FILTERED => [F.FILTERED_COUNT]
  | .TRIG_MATCH => [F.TRIG_MATCH_CODE, F.TRIG_MATCH_MASK]
  | .TRIG_CTRL => [F.TRIG_CTRL_MIN_SEV, F.TRIG_CTRL_EN, F.TRIG_CTRL_PIN, F.TRIG_CTRL_NOTIFY, F.TRIG_CTRL_DUMP, F.TRIG_CTRL_NOTIFY_CHAN]
  | .TRIG_COUNT => [F.TRIG_COUNT_COUNT]
  | .SNAP_ENTRY => [F.SNAP_ENTRY_ADDR, F.SNAP_ENTRY_REL, F.SNAP_ENTRY_INTERNAL, F.SNAP_ENTRY_EN]
  | .PERF_STATUS => [F.PERF_STATUS_SNAP_BUSY, F.PERF_STATUS_DUMP_BUSY, F.PERF_STATUS_LAST_BUF]
  | .PERF_EVENT => [F.PERF_EVENT_DUMP_SKIPPED, F.PERF_EVENT_DUMP_DONE, F.PERF_EVENT_WRAP, F.PERF_EVENT_SNAP_DONE]
  | .PERF_CMD => [F.PERF_CMD_SNAP, F.PERF_CMD_DUMP_NOW]
  | .PERF_ALLOW => [F.PERF_ALLOW_ALLOW]
  | .SNAP_FIRST_PT => [F.SNAP_FIRST_PT_NS]
  | .SNAP_LAST_PT => [F.SNAP_LAST_PT_NS]
  | .DUMP_FN => [F.DUMP_FN_DUMP_FN]
  | .DUMP_CFG => [F.DUMP_CFG_DUMP_EN, F.DUMP_CFG_SETS, F.DUMP_CFG_DUMP_PERIOD]
  | .DUMP_STREAM_MASK => [F.DUMP_STREAM_MASK_MASK]
  | .DUMP_BASE => [F.DUMP_BASE_ADDR]
  | .DUMP_SEQ => [F.DUMP_SEQ_SEQ_NO]
  | .DUMP_SKIPPED => [F.DUMP_SKIPPED_COUNT]
  | .PC_LO => [F.PC_LO_COUNT]
  | .PC_HI => [F.PC_HI_COUNT_HI, F.PC_HI_OVF, F.PC_HI_CHAINED]
  | .PC_CFG => [F.PC_CFG_TC_MASK, F.PC_CFG_ROLE_MASK, F.PC_CFG_MASTER, F.PC_CFG_ADDR_EN, F.PC_CFG_OVF_MODE]
  | .ADDR_LO => [F.ADDR_LO_ADDR]
  | .ADDR_HI => [F.ADDR_HI_ADDR]
  | .PC_CLEAR => [F.PC_CLEAR_CLEAR]
  | .PAIR_CFG => [F.PAIR_CFG_CLAIM_LEVEL, F.PAIR_CFG_HB_HALF, F.PAIR_CFG_HB_FW, F.PAIR_CFG_REVERT_EN, F.PAIR_CFG_START_WAIT]
  | .PAIR_STATUS => [F.PAIR_STATUS_STATE, F.PAIR_STATUS_CLAIM, F.PAIR_STATUS_CLAIM_RB, F.PAIR_STATUS_PAR_RB, F.PAIR_STATUS_ARB_GO, F.PAIR_STATUS_ARB_FAULT_IN, F.PAIR_STATUS_LINK_UP, F.PAIR_STATUS_ULK_UP, F.PAIR_STATUS_HEALTH_OK, F.PAIR_STATUS_UNIT_ID, F.PAIR_STATUS_PREFERRED, F.PAIR_STATUS_PAIR_EN, F.PAIR_STATUS_EFF_PREFERRED]
  | .PAIR_EVENT => [F.PAIR_EVENT_TAKEOVER, F.PAIR_EVENT_GO_LOST, F.PAIR_EVENT_PEER_FAULT, F.PAIR_EVENT_SYNCED, F.PAIR_EVENT_SYNC_LOST, F.PAIR_EVENT_REVERT_DONE, F.PAIR_EVENT_REVERT_ABORTED, F.PAIR_EVENT_DUAL_ACTIVE, F.PAIR_EVENT_ULK_LANE_DOWN, F.PAIR_EVENT_MIRROR_OVERFLOW, F.PAIR_EVENT_CLAIM_MISMATCH, F.PAIR_EVENT_HEALTH_FAIL, F.PAIR_EVENT_STRAP_CONFLICT, F.PAIR_EVENT_CFG_DIVERGED]
  | .PAIR_TIMERS => [F.PAIR_TIMERS_REVERT_HOLD, F.PAIR_TIMERS_OVERLAP]
  | .PEER_STATUS => [F.PEER_STATUS_PEER_STATE, F.PEER_STATUS_PEER_CLAIM, F.PEER_STATUS_PEER_PREFERRED, F.PEER_STATUS_PEER_UNIT_ID, F.PEER_STATUS_PEER_VALID]
  | .MIRROR_STATUS => [F.MIRROR_STATUS_BACKLOG, F.MIRROR_STATUS_OVERFLOWED, F.MIRROR_STATUS_RESYNC_BUSY, F.MIRROR_STATUS_RESYNC_PCT]
  | .LAST_TAKEOVER_PT => [F.LAST_TAKEOVER_PT_NS]
  | .TAKEOVER_INFO => [F.TAKEOVER_INFO_FAILOVER_TIME, F.TAKEOVER_INFO_BASE_AGE]
  | .MIRROR_TX_SEQ => [F.MIRROR_TX_SEQ_SEQ_NO]
  | .MIRROR_RX_SEQ => [F.MIRROR_RX_SEQ_SEQ_NO]
  | .CFG_DIGEST => [F.CFG_DIGEST_DIGEST]
  | .PEER_CFG_DIGEST => [F.PEER_CFG_DIGEST_DIGEST]
  | .DOM_CFG => [F.DOM_CFG_DOM_EN, F.DOM_CFG_ROOT, F.DOM_CFG_DEPTH, F.DOM_CFG_DEPTH_LIMIT, F.DOM_CFG_MAX_ROLE, F.DOM_CFG_DOM_TC, F.DOM_CFG_DOMAIN_ID]
  | .DOM_STATUS => [F.DOM_STATUS_CHILDREN, F.DOM_STATUS_PARENT_LIVE, F.DOM_STATUS_OP_STATE, F.DOM_STATUS_KEY_SET]
  | .DOM_EVENT => [F.DOM_EVENT_AUTH_FAIL, F.DOM_EVENT_REPLAY, F.DOM_EVENT_CHILD_LOST, F.DOM_EVENT_CHILD_REFUSED, F.DOM_EVENT_DUP_INDEX, F.DOM_EVENT_PARENT_LOST, F.DOM_EVENT_PROOF_LATCHED, F.DOM_EVENT_PROOF_LATE, F.DOM_EVENT_ACTION_ARMED, F.DOM_EVENT_ACTION_DONE, F.DOM_EVENT_ACTION_REFUSED, F.DOM_EVENT_ACTION_CANCELLED, F.DOM_EVENT_BARRIER_TIMEOUT]
  | .DOM_ID => [F.DOM_ID_INDEX, F.DOM_ID_PARENT_INDEX]
  | .DOM_MAC_0 => [F.DOM_MAC_0_ADDR]
  | .DOM_MAC_1 => [F.DOM_MAC_1_ADDR]
  | .DOM_PARENT_MAC_0 => [F.DOM_PARENT_MAC_0_ADDR]
  | .DOM_PARENT_MAC_1 => [F.DOM_PARENT_MAC_1_ADDR]
  | .DOM_GROUP_DA_0 => [F.DOM_GROUP_DA_0_ADDR]
  | .DOM_GROUP_DA_1 => [F.DOM_GROUP_DA_1_ADDR]
  | .DOM_TIMERS => [F.DOM_TIMERS_HOP_WAIT, F.DOM_TIMERS_ARM_MIN, F.DOM_TIMERS_SKEW_MAX, F.DOM_TIMERS_HELLO_PERIOD]
  | .DOM_LEAD => [F.DOM_LEAD_LEAD]
  | .DOM_RATE => [F.DOM_RATE_RATE]
  | .DOMAIN_PORTS => [F.DOMAIN_PORTS_PORTS]
  | .PROOF_SNAP => [F.PROOF_SNAP_ADDR, F.PROOF_SNAP_EN]
  | .OP_TARGET_0 => [F.OP_TARGET_0_LOW]
  | .OP_TARGET_1 => [F.OP_TARGET_1_HIGH, F.OP_TARGET_1_HOLD]
  | .OP_ID => [F.OP_ID_ID]
  | .CHILD_0 => [F.CHILD_0_INDEX, F.CHILD_0_LIVE, F.CHILD_0_REPORTED]
  | .CHILD_1 => [F.CHILD_1_DELAY]
  | .PWR_CTRL => [F.PWR_CTRL_WARN_C, F.PWR_CTRL_CRIT_C]
  | .PWR_STATUS => [F.PWR_STATUS_RAIL_OK, F.PWR_STATUS_CORE_PLL_LOCK, F.PWR_STATUS_PROMPTER_PLL_LOCK, F.PWR_STATUS_PCIE_HOST_PLL_LOCK, F.PWR_STATUS_PCIE_STOR_PLL_LOCK, F.PWR_STATUS_ULK_PLL_LOCK, F.PWR_STATUS_HOT, F.PWR_STATUS_CRIT]
  | .PWR_EVENT => [F.PWR_EVENT_SUPPLY_FAULT, F.PWR_EVENT_THERM_WARN, F.PWR_EVENT_THERM_CRIT, F.PWR_EVENT_PLL_UNLOCK]
  | .TEMP => [F.TEMP_T16]
  | .TEMP_MAX => [F.TEMP_MAX_T16]
  | .GATE_STATUS_0 => [F.GATE_STATUS_0_QUAD_PLL_ON, F.GATE_STATUS_0_CLUSTER_ON]
  | .GATE_STATUS_1 => [F.GATE_STATUS_1_FOLIO_LINK_ON, F.GATE_STATUS_1_CORE_CLK_ON]
  | .LIFE_HOURS => [F.LIFE_HOURS_HOURS100]
  | .VMON => [F.VMON_MV]
  | .CAP_HEADER => [F.CAP_HEADER_CAP_ID, F.CAP_HEADER_CAP_VER, F.CAP_HEADER_NEXT]
  | .CAP_INFO => [F.CAP_INFO_INSTANCE, F.CAP_INFO_SLOTS]
  | .GUARD_UNLOCK => [F.GUARD_UNLOCK_KEY]

/-- The snapshot list a block's chapter gives (R394), by source ID: register addresses, relative where the list
names the object concerned, and internal words. -/
inductive SnapItem where
  | reg (r : RegName) (i : Nat)
  | rel (r : RegName)
  | int (k : Nat)
  deriving DecidableEq, Repr

/-- The chapters' snapshot lists by capability ID (R60, R90, R132, R165, R197, R228, R261, R297, R332, R369, R409,
R435, R458, R494). -/
def snapList : Nat → List SnapItem
  | 1 => [.reg .GLOBAL_EVENT 0, .reg .PARITY_LAST 0, .reg .PARITY_COUNT 0]
  | 2 => [.rel .PORT_STATUS, .rel .PORT_EVENT, .rel .LANE_STATUS]
  | 4 => [.rel .PARSER_EVENT, .rel .PARSER_PORT_CFG]
  | 5 => [.reg .PLATE_STATUS 0, .reg .PLATE_EVENT 0, .reg .INFLIGHT_ACTIVE 0, .reg .INFLIGHT_RETIRING 0]
  | 6 => [.int 0, .int 1, .int 2, .int 3, .int 4, .reg .STREAM_STATUS 0, .reg .STREAM_EVENT 0, .int 5]
  | 7 => [.reg .BPM_STATUS 0, .reg .BPM_EVENT 0, .reg .COMMON_FREE 0, .reg .POOL_FREE 0, .reg .POOL_FREE 1,
      .reg .POOL_FREE 2, .reg .POOL_FREE 3, .int 0]
  | 8 => [.reg .TM_STATUS 0, .reg .TM_EVENT 0, .rel .TM_PORT_CFG, .rel .TM_PORT_GATE, .rel .TM_PORT_STATUS,
      .int 0, .int 1, .int 2]
  | 9 => [.reg .TIME_STATUS 0, .reg .TB_STATE 0, .reg .TB_STATE 1, .reg .PT_OFF 0, .int 0, .int 1, .int 2]
  | 10 => [.reg .STAGE_STATUS 0, .reg .STAGE_EVENT 0, .rel .CL_CFG, .rel .ENG_STATUS]
  | 11 => [.reg .FOLIO_STATUS 0, .reg .FOLIO_EVENT 0, .reg .SEG_SEQ 0, .reg .SEG_SEQ 1, .reg .PINNED 0,
      .rel .DRIVE_STATUS]
  | 12 => [.reg .HOST_STATUS 0, .reg .HOST_EVENT 0, .rel .RING_CFG, .rel .RING_STATUS, .rel .CQ_STATUS]
  | 13 => [.rel .MB_CFG, .rel .MB_REQ_STATUS, .rel .MB_RSP_STATUS]
  | 14 => [.reg .PROMPTER_STATUS 0, .reg .PROMPTER_EVENT 0, .reg .FW_VERSION 0, .reg .CORE_LOAD 0,
      .reg .CORE_LOAD 1, .reg .CORE_LOAD 2, .reg .CORE_LOAD 3, .int 0]
  | 15 => [.reg .BOOK_STATUS 0, .reg .BOOK_EVENT 0, .reg .BOOK_NEXT_SEQ 0, .reg .BOOK_OLDEST_SEQ 0, .reg .BOOK_COUNT 0]
  | 16 => [.reg .PERF_STATUS 0, .reg .PERF_EVENT 0, .reg .DUMP_SEQ 0, .reg .DUMP_SKIPPED 0]
  | 17 => [.reg .PAIR_STATUS 0, .reg .PAIR_EVENT 0, .reg .PEER_STATUS 0, .reg .MIRROR_STATUS 0, .reg .TAKEOVER_INFO 0,
      .reg .MIRROR_RX_SEQ 0]
  | 18 => [.reg .DOM_CFG 0, .reg .DOM_ID 0, .reg .DOM_STATUS 0, .reg .DOM_EVENT 0, .reg .OP_ID 0, .reg .OP_TARGET_0 0,
      .reg .OP_TARGET_1 0]
  | 19 => [.reg .PWR_STATUS 0, .reg .PWR_EVENT 0, .reg .TEMP_MAX 0, .int 0, .int 1, .rel .VMON]
  | _ => []

/-- The BAR0 address of element `i` of a register. -/
def regAddr (r : RegName) (i : Nat) : Nat :=
  (regInfo r).base + (i / (regInfo r).n2) * (regInfo r).s1 + (i % (regInfo r).n2) * (regInfo r).s2

/-- A snapshot list entry as the word of R406: ADDR, REL, INTERNAL, EN. -/
def SnapItem.word : SnapItem → Nat
  | .reg r i => regAddr r i + 0x4000000
  | .rel r => regAddr r 0 + 0x5000000
  | .int k => k + 0x6000000

/-- Reset value of entry `i % 8` of the snapshot list of source `i / 8` (R394). TABLES lists R132's four registers;
its FDB records use R165's list (Record.lean). -/
def snapReset (i : Nat) : Nat :=
  match (snapList (i / 8))[i % 8]? with
  | some x => x.word
  | none => 0

/-- MB_CFG resets of R317 and R330, by channel. -/
def mbCfgReset (c : Nat) : Nat :=
  (if c < 16 then 1 + 4 * 1 + 16 * (c / 2) else if c < 20 then 3 + 4 * 0 + 16 * 29
   else if c < 24 then 2 + 4 * 2 + 16 * 30 else 2 + 4 * 0 + 16 * 31) + 512 * (14 + c % 2)

/-- The blocks of R381 in list order: first slot, capability ID, slots, instance. -/
def blockList : List (Nat × Nat × Nat × Nat) :=
  [(0, 1, 1, 0), (1, 2, 1, 0), (2, 2, 1, 1), (3, 2, 1, 2), (4, 2, 1, 3), (5, 2, 1, 4), (6, 2, 1, 5), (7, 2, 1, 6), (8, 2, 1, 7), (9, 2, 1, 8), (10, 2, 1, 9), (11, 2, 1, 10),
   (12, 2, 1, 11), (13, 2, 1, 12), (14, 2, 1, 13), (15, 2, 1, 14), (16, 2, 1, 15), (32, 4, 1, 0), (33, 4, 1, 1), (36, 5, 1, 0), (40, 6, 1, 0), (44, 7, 1, 0), (48, 8, 8, 0), (56, 9, 1, 0),
   (60, 10, 1, 0), (64, 11, 1, 0), (68, 12, 1, 0), (72, 13, 1, 0), (76, 14, 1, 0), (80, 15, 1, 0), (84, 16, 1, 0), (88, 17, 1, 0), (92, 18, 1, 0), (96, 19, 1, 0)]

/-- The block that begins at a slot. -/
def blockAt (sl : Nat) : Option (Nat × Nat × Nat × Nat) := blockList.find? (fun b => b.1 == sl)

/-- The slot after `sl` in the capability list, 0 at its end (R379). -/
def nextSlot (sl : Nat) : Nat :=
  match blockList.find? (fun b => sl < b.1) with
  | some b => b.1
  | none => 0

/-- The capability header of R378: CAP_ID, CAP_VER 1, NEXT. -/
def capHeader (sl : Nat) : Nat :=
  match blockAt sl with
  | some (s, c, _, _) => c + 0x10000 + nextSlot s * 0x100000
  | none => 0

/-- The second word of R378: INSTANCE and SLOTS. -/
def capInfo (sl : Nat) : Nat :=
  match blockAt sl with
  | some (_, _, n, inst) => inst + 256 * n
  | none => 0

/-- The slot of the block that owns a BAR0 address: an address in a later slot of TM belongs to slot 0x30. -/
def ownerSlot (addr : Nat) : Nat :=
  let sl := addr / 0x10000
  if 0x31 ≤ sl ∧ sl ≤ 0x37 then 0x30 else sl

/-- The element index of `addr` in a register's array, if it lies there. -/
def regIndex (r : RegName) (addr : Nat) : Option Nat :=
  let x := regInfo r
  if addr < x.base then none else
  let d := addr - x.base
  let q := if x.s1 = 0 then 0 else d / x.s1
  let m := if x.s1 = 0 then d else d % x.s1
  let i := if x.n2 = 1 then (if m = 0 then some q else none)
    else if x.s2 = 0 then none
    else if m % x.s2 = 0 ∧ m / x.s2 < x.n2 then some (q * x.n2 + m / x.s2) else none
  match i with
  | some i => if i < x.n then some i else none
  | none => none

/-- The register at a BAR0 address: an unused offset holds none (R379). The headers are of block slots only. -/
def regAt (addr : Nat) : Option (RegName × Nat) :=
  match allRegs.findSome? (fun r => match r with
      | .CAP_HEADER | .CAP_INFO | .GUARD_UNLOCK => none
      | r => (regIndex r addr).map (fun i => (r, i))) with
  | some x => some x
  | none =>
    if (blockAt (addr / 0x10000)).isSome then
      if addr % 0x10000 = 0 then some (.CAP_HEADER, addr / 0x10000)
      else if addr % 0x10000 = 4 then some (.CAP_INFO, addr / 0x10000)
      else if addr % 0x10000 = 8 then some (.GUARD_UNLOCK, addr / 0x10000)
      else none
    else none

/-- The reset value the maps give each register. -/
def regReset (r : RegName) (i : Nat) : Nat :=
  match r with
  | .DEVICE_ID => 0x7A314128
  | .RESET_CAUSE => 1
  | .LANE_CFG => 0x80
  | .PORT_CFG => 0x600
  | .PORT_LINK => 0x6403E8
  | .PORT_PRE => 0x8002A
  | .PORT_EEE => 0x110640
  | .TIME_CTRL => 0x322
  | .PPS_CFG => 0x30D40
  | .TB_TIMERS => 0x7080FA0
  | .TIO_CFG => 8
  | .PARSER_CTRL => 2
  | .PCP_TO_TC => 0xFAC688
  | .PARSER_PORT_CFG => 0x200
  | .PLATE_LIMITS => 0xFA
  | .FRAG_CFG => 0x1E
  | .PROF_GRP => 0xFFFF
  | .ACT_PROF_GRP => 0xFFFF
  | .FDB_CFG => 0xFA04B1
  | .LR_CFG => 0x4D808
  | .FDB_PORT_CFG => 3 + 4 * i
  | .STREAM_CTRL => 0xC833
  | .BPM_CTRL => 0x3E80001
  | .CARVE => 0x10101010
  | .QP_MIN => 0x100010
  | .QP_MAX => 0x10000
  | .QP_FC => 0x400100
  | .QP_WARN => 0x4B
  | .PORT_FC => 0xFFFF0000
  | .TM_STATUS => 0x20000
  | .WRED_CFG => 9
  | .Q_CFG => if i / 8 = 257 then 0x400600 else 0x600
  | .Q_LIMIT => 0x4000
  | .Q_CBS_CREDIT => 0xFFFFFFFF
  | .Q_TBS_RATE => if i / 8 = 257 then 100000 else 0
  | .Q_TBS_BURST => 0x10000
  | .TM_PORT_CFG => 0x800146
  | .TM_PORT_GATE => 2
  | .TM_PORT_STATUS => 0xFF
  | .STAGE_CTRL => 0x7D00002
  | .STAGE_STATUS => 0xFFFF
  | .CL_CFG => 4
  | .SAMPLER_CFG => 0x10003E8
  | .FOLIO_CTRL => 0x144B1900
  | .FOLIO_STATUS => 0x190000
  | .FOLIO_PORT_CAP => 0x7F8
  | .HOST_RX_MAP => 0x80808080
  | .RING_CFG => 0x801408
  | .CQ_CFG => 0x208
  | .MB_CFG => mbCfgReset i
  | .MB_REQ_STATUS => 0x10
  | .PROMPTER_CTRL => 0x6580384
  | .BOOK_CFG => 0xA0002
  | .SNAP_ENTRY => snapReset i
  | .DUMP_CFG => 0x7D00
  | .PC_CFG => 0x1FFFF
  | .PAIR_CFG => 0x142327
  | .PAIR_STATUS => 1
  | .PAIR_TIMERS => 0x640064
  | .DOM_CFG => 0x5400
  | .DOM_TIMERS => 0xA0A0A14
  | .DOM_LEAD => 0x32
  | .DOM_RATE => 0x186A0
  | .PWR_CTRL => 0x6E64
  | .GATE_STATUS_0 => 0xFFFF0000
  | .CAP_HEADER => capHeader i
  | .CAP_INFO => capInfo i
  | _ => 0 * i

end Sys2Proof.Machine
end

