-- ==== Sys2Proof/Machine/Tbl.lean ====
section
/-! DEFINITION. Sparse data by key: a list of key and value pairs in one canonical form (keys strictly rising, no
entry equal to the value an unlisted key reads as), so that equal tables are equal data. Every large table of the
device (registers, counters, FDB, rule tables, queues) is held so. -/

namespace Sys2Proof.Machine

/-- A sparse table. What an unlisted key reads as is given by whoever reads the table. -/
abbrev Tbl (α : Type) := List (Nat × α)

/-- The value at a key, `d` where the table lists none. -/
def Tbl.getD {α : Type} (t : Tbl α) (d : α) (k : Nat) : α :=
  match t with
  | [] => d
  | (k', v) :: r => if k' = k then v else Tbl.getD r d k

/-- Lists `v` at `k`, whatever stood there. -/
def Tbl.ins {α : Type} (t : Tbl α) (k : Nat) (v : α) : Tbl α :=
  match t with
  | [] => [(k, v)]
  | (k', w) :: r =>
    if k < k' then (k, v) :: (k', w) :: r
    else if k = k' then (k, v) :: r
    else (k', w) :: Tbl.ins r k v

/-- Removes what is listed at `k`. -/
def Tbl.del {α : Type} (t : Tbl α) (k : Nat) : Tbl α :=
  match t with
  | [] => []
  | (k', w) :: r => if k' = k then Tbl.del r k else (k', w) :: Tbl.del r k

/-- Writes `v` at `k` in a table whose unlisted keys read `d`. -/
def Tbl.putD {α : Type} [DecidableEq α] (t : Tbl α) (d : α) (k : Nat) (v : α) : Tbl α :=
  if v = d then t.del k else t.ins k v

/-- The value at a key, the type's default where none is listed. -/
def Tbl.get {α : Type} [Inhabited α] (t : Tbl α) (k : Nat) : α := t.getD default k

/-- Writes a value, the type's default being what an unlisted key reads as. -/
def Tbl.put {α : Type} [Inhabited α] [DecidableEq α] (t : Tbl α) (k : Nat) (v : α) : Tbl α := t.putD default k v

/-- The keys rise strictly. -/
def Tbl.rising {α : Type} : Tbl α → Bool
  | [] => true
  | [_] => true
  | (a, _) :: (b, v) :: r => decide (a < b) && Tbl.rising ((b, v) :: r)

/-- The canonical form, for unlisted keys reading `d`. -/
def Tbl.wfD {α : Type} [DecidableEq α] (t : Tbl α) (d : α) : Bool :=
  t.rising && t.all (fun e => decide (e.2 ≠ d))

/-- The listed keys. -/
def Tbl.keys {α : Type} (t : Tbl α) : List Nat := t.map Prod.fst

/-- Sets element `i` of a list, which is left alone where it has none. -/
def setAt {α : Type} (l : List α) (i : Nat) (v : α) : List α := l.set i v

end Sys2Proof.Machine
end

