-- ==== Sys2Proof/Machine/State.lean ====
section
/-! DEFINITION. The state of the device as plain data, block by block, the queue of waiting commands, the machine
right after reset, and the reasons a step can stop. Registers live in one table by address (RegMap.lean); what
the spec gives the machine beside them has a field of its own here, whose comment names its rule. -/

namespace Sys2Proof.Machine

/-! ## Records, messages, output -/

/-- What a command makes the block put out: a frame on the wire, a write to host or drive memory, an interrupt, a
message of the understudy link. It is the model's own log of effects that leave the block (log entry 3). -/
inductive OutEv where
  /-- A frame or fragment leaves a port's MAC (0 express, 1 preemptable); `good` is false for a stomped FCS. -/
  | frame (port mac : Nat) (bytes : List Byte) (good : Bool)
  /-- The device writes bytes to a function's host memory (R301). -/
  | dma (fn addr : Nat) (bytes : List Byte)
  /-- An MSI-X vector of a function fires (R316, R321). -/
  | msix (fn vec : Nat)
  /-- Words of a mirror or peer message on the understudy link (R427). -/
  | ulk (words : List Nat)
  /-- An NVMe command to a drive (R280): 1 drive headers, 2 data, 3 a segment header, 4 the SMART log, 5 an abort, 6 a
  deallocation, 7 identification, 8 a read; the ring position (of drive headers the copy), the bytes. -/
  | nvme (drive op arg len : Nat)
  /-- The bytes 0 to 63 of a segment header written to a drive: ring position, bytes (R282). -/
  | segHead (drive pos : Nat) (bytes : List Byte)
  /-- A flash write by the Prompter: region, offset, words (R338). -/
  | flash (region off : Nat) (words : List Nat)
  /-- A pin changes level (R83, R87, R88, R416, R484): 0 TIO, 1 PPS_OUT, 2 SYNCE_OUT, whose level is its divider while it runs. -/
  | pin (name idx level : Nat)
  /-- A TIO pin's edge (R80, R85): its level, and where it is placed, in 2^-16 ns of the compare's source modulo 2^56. -/
  | edge (pin level time : Nat)
  /-- The MAC sends a pause or PFC frame: port, class mask, quanta (R210). -/
  | pause (port mask quanta : Nat)
  /-- The pMAC sends a verify (0) or respond (1) mPacket, or a MAC control word (R43, R48). -/
  | mac (port kind : Nat)
  deriving DecidableEq, Repr

/-- A Promptbook record (R382); INTEGRITY is a function of the rest (R384). -/
structure Rec where
  pt : Nat
  timeFlags : Nat
  code : Nat
  sev : Nat
  held : Bool
  fw : Bool
  snaps : List Nat
  seq : Nat
  arg0 : Nat
  arg1 : Nat
  deriving DecidableEq, Repr, Inhabited

/-- A channel's record subscription (R395). `lastMs` is one more than the 1 ms interval of its last notification. -/
structure Sub where
  on : Bool
  minSev : Nat
  code : Nat
  mask : Nat
  missed : Nat
  lastMs : Nat
  deriving DecidableEq, Repr, Inhabited

/-- A mailbox message (R318): header word, payload words, STALE mark (R320). -/
structure Msg where
  hdr : Nat
  words : List Nat
  stale : Bool
  deriving DecidableEq, Repr, Inhabited

/-- A mailbox channel (R317 to R321): request queue, response queue, responses waiting for room (R321), staging words
by index, the two epochs; request words at the end of the previous core cycle, and the cycle + 1 they are kept for
(R319). -/
structure Chan where
  req : List Msg
  rsp : List Msg
  wait : List Msg
  stage : Tbl Nat
  epochS : Nat
  epochP : Nat
  prevW : Nat
  prevAt : Nat
  deriving DecidableEq, Repr, Inhabited

/-- A command ring's open SFI job (R313). -/
structure CmdJob where
  ring : Nat
  tag : Nat
  index : Nat
  bufs : Nat
  rspAddr : Nat
  rspLen : Nat
  ch : Nat
  sfiTag : Nat
  op : Nat
  deriving DecidableEq, Repr, Inhabited

/-- A request the Prompter has admitted and not yet executed (R351 step 6), with the role it runs under. -/
structure PendReq where
  core : Nat
  ch : Nat
  tag : Nat
  op : Nat
  role : Nat
  echo : Nat
  ring : Bool
  deriving DecidableEq, Repr, Inhabited

/-- An entry of core 3's job list (R350): the PENDING command, and the data its completion needs. -/
structure Job where
  ch : Nat
  tag : Nat
  op : Nat
  role : Nat
  echo : Nat
  ring : Bool
  data : List Nat
  deriving DecidableEq, Repr, Inhabited

/-- The session of a channel (R352 to R355). Times are core cycles. `nonce` holds its words, the role asked for and
the cycle it expires. -/
structure Session where
  isOpen : Bool
  role : Nat
  nonce : Option (List Nat × Nat × Nat)
  /-- The core cycle of the last request, and of the last in an earlier core cycle (R354, R366). -/
  lastUse : Nat
  prevUse : Nat
  fails : List Nat
  lockUntil : Nat
  deriving DecidableEq, Repr, Inhabited

/-- A frozen master (R324, R325): KIND, address, data, the role it held. -/
structure Freeze where
  kind : Nat
  addr : Nat
  data : Nat
  role : Nat
  deriving DecidableEq, Repr, Inhabited

/-- A latched dump (R398): function, DUMP_SEQ, latch cycle, PT, SETS, stream mask, cause bits [23:16] of header word
32, skips, OP_ID, performance first and last PT, and the counters as latched. -/
structure DumpRec where
  fn : Nat
  seq : Nat
  cycle : Nat
  pt : Nat
  flags : Nat
  sets : Nat
  mask : Nat
  cause : Nat
  skips : Nat
  opId : Nat
  port : Tbl Nat
  cls : Tbl Nat
  stream : Tbl Nat
  perf : List Nat
  firstPt : Nat
  lastPt : Nat
  deriving DecidableEq, Repr, Inhabited

/-! ## State by block -/

/-- Common facilities: the cycle counter (R18), registers (R370 to R378), counters (R396 to R401), the event marks of
R373 and R495, what left the block, and the model's counter of free values. -/
structure CoreSt where
  /-- Core cycles since core reset (R18). -/
  cycle : Nat
  /-- The place of the present core cycle (R19, R20) that the last command took (the model's own, log entry 1). -/
  place : Nat
  /-- The value of every register, by BAR0 address; an unlisted one holds its reset value. -/
  regs : Tbl Word
  /-- One more than the cycle in which an RSQ register's SEQ last advanced (R373), by address. -/
  evMark : Tbl Nat
  /-- Unlock state, by 32 × slot + master (R371). -/
  unlock : Tbl Bool
  /-- One more than the last interval that used a limited record or flag (R495), by (code or flag, object) key. -/
  marks : Tbl Nat
  /-- A register's good value while it holds a corrupted one (R376), by address. -/
  shadow : Tbl Nat
  /-- Writes in core 0's shadow log of 1,024 entries not yet taken, as addresses (R377). -/
  shadowLog : List Nat
  /-- Registers written in the present core cycle, by address (R403). -/
  regWrote : List Nat
  /-- Slots written since the shadow log overflowed (R377). -/
  shadowLost : List Nat
  /-- Performance counters, 48 bits, by 8 × slot + index (R399). -/
  perf : Tbl Nat
  /-- OVF bit of a performance counter (R401). -/
  perfOvf : Tbl Nat
  /-- Latched statistics: 40 per port (R396), by 40 × port + index. -/
  portStats : Tbl Nat
  /-- 8 per (port, class), by 8 × (8 × port + class) + index. -/
  classStats : Tbl Nat
  /-- 8 per stream, by 8 × stream + index. -/
  streamStats : Tbl Nat
  /-- The statistics dump being written (R397, R398). -/
  dump : Option DumpRec
  /-- Core cycle and PT (ns) of the last periodic latch or the setting of DUMP_EN, and latches skipped since the last dump
  (R397). -/
  dumpMark : Nat
  dumpPt : Nat
  dumpSkips : Nat
  /-- The last performance snapshot's counts and OVF bits (R399). -/
  perfSnap : Tbl Nat
  perfSnapOvf : Tbl Nat
  /-- What left the block, oldest first. -/
  out : List OutEv
  /-- Free values drawn so far (the model's own, log entry 2). -/
  freeCtr : Nat
  deriving DecidableEq, Repr, Inhabited

/-- The Promptbook (R382 to R395). -/
structure BookSt where
  /-- Stored records, ascending SEQ. -/
  book : List Rec
  /-- Next SEQ, modulo 2^32. -/
  nextSeq : Nat
  /-- Records generated in the present core cycle, not yet numbered (R20, R383). -/
  evq : List Rec
  /-- Records of the large configuration waiting in the staging ring for their drives, by SEQ (R386). -/
  staged : List Nat
  /-- Slots lost with a drive (R386). -/
  slotsLost : Nat
  /-- The book has been full since it was last empty (BOOK_FULL, R409). -/
  wasFull : Bool
  /-- The curtain's owner channel (32 for the register), the cycle it was raised. -/
  curtain : Option (Nat × Nat)
  /-- The holding queue of 16 and the count dropped under this curtain (R390). -/
  held : List Rec
  heldDropped : Nat
  /-- Subscriptions by channel (R395). -/
  subs : Tbl Sub
  /-- BOOK_EVENT notifications due, oldest first: channel, record, matching triggers (R393, R395). -/
  notes : List (Nat × Rec × Nat)
  deriving DecidableEq, Repr, Inhabited

/-- The Prompter and its firmware (R333 to R365). Times are core cycles. -/
structure SfiSt where
  /-- Admitted requests (R351). -/
  pendQ : List PendReq
  /-- Core 3's job list, at most 32 (R350). -/
  jobs : List Job
  /-- Open command-ring jobs (R313). -/
  cmdJobs : List CmdJob
  /-- Sessions by channel. -/
  sess : Tbl Session
  /-- Frozen masters (R324), by master ID. -/
  frozen : Tbl (Option Freeze)
  /-- Violations of each master (R328). -/
  violCnt : Tbl Nat
  /-- Roles that hold a credential: the credential's words by role (R356, R365). -/
  creds : Tbl (List Nat)
  /-- GMAC key slots, by 2 × slot + (0 current, 1 next): key ID, size, key words, validity (R365). -/
  keySlots : Tbl (List Nat)
  /-- Directory of R338: PREF_SLOT, TRIAL_SLOT + 1 or 0, TRIAL_COUNT, sequence number. -/
  prefSlot : Nat
  trialSlot : Nat
  trialCount : Nat
  dirSeq : Nat
  /-- FW_UPDATE_BEGIN has erased the slot that is not running; the SVN and version of the image verified in it (R345). -/
  fwBegun : Bool
  stagedSlot : Option (Nat × Nat)
  /-- What a command asks for once its reply is posted: 1 a Prompter restart, 2 a device reset (R362). -/
  resetReq : Nat
  /-- The boot that runs is a restart (R343, R346). -/
  restartBoot : Bool
  /-- OTP security version number (R345). -/
  otpSvn : Nat
  /-- Cycle of the last heartbeat of each core seen (R335), by core. -/
  beat : Tbl Nat
  /-- The core cycle of core 0's last heartbeat check (R335), and of its last tick over held targets (R333). -/
  beatAt : Nat
  heldAt : Nat
  /-- Since when core 0's load has stood above 80 %, and whether CORE0_OVERLOAD has told of it (R337). -/
  loadHigh : Option Nat
  loadTold : Bool
  /-- The channel a core looks at first among those of a priority (R357), by 4 × core + PRIO. -/
  turnCh : Tbl Nat
  /-- Cycles of the core 0 watchdog's restarts (R335). -/
  restarts : List Nat
  /-- Cycle of the last READY, and of the last reset release or restart (R341). -/
  readyAt : Nat
  bootAt : Nat
  /-- LLDP interval in s by port, 0 disabled (R363). -/
  lldp : Tbl Nat
  /-- The core cycle a port's LLDP interval began. -/
  lldpAt : Tbl Nat
  /-- A cluster went to step 0, was frozen, or an engine of it stopped: the Prompter is to refill the pin tables (R265). -/
  repin : Bool
  deriving DecidableEq, Repr, Inhabited


/-- A completion (R314); `frame` is the frame an RX completion consumes when it is written (R312), 0 none. -/
structure Compl where
  tag : Nat
  index : Nat
  ring : Nat
  status : Nat
  bufs : Nat
  len : Nat
  port : Nat
  tc : Nat
  marks : Nat
  ts : Nat
  frame : Nat
  deriving DecidableEq, Repr, Inhabited

/-- A submission ring (R302 to R308): posted RX buffers fetched, or the entries of the open job; the index of the job's
first entry; whether entries are being skipped to the next FIRST; RX_RING_DROP; one more than the cycle since which it waits for
POLL_INTERVAL, 0 while it does not (R306); the
indices of the TX jobs started and not completed, and completions that wait for their turn (R315). -/
structure Ring where
  fetched : List (Nat × Desc)
  job : List Desc
  jobIndex : Nat
  skip : Bool
  drop : Nat
  pollWait : Nat
  started : List Nat
  doneC : List Compl
  deriving DecidableEq, Repr, Inhabited

/-- A completion ring (R315, R316): the stash, completions held for a frozen owner (R325), completions written since
the last interrupt, and the cycle of the first of them. -/
structure Cq where
  stash : List Compl
  heldC : List Compl
  sinceInt : Nat
  firstAt : Nat
  deriving DecidableEq, Repr, Inhabited

/-- The host link (R298 to R316, R323): rings and completion rings. -/
structure HostSt where
  rings : Tbl Ring
  cqs : Tbl Cq
  /-- Mailbox channels (R317). -/
  chans : Tbl Chan
  /-- Completions with DMA_ERR that wait for their function's release (R301, R326): ring and completion. -/
  dmaFails : List (Nat × Compl)
  /-- Completions that became ready in this core cycle, by ring, not yet written (R315). -/
  doneQ : List (Nat × Compl)
  /-- One more than the core cycle of a function's last function-level reset (R327). -/
  flrAt : Tbl Nat
  /-- Frames whose RX completion has been written and whose copy is to be consumed (R312). -/
  rxWritten : List Nat
  /-- Writes to a frozen function's memory held for its release (R325): function, address, bytes. -/
  heldW : List (Nat × Nat × List Byte × Bool)
  /-- The endpoint is out of reset and may train (R478). -/
  linkReset : Bool
  deriving DecidableEq, Repr, Inhabited

/-- A place in an engine (R267, R268): the frame, the program, the pin entry it was dispatched through (256 × program +
entry), and what goes with it: of a sample OUTCOME, POOL, the N word and DROPS (R277), of a supervision frame the pair and the
source (R275), of a Folio record its number (R285). `began` is the core cycle in which its program began (R272). -/
structure EngItem where
  frame : Nat
  prog : Nat
  pin : Nat
  info : List Nat
  began : Nat := 0
  deriving DecidableEq, Repr, Inhabited

/-- The stagehand array (R262 to R278). -/
structure StageSt where
  /-- Engine input queues, oldest first (R269). -/
  engQ : Tbl (List EngItem)
  /-- The instance an engine runs. -/
  engRun : Tbl (Option EngItem)
  /-- What a cluster's instruction memory holds (R262): its programs, number and image version. -/
  imem : Tbl (List (Nat × Nat))
  /-- Pin table entries, by 256 × program + entry: engine + 1, 0 none; and while a rewrite waits the new such value + 1
  (R265, R267). -/
  pins : Tbl (Nat × Nat)
  /-- Frames dispatched through a pin entry and not yet returned, and those of them a waiting rewrite waits for (R267). -/
  pinUse : Tbl Nat
  pinWait : Tbl Nat
  /-- Clusters that no longer take dispatch, going to step 0 (R263); and the step they keep meanwhile. -/
  clStopping : Tbl (Option Nat)
  /-- Sampler state by port (R276, R277): frames to the next sample, POOL, DROPS. -/
  sampLeft : Tbl Nat
  sampPool : Tbl Nat
  sampDrops : Tbl Nat
  /-- Profiling (R278): armed event and period, samples written, and whether the buffer filled and is not yet empty. -/
  profEvent : Option (Nat × Nat)
  profBuf : List (List Nat)
  profFull : Bool
  /-- Supervision frames a generation pass has still to send (R275): engine, pair, and the proxied source's place + 1 (0
  the device's own). -/
  supvJobs : List (Nat × Nat × Nat)
  /-- The core cycle of the last generation pass that was due (R275). -/
  supvAt : Nat
  deriving DecidableEq, Repr, Inhabited

/-- A record of the Folio (R283): what FOLIO_READ selects by (PT in ns, ingress port, capture class, stream), its bytes as
stored, header, data and padding, and the number under which FOLIO_FORMAT still has to complete it (R285), 0 when it is. -/
structure FolRec where
  fmt : Nat
  pt : Nat
  port : Nat
  cls : Nat
  stream : Option Nat
  bytes : List Byte
  deriving DecidableEq, Repr, Inhabited

/-- A Folio segment on its ring position (R282). -/
structure Seg where
  seq : Nat
  drive : Nat
  firstPt : Nat
  lastPt : Nat
  records : Nat
  used : Nat
  shedMap : Nat
  isClosed : Bool
  recs : List FolRec
  deriving DecidableEq, Repr, Inhabited

/-- A pinned window (R286): its binding (16 for PIN_NOW), the trigger's PT, retained start and end, in ns. -/
structure Win where
  id : Nat
  binding : Nat
  t : Nat
  start : Nat
  stop : Nat
  deriving DecidableEq, Repr, Inhabited

/-- The Folio capture store (R279 to R291). -/
structure FolioSt where
  /-- The drives of the ring in its order, D of them; per-drive segments S, Promptbook segments R (R281). -/
  ringDrives : List Nat
  segsPerDrive : Nat
  bookSegs : Nat
  folioId : Nat
  /-- Written segments by ring position; the writer's position, whether its segment is open, and SEG_SEQ. -/
  segs : Tbl Seg
  wrPos : Nat
  wrOpen : Bool
  segSeq : Nat
  /-- Last PT (ns) of the newest segment the writer has overwritten (R287). -/
  lostPt : Nat
  /-- The number of the last record handed to FOLIO_FORMAT (R285). -/
  fmtLast : Nat
  /-- Bytes in the assembly buffer, its records in order, and the bytes of the first that have been written (R285). -/
  asmFill : Nat
  asm : List FolRec
  asmPart : Nat
  /-- The core cycle of the last change of L, and one more than that of its last rise; since when the fill is below SHED_LO
  (R285). -/
  shedAt : Nat
  shedUpAt : Nat
  lowSince : Option Nat
  /-- One more than the core cycle of the formatter's last copy, and the copies it took in it (R285). -/
  takeAt : Nat
  takeN : Nat
  /-- Classes whose next record carries GAP (R283). -/
  gap : Tbl Bool
  wins : List Win
  nextWin : Nat
  /-- PRE and POST in ns by binding (R286). -/
  bindPre : Tbl Nat
  bindPost : Tbl Nat
  /-- NVMe commands issued to a drive and not yet completed, oldest first: the operation of the log, the core cycle (R280). -/
  nvmeOut : Tbl (List (Nat × Nat))
  /-- Cycle + 1 of each drive's last NVMe timeout (R280). -/
  nvmeTo : Tbl Nat
  /-- The core cycles of the last SMART poll (R280) and of the last periodic write of the drive headers, whose two copies
  alternate (R288). -/
  smartAt : Nat
  hdrAt : Nat
  hdrCopy : Nat
  deriving DecidableEq, Repr, Inhabited


/-- An entry of the follow-up match table (R72): ingress port, sourcePortIdentity, sequenceId, egress port, residence
in 2^-16 ns, the core cycle it was created. -/
structure FuEntry where
  inPort : Nat
  spi : Nat
  seqId : Nat
  egress : Nat
  resid : Nat
  base : Nat
  made : Nat
  deriving DecidableEq, Repr, Inhabited

/-- A capture record (R68, R86): PT, TB_0, TB_1 as 80-bit LT values, and the edge. -/
structure Capture where
  pt : Nat
  tb0 : Nat
  tb1 : Nat
  rising : Bool
  deriving DecidableEq, Repr, Inhabited

/-- A target kept by core 0 until 512 s remain (R81, R115, R247): kind 0 TIO, 1 cue list, 2 plate commit, 3 a curtain action; the pin or port; the
compare source; the 80-bit target; the channel and tag of its PENDING command. -/
structure HeldTarget where
  kind : Nat
  obj : Nat
  src : Nat
  target : Nat
  ch : Nat
  tag : Nat
  deriving DecidableEq, Repr, Inhabited

/-- The TIME block (R61 to R88). Bases are counts of 2^-48 ns modulo 2^112. -/
structure TimeSt where
  tb0 : Nat
  tb1 : Nat
  /-- RATE committed, and a RATE waiting for the next tick, by base (R63). -/
  rate0 : Int
  rate1 : Int
  pend0 : Option Int
  pend1 : Option Int
  /-- The base has begun to tick (R64). -/
  ticking : Tbl Bool
  /-- The core cycle the servo timer counts from, and that of the last entry to HOLDOVER (R65), by base. -/
  servoAt : Tbl Nat
  holdoverAt : Tbl Nat
  /-- OFF in 2^-48 ns (R75). -/
  off : Int
  /-- Armed compare's target in 2^-16 ns modulo 2^56 (R80), by pin; pulses emitted; output active. -/
  cmp : Tbl (Option Nat)
  pulses : Tbl Nat
  active : Tbl Bool
  /-- Where a pulse ends, in the units of its compare (R83), by pin. -/
  pulseEnd : Tbl (Option Nat)
  /-- The PT second of the last PPS_OUT pulse, and the PT (LT) at which it ends (R87). -/
  ppsSec : Nat
  ppsEnd : Option Nat
  /-- Capture FIFOs by channel, 8 for PPS_IN (R86). -/
  capQ : Tbl (List Capture)
  /-- Follow-up match table (R72). -/
  fu : List FuEntry
  /-- Targets held in core 0 (R333). -/
  heldT : List HeldTarget
  /-- Profile by base (R74), servo enabled by base, PTP seconds of the next PPS_IN edge by base (R364). -/
  profile : Tbl Nat
  servoOn : Tbl Bool
  tod : Tbl (Option Nat)
  /-- The last PPS_IN edge that a base takes as its source (R87): its PTP second and the base's LT at the edge. -/
  ppsRef : Tbl (Option (Nat × Nat))
  /-- SyncE outputs squelched, and the quality level of the last ESMC message by ingress port, + 1, 0 none (R88). -/
  squelched : Tbl Bool
  esmcQl : Tbl Nat
  /-- An armed timed commit's target in 2^-16 ns modulo 2^56 (R115). -/
  commitAt : Nat
  deriving DecidableEq, Repr, Inhabited


/-- Link, speed, preemption and EEE state of the ports beside their registers (R29, R43 to R53). -/
structure LinkSt where
  /-- The PCS reports the port up (R51), by port. -/
  pcsUp : Tbl Bool
  /-- The core cycle in which a lane's CDR_LOCK last changed (R88), by lane. -/
  cdrAt : Tbl Nat
  /-- A LINK_UP_TIME window runs (R52), and the core cycle it began. -/
  window : Tbl Bool
  windowAt : Tbl Nat
  /-- The core cycle HOLD was entered (R52). -/
  holdAt : Tbl Nat
  /-- The hold expired inside the window (R52). -/
  holdOver : Tbl Bool
  /-- Ports in INIT, which they leave in the next core cycle (R43). -/
  preIn : List Nat
  /-- verify mPackets sent since VERIFYING was entered, and the core cycle of the last (R43). -/
  verSent : Tbl Nat
  verAt : Tbl Nat
  /-- VERIFY_EN, ADD_FRAG and VERIFY_TIME taken at the last entry to INIT (R43): VERIFY_EN + 4 × ADD_FRAG + 16 × VERIFY_TIME. -/
  verCfg : Tbl Nat
  /-- The speed code of the PHY's auto-negotiation word (R29), by port; 0 none seen. -/
  anSpeed : Tbl Nat
  /-- TW_TX was written for the current link-up, and EEE_EN was set with the override flag (R49). -/
  eeeRes : Tbl Bool
  eeeOver : Tbl Bool
  /-- EXPRESS_HELD was raised since the link entered UP (R45). -/
  heldOnce : Tbl Bool
  /-- The transmitter wakes from LPI for TW_TX µs (R48), and the core cycle that began. -/
  wake : Tbl Bool
  wakeAt : Tbl Nat
  /-- The core cycle in which a frame was last queued or in transmission on a port (R48). -/
  busyAt : Tbl Nat
  deriving DecidableEq, Repr, Inhabited



/-- The tag edits that a redundancy pair asks of a copy (R182, R222). `ins`: 0 none, 1 a PRP trailer, 2 an HSR tag,
with the sequence number and the LAN or path of R39. -/
structure PairEdit where
  stripHsr : Bool
  stripPrp : Bool
  ins : Nat
  seq : Nat
  lan : Nat
  deriving DecidableEq, Repr, Inhabited

/-- A copy of a frame (R212): its frame, egress port, class, colour, edit instruction (index + 1, 0 none), kind
(0 forwarded, 1 mirror, 2 capture, 3 sample), the capture class, DISCARD_REASON, whether its frame was parked, a reserve
descriptor, whether the guard deferred it, the handling of its PTP message (0 none, 1 residence, 2 residence with PDELAY,
3 Follow_Up, 4 Follow_Up with PDELAY, 5 a two-step Sync, 6 the origin stamp), the base that handles it, INTEGRITY_ERR. -/
structure Copy where
  frame : Nat
  port : Nat
  tc : Nat
  colour : Nat
  edit : Nat
  pair : PairEdit
  kind : Nat
  cls : Nat
  reason : Nat
  parked : Bool
  resDesc : Bool
  deferred : Bool
  ptp : Nat
  base : Nat
  integ : Bool
  deriving DecidableEq, Repr, Inhabited

/-- What a frame is classified with by its ingress port (R128, R496): port group, implied VLAN and PCP, DEFAULT_FWD,
SLOW_FRAG. -/
structure InSet where
  grp : Nat
  pvid : Nat
  pcp : Nat
  fwd : Nat
  slow : Bool
  deriving DecidableEq, Repr, Inhabited

/-- A frame in the device (R17): its stored bytes, its length under R4, where and when it entered, what the MAC and the
tables marked on it, its chain (each buffer as 8 × first cell + pool, head first; 4 and 5 for reserve P0 and P1), account (+ 1, 0
none), REFCNT, and what its decision leaves for later. -/
structure FrameRec where
  live : Bool
  bytes : List Byte
  len : Nat
  /-- The port it entered by now, and the port it first entered by (they differ after R14's recirculation). -/
  inPort : Nat
  port : Nat
  pipe : Nat
  /-- Ingress stamps in TB_0, TB_1 and PT as LT values, and the core cycle (R54, R68, R141). -/
  tb0 : Nat
  tb1 : Nat
  pt : Nat
  stamp : Nat
  icrc : Nat
  ended : Bool
  /-- The first 256 bytes of a frame whose header was complete before its end (R94), else none; PRP_LAN of the port when the
  header was complete, and the last six bytes before the FCS (R93); the port's settings as the decision took them (R17). -/
  head : List Byte
  prpLan : Bool
  tail : List Byte
  inset : InSet
  /-- The bytes no longer match the ICRC (R141, R218). -/
  icrcBad : Bool
  fcsBad : Bool
  oversize : Bool
  runtSupp : Bool
  express : Bool
  /-- Egress ports of the burin path (R186), and those that fell back to the normal path. -/
  exprPorts : List Nat
  exprBack : List Nat
  /-- The stream of the express entry that matched (R184). -/
  exprStream : Nat
  /-- An express entry of it, or that entry's stream, failed parity: the frame is bound to no stream (R194). -/
  unbound : Bool
  decided : Bool
  plate : Nat
  tc : Nat
  colour : Nat
  stream : Option Nat
  /-- The merged action (R104, R105), as a word of R104. -/
  action : Nat
  /-- HDR_ERR was counted at the decision. -/
  hdrErr : Bool
  /-- The chain's buffers, head first: 8 × first cell + kind, the pool 0 to 3, or 4 and 5 of a reserve; the account it is charged
  to, + 1. -/
  bufs : List Nat
  account : Nat
  refs : Nat
  /-- REFCNT is lost: the chain is never freed (R213). -/
  lost : Bool
  /-- Discarded after a copy began: every copy still to end is stomped (R204). -/
  dead : Bool
  recirc : Nat
  /-- FID for the learn request made at the frame's end (R141), + 1; 0 none. -/
  learnFid : Nat
  /-- Copies parked for a verdict (R268), the program, and whether the STREAM steps wait for it. -/
  parked : List Copy
  /-- What the program's verdict is for: 1 the GMAC step, 3 the extraction step, 9 the action's program; 0 none. -/
  phase : Nat
  prog : Nat
  mark : Bool
  /-- Copies in the frame's copy set (R212, R214). -/
  copies : Nat
  /-- R-tag values by SEQ_SRC, read once per frame (R222). -/
  rtags : List (Nat × Nat)
  /-- Where a link word of the chain is uncorrectable: the buffers before the break, and its address (R218, R220). -/
  reach : Option (Nat × Nat)
  /-- On a PRP LAN port no head was found as the frame arrived (R202, R204). -/
  noHead : Bool
  /-- The host TX job that waits for this frame (R310): ring, tag, index, buffers less one, TS_REQ with DIRECT. -/
  txJob : Option (Nat × Nat × Nat × Nat × Bool)
  /-- Burin copies still to end (R186). -/
  burin : Nat
  /-- DIRECT's PORT and TC (R310). -/
  direct : Option (Nat × Nat)
  deriving DecidableEq, Repr, Inhabited

/-- A transmission in progress on a MAC (R42): the copy (or a burin copy of a frame), whether it yielded, whether it was
preempted before, its counted length, egress stamps in TB_0, TB_1 and PT, what its PTP correction field gains (2^-16 ns),
whether it is a burin copy, an integrity failure. -/
structure Tx where
  live : Bool
  copy : Copy
  burin : Bool
  yielded : Bool
  preempted : Bool
  counted : Nat
  queue : Nat
  /-- The core cycle the fragment in progress began, and the frame bytes that earlier fragments carried (R44). -/
  begun : Nat
  sent : Nat
  /-- Its queue's deficit paid for it (R233, R234); the core cycles its queue's credit has fallen for it (R237). -/
  drr : Bool
  fallen : Nat
  tb0 : Nat
  tb1 : Nat
  pt : Nat
  gain : Nat
  integ : Bool
  deriving DecidableEq, Repr, Inhabited

/-- Frames from the ingress MAC to the egress MAC (R15 to R17, R34 to R47). -/
structure FrameSt where
  frames : Tbl FrameRec
  nextFrame : Nat
  /-- The frame being received, or received whole, whose header is not yet complete, by 2 × port + MAC. -/
  rxCur : Tbl Nat
  /-- The frame whose header is complete and whose last byte has not been received, by 2 × port + MAC. -/
  rxOpen : Tbl Nat
  /-- Message timestamps latched at the first bit after the SFD (R54), by 2 × port + MAC, until the frame they belong to has
  a record: TB_0, TB_1 and PT as latched, and the core cycle. -/
  sof : Tbl (Option (Nat × Nat × Nat × Nat))
  /-- Frames not yet recorded whose express entry failed parity (R194), by 2 × port + MAC. -/
  noBind : Tbl Bool
  /-- Ingress holding queues of 16 headers (R16), by port: frame and the cycle its header became complete. -/
  hold : Tbl (List (Nat × Nat))
  /-- Frames of an internal port whose holding queue is full, which wait for a place (R16). -/
  holdWait : Tbl (List Nat)
  /-- One more than the core cycle of a pipe's last decision (R15). -/
  slotAt : Tbl Nat
  /-- Express holding queues of four (R46), by egress port. -/
  exprQ : Tbl (List Nat)
  /-- Transmissions in progress, by 2 × port + MAC (0 express, 1 preemptable). -/
  tx : Tbl Tx
  /-- One more than the core cycle in which the traffic manager last started a copy (R416). -/
  txAt : Nat
  deriving DecidableEq, Repr, Inhabited



/-- A rule (R102, R104): profile, 320-bit key, membership mask, 128-bit action. -/
structure Rule where
  prof : Nat
  key : Nat
  mask : Nat
  action : Nat
  deriving DecidableEq, Repr, Inhabited

/-- A route (R155, R160): prefix as the number its leading bits form in the family's width, length, mask, next hop. -/
structure Route where
  pfx : Nat
  len : Nat
  mask : Nat
  nh : Nat
  deriving DecidableEq, Repr, Inhabited

/-- A fragment-table entry (R121 to R123): IP version (0 free), key, plate, expiry (PT in 2^-16 ns), action. -/
structure Frag where
  ver : Nat
  src : Nat
  dst : Nat
  ident : Nat
  proto : Nat
  plate : Nat
  expiry : Nat
  action : Nat
  deriving DecidableEq, Repr, Inhabited

/-- Plates and the plated tables (R101 to R127). Index-addressed tables hold two versions, by plate parity (R159). -/
structure PlateSt where
  /-- Rules by 8,192 × table + place (R102). -/
  rules : Tbl Rule
  /-- Routes by 65,536 × family + result entry (R155). -/
  routes : Tbl Route
  /-- Group bitmaps by 16,384 × version + group (R158): bit p for port p. -/
  groups : Tbl Nat
  /-- Next-hop words by 8,192 × version + index (R156). -/
  nexthops : Tbl Nat
  /-- Edit instructions by 16,384 × version + index (R221). -/
  edits : Tbl (List Nat)
  /-- In-flight copies by plate (R116). -/
  inflight : Tbl Nat
  /-- The sweep that runs: 0 none, 1 open, 2 retire, 3 abort (R111, R117, R119). -/
  sweep : Nat
  /-- PLATE_ABORT held until the open sweep ends (R119). -/
  abortHeld : Bool
  /-- The channel whose session owns the shadow, + 1; 33 for the register (R127). -/
  owner : Nat
  /-- A stream command's own plate runs its steps by itself (R166): + 1 the number of its admission. -/
  autoPlate : Nat
  /-- The core cycle of the last commit (R113, R118). -/
  commitCycle : Nat
  frags : Tbl Frag
  /-- Places of the tables whose parity is bad (R108, R151, R156, R158, R194, R223, R248, R252): 2^32 × kind + index;
  kinds 0 rules, 1 FDB, 2 routes, 3 next hops, 4 groups, 5 streams, 6 express entries, 7 policers, 8 edit instructions,
  9 cue-list entries. -/
  corrupt : List Nat
  deriving DecidableEq, Repr, Inhabited



/-- A VLAN entry (R133). -/
structure Vlan where
  valid : Bool
  fid : Nat
  group : Nat
  memberAll : Bool
  filter : Bool
  learn : Bool
  unkUc : Nat
  unkMc : Nat
  deriving DecidableEq, Repr, Inhabited

/-- An FDB entry (R137). -/
structure Fdb where
  valid : Bool
  isStatic : Bool
  mac : Nat
  fid : Nat
  dtype : Nat
  dest : Nat
  age : Nat
  lstamp : Nat
  mask : Nat
  deriving DecidableEq, Repr, Inhabited

/-- A learn request (R141): SA, FID, learning port, ingress port, stamp (core cycle), plate. -/
structure LearnReq where
  sa : Nat
  fid : Nat
  port : Nat
  ing : Nat
  stamp : Nat
  plate : Nat
  deriving DecidableEq, Repr, Inhabited

/-- Forwarding tables (R133 to R165). -/
structure FdbSt where
  /-- VLAN entries by VID; after reset VID 1 alone is valid. -/
  vlans : Tbl Vlan
  /-- FDB entries by place: 131,072 × bank + 4 × bucket + slot (R136). -/
  fdb : Tbl Fdb
  /-- Learn request FIFOs of 512 by pipe (R146). -/
  learnQ : Tbl (List LearnReq)
  /-- Ports awaiting a down flush, and the set of the sweep that runs (R149). -/
  downSet : List Nat
  downRun : List Nat
  /-- The FDB_FLUSH_SPEC of the flush that runs, and of the one queued; entries removed so far. -/
  flushRun : Option Nat
  flushQ : Option Nat
  flushCnt : Nat
  /-- Places that a refresh wrote in the core cycle `freshAt` - 1, each with the entry as it was before (R148, R152); places
  that the learn engine, the ager or a flush wrote in it (R20). -/
  fresh : List (Nat × Fdb)
  wrote : List Nat
  freshAt : Nat
  /-- The core cycle in which the flush sweep in progress began, and the places it has visited (R149). -/
  sweepAt : Nat
  sweepPos : Nat
  /-- Status words of the indirect accesses in progress, by 2 × block + context (0 TABLES, 1 STREAM, 2 TM) (R161). -/
  tblRes : Tbl Nat
  deriving DecidableEq, Repr, Inhabited



/-- A stream entry with its supervision state (R166, R167, R193). `acts` holds the 14 bits of R177; `st`, `sq` the stored
fields; `deadline` the PT in ns of R175 (0: no frame since admission); `egress`, `prof`, `key`, `slow` (EXPRESS entries)
what admission keeps for R169 and withdrawal. -/
structure Stream where
  valid : Bool
  type : Nat
  tc : Nat
  fixedPos : Bool
  gmac : Bool
  dd : Bool
  cb : Bool
  stateRec : Bool
  acts : Nat := 5445
  fMax : Nat
  burst : Nat
  interval : Nat
  offA : Nat
  offB : Nat
  offC : Nat
  smpRate : Nat
  smpWrap : Nat
  keySlot : Nat
  rateTol : Nat := 2
  ddSource : Nat
  st : Nat
  sq : Nat
  deadline : Nat
  silent : Bool
  qualBad : Bool
  first : Bool
  seen : Nat
  spdu : Nat
  egress : List Nat
  group : Option Nat
  prof : Nat
  key : Nat
  leaving : Bool
  /-- TC7_OK (R193), and ING_PORTS as admitted, none for any (R167). -/
  tc7Ok : Bool
  ing : List Nat
  /-- t_prog of R274 at admission, in 1/180 ns. -/
  tProg : Nat
  deriving DecidableEq, Repr, Inhabited

/-- An express entry (R184, R186, R193): key bytes as a number, byte mask, ingress port, its four port places with their
enables, stream, whether it
acts yet, whether it goes at the next commit; its burst gate: cut-throughs counted and the interval's end in cycles. -/
structure Expr where
  valid : Bool
  key : List Byte
  mask : Nat
  ing : Nat
  slots : List (Nat × Bool)
  stream : Nat
  staged : Bool
  leaving : Bool
  cut : Nat
  until_ : Nat
  deriving DecidableEq, Repr, Inhabited

/-- A duplicate-discard source (R179 to R182). `key` is 2^48 × pair + address, or the stream; `last` the PT in ns of its
last use; `proxy`: allocated on an interlink (R275). -/
structure DdSrc where
  live : Bool
  used : Bool
  cb : Bool
  pinned : Bool
  key : Nat
  high : Nat
  win : Nat
  txSeq : Nat
  last : Nat
  proxy : Bool
  deriving DecidableEq, Repr, Inhabited

/-- A redundancy pair (R178): mode 0 off, 1 PRP, 2 HSR. -/
structure RPair where
  mode : Nat
  a : Nat
  b : Nat
  inter : Nat
  quad : Bool
  peer : Nat
  deriving DecidableEq, Repr, Inhabited

/-- An admission or withdrawal that waits for its commit (R166, R191). -/
structure Admit where
  id : Nat
  stream : Nat
  isAdmit : Bool
  owner : Nat
  ch : Nat
  tag : Nat
  deriving DecidableEq, Repr, Inhabited

/-- Protection streams (R166 to R197). -/
structure StreamSt where
  streams : Tbl Stream
  /-- Express entries by 64 × pipe + number. -/
  express : Tbl Expr
  /-- Duplicate-discard sources by 4 × bucket + slot. -/
  dd : Tbl DdSrc
  rpairs : Tbl RPair
  /-- The device's own TX_SEQ (R182, R275). -/
  ownTx : Nat
  admits : List Admit
  /-- BOUND_OK has lapsed, by 512 × stream + port (R170). -/
  lapsed : Tbl Bool
  /-- The rate in kb/s at which R169 last held at an admission, by egress port; 0 none (R170, R190). -/
  trip169 : Tbl Nat
  deriving DecidableEq, Repr, Inhabited



/-- The owner record of a buffer (R201): STATE (allocated), OWNER (the first cell of its chain's head), GEN; and the address
of a data word of it found uncorrectable, + 1 (R220). -/
structure Buf where
  used : Bool
  owner : Nat
  gen : Nat
  bad : Nat
  deriving DecidableEq, Repr, Inhabited

/-- Packet memory (R198 to R228). -/
structure BpmSt where
  /-- MiB of each pool of the carve in force, by pool; none until it is built (R199). -/
  mib : Tbl Nat
  /-- Owner records by a buffer's first cell (R201). -/
  owners : Tbl Buf
  /-- Retired buffers: their first cells and sizes in cells (R220). -/
  retired : List (Nat × Nat)
  /-- Charged cells by account, as they are and as they stood at the end of the previous core cycle (R208). -/
  acctU : Tbl Nat
  acctPrev : Tbl Nat
  acctAt : Nat
  /-- Sizes in MiB of the carve being built (R199). -/
  carveTo : List Nat
  /-- Accounts at or above XOFF and not yet below XON, and those at or above WARN (R209, R210). -/
  xoff : Tbl Bool
  warned : Tbl Bool
  /-- Pause frames of a port that wait for a frame boundary: mask and quanta; the cycle of the last one with quanta (R210). -/
  pauseQ : Tbl (List (Nat × Nat))
  pauseAt : Tbl Nat
  /-- Bitmap words with bad parity: 2^24 × pool + word (R220). -/
  badWords : List Nat
  /-- The reclaim sweep (R220): the cycle in which it, or the last, began; the buffers it has visited; a LINK_ECC event asks for
  one. -/
  reclaimAt : Nat
  reclaimPos : Nat
  reclaimAsk : Bool
  deriving DecidableEq, Repr, Inhabited



/-- A policer (R249 to R251, R259): control word, CIR, PIR, CBS, EBS or PBS, tokens in 2^-16 bytes, the cycle of the last
update, the three counts. -/
structure Pol where
  ctl : Nat
  cir : Nat
  pir : Nat
  cbs : Nat
  ebs : Nat
  tokC : Nat
  tokE : Nat
  at_ : Nat
  green : Nat
  yellow : Nat
  red : Nat
  deriving DecidableEq, Repr, Inhabited

/-- The traffic manager (R229 to R261). Queues are numbered 8 × port + class. -/
structure TmSt where
  queues : Tbl (List Copy)
  /-- DEPTH at the end of the previous core cycle, and the cycle + 1 it is kept for (R256). -/
  depthPrev : Tbl Nat
  depthAt : Tbl Nat
  /-- Descriptors in use of the general store and of the reserve (R229). -/
  descUsed : Nat
  descRes : Nat
  /-- Deficits, the round-robin pointer by 2 × port + selector, and whether it stands on a queue it has given its
  quantum (R233). -/
  deficit : Tbl Nat
  drr : Tbl Nat
  drrOn : Tbl Bool
  /-- CBS credit in 2^-16 bytes and TBS tokens in 2^-16 bytes, with the cycle each was brought up to (R237, R238). -/
  credit : Tbl Int
  creditAt : Tbl Nat
  tokens : Tbl Int
  tokensAt : Tbl Nat
  /-- WRED averages in 2^-8 cells (R241). -/
  avg : Tbl Nat
  /-- The pause time of a class, by 8 × port + class: its quanta and the cycle the frame that gave it ended (R240). -/
  paused : Tbl (Nat × Nat)
  /-- Cue-list entries by 256 × port + entry: INTERVAL and the word GATES, OP, PROTECT (R242). -/
  clAdmin : Tbl (Nat × Nat)
  clOper : Tbl (Nat × Nat)
  /-- LEN, CYCLE and BASE (2^-16 ns) of the operating list, and T_c of an armed takeover + 1. -/
  operLen : Tbl Nat
  operCycle : Tbl Nat
  operBase : Tbl Nat
  clTc : Tbl Nat
  /-- The instant (PT, 2^-16 ns) at which the entry in force began (R243). -/
  entryAt : Tbl Nat
  policers : Tbl Pol
  deriving DecidableEq, Repr, Inhabited



/-- A saved configuration (R344): the configuration registers, and the tables a host fills. -/
structure Startup where
  regs : Tbl Word
  rules : Tbl Rule
  routes : Tbl Route
  groups : Tbl Nat
  nexthops : Tbl Nat
  edits : Tbl (List Nat)
  statics : Tbl Fdb
  vlans : Tbl Vlan
  streams : Tbl Stream
  express : Tbl Expr
  rpairs : Tbl RPair
  cues : Tbl (Nat × Nat)
  policers : Tbl Pol
  /-- What software sets beside registers and tables: LLDP intervals, profiles and servos of the bases, the EEE override, the
  windows of the triggers. -/
  lldp : Tbl Nat
  profile : Tbl Nat
  servoOn : Tbl Bool
  eeeOver : Tbl Bool
  bindPre : Tbl Nat
  bindPost : Tbl Nat
  deriving DecidableEq, Repr, Inhabited

/-- The startup configuration in flash and which of its two copies was written last (R338, R344). -/
structure FlashSt where
  startup : Option Startup
  startupCopy : Nat
  deriving DecidableEq, Repr, Inhabited


/-- The understudy pair (R410 to R435). Times are core cycles, or PT as an 80-bit LT where they say so. -/
structure PairSt where
  /-- Mirror messages queued for the link, oldest first (R428). -/
  mirQ : List (List Nat)
  /-- The core cycle at which the link takes the next of them. -/
  mirAt : Nat
  /-- The queue would have exceeded 512 messages: queueing has stopped (R428). -/
  mirStop : Bool
  /-- What was mirrored last of each base (state, EPOCH, RATE), and the core cycle of the last 1 ms message of the bases
  (R428). -/
  mirTb : Tbl (Nat × Nat × Int)
  mirTbAt : Nat
  /-- The last DUMP_SEQ mirrored (R428). -/
  mirDump : Nat
  /-- T_r of the handover in course has been reached (R423). -/
  trOpen : Bool
  /-- ARB_GO through the glitch filter alone (R415), and the seven pins as driven, CLAIM_PAR in bit 6 (R411). -/
  arbGo : Bool
  pins7 : Nat
  /-- ARB_HB's level, and whether it toggles (R416); a FATAL record has been generated since RESET_N release. -/
  hbLevel : Bool
  hbRun : Bool
  fatalSeen : Bool
  /-- The core cycle of ARB_HB's last toggle (R416). -/
  hbAt : Nat
  /-- When INIT was entered (R418). -/
  initAt : Nat
  /-- Since when the conditions of R422 hold. -/
  revertSince : Option Nat
  /-- T_r (PT) of a proposal that waits for its answer, and of the handover agreed (R422 to R424). -/
  proposed : Option Nat
  handover : Option Nat
  /-- The core cycle the proposal went out (R422). -/
  proposedAt : Nat
  /-- OVERLAP_STARTED was received; the active state that YIELDING left. -/
  overlapSeen : Bool
  leftState : Nat
  /-- When the bulk copy is repeated (R429). -/
  retryAt : Option Nat
  /-- Ranges of sequence numbers skipped and not yet received, each with the core cycle it was noticed (R427). -/
  rxGaps : List (Nat × Nat × Nat)
  /-- No message has arrived since the link came up or the copy began: the next sets the sequence (R427, R429). -/
  rxFresh : Bool
  /-- The mirrored statistics bases, and the cycle of the last + 1 (R421, R428). -/
  basePort : Tbl Nat
  baseClass : Tbl Nat
  baseStream : Tbl Nat
  baseAt : Nat
  deriving DecidableEq, Repr, Inhabited



/-- A place of the child table (R437): index, address, whether live, the edge delay in µs, whether it has reported, the
cycle of its last HELLO. -/
structure DomChild where
  used : Bool
  index : Nat
  mac : Nat
  live : Bool
  delay : Nat
  reported : Bool
  hello : Nat
  deriving DecidableEq, Repr, Inhabited

/-- A domain frame the agent holds until PT catches up with its MSEQ (R438, R440): destination, whether it is flooded,
the header's fields, the payload. -/
structure DomMsg where
  da : Nat
  flood : Bool
  typ : Nat
  target : Nat
  all : Bool
  role : Nat
  opId : Nat
  mseq : Nat
  payload : List Byte
  deriving DecidableEq, Repr, Inhabited

/-- An open proof (R444 to R447): OP_ID, T (LT), STATUS of the own record, whether it has latched, records in arrival order,
and at the root the host buffer: function, address, length. -/
structure DomProof where
  opId : Nat
  t : Nat
  status : Nat
  latched : Bool
  recs : List (List Byte)
  fn : Nat
  addr : Nat
  len : Nat
  deriving DecidableEq, Repr, Inhabited

/-- An open curtain action (R449 to R452): OP_ID, KIND, T (LT), port set, whether it is armed here, the counts of DONE,
REFUSED, LATE, NO_TIME and CANCELLED so far, indices of members not DONE, children that have reported, and whether the
own outcome is known. -/
structure DomAction where
  opId : Nat
  kind : Nat
  t : Nat
  ports : Nat
  armed : Bool
  counts : List Nat
  notDone : List Nat
  got : List Nat
  settled : Bool
  deriving DecidableEq, Repr, Inhabited

/-- An open barrier (R453): OP_ID, COND, its argument, the PT (ns) at which TIMEOUT ends, the action and port set that
follow, whether the host is ready, the children live at its begin, those that have reported, whether the own report has gone,
the role it was started under, and the member that started it. -/
structure DomBarrier where
  opId : Nat
  cond : Nat
  arg : Nat
  until_ : Nat
  action : Option (Nat × Nat)
  host : Bool
  need : List Nat
  got : List Nat
  sent : Bool
  role : Nat
  origin : Nat
  deriving DecidableEq, Repr, Inhabited

/-- The domain agent (R436 to R454). -/
structure DomSt where
  /-- The domain key; none when empty. -/
  domKey : List Nat
  /-- The last MSEQ used, and whether frames may be sent (R440); the cycle since which PT_VALID is set. -/
  mseq : Option Nat
  domTx : Bool
  validSince : Option Nat
  /-- Last MSEQ accepted + 1 and the count at its update, by ORIGIN (R439, R440). -/
  domSeen : Tbl (Nat × Nat)
  domHeld : List DomMsg
  children : Tbl DomChild
  /-- The cycle of the last HELLO reply, the last HELLO sent, and PARENT_LOST noted (R437); the stamp of the parent's last
  reply and the own PT at its arrival, in ns. -/
  parentAt : Nat
  helloAt : Option Nat
  parentLost : Bool
  parentStamp : Nat
  parentPt : Nat
  proof : Option DomProof
  action : Option DomAction
  barrier : Option DomBarrier
  /-- SFI requests run for other members on channels 20 to 23: channel, tag, origin, OP_ID (R439). -/
  domServed : List (Nat × Nat × Nat × Nat)
  /-- The roles of the requests waiting in channels 20 to 23, oldest first (R352, R439). -/
  domRoles : Tbl (List Nat)
  /-- Open broadcasts: OP_ID, members that executed it with OK, and otherwise (R455). -/
  domCasts : List (Nat × Nat × Nat)
  /-- OP_IDs given out so far. -/
  domOps : Nat
  deriving DecidableEq, Repr, Inhabited


/-- Power, clocks and resets (R460 to R481). -/
structure PwrSt where
  /-- RESET_N is low; a 1 ms internal reset runs (R476); the thermal comparator has tripped (R468). -/
  inReset : Bool
  intReset : Bool
  tripped : Bool
  /-- The reset in course began as a power-on reset (R480). -/
  powerOn : Bool
  /-- Consecutive samples of each rail outside and inside its window, up to two (R462). -/
  railOut : Tbl Nat
  railIn : Tbl Nat
  /-- A temperature has been read since the last device reset (TEMP_MAX, R492). -/
  tempSeen : Bool
  /-- THERM_WARN and THERM_CRIT wait to be armed again; since which cycle every sensor is 5 °C below the threshold (R467),
  by 0 for WARN and 1 for CRIT. -/
  thermOff : Tbl Bool
  coolSince : Tbl (Option Nat)
  /-- Equivalent life in 2^-32 s at 95 °C (R470). -/
  lifeAcc : Nat
  deriving DecidableEq, Repr, Inhabited


/-- The device: everything but the queue of waiting commands. -/
structure Dev extends CoreSt, BookSt, SfiSt, HostSt, StageSt, FolioSt, TimeSt, LinkSt, FrameSt, PlateSt, FdbSt, StreamSt, BpmSt, TmSt, FlashSt, PairSt, DomSt, PwrSt where
  deriving DecidableEq, Repr, Inhabited

/-- The whole state: the device, and the commands waiting, first in, first out. -/
structure State extends Dev where
  pending : List Instr
  deriving DecidableEq, Repr

/-- A reason the block could stop. No command of this model stops: the spec gives every row an effect. -/
inductive Fault where
  /-- Raised by no command: the block has no behaviour the spec leaves without an effect. Safe: it never occurs. -/
  | none
  deriving DecidableEq, Repr

/-- A command without a meaning. -/
inductive Refusal where
  /-- Raised by a command whose arm has no meaning yet, by its mnemonic. Safe: nothing is claimed of it. -/
  | notModelled (mnemonic : String)
  deriving DecidableEq, Repr

/-- What a command answers. -/
abbrev Out := Host.Outcome State Fault Refusal

/-- The device while RESET_N is low after a power-on reset: every register at its reset value (RegMap.lean, so the table
lists none), every table, queue and counter empty, time at 0 (R64, R459, R476). VLAN 1 alone is valid (R133). -/
def Dev.cold : Dev :=
  let v : Vlan := { (default : Vlan) with valid := true, fid := 1, memberAll := true, learn := true }
  { (default : Dev) with vlans := [(1, v)], inReset := true, powerOn := true }

/-- Its record BOOK_START with cause 1 (R385, R480): PT and the snapshot words are 0 but for BOOK_NEXT_SEQ. -/
def bookStart : Rec :=
  { (default : Rec) with code := 0x0F01, sev := 1, arg0 := 1, snaps := [0, 0, 0, 0, 0] }

/-- The device after a power-on reset, RESET_N released with every strap 0 (R479): an unpaired die (PAIR_STATUS 0), whose
book holds BOOK_START, and whose timing outputs are driven low (R484). -/
def Dev.reset : Dev :=
  let d := Dev.cold
  { d with
    regs := [(0x580014, 0)]
    perf := [(0x280, 1), (0x281, 1)]
    out := [.pin 1 0 0, .pin 2 0 0, .pin 2 1 0]
    book := [bookStart]
    nextSeq := 1
    inReset := false
    powerOn := false }

/-- The machine right after reset: no command waits. -/
def State.reset : State := { toDev := Dev.reset, pending := [] }


end Sys2Proof.Machine
end

