-- ==== Sys2Proof/Machine/Ops.lean ====
section
/-! DEFINITION. The operations every block shares: fields of registers, RSQ events (R373), intervals of R495,
counters (R396 to R401), time stamps (R61, R68, R75), what a command answers. -/

namespace Sys2Proof.Machine

/-- 1 ms and 1 s in core cycles (R495). -/
def msCycles : Nat := 1500000
def secCycles : Nat := 1500000000

/-- The device is held in reset or has tripped: its clocks stand still (R468, R476). -/
def Dev.stopped (d : Dev) : Bool := d.inReset || d.intReset || d.tripped

/-! ## Registers and fields -/

/-- The word a register holds. -/
def Dev.reg (d : Dev) (r : RegName) (i : Nat := 0) : Nat :=
  (d.regs.getD (BitVec.ofNat 32 (regReset r i)) (regAddr r i)).toNat

/-- Stores a word in a register. -/
def Dev.setReg (d : Dev) (r : RegName) (i : Nat) (v : Nat) : Dev :=
  { d with regs := d.regs.putD (BitVec.ofNat 32 (regReset r i)) (regAddr r i) (BitVec.ofNat 32 v) }

/-- Bits `hi` down to `lo` of a word. -/
def bitsOf (w hi lo : Nat) : Nat := w / 2 ^ lo % 2 ^ (hi + 1 - lo)

/-- A word with bits `hi` down to `lo` set to `v`. -/
def withBits (w hi lo v : Nat) : Nat := w - bitsOf w hi lo * 2 ^ lo + v % 2 ^ (hi + 1 - lo) * 2 ^ lo

/-- A field of a register. -/
def Dev.get (d : Dev) (f : Fld) (i : Nat := 0) : Nat := bitsOf (d.reg f.reg i) f.hi f.lo

/-- Sets a field of a register. -/
def Dev.set (d : Dev) (f : Fld) (i v : Nat) : Dev := d.setReg f.reg i (withBits (d.reg f.reg i) f.hi f.lo v)

/-- A field is nonzero. -/
def Dev.on (d : Dev) (f : Fld) (i : Nat := 0) : Bool := d.get f i != 0

/-- Bit `b` of a field. -/
def Dev.bit (d : Dev) (f : Fld) (i b : Nat) : Bool := d.get f i / 2 ^ b % 2 == 1

/-- Sets or clears bit `b` of a field. -/
def Dev.setBit (d : Dev) (f : Fld) (i b : Nat) (v : Bool) : Dev :=
  let w := d.get f i
  d.set f i (if v then (if d.bit f i b then w else w + 2 ^ b) else (if d.bit f i b then w - 2 ^ b else w))

/-- A Bool as a field value. -/
def b2n (b : Bool) : Nat := if b then 1 else 0

/-- A 32-bit count that stops at its top. -/
def satAdd (v n : Nat) : Nat := min (v + n) 0xFFFFFFFF

/-- A 32-bit saturating count (R163, R225, R331, R367, R406). -/
def Dev.satCount (d : Dev) (r : RegName) (i : Nat) (n : Nat := 1) : Dev :=
  d.setReg r i (satAdd (d.reg r i) n)

/-- The value is not reserved for the field (R8). -/
def Fld.ok (f : Fld) (v : Nat) : Bool :=
  decide (v < 2 ^ (f.hi + 1 - f.lo)) && (f.legal.isEmpty || f.legal.any (fun x => decide (x.1 ≤ v ∧ v ≤ x.2)))

/-! ## Events (R373) and intervals (R495) -/

/-- Events of one core cycle at an RSQ register: the flags are set and SEQ advances once in the cycle. -/
def Dev.raiseBits (d : Dev) (r : RegName) (i bits : Nat) : Dev :=
  let a := regAddr r i
  let w := d.reg r i
  let seq := if d.evMark.get a = d.cycle + 1 then w / 2 ^ 24 else (w / 2 ^ 24 + 1) % 256
  { d with evMark := d.evMark.put a (d.cycle + 1) }.setReg r i ((w ||| bits) % 2 ^ 24 + seq * 2 ^ 24)

/-- Raises one flag, bit `b` of its field. -/
def Dev.raise (d : Dev) (f : Fld) (i : Nat := 0) (b : Nat := 0) : Dev := d.raiseBits f.reg i (2 ^ (f.lo + b))

/-- The first occurrence for `key` in the current interval of `n` cycles. -/
def Dev.firstIn (d : Dev) (key n : Nat) : Bool := d.marks.get key != d.cycle / n + 1

/-- Marks the interval as used for `key`. -/
def Dev.mark (d : Dev) (key n : Nat) : Dev := { d with marks := d.marks.put key (d.cycle / n + 1) }

/-- Raises a flag that means the first occurrence in the current interval. -/
def Dev.raiseFirst (d : Dev) (f : Fld) (i b n : Nat) : Dev :=
  let key := 2 ^ 60 + regAddr f.reg i * 32 + f.lo + b
  if d.firstIn key n then (d.mark key n).raise f i b else d

/-! ## Counters -/

/-- Attributes an event may carry for the filters of R400. -/
structure Attr where
  tc : Option Nat := none
  role : Option Nat := none
  master : Option Nat := none
  addr : Option Nat := none
  deriving DecidableEq, Repr

/-- The event passes the filters of counter (slot, idx). -/
def Dev.passes (d : Dev) (slot idx : Nat) (a : Attr) : Bool :=
  let k := slot * 8 + idx
  (match a.tc with | some t => d.bit F.PC_CFG_TC_MASK k t | none => true) &&
  (match a.role with | some r => d.bit F.PC_CFG_ROLE_MASK k r | none => true) &&
  (match a.master with | some m => d.get F.PC_CFG_MASTER k == 31 || d.get F.PC_CFG_MASTER k == m | none => true) &&
  (match a.addr with
   | some x => !d.on F.PC_CFG_ADDR_EN k || decide (d.reg .ADDR_LO slot ≤ x ∧ x ≤ d.reg .ADDR_HI slot)
   | none => true)

/-- Counter (slot, idx) counts the upper half of its chained even neighbour and no event of its own (R401). -/
def Dev.isChainHigh (d : Dev) (slot idx : Nat) : Bool :=
  idx % 2 == 1 && d.on F.PC_CFG_OVF_MODE (slot * 8 + idx - 1)

/-- An event at counter (slot, idx) would wrap it, and the wrap is no carry into a chained neighbour (R401). -/
def Dev.countWraps (d : Dev) (slot idx : Nat) (n : Nat := 1) (a : Attr := {}) : Bool :=
  d.passes slot idx a && !d.isChainHigh slot idx && decide (2 ^ 48 ≤ d.perf.get (slot * 8 + idx) + n) &&
    !(idx % 2 == 0 && d.on F.PC_CFG_OVF_MODE (slot * 8 + idx))

/-- Adds to a 48-bit counter: a wrap sets OVF and raises WRAP, or carries into a chained neighbour (R401). The counts of
PERF itself (WRAPS, CARRIES) are added without a further wrap. -/
def Dev.countQ (d : Dev) (slot idx : Nat) (n : Nat := 1) (a : Attr := {}) : Dev :=
  if d.passes slot idx a && !d.isChainHigh slot idx then
    let k := slot * 8 + idx
    let v := d.perf.get k + n
    let d := { d with perf := d.perf.put k (v % 2 ^ 48) }
    if v < 2 ^ 48 then d
    else if idx % 2 == 0 && d.on F.PC_CFG_OVF_MODE k then
      { d with perf := (d.perf.put (k + 1) ((d.perf.get (k + 1) + 1) % 2 ^ 48)).put (0x54 * 8 + 6)
                         ((d.perf.get (0x54 * 8 + 6) + 1) % 2 ^ 48) }
    else
      { d with perf := if d.isChainHigh 0x54 5 then d.perf else d.perf.put (0x54 * 8 + 5) ((d.perf.get (0x54 * 8 + 5) + 1) % 2 ^ 48)
               perfOvf := d.perfOvf.put k 1 }.raise F.PERF_EVENT_WRAP
  else d

/-- Adds to a port's latched statistics counter (R396). -/
def Dev.stat (d : Dev) (p i : Nat) (n : Nat := 1) : Dev :=
  if p < 256 then { d with portStats := d.portStats.put (p * 40 + i) (d.portStats.get (p * 40 + i) + n) } else d

/-- Adds to a (port, class) counter. -/
def Dev.cstat (d : Dev) (p c i : Nat) (n : Nat := 1) : Dev :=
  { d with classStats := d.classStats.put ((p * 8 + c) * 8 + i) (d.classStats.get ((p * 8 + c) * 8 + i) + n) }

/-- Adds to a stream's counter. -/
def Dev.sstat (d : Dev) (st i : Nat) (n : Nat := 1) : Dev :=
  { d with streamStats := d.streamStats.put (st * 8 + i) (d.streamStats.get (st * 8 + i) + n) }

/-! ## Time (R61, R68, R75) -/

/-- The base's count, in 2^-48 ns. -/
def Dev.tb (d : Dev) (n : Nat) : Nat := if n = 0 then d.tb0 else d.tb1

/-- Presented time in 2^-48 ns: the active base plus OFF. -/
def Dev.ptFull (d : Dev) : Nat := ((d.tb (d.get F.TIME_STATUS_PT_TB) : Int) + d.off).emod (2 ^ 112) |>.toNat

/-- An LT value: 64-bit nanoseconds and 16 fraction bits (R61). -/
def ltOf (x : Nat) : Nat := x / 2 ^ 32 % 2 ^ 80

/-- PT as an 80-bit LT. -/
def Dev.pt (d : Dev) : Nat := ltOf d.ptFull

/-- PT in whole nanoseconds. -/
def Dev.ptNs (d : Dev) : Nat := d.pt / 2 ^ 16

/-- TB_n as an 80-bit LT. -/
def Dev.tbLt (d : Dev) (n : Nat) : Nat := ltOf (d.tb n)

/-- Word `k` of an LT in the LT word format (R89). -/
def ltWord (lt k : Nat) : Nat :=
  if k = 0 then lt % 2 ^ 32 else if k = 1 then lt / 2 ^ 32 % 2 ^ 32 else lt / 2 ^ 64 % 2 ^ 16

/-- TIME_FLAGS of a record (R283, R382). -/
def Dev.timeFlags (d : Dev) : Nat :=
  d.get F.TIME_STATUS_PT_VALID + 2 * d.get F.TIME_STATUS_PT_SLEWING + 4 * d.get F.TIME_STATUS_PT_TB
    + 8 * d.get F.TB_STATE_EPOCH (d.get F.TIME_STATUS_PT_TB)

/-! ## Output and free values -/

/-- Something leaves the block. -/
def Dev.emit (d : Dev) (e : OutEv) : Dev := { d with out := d.out ++ [e] }

/-- An NVMe command is issued to a drive (R280). -/
def Dev.nvme (d : Dev) (n op arg len : Nat) : Dev :=
  { d with nvmeOut := d.nvmeOut.put n (d.nvmeOut.get n ++ [(op, d.cycle)]) }.emit (.nvme n op arg len)

/-- Draws a free value of the given kind. -/
def Dev.draw (d : Dev) (kind : Nat) : Nat × Dev := (Config.free kind d.freeCtr, { d with freeCtr := d.freeCtr + 1 })

/-- A value divided exactly or, where the spec states no rounding, rounded down or up freely (log entry 6). -/
def Dev.divFree (d : Dev) (x : Int) (n : Nat) : Int × Dev :=
  if x.emod n = 0 then (x / n, d) else let y := d.draw 7; (x / n + (y.1 % 2 : Nat), y.2)

/-- Signed difference target − now on 56 bits, in 2^-16 ns (R80). -/
def cmpDiff (target now : Nat) : Int :=
  let x := ((target : Int) - (now : Int)).emod (2 ^ 56)
  if x < 2 ^ 55 then x else x - 2 ^ 56

/-! ## Masters (R324) -/

/-- The master is a Prompter core. -/
def isPrompter (m : Nat) : Bool := decide (24 ≤ m ∧ m ≤ 27)

/-- The master is frozen (R325). -/
def Dev.isFrozen (d : Dev) (m : Nat) : Bool := (d.frozen.get m).isSome

/-- The firmware runs on core 0. -/
def Dev.core0Up (d : Dev) : Bool := d.get F.PROMPTER_STATUS_BOOT_STATE == 2 && !d.on F.PROMPTER_STATUS_DEGRADED

/-- The sender of a mailbox channel (R317). -/
def Dev.sender (d : Dev) (c : Nat) : Nat := d.get F.MB_CFG_SENDER c

/-- The role a channel acts under: that of its session, OBSERVER without one (R352). -/
def Dev.roleOf (d : Dev) (c : Nat) : Nat := if (d.sess.get c).isOpen then (d.sess.get c).role else 0

/-- A master's role at a violation (R326). -/
def Dev.masterRole (d : Dev) (m : Nat) : Nat := if m < 8 then max (d.roleOf (2 * m)) (d.roleOf (2 * m + 1)) else 2

/-! ## DMA windows (R301) -/

/-- Window `w` of a function covers the bytes for the direction. -/
def Dev.winCovers (d : Dev) (fn w addr len : Nat) (write : Bool) : Bool :=
  let k := fn * 8 + w
  let size := 2 ^ d.get F.WIN_LO_LOG2SIZE k
  let base := (d.reg .WIN_HI k * 2 ^ 32 + d.get F.WIN_LO_BASE k * 2 ^ 12) / size * size
  d.on F.WIN_LO_EN k && (if write then d.on F.WIN_LO_WR k else d.on F.WIN_LO_RD k) &&
    decide (12 ≤ d.get F.WIN_LO_LOG2SIZE k ∧ base ≤ addr ∧ addr + len ≤ base + size)

/-- A request lies wholly inside one enabled window that grants its direction. -/
def Dev.dmaOk (d : Dev) (fn addr len : Nat) (write : Bool) : Bool :=
  (List.range 8).any (fun w => d.winCovers fn w addr len write)

end Sys2Proof.Machine
end

