-- ==== Sys2Proof/Machine/Pools.lean ====
section
/-! DEFINITION. What packet memory shows (R198 to R200, R207): free buffers, accounts' limits, queue depths. -/

namespace Sys2Proof.Machine

/-- Bytes of a buffer of a kind (R198): pools 0 to 3, and the reserve's P0 (4) and P1 (5) buffers. -/
def poolSize (p : Nat) : Nat := if p = 0 ∨ p = 4 then 256 else if p = 1 ∨ p = 5 then 1024 else if p = 2 then 2048 else 8192

/-- Cells of a buffer. -/
def poolCells (p : Nat) : Nat := poolSize p / 256

/-- A buffer of a chain: its kind and its first cell. -/
def bufKind (b : Nat) : Nat := b % 8
def bufCell (b : Nat) : Nat := b / 8

/-- Cells of a chain. -/
def chainCells (bufs : List Nat) : Nat := bufs.foldl (fun n b => n + poolCells (bufKind b)) 0

/-- The pool has memory in the carve in force (R199). -/
def Dev.poolPresent (d : Dev) (p : Nat) : Bool := d.mib.get p != 0

/-- The first cell of a pool: the pools lie one after the other, P0 lowest (DESIGN CHOICE, log entry 116). -/
def Dev.poolBase (d : Dev) (p : Nat) : Nat := (List.range p).foldl (fun n q => n + 4096 * d.mib.get q) 0

/-- Buffers of a pool (R199). -/
def Dev.poolCount (d : Dev) (p : Nat) : Nat := d.mib.get p * 4096 / poolCells p

/-- Buffers of a pool that both reserves hold, from its top (R200). -/
def reserveTop (p : Nat) : Nat := if p = 0 then 4096 else if p = 1 then 1024 else 0

/-- The pool of a kind of buffer, and the places of the pool it is taken from for a pipe: pipe A's reserve lies below pipe B's
(log entry 116). -/
def kindPool (k : Nat) : Nat := if 4 ≤ k then k - 4 else k
def Dev.kindRange (d : Dev) (pipe k : Nat) : Nat × Nat :=
  let p := kindPool k
  let top := d.poolCount p
  let half := reserveTop p / 2
  if k < 4 then (0, top - reserveTop p) else (top - 2 * half + pipe * half, top - half + pipe * half)

/-- The first cell of place `i` of a pool. -/
def Dev.cellAt (d : Dev) (p i : Nat) : Nat := d.poolBase p + i * poolCells p

/-- A buffer overlaps one that is retired (R220). -/
def Dev.retiredAt (d : Dev) (cell n : Nat) : Bool := d.retired.any (fun r => decide (r.1 < cell + n ∧ cell < r.1 + r.2))

/-- Place `i` of a pool can be taken: its owner record says free (R201), its bitmap word is good, it is not retired (R220). -/
def Dev.placeFree (d : Dev) (p i : Nat) : Bool :=
  let c := d.cellAt p i
  !(d.owners.get c).used && !d.badWords.contains (2 ^ 24 * p + i / 64) && !d.retiredAt c (poolCells p)

/-- The first of `n` places from `i` that can be taken. -/
def Dev.seekFree (d : Dev) (p hi : Nat) : Nat → Nat → Option Nat
  | 0, _ => none
  | n + 1, i => if hi ≤ i then none else if d.placeFree p i then some i else Dev.seekFree d p hi n (i + 1)

/-- The places that cannot be taken are no more than this. -/
def Dev.takenBound (d : Dev) : Nat := d.owners.length + 64 * d.badWords.length + d.retired.foldl (fun n r => n + r.2 + 1) 0

/-- A free buffer of a kind for a pipe: the lowest (DESIGN CHOICE, log entry 116). -/
def Dev.findBuf (d : Dev) (pipe k : Nat) : Option Nat :=
  let r := d.kindRange pipe k
  (d.seekFree (kindPool k) r.2 (d.takenBound + 1) r.1).map (fun i => 8 * d.cellAt (kindPool k) i + k)

/-- Places of a pool that cannot be taken although their owner records say free. -/
def Dev.lostPlaces (d : Dev) (p : Nat) : List Nat :=
  let n := poolCells p
  let bad := (d.badWords.filter (fun w => w / 2 ^ 24 == p)).flatMap (fun w => (List.range 64).map (fun k => w % 2 ^ 24 * 64 + k))
  let dead := d.retired.flatMap (fun r => (List.range (r.2 / n + 2)).map (fun k => (r.1 - d.poolBase p) / n + k))
  ((bad ++ dead).filter (fun i => !(d.owners.get (d.cellAt p i)).used && !d.placeFree p i)).eraseDups

/-- Free buffers of a kind for a pipe (R200, R225). -/
def Dev.kindFree (d : Dev) (pipe k : Nat) : Nat :=
  let r := d.kindRange pipe k
  let p := kindPool k
  let used := d.owners.filter (fun e => e.2.used && decide (d.cellAt p r.1 ≤ e.1 ∧ e.1 < d.cellAt p r.2))
  r.2 - r.1 - used.length - ((d.lostPlaces p).filter (fun i => decide (r.1 ≤ i ∧ i < r.2))).length

/-- Free buffers of a pool, its reserve left out (R200), bitmap words with bad parity counted as allocated (R220). -/
def Dev.poolFree (d : Dev) (p : Nat) : Nat := d.kindFree 0 p

/-- Free reserve cells of a pipe (R225); none before the carve is built. -/
def Dev.reserveCells (d : Dev) (pipe : Nat) : Nat :=
  if d.mib.isEmpty then 0 else d.kindFree pipe 4 + 4 * d.kindFree pipe 5

/-- A buffer of a pipe's reserve is in use (R211). -/
def Dev.reserveUsed (d : Dev) (pipe : Nat) : Bool :=
  d.owners.any (fun e => e.2.used && ([4, 5] : List Nat).any (fun k =>
    decide (d.cellAt (k - 4) (d.kindRange pipe k).1 ≤ e.1 ∧ e.1 < d.cellAt (k - 4) (d.kindRange pipe k).2)))

/-- The account's quota profile (R207). -/
def Dev.prof (d : Dev) (a : Nat) : Nat := d.get F.ACCT_BIND_PROFILE a

/-- MIN of an account. -/
def Dev.acctMin (d : Dev) (a : Nat) : Nat := d.get F.QP_MIN_MIN (d.prof a)

/-- Σ MIN over all 2,052 accounts: those whose ACCT_BIND is at reset use profile 0. -/
def Dev.sumMin (d : Dev) : Nat :=
  let base := regAddr .ACCT_BIND 0
  let bound := d.regs.filter (fun e => decide (base ≤ e.1 ∧ e.1 < base + 4 * 2052))
  d.get F.QP_MIN_MIN 0 * (2052 - bound.length)
    + bound.foldl (fun n e => n + d.get F.QP_MIN_MIN (e.2.toNat % 16)) 0

/-- Retired cells (R220). -/
def Dev.retiredCells (d : Dev) : Nat := d.retired.foldl (fun n r => n + r.2) 0

/-- S, the shared space (R207). -/
def Dev.shared (d : Dev) : Nat := 262144 - 8192 - d.retiredCells - d.sumMin

/-- COMMON_FREE for given charges (R207). -/
def Dev.commonFreeOf (d : Dev) (u : Tbl Nat) : Nat :=
  d.shared - u.foldl (fun n e => n + (e.2 - d.acctMin e.1)) 0

/-- The charges an admission check sees: those of the end of the previous core cycle (R208). -/
def Dev.seenU (d : Dev) : Tbl Nat := if d.acctAt = d.cycle + 1 then d.acctPrev else d.acctU

/-- DROP_LIM of an account for given charges (R207). -/
def Dev.dropLim (d : Dev) (u : Tbl Nat) (a : Nat) : Nat :=
  let k := d.prof a
  min (d.get F.QP_MAX_MAX k) (d.get F.QP_MIN_MIN k + d.commonFreeOf u * 2 ^ d.get F.QP_MIN_ALPHA k / 64)

/-- XOFF, XON and WARN of an account (R207). -/
def Dev.xoffLim (d : Dev) (a : Nat) : Nat := d.dropLim d.acctU a - d.get F.QP_FC_HEADROOM (d.prof a)
def Dev.xonLim (d : Dev) (a : Nat) : Nat := d.xoffLim a - d.get F.QP_FC_XON_HYST (d.prof a)
def Dev.warnLim (d : Dev) (a : Nat) : Nat := d.dropLim d.acctU a * d.get F.QP_WARN_WARN_PCT (d.prof a) / 100

/-- DEPTH of a queue (R230): a chain counts once, however many of its copies the queue holds. -/
def Dev.depth (d : Dev) (q : Nat) : Nat :=
  (((d.queues.get q).map Copy.frame).eraseDups).foldl (fun n i => n + chainCells (d.frames.get i).bufs) 0

end Sys2Proof.Machine
end

