-- ==== Sys2Proof/Machine/Ports.lean ====
section
/-! DEFINITION. Which ports the lane and quad modes carry, at what speed, and their link state (R27 to R31). -/

namespace Sys2Proof.Machine

/-- The mode of the lane that carries a port, 9 and 10 for the four-lane modes (R27, R28). -/
def Dev.portMode (d : Dev) (p : Nat) : Nat :=
  let q := d.get F.QUAD_MODE_QMODE (p / 16)
  if q = 0 then d.get F.LANE_CFG_LMODE (p / 4) else 8 + q

/-- The port is carried by the current modes (R30). -/
def Dev.present (d : Dev) (p : Nat) : Bool :=
  let m := d.portMode p
  decide (p < 256) && (if 9 ≤ m then p % 16 == 0 else if m = 5 ∨ m = 7 then true else m != 0 && p % 4 == 0)

/-- Speed codes of PORT_STATUS that a mode carries, highest first (R27). -/
def modeSpeeds (m : Nat) : List Nat :=
  if m = 1 then [1] else if m = 2 then [2] else if m = 3 ∨ m = 5 then [2, 1] else if m = 4 then [3]
  else if m = 6 then [4] else if m = 7 then [3, 2, 1] else if m = 8 then [5] else if m = 9 then [6]
  else if m = 10 then [7] else []

/-- The speed a port runs at: the mode's, or on a replicated mode the one the auto-negotiation word reports; before a
word is seen, the mode's highest (DESIGN CHOICE, log entry 11). 0 where the word reports one the mode does not carry. -/
def Dev.portSpeed (d : Dev) (p : Nat) : Nat :=
  let ss := modeSpeeds (d.portMode p)
  if !d.present p then 0
  else if ss.length ≤ 1 then (if d.anSpeed.get p = 15 then 0 else ss.headD 0)
  else if d.anSpeed.get p = 0 then ss.headD 0
  else if d.anSpeed.get p ∈ ss then d.anSpeed.get p else 0

/-- The lowest speed a port's mode permits; 100 Mb/s where the port is absent (R169). -/
def Dev.lowSpeed (d : Dev) (p : Nat) : Nat :=
  if d.present p then (modeSpeeds (d.portMode p)).getLastD 1 else 1

/-- Rate of a speed code in kb/s. -/
def kbps (s : Nat) : Nat :=
  if s = 1 then 100000 else if s = 2 then 1000000 else if s = 3 then 2500000 else if s = 4 then 10000000
  else if s = 5 then 25000000 else if s = 6 then 40000000 else if s = 7 then 100000000 else 0

/-- LINK_STATE (R31): 0 DOWN, 1 UP, 2 HOLD, 3 ABSENT; internal ports are always up. -/
def Dev.linkState (d : Dev) (p : Nat) : Nat :=
  if 256 ≤ p then 1 else if d.present p then d.get F.PORT_STATUS_LINK_STATE p else 3

/-- MAX_FRAME of a port (R37): 10,240 on the internal ports. -/
def Dev.maxFrame (d : Dev) (p : Nat) : Nat := if p < 256 then d.get F.PORT_CFG_MAX_FRAME p else 10240

/-- A port's lanes are enabled (R33): one, or all four of a four-lane mode. -/
def Dev.lanesOn (d : Dev) (p : Nat) : Bool :=
  if d.get F.QUAD_MODE_QMODE (p / 16) = 0 then d.on F.LANE_CFG_LANE_EN (p / 4)
  else (List.range 4).all (fun k => d.on F.LANE_CFG_LANE_EN (p / 16 * 4 + k))

/-- `n` core cycles have passed since cycle `t`. -/
def Dev.past (d : Dev) (t n : Nat) : Bool := decide (t + n ≤ d.cycle)

/-- 1 µs in core cycles. -/
def usCycles : Nat := 1500

/-- A frame is queued, or in transmission, or has just been, on a port (R48). -/
def Dev.busy (d : Dev) (p : Nat) : Dev := { d with busyAt := d.busyAt.put p d.cycle }

/-- Preemption is active on a port (R43). -/
def Dev.preActive (d : Dev) (p : Nat) : Bool := decide (p < 256) && d.on F.PORT_STATUS_PRE_ACTIVE p

/-- The n of R44: the larger of the local ADD_FRAG, as INIT took it, and PARTNER_ADD_FRAG. -/
def Dev.addFrag (d : Dev) (p : Nat) : Nat :=
  max (if d.get F.PORT_STATUS_PRE_STATE p = 0 then d.get F.PORT_PRE_ADD_FRAG p else d.verCfg.get p / 4 % 4)
    (d.get F.PORT_PRE_PARTNER_ADD_FRAG p)

/-- The effective express set of a port (R236). -/
def Dev.expressSet (d : Dev) (p : Nat) : Nat :=
  if 256 ≤ p then 0
  else if d.on F.TM_PORT_STATUS_EXPRESS_RESTRICT p then 128
  else d.get F.PORT_PRE_EXPRESS_TC p % 128 + 128

/-- The pipe of a front-panel port (R13). -/
def pipeOf (p : Nat) : Nat := if p < 128 then 0 else 1

/-- The pipe a port's frames enter (R13, R14). -/
def inPipe (p : Nat) : Nat := if p < 256 then pipeOf p else if p = 260 then 1 else 0

end Sys2Proof.Machine
end

