-- ==== Sys2Proof/Machine/View.lean ====
section
/-! DEFINITION. What a read of a register returns (R370): the stored word, or for a register that shows other state
(a queue's level, a count, the head of a FIFO) the word computed from that state, each by its own register map. A
read never changes the device (R300). -/

namespace Sys2Proof.Machine

/-- Words of a queue of messages (R318): one header word and the payload words each. -/
def msgWords (q : List Msg) : Nat := q.foldl (fun n m => n + 1 + m.words.length) 0

/-- A signed number as a 32-bit word, saturating at ±2^31 (R89). -/
def sat32 (x : Int) : Nat :=
  let y := max (-2147483648) (min 2147483647 x)
  (y.emod 4294967296).toNat

/-- Segments that some window covers (R286). -/
def Dev.segPinned (d : Dev) (g : Seg) : Bool :=
  d.wins.any (fun w => decide (w.start ≤ g.lastPt ∧ g.firstPt ≤ w.stop))

/-- Drive `n` is in the ring (R289). -/
def Dev.inRing (d : Dev) (n : Nat) : Bool := d.bit F.FOLIO_STATUS_DRIVES 0 n

/-- The number of pinned segments. -/
def Dev.pinnedCount (d : Dev) : Nat :=
  (d.segs.filter (fun e => e.2.isClosed && d.inRing e.2.drive && d.segPinned e.2)).length

/-- A drive's segments in the ring: S − 1 − R/D (R281). -/
def Dev.perDrive (d : Dev) : Nat := d.segsPerDrive - 1 - d.bookSegs / d.ringDrives.length

/-- Segments of the ring: those of the drives that are in it (R281, R289). -/
def Dev.ringSegs (d : Dev) : Nat := (d.ringDrives.filter d.inRing).length * d.perDrive

/-- The event log's capacity in records: 16,384 small, 67,108,864 large less the slots lost (R385, R386). -/
def Dev.bookCap (d : Dev) : Nat := if d.on F.BOOK_STATUS_MODE_ACTIVE then 67108864 - d.slotsLost else 16384

/-- A TIO capture register's word: PT, TB_0, TB_1 of the head record, three words each; bit 31 of word 2 the edge. -/
def capWord (c : Capture) (k : Nat) : Nat :=
  if k < 3 then ltWord c.pt k + (if k = 2 ∧ c.rising then 2 ^ 31 else 0)
  else if k < 6 then ltWord c.tb0 (k - 3) else ltWord c.tb1 (k - 6)

/-- A read of a register. -/
def Dev.view (d : Dev) (r : RegName) (i : Nat := 0) : Nat :=
  match r with
  | .PT_OFF => sat32 (d.off / 2 ^ 48)
  | .TIME_STATUS => withBits (d.reg r i) 2 2 (b2n (d.off != 0))
  | .TIO_STATUS => (d.capQ.get i).length + 2 ^ 8 * b2n (d.cmp.get i).isSome
  | .TIO_CFG => if i = 8 then withBits (d.reg r i) 2 0 1 else d.reg r i
  | .TIO_CAP => match (d.capQ.get (i / 9)).head? with | some c => capWord c (i % 9) | none => 0
  | .PIN_DATA =>
    match d.pins.get (d.get F.PIN_SEL_PROGRAM * 256 + d.get F.PIN_SEL_ENTRY) with
    | (e, p) => (if p = 0 then e - 1 else p - 2) % 128 + 256 * (if p = 0 then 0 else 1)
  | .ENG_STATUS => withBits (withBits (d.reg r i) 6 0 (d.engQ.get i).length) 7 7 (b2n (d.engRun.get i).isSome)
  | .FOLIO_STATUS => withBits (withBits (d.reg r i) 29 23 d.wins.length) 15 9 (d.asmFill * 100 / 2097152)
  | .SEG_SEQ => if i = 0 then d.segSeq % 2 ^ 32 else d.segSeq / 2 ^ 32
  | .RING_SEGMENTS => d.ringSegs
  | .PINNED => d.pinnedCount
  | .PC_LO => d.perfSnap.get i % 2 ^ 32
  | .PC_HI => d.perfSnap.get i / 2 ^ 32 % 2 ^ 16 + 2 ^ 16 * d.perfSnapOvf.get i
      + 2 ^ 17 * b2n (d.on F.PC_CFG_OVF_MODE (i / 2 * 2))
  | .BOOK_STATUS => withBits (withBits (withBits (withBits (withBits (d.reg r i) 3 3
      (b2n (d.on F.BOOK_STATUS_MODE_ACTIVE && decide (d.get F.FOLIO_STATUS_STATE < 2)))) 1 1
      (b2n (d.get F.BOOK_CFG_MODE != d.get F.BOOK_STATUS_MODE_ACTIVE))) 9 5 d.held.length) 4 4
      (b2n (decide (d.bookCap ≤ d.book.length)))) 2 2 (b2n d.curtain.isSome)
  | .BOOK_NEXT_SEQ => d.nextSeq
  | .BOOK_OLDEST_SEQ => match d.book.head? with | some x => x.seq | none => 0
  | .BOOK_COUNT => d.book.length
  | .MBOX_STATUS => (List.range 32).foldl (fun w c => w + (if (d.chans.get c).req.isEmpty then 0 else 2 ^ c)) 0
  | .MB_REQ_STATUS => 16 - msgWords (d.chans.get i).req + 2 ^ 5 * (d.chans.get i).epochS
  | .MB_RSP_HDR => match (d.chans.get i).rsp.head? with | some m => m.hdr | none => 0
  | .MB_RSP_DATA => match (d.chans.get (i / 15)).rsp.head? with | some m => m.words.getD (i % 15) 0 | none => 0
  | .MB_RSP_STATUS => msgWords (d.chans.get i).rsp + (match (d.chans.get i).rsp.head? with
      | some m => 2 ^ 5 + 2 ^ 6 * b2n m.stale | none => 0)
  | .RING_STATUS =>
    let x := d.rings.get i
    let part := match x.job.getLast? with | some e => !e.last | none => false
    b2n (d.on F.RING_CFG_EN i || !x.job.isEmpty || !x.started.isEmpty || d.cmdJobs.any (fun j => j.ring == i))
      + 2 * d.get F.CQ_STATUS_HALTING (d.get F.RING_CFG_CQ i) + 4 * b2n part + 8 * b2n (d.isFrozen (d.get F.RING_OWNER_FUNC i))
  | .GATE_STATUS_0 =>
    (List.range 16).foldl (fun w q => w + 2 ^ q * b2n ((List.range 4).any (fun k => d.on F.LANE_CFG_LANE_EN (4 * q + k)))) 0
      + (List.range 16).foldl (fun w c => w + 2 ^ (16 + c) * b2n (d.on F.CL_CFG_STEP c || (d.clStopping.get c).isSome)) 0
  | .CQ_STATUS => withBits (d.reg r i) 3 0 (d.cqs.get i).stash.length
  | .PORT_STATUS => if d.present i then d.reg r i else 3
  | .PORT_CFG | .PORT_LINK | .PORT_PRE | .PORT_EEE | .TS_ING_TRIM | .TS_EGR_TRIM | .PORT_EVENT =>
    if d.present i then d.reg r i else regReset r i
  | .POOL_FREE => d.poolFree i
  | .COMMON_FREE => if d.mib.isEmpty then 0 else d.commonFreeOf d.acctU
  | .RESERVE_FREE => d.reserveCells i
  | .ACCT_USED => d.acctU.get i
  | .BPM_STATUS => withBits (withBits (withBits (withBits (d.reg r i) 1 1 (b2n (d.reserveUsed 0)))
      2 2 (b2n (d.reserveUsed 1))) 3 3 (b2n (decide (262144 - 8192 - d.retiredCells < d.sumMin))))
      31 16 d.retired.length
  | .Q_DEPTH => d.depth i
  | .TM_STATUS => 131072 - d.descUsed - d.descRes + 2 ^ 18 * b2n (decide (0 < d.descRes))
  | .INFLIGHT_ACTIVE => d.inflight.get (d.get F.PLATE_STATUS_ACTIVE)
  | .INFLIGHT_RETIRING =>
    if d.on F.PLATE_STATUS_RETIRING then d.inflight.get (d.get F.PLATE_STATUS_RETIRING_PLATE) else 0
  | .FDB_STATUS => withBits (withBits (withBits (d.reg r i) 18 0 (d.fdb.filter (fun e => e.2.valid)).length) 19 19
      (b2n (d.flushRun.isSome || !d.downRun.isEmpty))) 20 20 (b2n d.flushQ.isSome)
  | .STREAM_STATUS => (d.streams.filter (fun e => e.2.valid)).length + 2 ^ 15 * (d.dd.filter (fun e => e.2.used)).length
  | .CORE_LOAD => withBits (d.reg r i) 14 8 (if i = 0 then 0 else (d.pendQ.filter (fun q => q.core == i)).length)
  | .MIRROR_STATUS => withBits (d.reg r i) 9 0 d.mirQ.length
  | .DOM_STATUS =>
    let st := match d.barrier, d.action, d.proof with
      | some _, _, _ => 4
      | none, some a, _ => if a.armed then 3 else 2
      | none, none, some p => if p.latched then 2 else 1
      | none, none, none => 0
    withBits (withBits (withBits (d.reg r i) 6 0 (d.children.filter (fun e => e.2.live)).length) 10 8 st) 11 11 (b2n !d.domKey.isEmpty)
  | .CHILD_0 =>
    let c := d.children.get i
    c.index + 2 ^ 14 * b2n c.live + 2 ^ 15 * b2n c.reported
  | .CHILD_1 => min (d.children.get i).delay (2 ^ 20 - 1)
  | .LIFE_HOURS => d.lifeAcc / (36 * 2 ^ 32) % 2 ^ 32
  | .GPIO_CFG =>
    let w := d.reg r i
    let oe := bitsOf w 7 0
    withBits w 23 16 ((bitsOf w 15 8 &&& oe) ||| (bitsOf w 23 16 - (bitsOf w 23 16 &&& oe)))
  | .MB_STAGE | .MB_POST | .GUARD_UNLOCK => 0
  | _ => if (regInfo r).kind = .w1p then 0 else d.reg r i

end Sys2Proof.Machine
end

