-- ==== Sys2Proof/Machine/Record.lean ====
section
/-! DEFINITION. Promptbook records (R382 to R395, R495): generation, the curtain, the full book, triggers and
subscriptions; with what a trigger's actions need: opening a Folio window (R286, R287) and latching a dump (R397). -/

namespace Sys2Proof.Machine

/-- The object an event names (R394, R495). -/
inductive Obj where
  | none
  | port (p : Nat) | lane (l : Nat) | quad (q : Nat) | pipe (n : Nat) | base (n : Nat) | pin (n : Nat)
  | queue (k : Nat) | ring (s : Nat) | cq (k : Nat) | chan (c : Nat) | engine (e : Nat) | cluster (c : Nat)
  | drive (n : Nat) | rail (r : Nat) | acct (a : Nat) | stream (s : Nat) | key (k : Nat)
  | ingress (pipe port : Nat)
  deriving DecidableEq, Repr

/-- The object's number, for its allowance under R495: that of the pipe for an event of a port in its parser (R132). -/
def Obj.num : Obj → Nat
  | .none => 0
  | .port x | .lane x | .quad x | .pipe x | .base x | .pin x | .queue x | .ring x | .cq x | .chan x | .engine x
  | .cluster x | .drive x | .rail x | .acct x | .stream x | .key x | .ingress x _ => x + 1

/-- The element of an indexed register that belongs to the object, if the object has one (R394). A quad's is that of its first
lane and port (DESIGN CHOICE, log entry 126). -/
def objIndex (d : Dev) (r : RegName) (o : Obj) : Option Nat :=
  match r, o with
  | .PORT_STATUS, .port p | .PORT_EVENT, .port p | .PARSER_PORT_CFG, .port p => some p
  | .PORT_STATUS, .lane l | .PORT_EVENT, .lane l => some (l / 4 * 16 + l % 4 * 4)
  | .PORT_STATUS, .quad q | .PORT_EVENT, .quad q => some (16 * q)
  | .LANE_STATUS, .lane l => some l
  | .LANE_STATUS, .quad q => some (4 * q)
  | .LANE_STATUS, .port p => some (p / 16 * 4 + p % 16 / 4)
  | .PARSER_EVENT, .port p => some (p / 128 % 2)
  | .PARSER_EVENT, .pipe n | .PARSER_EVENT, .ingress n _ => some n
  | .PARSER_PORT_CFG, .ingress _ p => if p < 256 then some p else none
  | .TM_PORT_CFG, .port p | .TM_PORT_GATE, .port p | .TM_PORT_STATUS, .port p => some p
  | .TM_PORT_CFG, .queue k | .TM_PORT_GATE, .queue k | .TM_PORT_STATUS, .queue k => some (k / 8)
  | .CL_CFG, .engine e => some (e / 8)
  | .CL_CFG, .cluster c => some c
  | .ENG_STATUS, .engine e => some e
  | .DRIVE_STATUS, .drive n => some n
  | .RING_CFG, .ring s | .RING_STATUS, .ring s => some s
  | .CQ_STATUS, .ring s => some (d.get F.RING_CFG_CQ s)
  | .CQ_STATUS, .cq k => some k
  | .MB_CFG, .chan c | .MB_REQ_STATUS, .chan c | .MB_RSP_STATUS, .chan c => some c
  | .VMON, .rail x => some x
  | _, _ => none

/-- An event that writes a record: its code, severity, arguments, object, internal words of its block (R394), and
the snapshot of a record whose rule names its own words (VIOLATION, R332). -/
structure Evt where
  code : Nat
  sev : Nat
  a0 : Nat := 0
  a1 : Nat := 0
  obj : Obj := .none
  ints : List Nat := []
  snap : Option (List Nat) := none
  fw : Bool := false
  deriving DecidableEq, Repr

/-- Snapshot list of the FDB records (R165). -/
def fdbSnap : List SnapItem :=
  [.reg .FDB_STATUS 0, .reg .FDB_EVENT 0, .reg .FDB_CNT 0, .reg .FDB_CNT 1, .reg .FDB_CNT 2, .reg .FDB_CNT 3,
   .reg .FDB_CNT 4, .int 0]

/-- One snapshot entry's word; none where the entry is off or its object or internal word is not the event's. -/
def snapWord (d : Dev) (e : Evt) (w : Nat) : Option Nat :=
  if bitsOf w 26 26 = 0 then none
  else if bitsOf w 25 25 = 1 then e.ints[bitsOf w 3 0]?
  else match regAt (bitsOf w 23 0) with
    | none => some 0
    | some (r, i) =>
      if bitsOf w 24 24 = 1 then (objIndex d r e.obj).map (fun j => d.view r j) else some (d.view r i)

/-- The snapshot of an event (R394): the enabled entries of the source's list in order. -/
def snapshot (d : Dev) (e : Evt) : List Nat :=
  match e.snap with
  | some ws => ws
  | none =>
    if 0x0509 ≤ e.code ∧ e.code ≤ 0x0511 then fdbSnap.filterMap (fun x => snapWord d e x.word)
    else (List.range 8).filterMap (fun k => snapWord d e (d.reg .SNAP_ENTRY (e.code / 256 * 8 + k)))

/-- SEQ `a` comes after `b`, modulo 2^32 (R383). -/
def seqAfter (a b : Nat) : Bool := decide (0 < (a + 2 ^ 32 - b) % 2 ^ 32 ∧ (a + 2 ^ 32 - b) % 2 ^ 32 < 2 ^ 31)

/-- A record takes its place in the book, in SEQ order. -/
def insertRec (b : List Rec) (r : Rec) : List Rec :=
  b.filter (fun x => !seqAfter x.seq r.seq) ++ [r] ++ b.filter (fun x => seqAfter x.seq r.seq)

/-- A new record may take the place of this one (R388): in the large configuration, while staging is full, of a staged
record alone (R386). -/
def Dev.replaceable (d : Dev) (r : Rec) : Bool := decide (d.staged.length < 16384) || d.staged.contains r.seq

/-- A free slot exists (R388, R386). -/
def Dev.freeSlot (d : Dev) : Bool :=
  decide (d.book.length < d.bookCap) && (!d.on F.BOOK_STATUS_MODE_ACTIVE || decide (d.staged.length < 16384))

/-- Puts a record into the book (R388): a free slot, else over the oldest record of lower severity, FATAL over the
oldest FATAL, else dropped. Says whether it was stored. -/
def storeRec (d : Dev) (r : Rec) : Dev × Bool :=
  let put (b : List Rec) (st : List Nat) (d : Dev) : Dev :=
    { d with book := insertRec b r
             staged := if d.on F.BOOK_STATUS_MODE_ACTIVE then st ++ [r.seq] else st }
  if d.freeSlot then ((put d.book d.staged d).countQ 0x50 1, true)
  else
    let old (s : Nat) : Option Nat := d.book.findIdx? (fun x => decide (x.sev < s) && d.replaceable x)
    match (if (old r.sev).isSome then old r.sev else if r.sev = 7 then old 8 else none) with
    | some k =>
      let x := d.book.getD k r
      ((((put (d.book.eraseIdx k) (d.staged.erase x.seq) d).satCount .OVERWRITTEN x.sev).countQ 0x50 2).countQ 0x50 1, true)
    | none =>
      (((d.satCount .DROPPED r.sev).countQ 0x50 3).raiseFirst F.BOOK_EVENT_DROPPED 0 0 secCycles, false)

/-- The triggers a record matches (R393), ascending. -/
def trigHits (d : Dev) (code sev : Nat) : List Nat :=
  (List.range 16).filter (fun k =>
    d.on F.TRIG_CTRL_EN k && decide (d.get F.TRIG_CTRL_MIN_SEV k ≤ sev) &&
      ((code ^^^ d.get F.TRIG_MATCH_CODE k) &&& d.get F.TRIG_MATCH_MASK k) == 0)

/-- The channels whose subscription a record matches (R395). -/
def subHits (d : Dev) (code sev : Nat) : List Nat :=
  (List.range 24).filter (fun c =>
    let u := d.subs.get c
    u.on && decide (u.minSev ≤ sev) && ((code ^^^ u.code) &&& u.mask) == 0)

/-- Slots of the 34 blocks in the order of R381. -/
def blockSlots : List Nat := blockList.map (fun b => b.1)

/-- A performance counter as a dump shows it, from the snapshot of its latch cycle or the one that then runs (R399): count, OVF in bit 48, CHAINED in bit 49 (R398). -/
def Dev.perfWord (d : Dev) (k : Nat) : Nat :=
  d.perfSnap.get k + 2 ^ 48 * d.perfSnapOvf.get k + 2 ^ 49 * b2n (d.on F.PC_CFG_OVF_MODE (k / 2 * 2))

/-- A performance snapshot starts (R399): the counters of one core cycle; while one runs the request is ignored. -/
def takeSnap (d : Dev) : Dev :=
  if d.on F.PERF_STATUS_SNAP_BUSY then d
  else
    let d := { d with perfSnap := d.perf, perfSnapOvf := d.perfOvf }
    let d := (d.setReg .SNAP_FIRST_PT 0 (d.ptNs % 2 ^ 32)).setReg .SNAP_LAST_PT 0 (d.ptNs % 2 ^ 32)
    (d.set F.PERF_STATUS_SNAP_BUSY 0 1).countQ 0x54 0

/-- A latch is skipped while an image is being written (R397). -/
def dumpSkip (d : Dev) : Dev :=
  (({ d with dumpSkips := d.dumpSkips + 1 }.satCount .DUMP_SKIPPED 0).raise F.PERF_EVENT_DUMP_SKIPPED).countQ 0x54 3

/-- The sections of a dump: the performance section only where DUMP_FN may see the counters (R402). -/
def dumpSets (d : Dev) : Nat :=
  if d.bit F.PERF_ALLOW_ALLOW 0 (d.get F.DUMP_FN_DUMP_FN) then d.get F.DUMP_CFG_SETS else d.get F.DUMP_CFG_SETS % 8

/-- DUMP_SEQ advances; a dump with performance counters takes a snapshot (R398, R399). -/
def dumpBegin (d : Dev) : Dev :=
  let d' := d.setReg .DUMP_SEQ 0 ((d.reg .DUMP_SEQ + 1) % 2 ^ 32)
  if dumpSets d / 8 % 2 = 1 then takeSnap d' else d'

/-- What the image holds: DUMP_FN's setup, the cause bits of the header, OP_ID of a proof (R397, R398). -/
def dumpImage (d : Dev) (cause opId : Nat) : DumpRec :=
  { fn := d.get F.DUMP_FN_DUMP_FN, seq := d.reg .DUMP_SEQ, cycle := d.cycle, pt := d.pt, flags := d.timeFlags,
    sets := dumpSets d, mask := d.get F.DUMP_STREAM_MASK_MASK, cause := cause, skips := d.dumpSkips, opId := opId,
    port := d.portStats, cls := d.classStats, stream := d.streamStats,
    perf := if dumpSets d / 8 % 2 = 1 then blockSlots.flatMap (fun s => (List.range 8).map (fun i => d.perfWord (8 * s + i))) else []
    firstPt := d.reg .SNAP_FIRST_PT, lastPt := d.reg .SNAP_LAST_PT }

/-- The image waits to be written. -/
def dumpHold (d : Dev) (x : DumpRec) (cause : Nat) : Dev :=
  let d := ({ d with dump := some x, dumpSkips := 0 }.set F.PERF_STATUS_DUMP_BUSY 0 1).countQ 0x54 1
  if cause / 4 % 2 = 1 then d.countQ 0x54 2 else d

/-- Latches a dump (R397). Whether a dump was busy, so that this latch is skipped. -/
def latchDump (d : Dev) (cause opId : Nat) : Dev × Bool :=
  if d.dump.isSome then (dumpSkip d, true)
  else (dumpHold (dumpBegin d) (dumpImage (dumpBegin d) cause opId) cause, false)

/-- Segments windows would pin, were `w` added. -/
def pinCountWith (d : Dev) (w : Win) : Nat := { d with wins := d.wins ++ [w] }.pinnedCount

/-- Shortens a window from its earliest end until the pins fit (R287): past the earliest segment it alone pins, as
often as it takes. -/
def shrinkWin (d : Dev) (lim : Nat) : Nat → Win → Option Win
  | 0, _ => none
  | n + 1, w =>
    if pinCountWith d w ≤ lim then some w
    else
      match (d.segs.filter (fun e => e.2.isClosed && decide (w.start ≤ e.2.lastPt ∧ e.2.firstPt ≤ w.stop))).foldl
          (fun (m : Option Nat) e => match m with | none => some e.2.lastPt | some x => some (min x e.2.lastPt)) none with
      | some x => if x ≥ w.t then none else shrinkWin d lim n { w with start := x + 1 }
      | none => none

/-- A window number in no use, from the next one on. -/
def Dev.freeWin (d : Dev) : Nat :=
  (((List.range 64).map (fun k => (d.nextWin + k) % 64)).find? (fun k => d.wins.all (fun w => w.id != k))).getD 0

/-- The drive headers are written with FUA, one command a drive of the ring, in their two copies by turns (R288); `op` 1 of the
NVMe log. -/
def Dev.headerWrite (d : Dev) : Dev :=
  let d := { d with hdrCopy := 1 - d.hdrCopy }
  (d.ringDrives.filter d.inRing).foldl (fun d n => d.nvme n 1 d.hdrCopy 2097152) d

/-- Opens or extends a window (R286, R287, R291): binding `b`, trigger time `t`, PRE and POST, all in ns. Answers the
window's number where one was set, and the records this writes. -/
def openWin (d : Dev) (b t pre post : Nat) : Dev × Option Nat × List Evt :=
  let refuse : Dev × Option Nat × List Evt :=
    (d.raise F.FOLIO_EVENT_PIN_REFUSED, none, [{ code := 0x0B06, sev := 5, a0 := b }])
  if d.get F.FOLIO_STATUS_STATE ≠ 2 then refuse
  else
    match d.wins.find? (fun w => w.binding == b && decide (b < 16 ∧ w.t - pre ≤ t ∧ t ≤ w.stop)) with
    | some w =>
      ({ d with wins := d.wins.map (fun (x : Win) => if x.id = w.id then { x with stop := max x.stop (t + post) } else x) }.headerWrite,
       some w.id, [])
    | none =>
      if 64 ≤ d.wins.length then refuse
      else
        let w : Win := { id := d.freeWin, binding := b, t := t, start := t - pre, stop := t + post }
        let w := if w.start ≤ d.lostPt ∧ 0 < d.lostPt then { w with start := min (d.lostPt + 1) (t + post) } else w
        match shrinkWin d (d.get F.FOLIO_CTRL_PIN_LIMIT * d.ringSegs / 100) (d.segs.length + 1) w with
        | none => refuse
        | some w' =>
          let d := { d with wins := d.wins ++ [w'], nextWin := (w.id + 1) % 64 }.headerWrite.raise F.FOLIO_EVENT_PIN_SET
          let set : Evt := { code := 0x0B04, sev := 2, a0 := w'.id, a1 := w'.start % 2 ^ 32 }
          if w'.start = w.start then (d, some w'.id, [set])
          else (d.raise F.FOLIO_EVENT_PIN_TRUNCATED, some w'.id,
                [set, { code := 0x0B05, sev := 3, a0 := w'.id, a1 := w'.start % 2 ^ 32 }])

/-- A record's counts for its channels: notes for its subscriptions and for the triggers' NOTIFY. -/
def notesFor (d : Dev) (r : Rec) (kept : Bool) (trigs : List Nat) : List (Nat × Rec × Nat) :=
  let tbits := trigs.foldl (fun w k => w + 2 ^ k) 0
  let forced := (trigs.filter (fun k => d.on F.TRIG_CTRL_NOTIFY k)).map (fun k => d.get F.TRIG_CTRL_NOTIFY_CHAN k)
  let subbed := if kept then subHits d r.code r.sev else []
  (List.range 24).filterMap (fun c => if c ∈ forced ∨ c ∈ subbed then some (c, r, tbits) else none)

/-- The codes whose ARG0 and ARG1 a chapter states: the code's table names a datum with "with", or a rule lays them
out (R165, R197, R376, R390, R392). -/
def argsNamed (code : Nat) : Bool :=
  code / 256 == 6 || decide (0x0509 ≤ code ∧ code ≤ 0x0511) || code % 256 == 0 || decide (0x1202 ≤ code ∧ code ≤ 0x1205) ||
    decide (0x1207 ≤ code ∧ code ≤ 0x120D) ||
    ([0x0101, 0x0904, 0x090D, 0x0502, 0x0505, 0x0506, 0x0704, 0x0705, 0x0706, 0x0804, 0x0805, 0x080B] : List Nat).contains code ||
    ([0x0B01, 0x0B02, 0x0B03, 0x0B04, 0x0B07, 0x0B0C, 0x0C06, 0x0D02, 0x0D03, 0x0E02, 0x0E03, 0x0E04, 0x0E05] : List Nat).contains code ||
    ([0x0E06, 0x0E09, 0x0E10, 0x0E11, 0x0E13, 0x0E15, 0x0E16, 0x0E17, 0x0F01, 0x0F02, 0x0F03, 0x0F05, 0x0F06] : List Nat).contains code ||
    ([0x1002, 0x1101, 0x1102, 0x1106, 0x1107, 0x1108, 0x110A, 0x110C, 0x110D, 0x1201, 0x1301, 0x1302, 0x1303, 0x1305] : List Nat).contains code

/-- An event's ARG0 and ARG1: where no chapter states them they are free (log entry 13). -/
def recArgs (d : Dev) (e : Evt) : Dev × Evt :=
  if argsNamed e.code then (d, e)
  else
    let x0 := d.draw 8
    let x1 := x0.2.draw 8
    (x1.2, { e with a0 := x0.1, a1 := x1.1 })

/-- The record of an event, but for its SEQ (R382, R383, R394). -/
def mkRec (d : Dev) (e : Evt) : Rec :=
  { pt := d.pt, timeFlags := d.timeFlags, code := e.code, sev := e.sev, held := false, fw := e.fw,
    snaps := snapshot d e, seq := 0, arg0 := e.a0 % 2 ^ 32, arg1 := e.a1 % 2 ^ 32 }

/-- An event generates a record (R382): it is counted, stamped and sampled at once, and joins the records of this core
cycle, which are written in the order of R20 when the cycle ends (R383). A FATAL one is noted for the heartbeat (R416). -/
def Dev.record (d : Dev) (e : Evt) : Dev :=
  let d := if e.sev = 7 then { d with fatalSeen := true } else d
  let x := recArgs (d.countQ 0x50 0) e
  { x.1 with evq := x.1.evq ++ [mkRec x.1 x.2] }

/-- Generates a record limited to one per object in each interval of `n` cycles (R495). -/
def Dev.recordLim (d : Dev) (n : Nat) (e : Evt) : Dev :=
  let key := e.code * 2 ^ 24 + e.obj.num
  if d.firstIn key n then (d.mark key n).record e else d

/-- Generates a record limited to one in each interval of `n` cycles, whatever its object (R495). -/
def Dev.recordOnce (d : Dev) (n : Nat) (e : Evt) : Dev :=
  let key := e.code * 2 ^ 24
  if d.firstIn key n then (d.mark key n).record e else d

/-- Counts a performance event (R399 to R401); a wrap also writes WRAP, at most one per block per 1 s. -/
def Dev.count (d : Dev) (slot idx : Nat) (n : Nat := 1) (a : Attr := {}) : Dev :=
  let x := d.countQ slot idx n a
  if d.countWraps slot idx n a then x.recordLim secCycles { code := 0x1002, sev := 1, a0 := slot, a1 := idx, obj := .key slot } else x

/-! ## Writing the book -/

/-- A record goes into the book; where it takes the last free slot, FULL_REACHED is raised, and recorded the first time
(R387). Says whether it was stored. -/
def writeRec (d : Dev) (r : Rec) : Dev × Bool :=
  let x := storeRec d r
  if d.freeSlot && !x.1.freeSlot then
    let y := x.1.raise F.BOOK_EVENT_FULL_REACHED
    (if y.wasFull then y else { y with wasFull := true }.record { code := 0x0F04, sev := 2 }, x.2)
  else x

/-- ARG1 of CURTAIN_LIFTED: the dropped count in [15:0], the cause in [19:16] (R390). -/
def liftArg (drop cause : Nat) : Nat := min drop 65535 + cause * 65536

/-- A trigger the record matches fires (R393): PIN opens or extends a window, DUMP latches. -/
def fireTrig (r : Rec) (d : Dev) (k : Nat) : Dev :=
  let d := (d.satCount .TRIG_COUNT k).countQ 0x50 6
  let d := if d.on F.TRIG_CTRL_PIN k then
      let x := openWin d k (r.pt / 65536) (d.bindPre.get k) (d.bindPost.get k)
      x.2.2.foldl Dev.record x.1
    else d
  if d.on F.TRIG_CTRL_DUMP k then
    let x := latchDump d (4 + k * 16) 0
    if x.2 then x.1.recordOnce secCycles { code := 0x1001, sev := 3 } else x.1
  else d

/-- What follows a record generated, stored or not (R393, R395): notifications, and the triggers it matches. -/
def afterRec (r : Rec) (x : Dev × Bool) : Dev :=
  let trigs := trigHits x.1 r.code r.sev
  trigs.foldl (fireTrig r) { x.1 with notes := x.1.notes ++ notesFor x.1 r x.2 trigs }

/-- A record whose severity is below RECORD_MIN_SEV is counted in FILTERED and takes no SEQ; another takes the next (R383)
and goes on as `f` says. -/
def withSeq (d : Dev) (r : Rec) (f : Dev → Rec → Dev × Bool) : Dev × Bool :=
  if r.sev < d.get F.BOOK_CFG_RECORD_MIN_SEV then (d.satCount .FILTERED 0, false)
  else f { d with nextSeq := (d.nextSeq + 1) % 2 ^ 32 } { r with seq := d.nextSeq }

/-- A record as its triggers' notifications show it: with the SEQ it takes; a filtered one takes none, and the spec states no
value for the word (a free value, log entry 8). -/
def Rec.numbered (r : Rec) (d : Dev) : Rec × Dev :=
  if r.sev < d.get F.BOOK_CFG_RECORD_MIN_SEV then
    let y := d.draw 8
    ({ r with seq := y.1 % 2 ^ 32 }, y.2)
  else ({ r with seq := d.nextSeq }, d)

/-- A record generated goes on as `f` says, and what follows it. -/
def bookAs (d : Dev) (r : Rec) (f : Dev → Rec → Dev × Bool) : Dev :=
  let x := r.numbered d
  afterRec x.1 (withSeq x.2 r f)

/-- A record with the curtain down: it is written. -/
def bookPut (d : Dev) (r : Rec) : Dev := bookAs d r writeRec

/-- A record that is written at once, before those of this cycle (R390, R392). -/
def Dev.recordNow (d : Dev) (e : Evt) : Dev :=
  let x := recArgs (d.countQ 0x50 0) e
  bookPut x.1 (mkRec x.1 x.2)

/-- The curtain comes down: the held records are written in order, `mid` follows, then CURTAIN_LIFTED with the held and
dropped counts and the cause (R390). -/
def Dev.liftRecs (d : Dev) (mid : Dev → Dev) (cause : Nat) : Dev :=
  let q := d.held
  let drop := d.heldDropped
  let d := q.foldl (fun d r => (writeRec d r).1) { d with curtain := none, held := [], heldDropped := 0 }
  (mid d).recordNow { code := 0x0F03, sev := 1, a0 := q.length, a1 := liftArg drop cause }

/-- A record with the curtain up (R390) is held while the queue has room. -/
def holdRec (d : Dev) (r : Rec) : Dev × Bool :=
  if d.held.length < 16 then ({ d with held := d.held ++ [{ r with held := true }] }.countQ 0x50 4, true)
  else (({ d with heldDropped := d.heldDropped + 1 }.satCount .HOLD_DROPPED r.sev).raise F.BOOK_EVENT_HOLD_DROPPED |>.countQ 0x50 5,
    false)

/-- One record of a cycle: written, or held under the curtain; severity 6 or 7 forces the curtain down first (R390). -/
def bookOne (d : Dev) (r : Rec) : Dev :=
  if d.curtain.isNone then bookPut d r
  else if 6 ≤ r.sev ∧ d.get F.BOOK_CFG_RECORD_MIN_SEV ≤ r.sev then
    Dev.liftRecs (d.raise F.BOOK_EVENT_CURTAIN_FORCED) (fun d => bookPut d r) 4
  else bookAs d r holdRec

/-- A record's place among those of its cycle: ascending source block, then ascending event (R20), which is its code. -/
def insRec (r : Rec) : List Rec → List Rec
  | [] => [r]
  | x :: l => if x.code ≤ r.code then x :: insRec r l else r :: x :: l

/-- The records generated in a cycle in the order of R20, all with the PT of the first (R383). -/
def cycleRecs (q : List Rec) : List Rec :=
  (q.foldl (fun l r => insRec r l) []).map (fun r => { r with pt := match q.head? with | some x => x.pt | none => r.pt })

/-- The records of the core cycle that ends are written. What writing them causes belongs to the next. -/
def Dev.writeEvents (d : Dev) : Dev := (cycleRecs d.evq).foldl bookOne { d with evq := [] }

/-- The curtain is lowered by a command or its like, after the records of the cycle (R389, R390, R403): 0 command, 1 session
end, 2 clear, 3 limit. -/
def Dev.lowerCurtain (d : Dev) (cause : Nat) : Dev :=
  let d := d.writeEvents
  if d.curtain.isNone then d else d.liftRecs id cause

end Sys2Proof.Machine
end

