-- ==== Sys2Proof/Machine/Access.lean ====
section
/-! DEFINITION. Who may write a register (R300), what the write does by the register's type (R370 to R373, R7, R8),
the unlock key (R371), partial writes (R372), core 0's shadow log (R377), and the freeze of a violating master (R324,
R325). -/

namespace Sys2Proof.Machine

/-- The unlock key (R353, R371). -/
def unlockKey : Nat := 0xC3A5

/-- A violation (R324, R325): VIOL registers, the freeze (core 0 is never frozen), the VIOLATION record. -/
def Dev.violate (d : Dev) (m kind addr data : Nat) : Dev :=
  let cnt := min (d.get F.VIOL_INFO_COUNT + 1) 0xFFFFFF
  let d := ((d.setReg .VIOL_INFO 0 (m % 32 + 32 * kind + 256 * cnt)).setReg .VIOL_ADDR 0 addr).setReg .VIOL_DATA 0 data
  let d := { d with violCnt := d.violCnt.put m (d.violCnt.get m + 1) }
  let d := if kind = 3 then d.raise F.HOST_EVENT_DMA_ERR else d
  let d := if m = 24 then d else
    let d := { d with frozen := d.frozen.put m (some { kind := kind, addr := addr, data := data, role := d.masterRole m }) }
    let d := d.setBit F.FROZEN_MASTERS_FROZEN 0 m true
    if m < 8 then d.setBit F.HOST_STATUS_FROZEN 0 m true
    else if m < 24 then { d with repin := true }.setBit F.STAGE_STATUS_RUNNING 0 (m - 8) false else d
  d.record { code := 0x0E01, sev := 5, a0 := m, a1 := kind, snap := some [m, kind, addr, data, d.reg .HOST_STATUS] }

/-- A request of the device on a function's behalf outside its windows (R301): refused, and the function frozen. -/
def Dev.dmaCheck (d : Dev) (fn addr len : Nat) (write : Bool) : Dev × Bool :=
  if d.dmaOk fn addr len write then (d, true) else (d.violate fn 3 (addr % 2 ^ 32) len, false)

/-- The master holds CFG_WRITE, or is the Prompter (R300). -/
def Dev.cfgOk (d : Dev) (m : Nat) : Bool := isPrompter m || (decide (m < 8) && d.on F.FUNC_PERM_CFG_WRITE m)

/-- The KIND of the violation a write would be, if it is one (R300, R317, R324, R347). -/
def Dev.writeKind (d : Dev) (m : Nat) (r : RegName) (i w : Nat) : Option Nat :=
  let x := regInfo r
  if x.kind = .ro ∨ x.kind = .rl then none
  else if r = .GUARD_UNLOCK then
    if d.cfgOk m || (m == 0 && i == 0x4C && w == unlockKey && d.on F.PROMPTER_STATUS_DEGRADED) then none else some 1
  else match x.acc with
    | .cfg => if d.cfgOk m then none else some 1
    | .prompter => if isPrompter m then none else some 1
    | .queue => if (if i / 8 = 257 then isPrompter m else d.cfgOk m) then none else some 1
    | .ring => if m = d.get F.RING_OWNER_FUNC i then none else some 4
    | .cq => if m = d.get F.CQ_OWNER_FUNC i then none else some 4
    | .learnRing => if m = d.get F.LR_CFG_LR_FN then none else some 4
    | .dump => if m = d.get F.DUMP_FN_DUMP_FN then none else some 4
    | .chan => if m = d.sender (i / (if x.n2 = 1 then 1 else x.n2)) then none else some 5
    | .ctx =>
      if i / x.n2 = 0 then (if isPrompter m then none else some 1)
      else
        let rd := match r with | .TBL_CMD => 5 | _ => 1
        if x.kind = .w1p ∧ w &&& (0x1F - rd) ≠ 0 ∧ !d.cfgOk m then some 1 else none
    | .restart => if isPrompter m || (m == 0 && d.on F.PROMPTER_STATUS_DEGRADED) then none else some 1

/-- The register is host-owned (R300): not covered by the shadow log (R376). -/
def RegAccess.hostOwned : RegAccess → Bool
  | .ring | .cq | .chan | .learnRing | .dump => true
  | _ => false

/-- Posts an accepted write to core 0's shadow log of 1,024 entries; beyond them its block is marked (R377). -/
def Dev.postShadow (d : Dev) (addr : Nat) : Dev :=
  if d.shadowLog.length < 1024 then { d with shadowLog := d.shadowLog ++ [addr], shadow := d.shadow.del addr }
  else { d with shadowLost := if ownerSlot addr ∈ d.shadowLost then d.shadowLost else d.shadowLost ++ [ownerSlot addr]
                shadow := d.shadow.del addr }

/-- A field that software writes. -/
def Fld.soft (f : Fld) : Bool := f.kind == .rw || f.kind == .rwk

/-- A written word without the bits that are reserved in one element of an array: [31:16] of TB_STEP_2 (R7, R89). -/
def arrayWord (r : RegName) (i w : Nat) : Nat := if r = .TB_STEP ∧ i % 3 = 2 then w % 65536 else w

/-- Stores a written word in a register of type RW or RWK: reserved bits and read-only fields keep their value, a
field given a reserved encoding keeps its previous value (R7, R8). -/
def Dev.store (d : Dev) (r : RegName) (i w : Nat) : Dev :=
  let old := d.reg r i
  let w := arrayWord r i w
  let new := (regFields r).foldl (fun v f =>
    if f.soft && f.ok (bitsOf w f.hi f.lo) then withBits v f.hi f.lo (bitsOf w f.hi f.lo) else v) old
  let d := { d.setReg r i new with regWrote := d.regWrote ++ [regAddr r i] }
  if (regInfo r).acc.hostOwned then d else d.postShadow (regAddr r i)

/-- The Prompter writes a register under SFI: it stores as it is and follows into the shadow (R377). -/
def Dev.cfg (d : Dev) (r : RegName) (i w : Nat) : Dev :=
  { d.setReg r i w with regWrote := d.regWrote ++ [regAddr r i] }.postShadow (regAddr r i)

/-- The Prompter writes one field of a register under SFI. -/
def Dev.cfgF (d : Dev) (f : Fld) (i v : Nat) : Dev := d.cfg f.reg i (withBits (d.reg f.reg i) f.hi f.lo v)

/-- A clear of an RSQ register (R373): the flags named are cleared when SEQ matches. -/
def Dev.rsqClear (d : Dev) (r : RegName) (i w : Nat) : Dev :=
  let v := d.reg r i
  if w / 2 ^ 24 % 256 = v / 2 ^ 24 then d.setReg r i (v - (v &&& (w % 2 ^ 24))) else d

/-- What the gate says of a write: refused (and why is already in the device), or to be carried out with its word. -/
abbrev Gated := Dev × Option Nat

/-- The word a write stores: on an RW register the bytes not enabled keep their value (R372). -/
def Dev.merge (d : Dev) (r : RegName) (i w be : Nat) : Nat :=
  let mask := (List.range 4).foldl (fun a b => if be / 2 ^ b % 2 = 1 then a + 0xFF * 2 ^ (8 * b) else a) 0
  if be % 16 ≠ 15 ∧ (regInfo r).kind = .rw then (w &&& mask) + (d.reg r i - (d.reg r i &&& mask)) else w

/-- What the GLOBAL counters see of a write. -/
def Dev.writeAttr (d : Dev) (m : Nat) (r : RegName) (i : Nat) : Attr :=
  { master := some m, role := some (d.masterRole m), addr := some (regAddr r i) }

/-- A master's key for the block of a register (R371). -/
def unlockSlot (m : Nat) (r : RegName) (i : Nat) : Nat := ownerSlot (regAddr r i) * 32 + m

/-- A write has arrived: counted, and the block locked again for its master (R371). -/
def Dev.heard (d : Dev) (m : Nat) (r : RegName) (i : Nat) : Dev :=
  let d := d.count 0 1 1 (d.writeAttr m r i)
  { d with unlock := d.unlock.put (unlockSlot m r i) false }

/-- A write lets its effect through: counted as a configuration write where the register is one. -/
def Dev.passed (d : Dev) (m : Nat) (r : RegName) (i : Nat) : Dev :=
  let a := d.writeAttr m r i
  let d := d.heard m r i
  if (regInfo r).kind = .rwk ∨ (regInfo r).acc = .cfg then d.count 0 2 1 a else d

/-- A register's write needs the unlock key first, and the master has not given it (R371). -/
def Dev.locked (d : Dev) (m : Nat) (r : RegName) (i : Nat) : Bool :=
  (regInfo r).kind == .rwk && !d.unlock.get (unlockSlot m r i)

/-- A register that takes no write of its own: read only, or the lock itself. -/
def RegName.closed (r : RegName) : Bool :=
  (regInfo r).kind == .ro || (regInfo r).kind == .rl || r == .GUARD_UNLOCK

/-- A whole-word write of a master takes effect: it is not frozen, holds the right, the register is open to it. -/
def Dev.mayWrite (d : Dev) (m : Nat) (r : RegName) (i w : Nat) : Bool :=
  !d.isFrozen m && (d.writeKind m r i w).isNone && !r.closed && !d.locked m r i

/-- GUARD_UNLOCK: the key opens the block for its master's next write, any other word does not (R371). -/
def Dev.keyWrite (d : Dev) (m i w : Nat) : Dev :=
  let a := d.writeAttr m .GUARD_UNLOCK i
  let k := unlockSlot m .GUARD_UNLOCK i
  let d := d.heard m .GUARD_UNLOCK i
  if w = unlockKey then { d with unlock := d.unlock.put k true }.count 0 3 1 a else d

/-- PARTIAL_WRITE: a write without all its bytes to a register that is not RW (R372). -/
def Dev.partialWrite (d : Dev) (m : Nat) (r : RegName) (i : Nat) : Dev :=
  let a := d.writeAttr m r i
  let d := ((d.heard m r i).count 0 5 1 a).raise F.GLOBAL_EVENT_PARTIAL_WRITE
  d.recordLim secCycles { code := 0x0101, sev := 4, a0 := regAddr r i, a1 := m }

/-- A master writes a word, with byte enables, to a register (R300, R324, R325, R370 to R372): counted, refused with
its violation or PARTIAL_WRITE, or let through with the effective word. -/
def Dev.gateBe (d : Dev) (m : Nat) (r : RegName) (i w be : Nat) : Gated :=
  if d.isFrozen m then (d, none)
  else if be % 16 ≠ 15 ∧ (regInfo r).kind ≠ .rw then (d.partialWrite m r i, none)
  else match d.writeKind m r i w with
    | some kind => ((d.heard m r i).violate m kind (regAddr r i) w, none)
    | none =>
      if r = .GUARD_UNLOCK then (d.keyWrite m i w, none)
      else if r.closed then (d.heard m r i, none)
      else if d.locked m r i then
        (((d.heard m r i).count 0 4 1 (d.writeAttr m r i)).violate m 2 (regAddr r i) w, none)
      else (d.passed m r i, some (d.merge r i w be))

/-- A whole-word write of a register. -/
def Dev.gateReg (d : Dev) (m : Nat) (r : RegName) (i w : Nat) : Gated := d.gateBe m r i w 15

/-- Carries out `f` on the effective word when the gate lets the write through. -/
def Dev.gated (d : Dev) (m : Nat) (r : RegName) (i w : Nat) (f : Dev → Nat → Dev) : Dev :=
  match d.gateReg m r i w with
  | (d, some w) => f d w
  | (d, none) => d

end Sys2Proof.Machine
end

