-- ==== Sys2Proof/Machine/Crc.lean ====
section
/-! DEFINITION. The two cyclic redundancy checks: the Ethernet FCS, and the ICRC of R34 (CRC-32C, reflected, initial
value and final exclusive-or of all ones), which also forms every hash (R102, R122, R136, R180, R265); and bytes as
numbers. -/

namespace Sys2Proof.Machine

/-- One bit of a reflected CRC of 32 bits. -/
def crcBit (poly c : Nat) : Nat := if c % 2 = 1 then c / 2 ^^^ poly else c / 2

/-- One byte of a reflected CRC. -/
def crcByte (poly c : Nat) (b : Byte) : Nat :=
  let c := c ^^^ b.toNat
  crcBit poly (crcBit poly (crcBit poly (crcBit poly (crcBit poly (crcBit poly (crcBit poly (crcBit poly c)))))))

/-- A reflected CRC with initial value and final exclusive-or of all ones. -/
def crc32 (poly : Nat) (bs : List Byte) : Nat := bs.foldl (crcByte poly) 0xFFFFFFFF ^^^ 0xFFFFFFFF

/-- CRC-32C (R34). -/
def crc32c (bs : List Byte) : Nat := crc32 0x82F63B78 bs

/-- The FCS of Ethernet. -/
def fcsOf (bs : List Byte) : Nat := crc32 0xEDB88320 bs

/-- `n` bytes of a number, least significant first (R6). -/
def leBytes (n v : Nat) : List Byte := (List.range n).map (fun k => BitVec.ofNat 8 (v / 2 ^ (8 * k)))

/-- `n` bytes of a number, most significant first. -/
def beBytes (n v : Nat) : List Byte := (leBytes n v).reverse

/-- A number from bytes, least significant first. -/
def ofLe (b : List Byte) : Nat := b.foldr (fun x a => x.toNat + 256 * a) 0

/-- A number from bytes, most significant first (wire order). -/
def ofBe (b : List Byte) : Nat := b.foldl (fun a x => x.toNat + 256 * a) 0

/-- `n` bytes at an offset. -/
def slice (b : List Byte) (off n : Nat) : List Byte := (b.drop off).take n

/-- The number at an offset, wire order. -/
def be (b : List Byte) (off n : Nat) : Nat := ofBe (slice b off n)

/-- Replaces bytes at an offset. -/
def splice (b : List Byte) (off : Nat) (v : List Byte) : List Byte := b.take off ++ v ++ b.drop (off + v.length)

/-- A frame on the wire: its bytes and the FCS, inverted when stomped (R41). -/
def withFcs (bs : List Byte) (good : Bool) : List Byte :=
  bs ++ leBytes 4 (if good then fcsOf bs else fcsOf bs ^^^ 0xFFFFFFFF)

end Sys2Proof.Machine
end

