-- ==== Sys2Proof/Machine/Completion.lean ====
section
/-! DEFINITION. Rings (R303), completion rings and their stash (R314 to R316, R325). The completions of a core cycle are written
as it ends, in ascending ring number. -/

namespace Sys2Proof.Machine

/-! ## Ring arithmetic (R303) -/

def ringUsed (p c : Nat) : Nat := (p + 65536 - c % 65536) % 65536
def ringSlot (i size : Nat) : Nat := i % size
def ringPhase (i log2size : Nat) : Nat := 1 - i / 2 ^ log2size % 2

/-! ## Completion rings -/

/-- Size in entries of a submission ring and of a completion ring. -/
def Dev.ringSize (d : Dev) (s : Nat) : Nat := 2 ^ d.get F.RING_CFG_LOG2SIZE s
def Dev.cqSize (d : Dev) (k : Nat) : Nat := 2 ^ d.get F.CQ_CFG_LOG2SIZE k

/-- Host addresses of a ring's and a completion ring's memory. -/
def Dev.ringBase (d : Dev) (s : Nat) : Nat := d.reg .RING_BASE_HI s * 2 ^ 32 + d.get F.RING_BASE_LO_ADDR s * 2 ^ 12
def Dev.cqBase (d : Dev) (k : Nat) : Nat := d.reg .CQ_BASE_HI k * 2 ^ 32 + d.get F.CQ_BASE_LO_ADDR k * 2 ^ 12

/-- FREE of R315. -/
def Dev.cqFree (d : Dev) (k : Nat) : Nat := d.cqSize k - ringUsed (d.reg .CQ_PROD k) (d.reg .CQ_CONS k)

/-- The completion ring has credit for one more job (R315). -/
def Dev.cqCredit (d : Dev) (k : Nat) : Bool := decide (d.get F.CQ_STATUS_RSV k < d.cqFree k + 8)

/-- HALTING and FULL follow RSV and FREE (R315); CQ_HALT is raised and recorded as HALTING sets. -/
def Dev.cqSettle (d : Dev) (k : Nat) : Dev :=
  let halt := !d.cqCredit k
  let was := d.on F.CQ_STATUS_HALTING k
  let d := (d.set F.CQ_STATUS_FULL k (b2n (d.cqFree k == 0))).set F.CQ_STATUS_HALTING k (b2n halt)
  if halt && !was then
    (d.raiseFirst F.HOST_EVENT_CQ_HALT 0 0 msCycles).recordLim secCycles { code := 0x0C03, sev := 3, a0 := k, obj := .cq k }
  else d

/-- A job bound to the completion ring starts (R315). -/
def Dev.cqReserve (d : Dev) (k : Nat) : Dev := (d.set F.CQ_STATUS_RSV k (d.get F.CQ_STATUS_RSV k + 1)).cqSettle k

/-- The 16 bytes of a completion (R314). -/
def Compl.bytes (c : Compl) (phase : Nat) : List Byte :=
  leBytes 4 c.tag ++ leBytes 2 c.index ++ leBytes 1 c.ring ++ leBytes 1 (c.status % 8 + 8 * (c.bufs % 16) + 128 * phase)
    ++ leBytes 2 c.len ++ leBytes 2 (c.port % 512 + 512 * (c.tc % 8) + 4096 * (c.marks % 16)) ++ leBytes 4 c.ts

/-- Fires the completion ring's vector and starts its counts again (R316). -/
def Dev.cqInterrupt (d : Dev) (k : Nat) : Dev :=
  { d with cqs := d.cqs.put k { d.cqs.get k with sinceInt := 0, firstAt := 0 } }.emit
    (.msix (d.get F.CQ_OWNER_FUNC k) (d.get F.CQ_CFG_VECTOR k))

/-- Writes one completion to a completion ring that has room (R314 to R316). -/
def Dev.cqWrite (d : Dev) (k : Nat) (c : Compl) : Dev :=
  let p := d.reg .CQ_PROD k
  let fn := d.get F.CQ_OWNER_FUNC k
  let addr := d.cqBase k + 16 * ringSlot p (d.cqSize k)
  let x := d.dmaCheck fn addr 16 true
  let d := x.1
  if x.2 then
    let d := (d.emit (.dma fn addr (c.bytes (ringPhase p (d.get F.CQ_CFG_LOG2SIZE k))))).setReg .CQ_PROD k ((p + 1) % 65536)
    let d := (d.set F.CQ_STATUS_RSV k (d.get F.CQ_STATUS_RSV k - 1)).count 0x44 4
    let q := d.cqs.get k
    let d := { d with cqs := d.cqs.put k { q with sinceInt := q.sinceInt + 1,
                                                  firstAt := if q.sinceInt = 0 then d.cycle + 1 else q.firstAt } }
    let d := if q.sinceInt + 1 ≥ d.get F.CQ_CFG_INT_COUNT k then d.cqInterrupt k else d
    { d with rxWritten := if c.frame = 0 then d.rxWritten else d.rxWritten ++ [c.frame] }.cqSettle k
  else
    { d with cqs := d.cqs.put k { d.cqs.get k with heldC := (d.cqs.get k).heldC ++ [{ c with status := 3 }] } }

/-- A completion reaches its completion ring (R315, R325): held while the owner is frozen, written, or put into the
stash. -/
def Dev.cqComplete (d : Dev) (s : Nat) (c : Compl) : Dev :=
  let k := d.get F.RING_CFG_CQ s
  let q := d.cqs.get k
  if d.isFrozen (d.get F.CQ_OWNER_FUNC k) then
    { d with cqs := d.cqs.put k { q with heldC := q.heldC ++ [c] } }
  else if d.cqFree k = 0 ∨ !q.stash.isEmpty then
    ({ d with cqs := d.cqs.put k { q with stash := q.stash ++ [c] } }.count 0x44 5).cqSettle k
  else d.cqWrite k c

/-- Completions of a TX ring that wait follow in job order. `n` bounds how many. -/
def Dev.inOrder : Nat → Dev → Nat → Dev
  | 0, d, _ => d
  | n + 1, d, s =>
    let r := d.rings.get s
    match r.started with
    | [] => d
    | i :: rest =>
      match r.doneC.find? (fun c => c.index == i) with
      | some c =>
        Dev.inOrder n ({ d with rings := d.rings.put s { r with started := rest, doneC := r.doneC.erase c } }.cqComplete s c) s
      | none => d

/-- A completion is written; those of a TX ring in job order (R315). -/
def Dev.completeNow (d : Dev) (s : Nat) (c : Compl) : Dev :=
  let r := d.rings.get s
  if r.started.contains c.index then
    Dev.inOrder (r.started.length) { d with rings := d.rings.put s { r with doneC := r.doneC ++ [c] } } s
  else d.cqComplete s c

/-- A completion is ready in this core cycle; it is written as the cycle ends (R315, R327). -/
def Dev.complete (d : Dev) (s : Nat) (c : Compl) : Dev := { d with doneQ := d.doneQ ++ [(s, c)] }

/-- A completion's place among those of its cycle: ascending ring number (R315). -/
def insDone (x : Nat × Compl) : List (Nat × Compl) → List (Nat × Compl)
  | [] => [x]
  | y :: l => if y.1 ≤ x.1 then y :: insDone x l else x :: y :: l

/-- The stash drains into the room there is, in order (R315). `n` bounds the writes. -/
def Dev.drainStash : Nat → Dev → Nat → Dev
  | 0, d, k => d.cqSettle k
  | n + 1, d, k =>
    match (d.cqs.get k).stash with
    | [] => d.cqSettle k
    | c :: r =>
      if d.cqFree k = 0 ∨ d.isFrozen (d.get F.CQ_OWNER_FUNC k) then d.cqSettle k
      else Dev.drainStash n ({ d with cqs := d.cqs.put k { d.cqs.get k with stash := r } }.cqWrite k c) k

end Sys2Proof.Machine
end

