-- ==== Sys2Proof/Machine/Bpm.lean ====
section
/-! DEFINITION. The buffer pool manager (R198 to R220): pools, chains, quota accounts, reserves, reference counts. -/

namespace Sys2Proof.Machine

/-! ## Accounts (R206 to R210) -/

/-- The account a frame of a port and class is charged to. -/
def acctOf (port c : Nat) : Nat :=
  if port < 256 then 8 * port + c else if port = 256 then 2048 else if port = 258 then 2049 else 2051

/-- An account of class 7: its LOSSLESS reads 0 (R209). -/
def classSeven (a : Nat) : Bool := decide (a < 2048 ∧ a % 8 = 7)

/-- LOSSLESS (R209). -/
def Dev.lossless (d : Dev) (a : Nat) : Bool := !classSeven a && d.on F.ACCT_BIND_LOSSLESS a

/-- PCP_TO_TC of a pipe. -/
def Dev.pcpTc (d : Dev) (pipe pcp : Nat) : Nat := d.get F.PCP_TO_TC_TC_FOR_PCP pipe / 2 ^ (3 * pcp) % 8

/-- A LOSSLESS account of a port has risen through XOFF and stayed at or above XON. -/
def Dev.portXoff (d : Dev) (p : Nat) : Bool := (List.range 8).any (fun c => d.lossless (8 * p + c) && d.xoff.get (8 * p + c))

/-- PFC's class-enable vector: the PCPs mapped to a class whose account is at or above XOFF (R210). -/
def Dev.pfcMask (d : Dev) (p : Nat) : Nat :=
  (List.range 8).foldl (fun w k =>
    let a := 8 * p + d.pcpTc (pipeOf p) k
    if d.lossless a && decide (d.xoffLim a ≤ d.acctU.get a) then w + 2 ^ k else w) 0

/-- The PCPs mapped to one class. -/
def Dev.classPcps (d : Dev) (p c : Nat) : Nat :=
  (List.range 8).foldl (fun w k => if d.pcpTc (pipeOf p) k = c then w + 2 ^ k else w) 0

/-- A port sends no frame at this moment: its flow control frames leave (R210). -/
def Dev.pauseOut (d : Dev) (p : Nat) : Dev :=
  let low := d.tx.get (2 * p + 1)
  if (d.tx.get (2 * p)).live || (low.live && !low.yielded) then d
  else (d.pauseQ.get p).foldl (fun d x => d.emit (.pause p x.1 x.2)) { d with pauseQ := d.pauseQ.put p [] }

/-- The MAC of a port is to send a flow control frame: between frames, behind the one in progress, ahead of all that is queued
(R210). -/
def Dev.pauseAsk (d : Dev) (p mask quanta : Nat) : Dev :=
  if d.linkState p ≠ 1 then d else { d with pauseQ := d.pauseQ.put p (d.pauseQ.get p ++ [(mask, quanta)]) }.pauseOut p

/-- The MAC of a port sends its pause (mask 256) or PFC frame (R210). -/
def Dev.pauseSend (d : Dev) (p : Nat) : Dev :=
  let q := d.get F.PORT_FC_PAUSE_QUANTA p
  let d := { d with pauseAt := d.pauseAt.put p d.cycle }
  if d.get F.PORT_FC_FC_MODE p = 1 then d.pauseAsk p 256 q
  else if d.get F.PORT_FC_FC_MODE p = 2 then d.pauseAsk p (d.pfcMask p) q else d

/-- An account of a port fell below XON: quanta 0 once all, or for PFC that class, are below (R210). -/
def Dev.pauseEnd (d : Dev) (a : Nat) : Dev :=
  let p := a / 8
  if 256 ≤ p then d
  else if d.get F.PORT_FC_FC_MODE p = 1 then (if d.portXoff p then d else d.pauseAsk p 256 0)
  else if d.get F.PORT_FC_FC_MODE p = 2 then d.pauseAsk p (d.classPcps p (a % 8)) 0 else d

/-- The charges as they stood before this core cycle's first change (R208). -/
def Dev.keepAcct (d : Dev) : Dev :=
  if d.acctAt = d.cycle + 1 then d else { d with acctPrev := d.acctU, acctAt := d.cycle + 1 }

/-- U of an account rises through WARN: at most one event per account per second (R209). -/
def Dev.warnRise (d : Dev) (a : Nat) : Dev :=
  if d.warned.get a ∨ d.acctU.get a < d.warnLim a then d
  else
    let d := { d with warned := d.warned.put a true }
    if d.firstIn (2 ^ 61 + a) secCycles then
      ((d.mark (2 ^ 61 + a) secCycles).raise F.BPM_EVENT_WARN).record
        { code := 0x0701, sev := 2, a0 := a, obj := .acct a, ints := [d.acctU.get a] }
    else d

/-- U of an account rises through XOFF (R209, R210). -/
def Dev.xoffRise (d : Dev) (a : Nat) : Dev :=
  if d.xoff.get a ∨ d.acctU.get a < d.xoffLim a then d
  else
    let d := { d with xoff := d.xoff.put a true }
    let d := if a < 2048 then d.cstat (a / 8) (a % 8) 1 else d
    if d.lossless a then
      let d := (d.raise F.BPM_EVENT_XOFF).recordLim msCycles
        { code := 0x0702, sev := 2, a0 := a, obj := if a < 2048 then .port (a / 8) else .acct a, ints := [d.acctU.get a] }
      if a < 2048 then d.pauseSend (a / 8) else d
    else d

/-- Charges cells to an account: U is then held to the limits of the core cycle; an account that a falling limit has passed
crosses it when its own U next rises (DEDUCED, log entry 117). -/
def Dev.charge (d : Dev) (a cells : Nat) : Dev :=
  let d := d.keepAcct
  ({ d with acctU := d.acctU.put a (d.acctU.get a + cells) }.warnRise a).xoffRise a

/-- Releases cells of an account; accounts that are now below XON leave XOFF, those below WARN may rise through it again. -/
def Dev.credit_ (d : Dev) (a cells : Nat) : Dev :=
  let d := d.keepAcct
  let d := { d with acctU := d.acctU.put a (d.acctU.get a - cells) }
  let d := { d with warned := d.warned.filter (fun e => decide (d.warnLim e.1 ≤ d.acctU.get e.1)) }
  d.xoff.foldl (fun d e =>
    if d.acctU.get e.1 < d.xonLim e.1 then
      let d := { d with xoff := d.xoff.put e.1 false }
      if d.lossless e.1 then d.pauseEnd e.1 else d
    else d) d

/-! ## Buffers (R198 to R205, R211) -/

/-- The largest present pool. -/
def Dev.largestPool (d : Dev) : Nat := if d.poolPresent 3 then 3 else if d.poolPresent 2 then 2 else 1

/-- The pool for the next buffer of a chain (R203); `rem` 0 is unknown. -/
def Dev.nextPool (d : Dev) (prev rem : Nat) : Nat :=
  let ok (p : Nat) : Bool := d.poolPresent p && (if rem ≠ 0 then decide (rem ≤ poolSize p) else decide (prev < p))
  match (List.range 4).find? ok with
  | some p => p
  | none => d.largestPool

/-- The pools tried for a chosen pool (R204). -/
def poolOrder (p : Nat) : List Nat :=
  p :: ((List.range 4).filter (fun q => decide (p < q)) ++ ((List.range p).reverse))

/-- A free buffer is allocated (R201): as a head its GEN increments and it owns itself, else it takes its head's GEN. It is
charged to the account unless it is a reserve buffer (R206, R211). -/
def Dev.takeBuf (d : Dev) (pipe b : Nat) (head : Option Nat) (acct : Nat) : Dev :=
  let k := bufKind b
  let own := match head with
    | some h => { used := true, owner := bufCell h, gen := (d.owners.get (bufCell h)).gen, bad := 0 }
    | none => { used := true, owner := bufCell b, gen := ((d.owners.get (bufCell b)).gen + 1) % 16, bad := 0 }
  let full := !d.reserveUsed pipe
  let d := { d with owners := d.owners.put (bufCell b) own }.count 0x2C 0
  if 4 ≤ k then
    let d := d.count 0x2C 5
    if full then (d.raise F.BPM_EVENT_RESERVE_USED).record
        { code := 0x0705, sev := 3, a0 := pipe, obj := .pipe pipe, ints := [d.acctU.get (acct - 1)] } else d
  else if acct = 0 then d else d.charge (acct - 1) (poolCells k)

/-- A TC_7 frame finds its pipe's reserve exhausted (R211). -/
def Dev.reserveGone (d : Dev) (pipe acct : Nat) : Dev :=
  (d.raise F.BPM_EVENT_RESERVE_EXHAUSTED).record
    { code := 0x0706, sev := 6, a0 := pipe, obj := .pipe pipe, ints := [d.acctU.get (acct - 1)] }

/-- A buffer of a pipe's reserve, of kind `k` (R211). -/
def Dev.reserveBuf (d : Dev) (pipe k : Nat) (head : Option Nat) (acct : Nat) : Dev × Option Nat :=
  match d.findBuf pipe k with
  | some b => (d.takeBuf pipe b head acct, some b)
  | none => (d.reserveGone pipe acct, none)

/-- The head buffer of a frame of class `tc` (R202, R204, R211): from P0, or for a TC_7 frame refused by its quota or
finding none, from the reserve. `barred`: no head is to be taken from P0. -/
def Dev.headBuf (d : Dev) (pipe tc acct : Nat) (barred : Bool) : Dev × Option Nat :=
  match (if barred then none else d.findBuf pipe 0) with
  | some b => (d.takeBuf pipe b none acct, some b)
  | none => if tc = 7 then d.reserveBuf pipe 4 none acct else (d, none)

/-- A further buffer (R203, R204, R211) of the chain with head `head`: `last` is the previous buffer, `rem` the remaining bytes. A
chain that came to the reserve stays in it. -/
def Dev.moreBuf (d : Dev) (pipe tc acct head last rem : Nat) : Dev × Option Nat :=
  if 4 ≤ bufKind last then d.reserveBuf pipe 5 (some head) acct
  else
    match (poolOrder (d.nextPool (bufKind last) rem)).findSome? (d.findBuf pipe) with
    | some b => (d.takeBuf pipe b (some head) acct, some b)
    | none => if tc = 7 then d.reserveBuf pipe 5 (some head) acct else (d, none)

/-- Bytes a chain holds. -/
def chainBytes (bufs : List Nat) : Nat := bufs.foldl (fun n b => n + poolSize (bufKind b)) 0

/-- Bytes remaining when a further buffer is chosen (R203): known at the frame's end, or from a parsed L3 length. -/
def remBytes (f : FrameRec) (l3 : Option Nat) (known : Bool) (stored : Nat) : Nat :=
  if known then f.bytes.length - stored
  else match l3 with
    | some e => e - stored
    | none => 0

/-- Adds buffers to a frame's chain until it holds the frame's bytes; false when no buffer was found. `n` bounds the
buffers. -/
def Dev.fillChain : Nat → Dev → FrameRec → Option Nat → Bool → Dev × FrameRec × Bool
  | 0, d, f, _, _ => (d, f, true)
  | n + 1, d, f, l3, known =>
    let stored := chainBytes f.bufs
    if f.bytes.length ≤ stored then (d, f, true)
    else
      match d.moreBuf f.pipe f.tc f.account (f.bufs.headD 0) (f.bufs.getLastD 0) (remBytes f l3 known stored) with
      | (d, some p) => Dev.fillChain n d { f with bufs := f.bufs ++ [p] } l3 known
      | (d, none) => (d, f, false)

/-- POOL_EMPTY: a frame ran out of buffers after its head (R204). -/
def Dev.poolEmpty (d : Dev) (p acct : Nat) : Dev :=
  (d.raise F.BPM_EVENT_POOL_EMPTY).record { code := 0x0704, sev := 3, a0 := p, ints := [d.acctU.get (acct - 1)] }

/-! ## Chains (R212, R213, R220) -/

/-- A buffer is freed: it returns to its pool or reserve, or, with an uncorrectable data word, it is retired (R220). -/
def Dev.giveCell (d : Dev) (cell n : Nat) : Dev :=
  let o := d.owners.get cell
  let d := { d with owners := d.owners.put cell { o with used := false, bad := 0 } }
  if o.bad = 0 then d
  else ({ d with retired := d.retired ++ [(cell, n)] }.raise F.BPM_EVENT_BUF_RETIRED).record
    { code := 0x070B, sev := 4, a0 := cell, ints := [d.reg .ECC_LAST_ADDR] }

def Dev.giveBuf (d : Dev) (b : Nat) : Dev := d.giveCell (bufCell b) (poolCells (bufKind b))

/-- The buffers of a chain that its links lead to (R218). -/
def FrameRec.reached (f : FrameRec) : List Nat := match f.reach with | some r => f.bufs.take r.1 | none => f.bufs

/-- Charged cells of a chain: its reserve buffers are charged to no account. -/
def chargedCells (bufs : List Nat) : Nat := chainCells (bufs.filter (fun b => decide (bufKind b < 4)))

/-- A host TX job completes (R310, R314): its status, egress port and egress stamp. -/
def Dev.txDone (d : Dev) (f : FrameRec) (status port ts : Nat) : Dev :=
  match f.txJob with
  | some (ring, tag, index, bufs, _) =>
    d.complete ring { (default : Compl) with
      tag := tag, index := index, ring := ring, status := status, bufs := bufs, len := f.len
      port := port, tc := f.tc, ts := ts }
  | none => d

/-- A frame's buffers are returned and its account credited (R213); those a broken link hides stay allocated until a reclaim
sweep (R218, R220). -/
def Dev.giveChain (d : Dev) (f : FrameRec) : Dev :=
  let d := f.reached.foldl Dev.giveBuf d
  if f.account = 0 then d else d.credit_ (f.account - 1) (chargedCells f.bufs)

/-- The chain is freed (R213). A host TX job that still waits for the frame completes with DROPPED (R310). -/
def Dev.freeChain (d : Dev) (id : Nat) : Dev :=
  let f := d.frames.get id
  let d := (d.txDone f 4 0 0).giveChain f
  let d := if f.bufs.isEmpty then d else d.count 0x2C 1
  { d with frames := d.frames.put id (if f.burin = 0 then default
      else { f with bufs := [], account := 0, refs := 0, reach := none, txJob := none }) }

/-- REFCNT falls by `n` (R213). -/
def Dev.deref (d : Dev) (id n : Nat) : Dev :=
  let f := d.frames.get id
  let d := { d with frames := d.frames.put id { f with refs := f.refs - n } }
  if f.refs ≤ n ∧ f.lost = false ∧ f.live = true then d.freeChain id else d

/-- Changes a frame. -/
def Dev.frameSet (d : Dev) (id : Nat) (f : FrameRec) : Dev := { d with frames := d.frames.put id f }

/-- The in-flight count of a plate rises or falls (R116). -/
def Dev.flightUp (d : Dev) (plate n : Nat) : Dev := { d with inflight := d.inflight.put plate (d.inflight.get plate + n) }
def Dev.flightDown (d : Dev) (plate n : Nat) : Dev := { d with inflight := d.inflight.put plate (d.inflight.get plate - n) }

/-- A copy is consumed: its plate's count and its chain's REFCNT fall by one (R116, R213). -/
def Dev.consume (d : Dev) (id : Nat) : Dev := (d.flightDown (d.frames.get id).plate 1).deref id 1

/-- A discard is counted on the port through which the frame first entered; internal ports have no statistics (R496). -/
def Dev.rxStat (d : Dev) (f : FrameRec) (i : Nat) : Dev := d.stat f.port i

/-- After a reset the hardware builds the reset carve of 16 MiB a pool by itself, unless a carve was applied before (R198, R341;
log entry 39). -/
def Dev.resetCarve (d : Dev) : Dev :=
  if d.mib.isEmpty && d.carveTo.isEmpty then { d with mib := [(0, 16), (1, 16), (2, 16), (3, 16)] } else d

end Sys2Proof.Machine
end

