-- ==== Sys2Proof/Machine/Parse.lean ====
section
/-! DEFINITION. The parser (R93 to R97): the headers of a frame's first 256 bytes, its FRAME_TYPE, and what the STREAM
block and the PTP handling read from it. The standards' own layouts inside a header (IPv4, IPv6, UDP, PTP, HSR, PRP,
R-GOOSE session) are PRESUMED (log entry 10): the spec names their fields and not their places. -/

namespace Sys2Proof.Machine

/-- A PTP header found in a frame: its offset, messageType, domainNumber, sequenceId, sourcePortIdentity, twoStepFlag,
whether it came over UDP, over IPv6. -/
structure PtpHdr where
  off : Nat
  msgType : Nat
  domain : Nat
  seqId : Nat
  spi : Nat
  twoStep : Bool
  udp : Bool
  v6 : Bool
  deriving DecidableEq, Repr, Inhabited

/-- What the parser extracts (R93, R96). -/
structure Parsed where
  da : Nat := 0
  sa : Nat := 0
  outer : Option Nat := none
  inner : Option Nat := none
  /-- Offset of the HSR tag; path, LSDU size, sequence number. -/
  hsr : Option (Nat × Nat × Nat × Nat) := none
  /-- Offset of the R-tag and its sequence number. -/
  rtag : Option (Nat × Nat) := none
  /-- Offset of the Ethertype, the Ethertype. -/
  etOff : Nat := 12
  etype : Nat := 0
  ftype : Nat := 0
  appid : Option Nat := none
  sim : Bool := false
  ptp : Option PtpHdr := none
  ipVer : Option Nat := none
  /-- The Version nibble of the IP header (R93, R96). -/
  verNib : Nat := 0
  ipOff : Nat := 0
  ipSrc : Nat := 0
  ipDst : Nat := 0
  proto : Nat := 0
  dscp : Nat := 0
  /-- L3 length known: offset of the L3 header plus its length. -/
  l3End : Option Nat := none
  /-- Fragment: identification, offset, more. -/
  frag : Option (Nat × Nat × Bool) := none
  fragProto : Nat := 0
  l4 : Option (Nat × Nat) := none
  l4Off : Nat := 0
  /-- Session: SI, SPDU number, version, key ID. -/
  sess : Option (Nat × Nat × Nat × Nat) := none
  /-- PRP trailer: sequence number, LAN ID. -/
  prp : Option (Nat × Nat) := none
  hdrErr : Bool := false
  deep : Bool := false
  deriving DecidableEq, Repr, Inhabited

/-- Whether `n` bytes at `off` can be read: present, past the frame's end, or beyond the parse window (R94). -/
inductive Reach where
  | ok | err | deep
  deriving DecidableEq, Repr

/-- Where the bytes asked for lie. `total` is the number of bytes before the FCS once the frame has ended. A header that lies
both beyond the window and past the frame's end is in error (DESIGN CHOICE, log entry 109). -/
def reach (total : Option Nat) (avail off n : Nat) : Reach :=
  match total with
  | some t => if t < off + n then .err else if off + n ≤ min 256 avail then .ok else .deep
  | none => if off + n ≤ min 256 avail then .ok else .deep

/-- Marks a header that cannot be read. -/
def Parsed.stop (p : Parsed) (r : Reach) : Parsed :=
  match r with
  | .ok => p
  | .err => { p with hdrErr := true }
  | .deep => { p with deep := true }

/-- The PTP header at an offset (6b, 8a). -/
def parsePtp (b : List Byte) (total : Option Nat) (off : Nat) (udp v6 : Bool) (p : Parsed) : Parsed :=
  match reach total b.length off 34 with
  | .ok => { p with ptp := some { off := off, msgType := be b off 1 % 16, domain := be b (off + 4) 1,
                                  seqId := be b (off + 30) 2, spi := be b (off + 20) 10,
                                  twoStep := be b (off + 6) 1 / 2 % 2 == 1, udp := udp, v6 := v6 } }
  | r => p.stop r

/-- Step 8: PTP over UDP, or the session header. The session header follows the transport bytes 01 40. -/
def parseSess (b : List Byte) (total : Option Nat) (off : Nat) (p : Parsed) : Parsed :=
  match p.l4 with
  | some (_, 319) | some (_, 320) =>
    { parsePtp b total off true (p.ipVer == some 6) p with ftype := 8 }
  | some (_, 102) =>
    if p.proto = 17 then
      match reach total b.length off 28 with
      | .ok =>
        let si := be b (off + 2) 1
        if si = 0xA1 ∨ si = 0xA2 then
          { p with sess := some (si, be b (off + 10) 4, be b (off + 14) 2, be b (off + 24) 4),
                   ftype := if si = 0xA1 then 6 else 7 }
        else p
      | r => p.stop r
    else p
  | _ => p

/-- Step 7: UDP or TCP of a first fragment or a whole packet. -/
def parseL4 (b : List Byte) (total : Option Nat) (off : Nat) (p : Parsed) : Parsed :=
  let later := match p.frag with | some (_, o, _) => o != 0 | none => false
  if later then p
  else if p.proto = 17 ∨ p.proto = 6 then
    match reach total b.length off (if p.proto = 17 then 8 else 20) with
    | .ok =>
      let q := { p with l4 := some (be b off 2, be b (off + 2) 2), l4Off := off }
      if p.proto = 17 then parseSess b total (off + 8) q else q
    | r => p.stop r
  else p

/-- Step 6c: IPv4. -/
def parseIp4 (b : List Byte) (total : Option Nat) (off : Nat) (p : Parsed) : Parsed :=
  let p := { p with ftype := 4 }
  match reach total b.length off 20 with
  | .ok =>
    let ihl := be b off 1 % 16
    let len := be b (off + 2) 2
    if ihl < 5 then { p with hdrErr := true }
    else
      match reach total b.length off (4 * ihl) with
      | .ok =>
        let fo := be b (off + 6) 2
        let fr := fo % 8192 ≠ 0 ∨ fo / 8192 % 2 = 1
        let bad := match total with | some t => decide (t < off + len) | none => false
        if bad then { p with hdrErr := true }
        else
          let q := { p with ipVer := some 4, verNib := be b off 1 / 16, ipOff := off, ipSrc := be b (off + 12) 4, ipDst := be b (off + 16) 4,
                            proto := be b (off + 9) 1, dscp := be b (off + 1) 1 / 4, l3End := some (off + len),
                            frag := if fr then some (be b (off + 4) 2, fo % 8192, fo / 8192 % 2 == 1) else none,
                            fragProto := be b (off + 9) 1, ftype := if fo % 8192 ≠ 0 then 9 else 4 }
          parseL4 b total (off + 4 * ihl) q
      | r => p.stop r
  | r => p.stop r

/-- IPv6 extension headers of types 0, 43, 44 and 60: at most two; `n` are left. A fragment header with offset 0 and M 0 is
that of a whole packet (R123). -/
def parseExt (b : List Byte) (total : Option Nat) : Nat → Nat → Parsed → Parsed
  | n, off, p =>
    if p.proto = 0 ∨ p.proto = 43 ∨ p.proto = 44 ∨ p.proto = 60 then
      match n with
      | 0 => p
      | k + 1 =>
        match reach total b.length off 8 with
        | .ok =>
          let nh := be b off 1
          if p.proto = 44 then
            let w := be b (off + 2) 2
            let q := { p with proto := nh, fragProto := nh,
                              frag := if w / 8 ≠ 0 ∨ w % 2 = 1 then some (be b (off + 4) 4, w / 8, w % 2 == 1) else none,
                              ftype := if w / 8 ≠ 0 then 9 else p.ftype }
            parseExt b total k (off + 8) q
          else
            let n8 := 8 * (be b (off + 1) 1 + 1)
            match reach total b.length off n8 with
            | .ok => parseExt b total k (off + n8) { p with proto := nh }
            | r => p.stop r
        | r => p.stop r
    else parseL4 b total off p

/-- Step 6d: IPv6. -/
def parseIp6 (b : List Byte) (total : Option Nat) (off : Nat) (p : Parsed) : Parsed :=
  let p := { p with ftype := 5 }
  match reach total b.length off 40 with
  | .ok =>
    let len := be b (off + 4) 2
    let bad := match total with | some t => decide (t < off + 40 + len) | none => false
    if bad then { p with hdrErr := true }
    else
      let q := { p with ipVer := some 6, verNib := be b off 1 / 16, ipOff := off, ipSrc := be b (off + 8) 16, ipDst := be b (off + 24) 16,
                        proto := be b (off + 6) 1, dscp := be b off 2 / 64 % 64, l3End := some (off + 40 + len) }
      parseExt b total 2 (off + 40) q
  | r => p.stop r

/-- Step 6a: the fixed header of GOOSE or SV. -/
def parseIec (b : List Byte) (total : Option Nat) (off ft : Nat) (p : Parsed) : Parsed :=
  let p := { p with ftype := ft }
  match reach total b.length off 8 with
  | .ok =>
    let bad := match total with | some t => decide (t < off + be b (off + 2) 2) | none => false
    if bad then { p with hdrErr := true }
    else { p with appid := some (be b off 2), sim := decide (128 ≤ be b (off + 4) 1) }
  | r => p.stop r

/-- Steps 5 and 6: the Ethertype at an offset and the header it names. -/
def parseEt (b : List Byte) (total : Option Nat) (off : Nat) (p : Parsed) : Parsed :=
  match reach total b.length off 2 with
  | .ok =>
    let et := be b off 2
    let p := { p with etOff := off, etype := et }
    if et = 0x88B8 then parseIec b total (off + 2) 1 p
    else if et = 0x88BA then parseIec b total (off + 2) 2 p
    else if et = 0x88F7 then { parsePtp b total (off + 2) false false p with ftype := 3 }
    else if et = 0x0800 then parseIp4 b total (off + 2) p
    else if et = 0x86DD then parseIp6 b total (off + 2) p
    else if et = 0x88B5 then { p with ftype := 10 }
    else if et = 0x0806 then { p with ftype := 11 }
    else p
  | r => p.stop r

/-- After the tags of steps 2 to 4: an unparsed tag ends the parse and stands in ETHERTYPE. -/
def parseBody (b : List Byte) (total : Option Nat) (off : Nat) (p : Parsed) (noTags : Bool) : Parsed :=
  match reach total b.length off 2 with
  | .ok =>
    let et := be b off 2
    if et = 0x8100 ∨ et = 0x88A8 ∨ (noTags ∧ (et = 0x892F ∨ et = 0xF1C1)) then { p with etOff := off, etype := et }
    else parseEt b total off p
  | r => p.stop r

/-- Step 4: the HSR tag or the R-tag. -/
def parseTag (b : List Byte) (total : Option Nat) (off : Nat) (p : Parsed) : Parsed :=
  match reach total b.length off 2 with
  | .ok =>
    let et := be b off 2
    if et = 0x892F ∨ et = 0xF1C1 then
      match reach total b.length off 6 with
      | .ok =>
        let w := be b (off + 2) 2
        let q := if et = 0x892F then { p with hsr := some (off, w / 4096, w % 4096, be b (off + 4) 2) }
                 else { p with rtag := some (off, be b (off + 4) 2) }
        parseBody b total (off + 6) q true
      | r => p.stop r
    else parseBody b total off p false
  | r => p.stop r

/-- Step 3: the inner VLAN tag. -/
def parseInner (b : List Byte) (total : Option Nat) (off : Nat) (p : Parsed) : Parsed :=
  match reach total b.length off 2 with
  | .ok =>
    if be b off 2 = 0x8100 then
      match reach total b.length off 4 with
      | .ok => parseTag b total (off + 4) { p with inner := some (be b (off + 2) 2) }
      | r => p.stop r
    else parseTag b total off p
  | r => p.stop r

/-- Steps 1 and 2. -/
def parseHead (b : List Byte) (total : Option Nat) : Parsed :=
  let p : Parsed := { da := be b 0 6, sa := be b 6 6 }
  match reach total b.length 12 2 with
  | .ok =>
    let et := be b 12 2
    if et = 0x8100 ∨ et = 0x88A8 then
      match reach total b.length 12 4 with
      | .ok => parseInner b total 16 { p with outer := some (be b 14 2) }
      | r => p.stop r
    else parseTag b total 12 p
  | r => p.stop r

/-- The PRP trailer (R93): the last six bytes before the FCS end in 88 FB, and the LSDU size is the frame's, counted
from the byte after the source address and VLAN tags to the trailer's end. -/
def parsePrp (tail : List Byte) (n : Nat) (p : Parsed) : Option (Nat × Nat) :=
  let tags := (if p.outer.isSome then 4 else 0) + (if p.inner.isSome then 4 else 0)
  if 20 ≤ n ∧ be tail 4 2 = 0x88FB ∧ be tail 2 2 % 4096 = n - 12 - tags
  then some (be tail 0 2, be tail 2 2 / 4096) else none

/-- A frame's header as judged once the frame has ended (R93, R94). -/
def FrameRec.judged (f : FrameRec) : Parsed :=
  let n := f.len - 4
  let p := parseHead f.bytes (some n)
  if f.prpLan then { p with prp := parsePrp f.tail n p } else p

/-- A frame's header fields, as the parser extracted them when the header was complete (R17, R92, R94). -/
def FrameRec.parsed (f : FrameRec) : Parsed := if f.head.isEmpty then f.judged else parseHead f.head none

end Sys2Proof.Machine
end

