-- ==== Sys2Proof/Machine/Edit.lean ====
section
/-! DEFINITION. Egress edit (R39, R221, R222): the bytes a copy leaves with. -/

namespace Sys2Proof.Machine

/-- The port's PRP_LAN setting; 0 on internal ports (R496). -/
def Dev.prpLan (d : Dev) (p : Nat) : Bool := decide (p < 256) && d.on F.PARSER_PORT_CFG_PRP_LAN p

/-- Removes `n` bytes at an offset. -/
def cut (b : List Byte) (off n : Nat) : List Byte := b.take off ++ b.drop (off + n)

/-- Inserts bytes at an offset. -/
def insAt (b : List Byte) (off : Nat) (v : List Byte) : List Byte := b.take off ++ v ++ b.drop off

/-- VLAN tags at the front of edited bytes, at most two. -/
def vlanTags (b : List Byte) : Nat :=
  if be b 12 2 = 0x8100 ∨ be b 12 2 = 0x88A8 then (if be b 16 2 = 0x8100 then 2 else 1) else 0

/-- Removes the outermost VLAN tag, as often as asked and present. -/
def popVlan : Nat → List Byte → List Byte
  | 0, b => b
  | n + 1, b => if 0 < vlanTags b then popVlan n (cut b 12 4) else b

/-- The IPv4 header checksum after a 16-bit word of the header changes (R222: incrementally). -/
def csumFix (b : List Byte) (ip old new : Nat) : List Byte :=
  let s := (0xFFFF - be b (ip + 10) 2) + (0xFFFF - old) + new
  let s := s % 65536 + s / 65536
  let s := s % 65536 + s / 65536
  splice b (ip + 10) (beBytes 2 (0xFFFF - s))

/-- TTL_DEC and DSCP_SET at the IP header (R222). -/
def ipEdit (b : List Byte) (p : Parsed) (ip : Nat) (ttl : Bool) (dscp : Option Nat) : List Byte :=
  match p.ipVer with
  | none => b
  | some v =>
    if v = 4 then
      let b := if ttl ∧ 0 < be b (ip + 8) 1 then
          let o := be b (ip + 8) 2
          csumFix (splice b (ip + 8) (beBytes 1 (be b (ip + 8) 1 - 1))) ip o (o - 256)
        else b
      match dscp with
      | some x =>
        let o := be b ip 2
        let n := o / 256 * 256 + x * 4 + o % 4
        csumFix (splice b ip (beBytes 2 n)) ip o n
      | none => b
    else
      let b := if ttl ∧ 0 < be b (ip + 7) 1 then splice b (ip + 7) (beBytes 1 (be b (ip + 7) 1 - 1)) else b
      match dscp with
      | some x =>
        let o := be b ip 2
        splice b ip (beBytes 2 (o / 4096 * 4096 + x * 64 + o % 64))
      | none => b

/-- Pads with zeros to `n` bytes. -/
def padTo (n : Nat) (b : List Byte) : List Byte := b ++ List.replicate (n - b.length) 0

/-- The LSDU size a PRP trailer or an HSR tag carries: the bytes after the addresses and VLAN tags, itself included. -/
def lsduSize (b : List Byte) : Nat := b.length - 12 - 4 * vlanTags b

/-- The edits of R222 on a frame's bytes: pair edits `pe`, instruction words `w`, the R-tag's sequence number. The MAC
pads to 60 bytes before the FCS; a PRP trailer follows the padding (R39). -/
def editBytes (b : List Byte) (p : Parsed) (pe : PairEdit) (w : List Nat) (rseq : Nat) : List Byte :=
  let w0 := w.getD 0 0
  let ip0 := p.ipOff
  let x := match p.hsr with
    | some (o, _) => if pe.stripHsr then (cut b o 6, ip0 - 6) else (b, ip0)
    | none => (b, ip0)
  let x := match p.rtag with
    | some (o, _) => if w0 / 16 % 2 = 1 then (cut x.1 o 6, x.2 - 6) else x
    | none => x
  let n := min (w0 % 4) (vlanTags x.1)
  let x := (popVlan n x.1, x.2 - 4 * n)
  let b := if pe.stripPrp ∧ p.prp.isSome then x.1.take (x.1.length - 6) else x.1
  let b := if w0 / 64 % 2 = 1 then splice b 0 (beBytes 6 (w.getD 3 0 + w.getD 4 0 % 65536 * 2 ^ 32)) else b
  let b := if w0 / 128 % 2 = 1 then splice b 6 (beBytes 6 (w.getD 4 0 / 65536 + w.getD 5 0 * 65536)) else b
  let b := ipEdit b p x.2 (w0 / 256 % 2 == 1) (if w0 / 512 % 2 = 1 then some (w0 / 1024 % 64) else none)
  let outer := beBytes 2 (if w.getD 1 0 / 65536 % 2 = 1 then 0x88A8 else 0x8100) ++ beBytes 2 (w.getD 1 0)
  let b := if w0 / 4 % 4 = 1 then insAt b 12 outer
    else if w0 / 4 % 4 = 2 then insAt b 12 (outer ++ beBytes 2 0x8100 ++ beBytes 2 (w.getD 2 0)) else b
  let b := if w0 / 32 % 2 = 1 then insAt b (12 + 4 * vlanTags b) (beBytes 2 0xF1C1 ++ beBytes 2 0 ++ beBytes 2 rseq) else b
  let b := if pe.ins = 2 then
      let sz := lsduSize b + 6
      insAt b (12 + 4 * vlanTags b) (beBytes 2 0x892F ++ beBytes 2 (pe.lan % 16 * 4096 + sz % 4096) ++ beBytes 2 pe.seq)
    else b
  if pe.ins = 1 then
    let b := padTo 54 b
    b ++ beBytes 2 pe.seq ++ beBytes 2 (pe.lan % 16 * 4096 + (lsduSize b + 6) % 4096) ++ beBytes 2 0x88FB
  else padTo 60 b

/-- The edit instruction a copy's index selects, in its frame's plate. -/
def Dev.editWords (d : Dev) (plate edit : Nat) : List Nat :=
  if edit = 0 then [] else d.edits.get (plate % 2 * 16384 + (edit - 1))

/-- The R-tag value a frame's copies carry: read once per frame from the TX_SEQ of SEQ_SRC (R222). -/
def Dev.rtagSeq (d : Dev) (f : FrameRec) (src : Nat) : Nat :=
  match f.rtags.find? (fun x => x.1 == src) with
  | some x => x.2
  | none => (d.dd.get src).txSeq

/-- A copy's bytes on the wire before the FCS. -/
def Dev.copyBytes (d : Dev) (c : Copy) : List Byte :=
  let f := d.frames.get c.frame
  let w := d.editWords f.plate c.edit
  if 256 ≤ c.port ∧ c.edit = 0 ∧ c.pair = default then f.bytes
  else editBytes f.bytes f.parsed c.pair w (d.rtagSeq f (w.getD 6 0 % 65536))

/-- A copy's edited length under R4, where it is known: the frame has ended (R234). -/
def Dev.copyLen (d : Dev) (c : Copy) : Option Nat :=
  if (d.frames.get c.frame).ended then some ((d.copyBytes c).length + 4) else none

/-- Its counted length (R234): the edited length, MAX_FRAME where it is not known, plus OVERHEAD. -/
def Dev.counted (d : Dev) (c : Copy) : Nat :=
  let o := d.get F.TM_PORT_CFG_OVERHEAD c.port
  let l := (d.copyLen c).getD (d.maxFrame c.port)
  if o < 64 then l + o else l - (128 - o)

end Sys2Proof.Machine
end

