-- ==== Sys2Proof/Machine/Tm.lean ====
section
/-! DEFINITION. The traffic manager's queues, shapers, gates and selectors (R229 to R248). -/

namespace Sys2Proof.Machine

/-! ## Queues (R229, R230, R214) -/

/-- DEPTH as the limit check sees it: at the end of the previous core cycle (R256). -/
def Dev.seenDepth (d : Dev) (q : Nat) : Nat :=
  if d.depthAt.get q = d.cycle + 1 then d.depthPrev.get q else d.depth q

/-- Keeps DEPTH as it stood before this core cycle's first change. -/
def Dev.keepDepth (d : Dev) (q : Nat) : Dev :=
  if d.depthAt.get q = d.cycle + 1 then d
  else { d with depthPrev := d.depthPrev.put q (d.depth q), depthAt := d.depthAt.put q (d.cycle + 1) }

/-- A counter of a copy's (port, class) set: every port with queues has them (R227, R396). -/
def Dev.qstat (d : Dev) (c : Copy) (i : Nat) (n : Nat := 1) : Dev := d.cstat c.port c.tc i n

/-- A record of the TM: with the port's registers in its snapshot (R261). -/
def Dev.tmRec (d : Dev) (code sev a0 a1 p : Nat) : Dev :=
  d.record { code := code, sev := sev, a0 := a0, a1 := a1, obj := .port p }

/-- A copy is refused (R214, R230): its reference released, a partial drop where the copy set has more copies. -/
def Dev.refuseCopy (d : Dev) (c : Copy) (multi : Bool) : Dev :=
  let d := if multi then
      let d := (if c.port < 256 then d.stat c.port 39 else d).raise F.BPM_EVENT_MC_PARTIAL_DROP
      let f := d.frames.get c.frame
      if 6 ≤ f.tc then
        d.recordLim msCycles
          { code := 0x070E, sev := 2, a0 := c.port, a1 := c.tc, obj := .port c.port, ints := [d.acctU.get (f.account - 1)] }
      else d
    else d
  d.consume c.frame

/-- A queue's copy in transmission, with its MAC; while it is preempted it is none (R237). -/
def Dev.sendingOf (d : Dev) (q : Nat) : Option Nat :=
  ([2 * (q / 8), 2 * (q / 8) + 1] : List Nat).find? (fun k => let t := d.tx.get k; t.live && !t.burin && !t.yielded && t.queue == q)

/-- Moves a queue's credit by `el` core cycles at a slope in kb/s, within its limits (R237). -/
def Dev.creditMove (d : Dev) (q : Nat) (slope el : Int) (n : Nat := 1500000000) : Dev :=
  let r := d.divFree (slope * el * 125 * 65536) n
  let lo : Int := -((d.get F.Q_CBS_CREDIT_LO_CREDIT q * 65536 : Nat) : Int)
  let hi : Int := ((d.get F.Q_CBS_CREDIT_HI_CREDIT q * 65536 : Nat) : Int)
  { r.2 with credit := r.2.credit.put q (max lo (min hi (r.2.credit.get q + r.1))) }

/-- The port rate of R237: the speed PORT_STATUS reports. -/
def Dev.portRate (d : Dev) (p : Nat) : Nat := if p < 256 then kbps (d.get F.PORT_STATUS_SPEED p) else 0

/-- The core cycles a counted length of `n` bytes takes at a rate. -/
def txCycles (n rate : Nat) : Nat := if rate = 0 then 0 else n * 12000000 / rate

/-- Credit and tokens are brought up to the present cycle (R237, R238), whether or not their shapers are enabled (DEDUCED, log entry
119). -/
def Dev.shapeSync (d : Dev) (q : Nat) : Dev :=
  let p := q / 8
  let c := q % 8
  let el := d.cycle - d.creditAt.get q
  let d := { d with creditAt := d.creditAt.put q d.cycle }
  let slope := d.get F.Q_CBS_IDLE_KBPS q
  let go := !(d.queues.get q).isEmpty && d.bit F.TM_PORT_STATUS_GATES p c && !d.bit F.TM_PORT_STATUS_PAUSED p c && d.linkState p == 1
  let d := match d.sendingOf q with
    | some k =>
      let t := d.tx.get k
      let n := min el (txCycles t.counted (d.portRate p) - t.fallen)
      { d with tx := d.tx.put k { t with fallen := t.fallen + n } }.creditMove q ((slope : Int) - d.portRate p) n
    | none =>
      if (d.queues.get q).isEmpty then { d with credit := d.credit.put q (min 0 (d.credit.get q)) }
      else if go then d.creditMove q slope el
      else d
  let et := d.cycle - d.tokensAt.get q
  let r := d.divFree ((d.get F.Q_TBS_RATE_KBPS q * et * 125 * 65536 : Nat) : Int) 1500000000
  let cap : Int := ((d.get F.Q_TBS_BURST_BYTES q * 65536 : Nat) : Int)
  { r.2 with tokens := r.2.tokens.put q (min cap (r.2.tokens.get q + r.1)), tokensAt := r.2.tokensAt.put q d.cycle }

/-- Each enqueue attempt on a queue with WRED updates its average from DEPTH before the attempt (R241). -/
def Dev.wredAvg (d : Dev) (q : Nat) : Dev :=
  if !d.on F.Q_CFG_WRED_EN q then d
  else
    let r := d.divFree ((d.depth q * 256 : Nat) - (d.avg.get q : Int)) (2 ^ d.get F.WRED_CFG_WEIGHT (d.get F.Q_CFG_WRED_PROF q))
    { r.2 with avg := r.2.avg.put q ((d.avg.get q : Int) + r.1).toNat }

/-- The WRED judgement of a copy on a queue (R241): the curve of its colour decides. -/
def Dev.wred (d : Dev) (c : Copy) : Dev × Bool :=
  let q := 8 * c.port + c.tc
  if !d.on F.Q_CFG_WRED_EN q then (d, false)
  else
    let a := d.avg.get q
    let i := 3 * d.get F.Q_CFG_WRED_PROF q + min c.colour 2
    let lo := d.get F.WRED_MIN_MIN_TH i * 256
    let hi := d.get F.WRED_MAX_MAX_TH i * 256
    if hi = 0 ∨ a < lo then (d, false)
    else if hi ≤ a then (d, true)
    else
      let x := d.draw 3
      (x.2, decide (x.1 % 65536 * 256 * (hi - lo) < 65536 * d.get F.WRED_MAX_MAX_P i * (a - lo)))

/-- LIMIT_DROP (R230). -/
def Dev.limitDrop (d : Dev) (c : Copy) : Dev :=
  ((d.qstat c 7).raiseFirst F.TM_EVENT_LIMIT_DROP 0 0 msCycles).recordLim msCycles
    { code := 0x0808, sev := 3, a0 := c.port, a1 := c.tc, obj := .port c.port }

/-- An express frame, of the burin path or of a class of EXPRESS_TC, meets a preemptable frame in transmission while
preemption is not active (R42, R45). A frame that finds one is counted when it arrives to wait (DEDUCED, entry 40). -/
def Dev.exprWait (d : Dev) (q : Nat) : Dev :=
  let t := d.tx.get (2 * q + 1)
  if t.live && !t.yielded && !d.preActive q then
    let d := d.stat q 21
    if d.heldOnce.get q then d
    else ({ d with heldOnce := d.heldOnce.put q true }.raise F.PORT_EVENT_EXPRESS_HELD q).record { code := 0x0207, sev := 4, a0 := q, obj := .port q }
  else d

/-- A queue grows by a copy. -/
def Dev.putQ (d : Dev) (q : Nat) (c : Copy) : Dev :=
  let l := d.queues.get q
  { d with queues := d.queues.put q (l ++ [c]) }

/-- A copy takes its descriptor from the free ones, or from the reserve. -/
def Dev.takeDesc (d : Dev) (c : Copy) : Dev :=
  if c.resDesc then { d with descRes := d.descRes + 1 } else { d with descUsed := d.descUsed + 1 }

/-- A copy joins its queue. -/
def Dev.joinQ (d : Dev) (c : Copy) : Dev :=
  let q := 8 * c.port + c.tc
  let d := ((((((d.busy c.port).keepDepth q).shapeSync q).takeDesc c).putQ q c).count 0x30 0 1 { tc := some c.tc })
  if d.expressSet c.port / 2 ^ c.tc % 2 = 1 then d.exprWait c.port else d

/-- A copy is checked and enqueued (R230). `multi`: its copy set has more than one copy. -/
def Dev.enqueue (d : Dev) (c : Copy) (multi : Bool) : Dev :=
  let q := 8 * c.port + c.tc
  let d := d.wredAvg q
  let ls := d.linkState c.port
  if ls = 0 ∨ ls = 3 then (d.qstat c 3).refuseCopy c multi
  else
    let general := decide (d.descUsed < 130048)
    if !general && !(c.tc == 7 && decide (d.descRes < 1024)) then
      (((d.qstat c 7).raise F.TM_EVENT_DESC_EMPTY).count 0x30 1 1 { tc := some c.tc }).recordOnce msCycles
        { code := 0x0801, sev := 3, a0 := c.port, a1 := c.tc, obj := .port c.port } |>.refuseCopy c multi
    else
      let d := if general then d
        else (d.raise F.TM_EVENT_DESC_RESERVE_USED).tmRec 0x080A 3 c.port c.tc c.port
      let c := { c with resDesc := !general }
      let cells := chainCells (d.frames.get c.frame).bufs
      if c.tc ≠ 7 ∧ d.get F.Q_LIMIT_Q_LIMIT q < d.seenDepth q + cells then (d.limitDrop c).refuseCopy c multi
      else
        match d.wred c with
        | (d, true) =>
          (((d.qstat c 6).raiseFirst F.TM_EVENT_WRED_DROP 0 0 secCycles).recordOnce secCycles
            { code := 0x0809, sev := 2, a0 := c.port, a1 := c.tc, obj := .port c.port }).refuseCopy c multi
        | (d, false) => d.joinQ c

/-- A copy leaves its queue at place `k`: its descriptor is free, an empty queue's deficit is 0 (R233). -/
def Dev.leaveQ (d : Dev) (q k : Nat) : Dev :=
  let d := ((d.busy (q / 8)).keepDepth q).shapeSync q
  let l := d.queues.get q
  let d := match l[k]? with
    | some c => if c.resDesc then { d with descRes := d.descRes - 1 } else { d with descUsed := d.descUsed - 1 }
    | none => d
  let l := l.eraseIdx k
  let d := { d with queues := d.queues.put q l }
  if l.isEmpty then { d with deficit := d.deficit.put q 0 } else d

/-- Flushes a port's eight queues (R215). -/
def Dev.flushPort (d : Dev) (p : Nat) : Dev :=
  (List.range 8).foldl (fun d c =>
    (d.queues.get (8 * p + c)).foldl (fun d x => ((d.leaveQ (8 * p + c) 0).qstat x 2).consume x.frame) d) d

/-! ## Cue lists (R242 to R246) -/

/-- One entry of a list as it runs: start in the cycle (2^-16 ns), gates, protected, OP, index. -/
structure CueSlot where
  start : Nat
  gates : Nat
  prot : Bool
  op : Nat
  idx : Nat
  deriving DecidableEq, Repr, Inhabited

/-- The gates an entry opens: a protected entry closes gates 0 to 6, gate 7 is always open (R242). -/
def cueGates (w : Nat) : Nat := if w / 1024 % 2 = 1 then 128 else w % 128 + 128

/-- An entry of a port's list is bad (R248). -/
def Dev.cueBad (d : Dev) (p e : Nat) : Bool := d.corrupt.contains (9 * 2 ^ 32 + 256 * p + e)

/-- The entries of a list of `len` entries that run in a cycle of length `cyc` (R243). -/
def cueSlots (l : Nat → Nat × Nat) (len cyc : Nat) : List CueSlot :=
  ((List.range len).foldl (fun (a : Nat × List CueSlot) e =>
    let x := l e
    if a.1 < cyc then
      (a.1 + x.1 * 8 * 65536, a.2 ++ [{ start := a.1, gates := cueGates x.2, prot := decide (x.2 / 1024 % 2 = 1),
                                        op := x.2 / 256 % 4, idx := e }])
    else a) (0, [])).2

/-- The operating list's entries; one with bad parity acts as a protected entry with OP 0 (R248). -/
def Dev.operSlots (d : Dev) (p : Nat) : List CueSlot :=
  cueSlots (fun e => let x := d.clOper.get (256 * p + e); if d.cueBad p e then (x.1, 1024) else x)
    (d.operLen.get p) (d.operCycle.get p)

/-- LEN, CYCLE of the administrative list. -/
def Dev.adminLen (d : Dev) (p : Nat) : Nat := d.get F.CL_ADMIN_LEN_LEN p
def Dev.adminCycle (d : Dev) (p : Nat) : Nat := d.get F.CL_ADMIN_CYCLE_0_NS p * 65536 + d.get F.CL_ADMIN_CYCLE_1_FRAC p
def Dev.adminSlots (d : Dev) (p : Nat) : List CueSlot :=
  cueSlots (fun e => d.clAdmin.get (256 * p + e)) (d.adminLen p) (d.adminCycle p)

/-- The first instant at or after `t` at which an entry with a property starts, over two cycles of a list. -/
def firstSlot (slots : List CueSlot) (base cyc t : Nat) (f : CueSlot → Bool) : Option Nat :=
  if cyc = 0 then none
  else
    let k := (t - base) / cyc
    ((List.range 3).flatMap (fun j => slots.filterMap (fun s =>
      let at' := base + (k + j) * cyc + s.start
      if f s && decide (t ≤ at') then some at' else none))).head?

/-- The next instant at which a property of the entry in force begins, as the list stands, an armed takeover included
(R244): in the operating list before T_c, else in the administrative one from T_c. -/
def Dev.nextCue (d : Dev) (p t : Nat) (f : CueSlot → Bool) : Option Nat :=
  let old := if d.on F.TM_PORT_STATUS_OPER_VALID p then firstSlot (d.operSlots p) (d.operBase.get p) (d.operCycle.get p) t f
    else none
  if !d.on F.TM_PORT_STATUS_ARMED p then old
  else
    let tc := d.clTc.get p - 1
    match old with
    | some x => if x < tc then some x else firstSlot (d.adminSlots p) tc (d.adminCycle p) (max t tc) f
    | none => firstSlot (d.adminSlots p) tc (d.adminCycle p) (max t tc) f

/-- The longest open interval of gate `c` in the operating list, 2^-16 ns; none where it never closes (R244). -/
def Dev.longestOpen (d : Dev) (p c : Nat) : Option Nat :=
  let sl := d.operSlots p
  let cyc := d.operCycle.get p
  if !d.on F.TM_PORT_STATUS_OPER_VALID p || sl.all (fun s => decide (s.gates / 2 ^ c % 2 = 1)) then none
  else
    let two := sl.map (fun s => (s.start, s.gates)) ++ sl.map (fun s => (s.start + cyc, s.gates))
    let r := two.foldl (fun (a : Option Nat × Nat) s =>
      if s.2 / 2 ^ c % 2 = 1 then (match a.1 with | some b => (some b, a.2) | none => (some s.1, a.2))
      else match a.1 with
        | some b => (none, max a.2 (s.1 - b))
        | none => (none, a.2)) (none, 0)
    some r.2

/-- The time an `l`-byte copy takes on the wire, in 2^-16 ns, times the port's rate in kb/s (R5, R234). -/
def wireTime (l : Nat) : Nat := (l + 20) * 8 * 1000000 * 65536

/-- A copy of `l` bytes that starts at `t` ends no later than `e` at `rate` kb/s. -/
def endsBy (t l rate e : Nat) : Bool := decide (t * rate + wireTime l ≤ e * rate)

/-- The copy may start under the gate's look-ahead (R244). -/
def Dev.gateFits (d : Dev) (c : Copy) : Bool :=
  let p := c.port
  if 256 ≤ p ∨ d.on F.TM_PORT_GATE_GATE_EN p = false ∨ d.on F.TM_PORT_GATE_GATE_LA p = false then true
  else
    match d.nextCue p d.pt (fun s => decide (s.gates / 2 ^ c.tc % 2 = 0)) with
    | some e => endsBy d.pt ((d.copyLen c).getD (d.maxFrame p)) (kbps (d.portSpeed p)) e
    | none => true

/-- The guard band holds the copy (R245). -/
def Dev.guardHolds (d : Dev) (c : Copy) : Bool :=
  let p := c.port
  if 256 ≤ p ∨ c.tc = 7 ∨ d.on F.TM_PORT_GATE_GATE_EN p = false ∨ d.on F.TM_PORT_GATE_GUARD_EN p = false then false
  else
    match d.nextCue p (d.pt + 1) (·.prot) with
    | some e =>
      let rate := kbps (d.portSpeed p)
      let near := !endsBy d.pt (d.maxFrame p) rate e
      near && !(d.on F.TM_PORT_GATE_GATE_LA p && endsBy d.pt ((d.copyLen c).getD (d.maxFrame p)) rate e)
    | none => false

/-- The head copy cannot complete even within the longest open interval of its gate (R244). -/
def Dev.tooLong (d : Dev) (c : Copy) : Bool :=
  let p := c.port
  if 256 ≤ p ∨ d.on F.TM_PORT_GATE_GATE_EN p = false ∨ d.on F.TM_PORT_GATE_GATE_LA p = false then false
  else
    match d.longestOpen p c.tc with
    | some n => !endsBy 0 ((d.copyLen c).getD (d.maxFrame p)) (kbps (d.portSpeed p)) n
    | none => false

/-! ## Selection (R231 to R236) -/

/-- A cut-through copy may start before its frame has ended unless its egress is faster than its ingress (R190). -/
def Dev.mayStart (d : Dev) (c : Copy) : Bool :=
  let f := d.frames.get c.frame
  f.ended || decide (c.port < 256 ∧ f.port < 256 ∧ d.portSpeed c.port ≤ d.portSpeed f.port)

/-- A queue is eligible (R231), shapers and times brought up to date before. -/
def Dev.eligible (d : Dev) (q : Nat) : Bool :=
  let p := q / 8
  let c := q % 8
  match (d.queues.get q).head? with
  | none => false
  | some x =>
    d.linkState p == 1 && !d.bit F.TM_PORT_STATUS_PAUSED p c &&
      (decide (256 ≤ p) || !d.on F.TM_PORT_GATE_GATE_EN p || d.bit F.TM_PORT_STATUS_GATES p c) &&
      d.gateFits x && !d.guardHolds x && d.mayStart x &&
      (c == 7 || !d.on F.Q_CFG_CBS_EN q || decide (0 ≤ d.credit.get q)) &&
      (!d.on F.Q_CFG_TBS_EN q || decide (0 < d.tokens.get q))

/-- The strict choice (R232): the highest eligible class at or above SP_LEVEL in a set of classes. -/
def Dev.strictPick (d : Dev) (p set : Nat) : Option Nat :=
  ((List.range 8).reverse).find? (fun c =>
    decide (d.get F.TM_PORT_CFG_SP_LEVEL p ≤ c) && decide (set / 2 ^ c % 2 = 1) && d.eligible (8 * p + c))

/-- Deficit round robin (R233) for selector `k` over the classes of a set below SP_LEVEL: the class that sends next, with
pointer and deficits moved. `n` bounds the visits. -/
def Dev.drrPick : Nat → Dev → Nat → Nat → Nat → Dev × Option Nat
  | 0, d, _, _, _ => (d, none)
  | n + 1, d, p, k, set =>
    let sp := d.get F.TM_PORT_CFG_SP_LEVEL p
    let i := 2 * p + k
    let c := if sp = 0 then 0 else d.drr.get i % sp
    let q := 8 * p + c
    if sp = 0 ∨ (List.range sp).all (fun c => !(decide (set / 2 ^ c % 2 = 1) && d.eligible (8 * p + c))) = true then (d, none)
    else
      let next (d : Dev) : Dev := { d with drr := d.drr.put i ((c + 1) % sp), drrOn := d.drrOn.put i false }
      match (d.queues.get q).head? with
      | some x =>
        if set / 2 ^ c % 2 = 1 ∧ d.eligible q = true then
          let d := if d.drrOn.get i then d
            else { d with deficit := d.deficit.put q (d.deficit.get q + d.get F.Q_CFG_QUANTUM q), drrOn := d.drrOn.put i true }
          if d.counted x ≤ d.deficit.get q then (d, some c) else Dev.drrPick n (next d) p k set
        else Dev.drrPick n (next d) p k set
      | none => Dev.drrPick n (next d) p k set

/-- Visits enough for any head to be sent: the largest counted length over the smallest quantum, 64 bytes (R233). -/
def drrBound : Nat := 8 * 170

/-- The selector's choice over a set of classes (R232). -/
def Dev.pick (d : Dev) (p k set : Nat) : Dev × Option Nat :=
  match d.strictPick p set with
  | some c => (d, some c)
  | none => Dev.drrPick drrBound d p k set

/-- Head copies that can never complete are discarded (R244), over a port's queues. `n` bounds how many. -/
def Dev.dropTooLong : Nat → Dev → Nat → Dev
  | 0, d, _ => d
  | n + 1, d, q =>
    match (d.queues.get q).head? with
    | some x =>
      if d.tooLong x then
        let d := ((d.leaveQ q 0).raise F.TM_EVENT_GATE_TOO_LONG).count 0x30 3 1 { tc := some x.tc }
        Dev.dropTooLong n ((d.recordLim secCycles
          { code := 0x0803, sev := 3, a0 := x.port, a1 := x.tc, obj := .port x.port }).consume x.frame) q
      else d
    | none => d

/-- Counts a copy the guard holds, once (R245). -/
def Dev.markGuard (d : Dev) (q : Nat) : Dev :=
  match d.queues.get q with
  | x :: r =>
    if !x.deferred && d.guardHolds x then
      { d with queues := d.queues.put q ({ x with deferred := true } :: r) }.count 0x30 4 1 { tc := some x.tc }
    else d
  | [] => d

/-- Before a selection: shapers brought up to date, copies too long discarded, guarded copies counted. -/
def Dev.readyPort (d : Dev) (p : Nat) : Dev :=
  (List.range 8).foldl (fun d c =>
    let q := 8 * p + c
    ((Dev.dropTooLong (d.queues.get q).length (d.shapeSync q) q)).markGuard q) d

end Sys2Proof.Machine
end

