-- ==== Sys2Proof/Machine/Bounds.lean ====
section
/-! DEFINITION. The trip-class bound's conditions (R169, R170, R190, R255, R274). -/

namespace Sys2Proof.Machine

/-- The admitted TC_7 streams with a port in their egress set. -/
def Dev.tripStreams (d : Dev) (p : Nat) : List (Nat × Stream) :=
  d.streams.filter (fun e => e.2.valid && e.2.tc == 7 && e.2.egress.contains p)

/-- The egress ports an express entry names. -/
def Expr.egress (e : Expr) : List Nat := (e.slots.filter Prod.snd).map Prod.fst

/-- Express entries of a stream that name a port (R169); at least its one burst counts. -/
def Dev.exprCount (d : Dev) (st p : Nat) : Nat :=
  max 1 (d.express.filter (fun e => e.2.valid && e.2.stream == st && e.2.egress.contains p)).length

/-- Σ BURST × (F_MAX + 20) over the TC_7 streams on a port, a stream counted once for each entry naming it. -/
def Dev.tripLoad (d : Dev) (p : Nat) : Nat :=
  (d.tripStreams p).foldl (fun n e => n + d.exprCount e.1 p * e.2.burst * (e.2.fMax + 20)) 0

/-- The smallest INTERVAL of them, in µs. -/
def Dev.tripInterval (d : Dev) (p : Nat) : Nat :=
  (d.tripStreams p).foldl (fun n e => min n e.2.interval) 1000000

/-- R169 on a port at a rate: U_E ≤ TC7_SHARE × min INTERVAL. -/
def Dev.tripFits (d : Dev) (p rate share : Nat) : Bool :=
  decide (d.tripLoad p * 8 * 1000000 * 100 ≤ share * d.tripInterval p * 1000 * rate)

/-- The egress carries the guard band, as the continuous check sees it (R255). -/
def Dev.guardBand (d : Dev) (p : Nat) : Bool :=
  d.on F.TM_PORT_GATE_GATE_EN p && d.on F.TM_PORT_GATE_GUARD_EN p && (d.operSlots p).any (·.prot)

/-! ## Stagehand latency (R273, R274) -/

/-- M of R273: the largest MAX_FRAME among the ingress ports of the GMAC streams; a stream of any port has the internal ones
among them (R37). That ING_PORTS names them is DEDUCED (log entry 114). -/
def Dev.gmacMax (d : Dev) : Nat :=
  d.streams.foldl (fun m e =>
    if !(e.2.valid && e.2.gmac) then m
    else if e.2.ing.isEmpty then 10240
    else e.2.ing.foldl (fun m p => max m (d.maxFrame p)) m) 0

/-- A program's maximum budget in engine cycles. -/
def Dev.progMax (d : Dev) (n : Nat) : Nat :=
  let m := d.gmacMax
  if n = 1 then 602 else if n = 2 then 200 + 8 * ((m + 15) / 16) else if n = 3 then 80 else if n = 4 then 200
  else if n = 5 then 370 else 0

/-- A cluster runs: its step is not 0 and it is neither stopping nor frozen (R263, R272). -/
def Dev.clRuns (d : Dev) (k : Nat) : Bool :=
  d.on F.CL_CFG_STEP k && (d.clStopping.get k).isNone && !d.isFrozen (8 + k)

/-- The frequency a cluster runs at, in 100 MHz, while it still runs at the step it leaves (R263); 0 for off. -/
def Dev.clFreq (d : Dev) (k : Nat) : Nat :=
  let s := match d.clStopping.get k with | some old => old | none => d.get F.CL_CFG_STEP k
  if s = 4 then 15 else if s = 0 then 0 else 3 + 3 * s

/-- The running clusters of a program's mask. -/
def Dev.progClusters (d : Dev) (n : Nat) : List Nat :=
  (List.range 16).filter (fun k => d.bit F.PROG_CFG_CL_MASK n k && d.clRuns k)

/-- t_prog of a program, in 1/180 ns (R274). -/
def Dev.tProgOf (d : Dev) (n : Nat) : Nat :=
  let cl := d.progClusters n
  let f := cl.foldl (fun m k => min m (let s := d.get F.CL_CFG_STEP k; if s = 4 then 15 else 3 + 3 * s)) 15
  let c := [1, 2, 3, 4, 5].foldl (fun m j => if cl.any (fun k => d.bit F.PROG_CFG_CL_MASK j k) then max m (d.progMax j) else m) 0
  9000 + 64 * c * (1800 / f)

/-! ## BOUND_OK (R170) -/

/-- R169 is checked for a port's streams, at the rate of R169 (R170): what held at one rate holds at every higher one. -/
def Dev.trip169Set (d : Dev) (p : Nat) : Dev :=
  let v := kbps (d.lowSpeed p)
  { d with trip169 := d.trip169.put p (if d.tripFits p v (d.get F.STREAM_CTRL_TC7_SHARE) then v else 0) }

/-- A stream's entry was written: R169's figures are others, and must still hold at the rate they were admitted for. -/
def Dev.trip169Keep (d : Dev) (p : Nat) : Dev :=
  if d.tripFits p (d.trip169.get p) (d.get F.STREAM_CTRL_TC7_SHARE) then d else { d with trip169 := d.trip169.put p 0 }

/-- The conditions of R190 that the STREAM block checks for a TC_7 stream on an egress. -/
def Dev.boundHolds (d : Dev) (s : Stream) (p : Nat) : Bool :=
  d.linkState p == 1 && d.portSpeed p != 0 && (d.preActive p || d.guardBand p) &&
    d.trip169.get p != 0 && decide (d.trip169.get p ≤ kbps (d.portSpeed p)) &&
    (!s.gmac || decide (d.tProgOf 2 ≤ s.tProg))

/-- The STREAM block's snapshot words that are not registers (R197). -/
def Dev.streamInts (d : Dev) (st : Nat) : List Nat :=
  let s := d.streams.get st
  [b2n s.valid + 2 * s.type + 16 * s.tc + 128 * b2n s.tc7Ok + 256 * b2n s.fixedPos + 512 * b2n s.gmac
     + 1024 * b2n s.dd + 2048 * b2n s.cb + 4096 * b2n s.stateRec + 8192 * s.acts, s.st, s.sq, s.deadline % 2 ^ 32,
   b2n s.silent + 2 * b2n s.qualBad + 4 * b2n s.first + 65536 * (s.seen % 65536),
   d.reg .DD_ROGUE_CNT % 65536 + 65536 * (d.reg .HSR_OWN_RETURN_CNT % 65536)]

/-- A record of the STREAM block about a stream (R197). -/
def Dev.streamRec (d : Dev) (code sev st a1 : Nat) : Dev :=
  d.record { code := code, sev := sev, a0 := st, a1 := a1, obj := .stream st, ints := d.streamInts st }

/-- BOUND_OK of the pairs on a port follows the conditions: BOUND_LAPSED and BOUND_RESTORED at each change. -/
def Dev.checkBounds (d : Dev) (p : Nat) : Dev :=
  (d.tripStreams p).foldl (fun d e =>
    let k := 512 * e.1 + p
    let ok := d.boundHolds e.2 p
    if !ok && !d.lapsed.get k then
      ({ d with lapsed := d.lapsed.put k true }.raise F.STREAM_EVENT_BOUND_LAPSED).streamRec 0x060F 5 e.1 p
    else if ok && d.lapsed.get k then { d with lapsed := d.lapsed.put k false }.streamRec 0x0611 1 e.1 p
    else d) d

/-- Every port of a TC_7 stream. -/
def Dev.checkAllBounds (d : Dev) : Dev :=
  let ps := d.streams.foldl (fun l e => if e.2.valid && e.2.tc == 7 then l ++ e.2.egress.filter (fun p => !l.contains p) else l) []
  ps.foldl Dev.checkBounds d

end Sys2Proof.Machine
end

