-- ==== Sys2Proof/Machine/Cycle.lean ====
section
/-! DEFINITION. The core cycle (R18) and the order in which the requests of one core cycle are treated (R19 to R21, and the
same-moment tables R152, R256, R291, R327, R366, R403, R431, R454). Each command has a place in the order. A command whose
place comes before that of the last command taken belongs to the next core cycle (DESIGN CHOICE, log entry 1). -/

namespace Sys2Proof.Machine

/-! ## Where a cycle ends -/

/-- PRE_STATE with what is active in it (R43). -/
def Dev.preSet (d : Dev) (p st : Nat) : Dev :=
  (d.set F.PORT_STATUS_PRE_STATE p st).set F.PORT_STATUS_PRE_ACTIVE p (b2n (decide (st = 3)))

/-- VERIFYING sends a verify mPacket (R43). -/
def Dev.verifySend (d : Dev) (p n : Nat) : Dev :=
  { d with verSent := d.verSent.put p n, verAt := d.verAt.put p d.cycle }.emit (.mac p 0)

/-- A port leaves INIT (R43): VERIFYING with its first verify mPacket, or SUCCEEDED. -/
def Dev.leaveInit (d : Dev) (p : Nat) : Dev :=
  if d.get F.PORT_STATUS_PRE_STATE p ≠ 1 then d
  else if d.verCfg.get p % 2 = 1 then (d.preSet p 2).verifySend p 1 else d.preSet p 3

/-- RX copies whose completions have been written are consumed (R312). -/
def Dev.rxConsumed (d : Dev) : Dev := d.rxWritten.foldl (fun d id => d.consume id) { d with rxWritten := [] }

/-- The completions of the core cycle are written (R315). -/
def Dev.writeDone (d : Dev) : Dev :=
  ((d.doneQ.foldl (fun l x => insDone x l) []).foldl (fun (d : Dev) x => d.completeNow x.1 x.2) { d with doneQ := [] }).rxConsumed

/-- A core cycle ends: packet memory stands since the first (R341), its completions and its records are written (R315, R20,
R383), and the next begins, in which INIT is left (R43). -/
def Dev.nextCycle (d : Dev) : Dev :=
  let d := { d.resetCarve.writeDone.writeEvents with cycle := d.cycle + 1, place := 0, regWrote := [] }
  d.preIn.foldl Dev.leaveInit { d with preIn := [] }

/-! ## Places

Clears of performance counters come first, then the latches (R403, R454), then policer writes and releases (R256, R327),
violations, cue-list takeovers before entry boundaries (R256), what the ports receive, what they send, the decision slots and verdict merges, what no pipe is tied to, event
clears after events (R403), the Prompter, ends of sessions and confirm times (R366), pops of responses (R327), updates of the time
bases after every latch (R20), a write of ACTIVE_TB after an automatic switch (R78), the curtain and the clear of the book
(R403). -/

def atPcClear : Nat := 0
def atLatch : Nat := 1
def atRelease : Nat := 2
def atViolation : Nat := 3
def atTakeover : Nat := 4
def atGate : Nat := 5
def atHold : Nat := 6
def atReceive : Nat := 1024
def atSend : Nat := 3072
def atSlot : Nat := 4096
def atMerge : Nat := 4098
def atUntied : Nat := 8192
def atClear : Nat := 13000
def atTake : Nat := 13900
def atSfi : Nat := 14000
def atExpiry : Nat := 14400
def atPop : Nat := 14500
def atTime : Nat := 15000
def atSelect : Nat := 15500
def atCurtain : Nat := 16000

/-- Pipe A wins on even core cycles, pipe B on odd ones (R19): 0 for the winner. -/
def Dev.pipeRank (d : Dev) (pipe : Nat) : Nat := (pipe + d.cycle) % 2

/-- What arrives on the ports: the winning pipe first, within a pipe the lower port (R19). -/
def Dev.rxPlace (d : Dev) (p : Nat) : Nat := atReceive + 512 * d.pipeRank (inPipe p) + p

/-- The decision slots of a cycle, after what leaves the ports: a copy just queued is selectable from the next cycle (R256). -/
def Dev.slotPlace (d : Dev) (pipe : Nat) : Nat := atSlot + d.pipeRank pipe

/-- Requests tied to neither pipe follow in ascending block ID; within a block timers, sweeps and the learn engine (0), the ager (1),
flush visits (2, R152), indirect accesses (3), register writes (8 and on), the parity sweep (40). -/
def untied (block sub : Nat) : Nat := atUntied + 64 * block + sub

/-- The order of masters at a block's registers (R20): core 0, cores 1 to 3, host functions. The clusters follow. -/
def masterOrder (m : Nat) : Nat := if isPrompter m then m - 24 else if m < 8 then 4 + m else 12

/-- The block that owns an address; 0 where none does. -/
def addrBlock (addr : Nat) : Nat := match blockAt (ownerSlot (addr % 2 ^ 24)) with | some b => b.2.1 | none => 0

/-- The write is a violation (R324): it comes before the cycle's completions, which are then held (R327). -/
def Dev.offends (d : Dev) (m : Nat) (r : RegName) (i w : Nat) : Bool :=
  !d.isFrozen m && ((d.writeKind m r i w).isSome || d.locked m r i)

/-- The place of a register write: `p`, or that of a violation, after a release of its master (R327). -/
def Dev.wrPlace (d : Dev) (m : Nat) (r : RegName) (i w p : Nat) : Nat := if d.offends m r i w then atViolation else p

/-- The place of a register write that no table settles. -/
def Dev.regPlace (d : Dev) (m : Nat) (r : RegName) (i w : Nat) : Nat :=
  d.wrPlace m r i w (untied (addrBlock (regAddr r i)) (8 + masterOrder m))

/-- The place of a write to an address. -/
def Dev.addrPlace (d : Dev) (m addr w p : Nat) : Nat :=
  match regAt (addr % 2 ^ 24 / 4 * 4) with
  | some (r, i) => d.wrPlace m r i w p
  | none => p

/-- The place of an SFI command. A latch of statistics takes the value before an update (R397, R403), a policer's new
configuration applies before its metering (R256), a release before a new violation (R327), and a record follows a clear of
the book and precedes a curtain of its cycle (R403). -/
def sfiPlace (op : Nat) : Nat :=
  if op = 0x905 then atPcClear else if op = 0x900 ∨ op = 0x902 then atLatch else if op = 0xC16 ∨ op = 0x520 then atRelease
  else if op = 0x802 ∨ op = 0x803 then atCurtain else atSfi

/-- The device as a command of place `p d` finds it: in the present core cycle, or in the next where its place has passed. -/
def Dev.turn (d : Dev) (p : Dev → Nat) : Dev :=
  let d := if p d < d.place then d.nextCycle else d
  { d with place := p d }

/-- A command of the always-on domain (R476), whose effect on the device is `f`: the queue is left as it is. -/
def State.actAo (s : State) (f : Dev → Dev) : Out := .next { s with toDev := f s.toDev }

/-- The effect `f` of a command of place `p d` on the device; a stopped device takes none. -/
def State.actAt (s : State) (p : Dev → Nat) (f : Dev → Dev) : Out :=
  s.actAo (fun d => if d.stopped then d else f (d.turn p))

/-- The effect of a command that no pipe is tied to. -/
def State.later (s : State) (block sub : Nat) (f : Dev → Dev) : Out := s.actAt (fun _ => untied block sub) f

/-- A write of a register at place `p` of the cycle: `f` is carried out on the effective word when the gate lets it through. -/
def State.writeAt (s : State) (p m : Nat) (r : RegName) (i w : Nat) (f : Dev → Nat → Dev) : Out :=
  s.actAt (fun d => d.wrPlace m r i w p) (fun d => d.gated m r i w f)

/-- A write of a register, at the place of its block and master. -/
def State.write (s : State) (m : Nat) (r : RegName) (i w : Nat) (f : Dev → Nat → Dev) : Out :=
  s.writeAt (untied (addrBlock (regAddr r i)) (8 + masterOrder m)) m r i w f

end Sys2Proof.Machine
end

