-- ==== Sys2Proof/Machine/Mirror.lean ====
section
/-! DEFINITION. What several blocks ask of the outside: mirroring to the peer die (R428), device writes to a
function's memory (R301, R325), memory faults that a step meets, closed ingress (R419). -/

namespace Sys2Proof.Machine

/-- The die is in an active state and its link is up: it mirrors, while yielding until T_r
(R418, R423, R428). -/
def Dev.mirrors (d : Dev) : Bool :=
  (d.get F.PAIR_STATUS_STATE == 5 || d.get F.PAIR_STATUS_STATE == 6 || (d.get F.PAIR_STATUS_STATE == 8 && !d.trOpen)) &&
    d.on F.PAIR_STATUS_LINK_UP

/-- Queues a mirror message (R428). The first number names its kind (0 an FDB change, 1 a write of a TABLES entry, 2 a
write of a STREAM entry, 3 a plate command, 4 a time base, 5 statistics bases); with `same` a queued message that
agrees in its first three numbers is replaced in place. -/
def Dev.mirror (d : Dev) (same : Bool) (m : List Nat) : Dev :=
  if !d.mirrors || d.mirStop then d
  else
    match (if same then d.mirQ.findIdx? (fun x => x.take 3 == m.take 3) else none) with
    | some k => { d with mirQ := d.mirQ.set k m }
    | none =>
      if d.mirQ.length < 512 then { d with mirQ := d.mirQ ++ [m] }
      else (({ d with mirStop := true }.set F.MIRROR_STATUS_OVERFLOWED 0 1).raise F.PAIR_EVENT_MIRROR_OVERFLOW).record { code := 0x110B, sev := 3 }

/-! ## Writes to a function's memory -/

/-- Size of the learn ring, its fill, with the reports whose write is held (R153, R325). -/
def Dev.lrSize (d : Dev) : Nat := 2 ^ d.get F.LR_CFG_LR_SIZE
def Dev.lrHeld (d : Dev) : Nat := (d.heldW.filter (fun w => w.2.2.2)).length
def Dev.lrUsed (d : Dev) : Nat := ringUsed (d.get F.LR_PROD_INDEX) (d.get F.LR_CONS_INDEX)
def Dev.lrSettle (d : Dev) : Dev := d.set F.FDB_STATUS_LR_FULL 0 (b2n (decide (d.lrUsed = d.lrSize)))

/-- A write of a device to a function's memory leaves; the learn ring's producer index advances after one of its entries. -/
def Dev.dmaOut (d : Dev) (fn addr : Nat) (bytes : List Byte) (lr : Bool) : Dev :=
  let d := d.emit (.dma fn addr bytes)
  if lr then (d.set F.LR_PROD_INDEX 0 (d.get F.LR_PROD_INDEX + 1)).lrSettle else d

/-- The device writes to a function's memory outside a ring job (R301, R325): held while the function is frozen. `lr`: an entry
of the learn ring. -/
def Dev.devWrite (d : Dev) (fn addr : Nat) (bytes : List Byte) (lr : Bool := false) : Dev :=
  if d.isFrozen fn then { d with heldW := d.heldW ++ [(fn, addr, bytes, lr)] }
  else
    let x := d.dmaCheck fn addr bytes.length true
    if x.2 then x.1.dmaOut fn addr bytes lr else x.1

/-- Table places whose parity goes bad as the step meets them. -/
def Dev.upset (d : Dev) (us : List Upset) : Dev :=
  us.foldl (fun d u => match u with
    | .place c => if d.corrupt.contains c then d else { d with corrupt := d.corrupt ++ [c] }
    | _ => d) d

/-- A place of a table has bad parity; a write to it makes it good. -/
def Dev.bad (d : Dev) (kind i : Nat) : Bool := d.corrupt.contains (kind * 2 ^ 32 + i)
def Dev.mend (d : Dev) (kind i : Nat) : Dev := { d with corrupt := d.corrupt.filter (· != kind * 2 ^ 32 + i) }

/-- Ingress is open (R418, R419): in every state but INIT, the standby states and, before T_r, ENTERING. -/
def Dev.ingressOpen (d : Dev) : Bool :=
  let s := d.get F.PAIR_STATUS_STATE
  s == 0 || s == 5 || s == 6 || s == 8 || (s == 7 && d.trOpen)

end Sys2Proof.Machine
end

