-- ==== Sys2Proof/Machine/Cq.lean ====
section
/-! DEFINITION. Mailbox messages (R318 to R322): what the Prompter answers a host with, and what its senders post. -/

namespace Sys2Proof.Machine

/-! ## Mailboxes (R318 to R322) -/

/-- The header of a message (R318). -/
def msgHdr (op len tag epoch echo : Nat) : Nat :=
  op % 4096 + 4096 * (len % 16) + 2 ^ 16 * (tag % 256) + 2 ^ 24 * (epoch % 16) + 2 ^ 28 * (echo % 16)

/-- The sender's interrupt of a channel (R321, R330): channels of functions have a vector. -/
def Dev.chanInt (d : Dev) (c : Nat) : Dev :=
  if d.sender c < 8 then d.emit (.msix (d.sender c) (d.get F.MB_CFG_VECTOR c)) else d

/-- Messages wait for room in the response queue and enter it in order (R321). `n` bounds how many. -/
def Dev.pushRsp : Nat → Dev → Nat → Dev
  | 0, d, _ => d
  | n + 1, d, c =>
    let q := d.chans.get c
    match q.wait with
    | [] => d
    | m :: r =>
      if msgWords q.rsp + 1 + m.words.length ≤ 16 then
        let d := { d with chans := d.chans.put c { q with rsp := q.rsp ++ [m], wait := r } }
        Dev.pushRsp n (((d.raise F.MB_EVENT_ARRIVED c).chanInt c).count 0x48 5) c
      else d

/-- The Prompter posts a message on a channel's response queue; with too few free words it waits (R319, R321). -/
def Dev.postRsp (d : Dev) (c op tag echo : Nat) (words : List Nat) : Dev :=
  let q := d.chans.get c
  let m : Msg := { hdr := msgHdr op (min words.length 15) tag q.epochP echo,
                   words := (words.take 15).map (· % 2 ^ 32), stale := false }
  Dev.pushRsp (q.wait.length + 1) { d with chans := d.chans.put c { q with wait := q.wait ++ [m] } } c

/-- A notification (R349): TAG 0, ECHO the sender's current SEND_EPOCH. -/
def Dev.notify (d : Dev) (c op : Nat) (words : List Nat) : Dev :=
  d.postRsp c op 0 (d.chans.get c).epochS words

/-- Keeps a request queue's words as they stood before this core cycle's first change (R319). -/
def Dev.keepWords (d : Dev) (c : Nat) : Dev :=
  let q := d.chans.get c
  if q.prevAt = d.cycle + 1 then d
  else { d with chans := d.chans.put c { q with prevW := msgWords q.req, prevAt := d.cycle + 1 } }

/-- A mailbox post by the understudy or domain agent or a cluster, or of a host once its write is let through (R319):
appended when the request queue has room, now and as it stood at the end of the previous core cycle, with a wake event for the
receiving core, else refused. -/
def Dev.postReq (d : Dev) (c hdr : Nat) (words : List Nat) : Dev :=
  let d := d.keepWords c
  let q := d.chans.get c
  let len := hdr / 4096 % 16
  if len + 1 ≤ 16 - max q.prevW (msgWords q.req) then
    let m : Msg := { hdr := withBits hdr 27 24 q.epochS, words := (words ++ List.replicate 15 0).take len, stale := false }
    let x : Attr := { role := some (d.roleOf c), master := some (d.sender c) }
    ({ d with chans := d.chans.put c { q with req := q.req ++ [m] } }.count 0x48 0 1 x).count 0x48 6 1 x
  else
    (((d.raise F.MB_EVENT_POST_REFUSED c).raiseFirst F.MBOX_EVENT_POST_REFUSED 0 0 secCycles).count 0x48 2 1 { role := some (d.roleOf c), master := some (d.sender c) }).recordLim
      secCycles { code := 0x0D01, sev := 2, a0 := c, obj := .chan c }

/-- The receiver pops the head request; TAKEN when the queue becomes empty (R321). -/
def Dev.popReq (d : Dev) (c : Nat) : Dev :=
  let d := d.keepWords c
  let q := d.chans.get c
  let d := { d with chans := d.chans.put c { q with req := q.req.tail } }.count 0x48 1
  if q.req.tail.isEmpty then ((d.raise F.MB_EVENT_TAKEN c).chanInt c).count 0x48 7 else d

/-- A reset of the sender (R320): its epoch advances and its queued messages are marked STALE. -/
def Dev.senderReset (d : Dev) (c : Nat) : Dev :=
  let q := d.chans.get c
  let n := (q.req.filter (fun m => !m.stale)).length
  let d := { d with chans := d.chans.put c { q with epochS := (q.epochS + 1) % 16,
                                                    req := q.req.map (fun m => { m with stale := true }) } }
  if n = 0 then d
  else ((d.raise F.MBOX_EVENT_STALE_MARKED).count 0x48 3 n).record { code := 0x0D02, sev := 2, a0 := c, a1 := n, obj := .chan c }

/-- A reset of the receiving core (R320): the Prompter's epoch on the channel advances, its responses are marked. -/
def Dev.receiverReset (d : Dev) (c : Nat) : Dev :=
  let q := d.chans.get c
  let n := (q.rsp.filter (fun m => !m.stale)).length
  let d := { d with chans := d.chans.put c { q with epochP := (q.epochP + 1) % 16,
                                                    rsp := q.rsp.map (fun m => { m with stale := true }) } }
  if n = 0 then d
  else ((d.raise F.MBOX_EVENT_STALE_MARKED).count 0x48 3 n).record { code := 0x0D02, sev := 2, a0 := c, a1 := n, obj := .chan c }

end Sys2Proof.Machine
end

