-- ==== Sys2Proof/Machine/Sfi.lean ====
section
/-! DEFINITION. How the Prompter settles, runs and answers an SFI request (R348 to R358): the checks of R351 in their
order, the reply word, PENDING jobs and their completions, authentication failures (R355). -/

namespace Sys2Proof.Machine

/-- What a command answers (R348): status, cause, detail, hint, payload words after the reply word, and for PENDING
the data its completion needs. -/
structure Ans where
  st : Nat := 0
  cause : Nat := 0
  detail : Nat := 0
  hint : Nat := 0
  words : List Nat := []
  job : Option (List Nat) := none
  deriving DecidableEq, Repr

/-- The status codes of R348. -/
def Ans.ok : Ans := {}
def Ans.okW (ws : List Nat) : Ans := { words := ws }
def Ans.invalid (detail : Nat := 0) : Ans := { st := 2, detail := detail }
def Ans.denied : Ans := { st := 3 }
def Ans.noResource (detail : Nat := 0) : Ans := { st := 4, detail := detail }
def Ans.busy (cause : Nat) (hint : Nat := 0) : Ans := { st := 1, cause := cause, hint := hint }
def Ans.pending (data : List Nat := []) : Ans := { st := 5, job := some data }
/-- Carried out; its one reply follows when its work ends (PLATE_OPEN, R127). -/
def Ans.wait : Ans := { st := 8, job := some [] }
def Ans.frozen : Ans := { st := 6 }
def Ans.unsupported : Ans := { st := 7 }

/-- The reply word (R348). -/
def Ans.word (a : Ans) : Nat :=
  a.st % 8 + 8 * (if a.st = 1 then a.cause % 32 else 0) + 256 * (a.detail % 256)
    + 65536 * (if a.st = 1 then a.hint % 65536 else 0)

/-- A change on a command's own register: OK, or INVALID where a value is out of range or reserved (R8). -/
def okIf (c : Bool) (d d' : Dev) : Dev × Ans := if c then (d', .ok) else (d, .invalid)

/-- The core that serves a channel (R317, R333). -/
def Dev.rxCore (d : Dev) (c : Nat) : Nat := d.get F.MB_CFG_RX_CORE c

/-- Commands in flight on a channel (R357): queued, or in the job list. -/
def Dev.inFlight (d : Dev) (c : Nat) : Nat :=
  (d.pendQ.filter (fun q => q.ch == c)).length + (d.jobs.filter (fun j => j.ch == c)).length

/-- The queue occupancy of a core (R357). -/
def Dev.coreQ (d : Dev) (n : Nat) : Nat := (d.pendQ.filter (fun q => q.core == n)).length

/-- The admission threshold of a priority (R357). -/
def prioLimit (p : Nat) : Nat := if p = 0 then 48 else if p = 1 then 56 else if p = 2 then 62 else 64

/-- The Prompter runs its firmware: SFI is served (R341). -/
def Dev.sfiUp (d : Dev) : Bool := d.get F.PROMPTER_STATUS_BOOT_STATE == 2 && !(d.on F.PROMPTER_STATUS_DEGRADED)

/-- A failed answer or key check on a channel (R353, R355): counted over 60 s, the fifth locks the channel out. -/
def Dev.authFail (d : Dev) (c : Nat) : Dev :=
  let x := d.sess.get c
  let recent := (x.fails.filter (fun t => decide (d.cycle < t + 60 * secCycles))) ++ [d.cycle]
  let lock := decide (5 ≤ recent.length)
  let d := { d with sess := d.sess.put c { x with fails := if lock then [] else recent,
                                                  lockUntil := if lock then d.cycle + 60 * secCycles else x.lockUntil } }
  let d := (d.raise F.PROMPTER_EVENT_AUTH_FAIL).record { code := 0x0E0A, sev := 3, a0 := c, ints := [c], fw := true }
  if lock then d.record { code := 0x0E0B, sev := 5, a0 := c, ints := [c], fw := true } else d

/-- Posts a reply or a completion of a command (R348, R313): on the command ring's job where the request came that
way, else in the channel's response queue. -/
def Dev.reply (d : Dev) (ch tag op echo : Nat) (ring : Bool) (a : Ans) : Dev :=
  if !ring then d.postRsp ch op tag echo (a.word :: a.words)
  else match d.cmdJobs.find? (fun j => j.ch == ch && j.sfiTag == tag && j.op == op) with
  | some j =>
    let ws := a.word :: a.words
    let bytes := (ws.flatMap (leBytes 4)).take j.rspLen
    let fn := d.get F.RING_OWNER_FUNC j.ring
    let d := if a.st = 5 then d else { d with cmdJobs := d.cmdJobs.erase j }
    let x := if a.st = 5 then (d, true) else d.dmaCheck fn j.rspAddr bytes.length true
    let d := if a.st = 5 ∨ !x.2 then x.1 else x.1.emit (.dma fn j.rspAddr bytes)
    let d := if a.st = 5 then d.cqReserve (d.get F.RING_CFG_CQ j.ring) else d
    d.complete j.ring { (default : Compl) with
      tag := j.tag, index := j.index, ring := j.ring, status := if x.2 then a.st else 3, bufs := j.bufs, len := bytes.length }
  | none => d

/-- Counts an answer by its status (R368), with the session's role (R400). -/
def Dev.countAns (d : Dev) (a : Ans) (role : Nat) : Dev :=
  let x : Attr := { role := some role }
  if a.st = 1 then (if a.cause = 1 then d.count 0x4C 1 1 x else d.count 0x4C 2 1 x)
  else if a.st = 3 then d.count 0x4C 3 1 x
  else if a.st = 2 then d.count 0x4C 4 1 x else d

/-- Steps 2 to 5 of R351 for a request on a channel: the refusal, or the role it is admitted under. `need` is the
opcode's role, `key` the key word a command with the unlock key carries. -/
def Dev.settle (d : Dev) (c op need : Nat) (key : Option Nat) : Except Ans Nat :=
  if d.isFrozen (d.sender c) then .error .frozen
  else if 24 ≤ c ∧ ¬ (0x6F0 ≤ op ∧ op ≤ 0x6FF) then .error .invalid
  else if 0xD00 ≤ op then .error .unsupported
  else if d.roleOf c < need ∨ (match key with | some k => k != unlockKey | none => false) = true then .error .denied
  else
    let n := d.rxCore c
    let q := d.coreQ n
    let t := prioLimit (d.get F.MB_CFG_PRIO c)
    let s := d.get F.CORE_LOAD_SERVICE n
    if t ≤ q then .error (.busy 1 (max 1 (((q - t + 1) * s + 9) / 10)))
    else if 8 ≤ d.inFlight c then .error (.busy 2 ((s + 9) / 10))
    else .ok (d.roleOf c)

/-- LOAD_SHED, at most one per core per 1 s (R358, R369). -/
def Dev.loadShed (d : Dev) (n : Nat) : Dev :=
  (d.raiseFirst F.PROMPTER_EVENT_LOAD_SHED 0 n secCycles).recordLim secCycles
    { code := 0x0E0C, sev := 3, a0 := n, obj := .key n, fw := true }

/-- What a refusal at steps 2 to 5 leaves behind: its counts, an authentication failure for a wrong key, LOAD_SHED. -/
def Dev.refuseReq (d : Dev) (c need : Nat) (a : Ans) : Dev :=
  let d := d.countAns a (d.roleOf c)
  let d := if a.st = 3 ∧ need ≤ d.roleOf c then d.authFail c else d
  if a.st = 1 ∧ a.cause = 1 then d.loadShed (d.rxCore c) else d

/-- Commands whose one reply follows when their work ends: they take no place in core 3's job list (R350). -/
def waitOps : List Nat := [0x301, 0x5C0, 0x601]

/-- The request that SFI_REQUEST_TAKE has admitted and this command carries out. -/
def Dev.request (d : Dev) (rq : Sfi) (op : Nat) : Option PendReq :=
  d.pendQ.find? (fun q => q.ch == rq.ch.val && q.tag == rq.tag.val && q.op == op)

/-- Where a request stands in its core's order (R357), smaller first: strict PRIO, then round robin among the channels of equal
PRIO from the one that is next. -/
def Dev.turnKey (d : Dev) (q : PendReq) : Nat :=
  let p := d.get F.MB_CFG_PRIO q.ch % 4
  32 * (3 - p) + (q.ch + 32 - d.turnCh.get (4 * q.core + p)) % 32

/-- A request is the one its core executes next: no request of the core precedes it, and within its channel queue order
applies (R322, R357). -/
def Dev.isNext (d : Dev) (q : PendReq) (before : List PendReq) : Bool :=
  d.pendQ.all (fun x => x.core != q.core || decide (d.turnKey q ≤ d.turnKey x)) && !before.any (fun x => x.ch == q.ch)

/-- The request of this command as it would be queued. -/
def Dev.asReq (d : Dev) (rq : Sfi) (op role : Nat) : PendReq :=
  { core := d.rxCore rq.ch, ch := rq.ch, tag := rq.tag, op := op, role := role, echo := (d.chans.get rq.ch).epochS, ring := rq.ring }

/-- The command is its core's next (R357); one that is not queued joins the queue's end. -/
def Dev.myTurn (d : Dev) (rq : Sfi) (op : Nat) : Bool :=
  match d.request rq op with
  | some q => d.isNext q (d.pendQ.takeWhile (· != q))
  | none => d.isNext (d.asReq rq op 0) d.pendQ

/-- The core that serves a channel runs its firmware (R335, R341). -/
def Dev.served (d : Dev) (c : Nat) : Bool := d.sfiUp && d.bit F.PROMPTER_STATUS_CORE_UP 0 (d.rxCore c)

/-- A request of a session in core cycle `now`. -/
def Session.use (x : Session) (now : Nat) : Session :=
  if x.lastUse = now then x else { x with prevUse := x.lastUse, lastUse := now }
def Dev.useSession (d : Dev) (c : Nat) : Dev := { d with sess := d.sess.put c ((d.sess.get c).use d.cycle) }

/-- A request is queued for its core (R351, R357). -/
def Dev.enqueueReq (d : Dev) (q : PendReq) : Dev := { d with pendQ := d.pendQ ++ [q] }.useSession q.ch

/-- A core executes one command of a channel: the next turn among those of its priority is that of the channel after it. -/
def Dev.turnOver (d : Dev) (c : Nat) : Dev :=
  { d with turnCh := d.turnCh.put (4 * d.rxCore c + d.get F.MB_CFG_PRIO c % 4) ((c + 1) % 32) }

/-- The command leaves the core's queue. -/
def Dev.sfiTake (d : Dev) (rq : Sfi) (op : Nat) : Dev :=
  match d.request rq op with
  | some q => { d with pendQ := d.pendQ.erase q }
  | none => d

/-- The role a command runs under, or its refusal: an admitted request runs under the role it was admitted with, a
command given directly is settled first (R351). -/
def Dev.sfiRole (d : Dev) (rq : Sfi) (op need : Nat) (useKey : Bool) : Except Ans Nat :=
  match d.request rq op with
  | some q => .ok q.role
  | none => d.settle rq.ch op need (if useKey then some rq.key.toNat else none)

/-- The device a command starts from: off its queue, the session's idle time restarted (R354), its core's turn passed on. -/
def Dev.sfiStart (d : Dev) (rq : Sfi) (op : Nat) : Dev := ((d.sfiTake rq op).useSession rq.ch).turnOver rq.ch

/-- How an answer goes back: the epoch it echoes, and whether it completes a command ring's job. -/
def Dev.sfiBack (d : Dev) (rq : Sfi) (op : Nat) : Nat × Bool :=
  match d.request rq op with
  | some q => (q.echo, q.ring)
  | none => ((d.chans.get rq.ch).epochS, rq.ring)

/-- Core 3's job list is full (R350). -/
def Dev.jobsFull (d : Dev) : Bool := decide (32 ≤ (d.jobs.filter (fun j => !waitOps.contains j.op)).length)

/-- A PENDING command joins the job list with what its completion needs. -/
def Dev.enlist (d : Dev) (rq : Sfi) (op role : Nat) (back : Nat × Bool) (a : Ans) : Dev :=
  match a.job with
  | some data =>
    let j : Job := { ch := rq.ch, tag := rq.tag, op := op, role := role, echo := back.1, ring := back.2, data := data }
    { d with jobs := d.jobs ++ [j] }
  | none => d

/-- Commands that change the configuration of ports, time, queues, gates and stagehands (R428), and PAIR_CONFIG (R432). -/
def carryOps : List Nat :=
  [0x101, 0x102, 0x103, 0x104, 0x105, 0x106, 0x107, 0x108, 0x109, 0x201, 0x202, 0x203, 0x204, 0x206, 0x208, 0x209, 0x20A,
   0x500, 0x501, 0x510, 0x511, 0x512, 0x513, 0x520, 0x530, 0x540, 0x601, 0x602, 0x604, 0x607, 0xA01]

/-- The active Prompter carries a configuration command that it has executed to its peer, over the channels 16 to 19 there (R428);
PAIR_CONFIG goes from either die (R432). What came from the peer does not go back. -/
def Dev.carry (d : Dev) (c op : Nat) (a : Ans) : Dev :=
  if (a.st = 0 ∨ a.st = 5 ∨ a.st = 8) ∧ ¬ (16 ≤ c ∧ c < 20) ∧ carryOps.contains op = true ∧
      (d.mirrors || op == 0xA01 && d.on F.PAIR_STATUS_PAIR_EN && d.on F.PAIR_STATUS_LINK_UP) = true then d.emit (.ulk [262, op])
  else d

/-- A command has run with this answer: counted, listed when PENDING, replied to (R348, R350, R368). -/
def Dev.sfiDone (d : Dev) (rq : Sfi) (op role : Nat) (back : Nat × Bool) (a : Ans) : Dev :=
  let d := d.countAns a role
  let d := if a.st = 0 ∨ a.st = 5 ∨ a.st = 8 then d.count 0x4C 0 1 { role := some role } else d
  let d := (d.carry rq.ch op a).enlist rq op role back a
  if a.st = 8 then d else d.reply rq.ch rq.tag op back.1 back.2 a

/-- The answer of a command: BUSY with JOBS and a free hint where it would wait and the job list is full. -/
def Dev.sfiAnswer (d : Dev) (rq : Sfi) (op role : Nat) (back : Nat × Bool) (a : Ans) : Dev :=
  if a.st == 5 && d.jobsFull then
    let z := d.draw 6
    z.2.sfiDone rq op role back (.busy 7 (z.1 % 65536))
  else d.sfiDone rq op role back a

/-- Runs an SFI command (R351). Before the firmware runs the request waits in its channel (R341); while another request is its
core's next it waits in the queue (R357, log entry 93); a command with TAG 0 is INVALID (R348). -/
def Dev.sfiRun (d : Dev) (rq : Sfi) (op need : Nat) (useKey : Bool) (f : Dev → Nat → Dev × Ans) : Dev :=
  if !d.served rq.ch then d
  else
    let back := d.sfiBack rq op
    match d.sfiRole rq op need useKey with
    | .error a => (((d.sfiTake rq op).refuseReq rq.ch need a).reply rq.ch rq.tag op back.1 back.2 a)
    | .ok role =>
      if !d.myTurn rq op then (if (d.request rq op).isSome then d else d.enqueueReq (d.asReq rq op role))
      else
      let d := d.sfiStart rq op
      let x := if rq.tag.val = 0 then (d, Ans.invalid) else f d role
      x.1.sfiAnswer rq op role back x.2

/-- A PENDING command's completion (R348, R350): the job leaves the list and its answer is posted. -/
def Dev.finishJob (d : Dev) (j : Job) (a : Ans) : Dev :=
  { d with jobs := d.jobs.erase j }.reply j.ch j.tag j.op j.echo j.ring a

/-- Completes every job of one opcode. -/
def Dev.finishOp (d : Dev) (op : Nat) (a : Ans) : Dev :=
  (d.jobs.filter (fun j => j.op == op)).foldl (fun d j => d.finishJob j a) d

/-- Runs an SFI command as a step. -/
def State.sfi (s : State) (rq : Sfi) (op need : Nat) (f : Dev → Nat → Dev × Ans) : Out :=
  s.actAt (fun _ => sfiPlace op) (fun d => d.sfiRun rq op need false f)

/-- Runs an SFI command that needs the unlock key (R353) as a step. -/
def State.sfiKey (s : State) (rq : Sfi) (op need : Nat) (f : Dev → Nat → Dev × Ans) : Out :=
  s.actAt (fun _ => sfiPlace op) (fun d => d.sfiRun rq op need true f)

end Sys2Proof.Machine
end

