-- ==== Sys2Proof/Machine/Fdb.lean ====
section
/-! DEFINITION. The forwarding database (R136 to R154): places and hashes, insertion with relocation and eviction,
learning, ageing, flushes, the learn ring. -/

namespace Sys2Proof.Machine

/-! ## Two-bank hashing (R101, R102, R136, R139) -/

/-- The four places of a bucket. -/
def slots4 (base : Nat) : List Nat := [base, base + 1, base + 2, base + 3]

/-- The relocation search of R139 (and of R102): from the bucket `cur`, `n` victims may still be taken; `other` gives a
victim's bucket in the other bank. Answers the victims in order with the free place at the end. -/
def relocSearch (free : Nat → Bool) (other : Nat → Nat) : Nat → Dev → Nat → List Nat → Dev × Option (List Nat × Nat)
  | 0, d, _, _ => (d, none)
  | n + 1, d, cur, path =>
    let c := (slots4 cur).filter (fun p => !path.contains p)
    match c with
    | [] => (d, none)
    | x :: _ =>
      let r := d.draw 1
      let v := c.getD (r.1 % c.length) x
      let nxt := other v
      match (slots4 nxt).find? free with
      | some p => (r.2, some (path ++ [v], p))
      | none => relocSearch free other n r.2 nxt (path ++ [v])

/-- Writes `v` to the first place of a path; what stood there moves on to the next, to the path's end (R139). -/
def pathPut {α : Type} [Inhabited α] [DecidableEq α] (t : Tbl α) (v : α) : List Nat → Tbl α
  | [] => t
  | p :: ps => pathPut (t.put p v) (t.get p) ps

/-! ## FDB places (R136 to R138) -/

/-- The hash word of a key (R136). -/
def fdbHash (mac fid : Nat) : Nat := crc32c (beBytes 2 (fid % 4096) ++ beBytes 6 mac)

/-- The two candidate buckets of a key, by their first places. -/
def fdbBank0 (mac fid : Nat) : Nat := 4 * (fdbHash mac fid % 32768)
def fdbBank1 (mac fid : Nat) : Nat := 131072 + 4 * (fdbHash mac fid / 65536 % 32768)

/-- The eight candidate places of a key. -/
def fdbCands (mac fid : Nat) : List Nat := slots4 (fdbBank0 mac fid) ++ slots4 (fdbBank1 mac fid)

/-- An entry is there and its parity is good. -/
def Dev.fdbLive (d : Dev) (i : Nat) : Bool := (d.fdb.get i).valid && !d.bad 1 i

/-- The place of a key's entry with a property. -/
def Dev.fdbFind (d : Dev) (mac fid : Nat) (f : Fdb → Bool) : Option Nat :=
  (fdbCands mac fid).find? (fun i =>
    let e := d.fdb.get i
    d.fdbLive i && e.mac == mac && e.fid == fid && f e)

/-- A static entry that a plate sees (R138). -/
def Fdb.seen (e : Fdb) (plate : Nat) : Bool := e.isStatic && decide (e.mask / 2 ^ plate % 2 = 1)

/-- The static entry of a key visible in a plate, and the learned entry. -/
def Dev.fdbStatic (d : Dev) (mac fid plate : Nat) : Option Nat := d.fdbFind mac fid (fun e => e.seen plate)
def Dev.fdbLearned (d : Dev) (mac fid : Nat) : Option Nat := d.fdbFind mac fid (fun e => !e.isStatic)

/-- The entry that decides a lookup in a plate (R138). -/
def Dev.fdbLookup (d : Dev) (mac fid plate : Nat) : Option Nat :=
  match d.fdbStatic mac fid plate with
  | some i => some i
  | none => d.fdbLearned mac fid

/-- Writes a place. -/
def Dev.fdbPut (d : Dev) (i : Nat) (e : Fdb) : Dev := { d with fdb := d.fdb.put i e }.mend 1 i

/-! ## Reports (R153, R154, R163, R165) -/

/-- The present time in microseconds, as stamps count them (R144). -/
def stampUs (cycle : Nat) : Nat := cycle / 1500 % 2 ^ 32

/-- FDB_CNT. -/
def Dev.fdbCnt (d : Dev) (k : Nat) (n : Nat := 1) : Dev := d.satCount .FDB_CNT k n

/-- A record of the FDB: internal word 0 holds the learning port and the other port of the event. -/
def Dev.fdbRec (d : Dev) (period code sev a0 a1 port other : Nat) : Dev :=
  let e : Evt := { code := code, sev := sev, a0 := a0, a1 := a1, ints := [port % 512 + other % 512 * 65536] }
  if period = 0 then d.record e else d.recordLim period e

/-- Host address of the learn ring. -/
def Dev.lrBase (d : Dev) : Nat := d.reg .LR_BASE_HI * 2 ^ 32 + d.get F.LR_BASE_LO_ADDR * 16

/-- The 16 bytes of a learn ring entry (R154). -/
def lrEntry (mac fid reason newP oldP stamp phase : Nat) : List Byte :=
  beBytes 6 mac ++ leBytes 2 (fid % 4096 + 4096 * reason) ++ leBytes 2 (newP % 512 + 32768 * phase) ++
    leBytes 2 (oldP % 512) ++ leBytes 4 stamp

/-- Writes a report to the learn ring, when its reason is enabled, or drops it on a full ring (R153). A write that is held has
its place in the ring; one that is refused leaves LR_PROD as it is. -/
def Dev.lrWrite (d : Dev) (mac fid reason newP oldP stamp : Nat) : Dev :=
  if !d.on F.LR_CFG_LR_EN || !d.bit F.LR_CFG_LR_MASK 0 reason then d
  else if d.lrSize ≤ d.lrUsed + d.lrHeld then
    ((d.satCount .LR_DROPPED 0).raise F.FDB_EVENT_LR_OVERFLOW).fdbRec secCycles 0x050E 2 0 0 0 0
  else
    let p := (d.get F.LR_PROD_INDEX + d.lrHeld) % 65536
    let bytes := lrEntry mac fid reason newP oldP stamp (ringPhase p (d.get F.LR_CFG_LR_SIZE))
    d.devWrite (d.get F.LR_CFG_LR_FN) (d.lrBase + 16 * ringSlot p d.lrSize) bytes true

/-- An FDB change is reported (R153), to the ring where `ring` says so, and always to the peer die (R165, R428). -/
def Dev.fdbReport (d : Dev) (ring : Bool) (mac fid reason newP oldP stamp : Nat) : Dev :=
  let d := d.mirror false [0, reason, mac, fid, newP, oldP, stamp]
  if ring then d.lrWrite mac fid reason newP oldP stamp else d

/-- The notes of what was written in this core cycle, those of an earlier one dropped. -/
def Dev.freshNow (d : Dev) : Dev := if d.freshAt = d.cycle + 1 then d else { d with fresh := [], wrote := [], freshAt := d.cycle + 1 }

/-- The entry of a place as it was before a refresh of this core cycle (R152). -/
def Dev.unfresh (d : Dev) (i : Nat) : Fdb :=
  match d.freshNow.fresh.find? (fun x => x.1 == i) with
  | some x => x.2
  | none => d.fdb.get i

/-- The learn engine, the ager or a flush writes a place. -/
def Dev.fdbEngine (d : Dev) (i : Nat) (e : Fdb) : Dev :=
  let d := d.freshNow
  { d.fdbPut i e with wrote := d.wrote ++ [i] }

/-- The data path writes a place in this core cycle (R20). -/
def Dev.fdbTouched (d : Dev) (i : Nat) : Bool := d.freshNow.wrote.contains i || d.freshNow.fresh.any (fun x => x.1 == i)

/-- A learned entry is removed and reported. -/
def Dev.fdbRemove (d : Dev) (i reason newP stamp : Nat) (ring : Bool) : Dev :=
  let e := d.fdb.get i
  (d.fdbEngine i default).fdbReport ring e.mac e.fid reason newP e.dest stamp

/-- A valid entry whose parity is bad is met by a lookup or the ager (R151): counted and recorded; a learned one is
invalidated and reported, a static one waits for its rewriting. -/
def Dev.fdbParity (d : Dev) (i : Nat) : Dev :=
  let e := d.fdb.get i
  if !(e.valid && d.bad 1 i) then d
  else
    let d := ((d.fdbCnt 6).raise F.FDB_EVENT_FDB_PARITY).fdbRec 0 0x0509 4 0 0 0 e.dest
    if e.isStatic then d else d.fdbRemove i 7 0 (stampUs d.cycle) true

/-- A lookup of a key meets its eight candidate places. -/
def Dev.fdbRead (d : Dev) (mac fid : Nat) : Dev := (fdbCands mac fid).foldl (fun d i => d.fdbParity i) d

/-! ## Insertion (R139, R140) -/

/-- A place takes an insertion: empty, or its parity is bad (R151). -/
def Dev.fdbFree (d : Dev) (i : Nat) : Bool := !d.fdbLive i

/-- The victim's candidate bucket in the other bank. -/
def Dev.fdbOther (d : Dev) (i : Nat) : Nat :=
  let e := d.fdb.get i
  if i < 131072 then fdbBank1 e.mac e.fid else fdbBank0 e.mac e.fid

/-- The occupant that EVICT_POLICY chooses among the non-static ones (R140): with OLDEST the highest AGE, earlier places
first. -/
def Dev.evictee (d : Dev) (c : List Nat) : Dev × Option Nat :=
  let c := c.filter (fun i => !(d.fdb.get i).isStatic)
  match c with
  | [] => (d, none)
  | x :: _ =>
    if d.on F.FDB_CFG_EVICT_POLICY then
      let r := d.draw 2
      (r.2, some (c.getD (r.1 % c.length) x))
    else (d, some (c.foldl (fun m i => if (d.fdb.get m).age < (d.fdb.get i).age then i else m) x))

/-- Inserts an entry (R139, R140): into a free place, through a relocation path, or over an evicted entry; refused when
all eight occupants are static. `port` is the learning port, 0 for a static entry. -/
def Dev.fdbInsert (d : Dev) (e : Fdb) (port : Nat) : Dev × Option Nat :=
  let b0 := fdbBank0 e.mac e.fid
  let b1 := fdbBank1 e.mac e.fid
  match (slots4 b0 ++ slots4 b1).find? d.fdbFree with
  | some i => (d.fdbPut i e, some i)
  | none =>
    match relocSearch d.fdbFree d.fdbOther 16 d b0 [] with
    | (d, some (path, p)) =>
      let first := path.headD p
      ((({ d with fdb := pathPut d.fdb e (path ++ [p]) }.mend 1 p).fdbCnt 9 path.length), some first)
    | (d, none) =>
      match d.evictee (slots4 b0 ++ slots4 b1) with
      | (d, none) => (d, none)
      | (d, some i) =>
        let old := d.fdb.get i
        let d := ((d.fdbCnt 3).raiseFirst F.FDB_EVENT_EVICTED 0 0 secCycles).fdbRec secCycles 0x050A 3 0 0 port old.dest
        let d := d.fdbReport true old.mac old.fid 4 0 old.dest old.lstamp
        (d.fdbPut i e, some i)

/-! ## Learning (R141 to R146) -/

/-- Signed difference of two 32-bit microsecond stamps. -/
def stampDiff (a b : Nat) : Int :=
  let x := ((a : Int) - b).emod (2 ^ 32)
  if x < 2 ^ 31 then x else x - 2 ^ 32

/-- A refresh (R143): AGE 0, LSTAMP unless the entry's is newer; that of an entry with AGE 2 or more is not compared (R145).
Noted for R148 and R152. -/
def Dev.refresh (d : Dev) (i us : Nat) : Dev :=
  let d := d.freshNow
  let e := d.fdb.get i
  let e' := { e with age := 0, lstamp := if e.age ≤ 1 ∧ 0 < stampDiff e.lstamp us then e.lstamp else us }
  { d with fdb := d.fdb.put i e',
           fresh := if d.fresh.any (fun x => x.1 == i) then d.fresh else d.fresh ++ [(i, e)] }

/-- REFUSED_STATIC or REFUSED_FULL. -/
def Dev.learnRefused (d : Dev) (r : LearnReq) (reason oldP : Nat) : Dev :=
  let d := ((d.fdbCnt 4).raiseFirst F.FDB_EVENT_REFUSED 0 0 secCycles).fdbRec secCycles 0x050B 3 0 0 r.port oldP
  d.fdbReport true r.sa r.fid reason r.port oldP (stampUs r.stamp)

/-- A learn request's pipeline part (R143, R146): a refresh of the learned entry on its own port, else the pipe's FIFO
of 512, full of which the request is dropped. -/
def Dev.learnRequest (d : Dev) (pipe : Nat) (r : LearnReq) : Dev :=
  let d := d.fdbRead r.sa r.fid
  let own := match d.fdbLookup r.sa r.fid r.plate with
    | some i => let e := d.fdb.get i
                if !e.isStatic && e.dest == r.port then some i else none
    | none => none
  match own with
  | some i => d.refresh i (stampUs r.stamp)
  | none =>
    let q := d.learnQ.get pipe
    if q.length < 512 then { d with learnQ := d.learnQ.put pipe (q ++ [r]) }
    else ((d.fdbCnt 7).raiseFirst F.FDB_EVENT_LEARN_DROPPED 0 0 secCycles).fdbRec secCycles 0x050D 2 0 0 r.port 0

/-- The table of R144. An entry refreshed in this core cycle is judged as it was before: a move is applied, and the refresh no
longer matches its port (R152). -/
def Dev.learn (d : Dev) (r : LearnReq) : Dev :=
  let us := stampUs r.stamp
  let d := d.fdbRead r.sa r.fid
  match d.fdbStatic r.sa r.fid r.plate with
  | some i =>
    let e := d.fdb.get i
    if e.dtype = 0 ∧ e.dest = r.port then d else d.learnRefused r 5 e.dest
  | none =>
    match d.fdbLearned r.sa r.fid with
    | none =>
      match d.fdbInsert { (default : Fdb) with valid := true, mac := r.sa, fid := r.fid, dest := r.port, lstamp := us } r.port with
      | (d, some i) => ({ d.freshNow with wrote := d.freshNow.wrote ++ [i] }.fdbCnt 0).fdbReport true r.sa r.fid 1 r.port 0 us
      | (d, none) => d.learnRefused r 10 0
    | some i =>
      let e := d.unfresh i
      let df := stampDiff us e.lstamp
      if e.dest = r.port then d.refresh i us
      else if e.age ≤ 1 ∧ df < 0 then d.fdbCnt 8
      else if e.age ≤ 1 ∧ df < (d.get F.FDB_CFG_MOVE_HOLD : Int) then
        let d := ((d.fdbCnt 5).stat r.ing 30).raiseFirst F.FDB_EVENT_MOVE_CONFLICT 0 0 msCycles
        let d := d.fdbRec msCycles 0x050C 3 (r.sa % 2 ^ 32) (r.sa / 2 ^ 32 + r.fid * 65536) r.port e.dest
        d.fdbReport true r.sa r.fid 6 r.port e.dest us
      else
        ((d.fdbEngine i { e with dest := r.port, age := 0, lstamp := us }).fdbCnt 1).fdbReport true r.sa r.fid 2 r.port e.dest us

/-- The pipe whose head request the engine takes (R144, R19). -/
def Dev.learnPipe (d : Dev) : Nat :=
  match d.learnQ.get 0, d.learnQ.get 1 with
  | [], _ => 1
  | _, [] => 0
  | a :: _, b :: _ => if a.stamp < b.stamp then 0 else if b.stamp < a.stamp then 1 else d.cycle % 2

/-- The learn engine takes one request. -/
def Dev.learnProcess (d : Dev) : Dev :=
  let p := d.learnPipe
  match d.learnQ.get p with
  | [] => d
  | r :: q => { d with learnQ := d.learnQ.put p q }.learn r

def execLearnRequestProcess (s : State) : Out := s.later 5 0 (·.learnProcess)

/-! ## Ageing and flushes (R147 to R150) -/

/-- The ager visits a place. Its place in the cycle is after the learn engine's, so that a refresh wins (R148, R152). -/
def Dev.agerVisit (d : Dev) (i : Nat) : Dev :=
  let e := d.fdb.get i
  if e.valid && d.bad 1 i then d.fdbParity i
  else if !e.valid || e.isStatic || d.freshNow.fresh.any (fun x => x.1 == i) then d
  else
    let sup := if d.on F.PLATE_STATUS_RETIRING then none else d.fdbStatic e.mac e.fid (d.get F.PLATE_STATUS_ACTIVE)
    match sup with
    | some k => d.fdbRemove i 9 (d.fdb.get k).dest e.lstamp true
    | none =>
      if d.get F.FDB_CFG_AGE_TIME ≠ 0 ∧ e.age = 4 then (d.fdbCnt 2).fdbRemove i 3 0 e.lstamp true
      else d.fdbEngine i { e with age := min (e.age + 1) 7 }

def execAgerVisit (i : Fin 262144) (us : List Upset) (s : State) : Out := s.later 5 1 (fun d => (d.upset us).agerVisit i)

/-- A flush sweep runs. -/
def Dev.flushBusy (d : Dev) : Bool := d.flushRun.isSome || !d.downRun.isEmpty

/-- A sweep begins at the first place (R149). -/
def Dev.sweepBegin (d : Dev) : Dev := { d with flushCnt := 0, sweepAt := d.cycle, sweepPos := 0 }

/-- FLUSH_START with a specification, `sfi` when a PENDING command waits for it: started, queued, or ignored (R149).
Says whether it was taken. -/
def Dev.flushStart (d : Dev) (spec : Nat) (sfi : Bool) : Dev × Bool :=
  let v := spec % 2 ^ 24 + 2 ^ 24 * b2n sfi
  if !d.flushBusy then ({ d with flushRun := some v }.sweepBegin, true)
  else if d.flushQ.isNone then ({ d with flushQ := some v }, true)
  else (d, false)

def execFlushStart (m : Fin 32) (s : State) : Out :=
  s.write m .FDB_CMD 0 1 (fun d _ => (d.flushStart (d.reg .FDB_FLUSH_SPEC) false).1)

/-- A down-flush sweep starts for the ports that wait, once no sweep runs. -/
def Dev.downStart (d : Dev) : Dev :=
  if !d.flushBusy && !d.downSet.isEmpty then { d with downRun := d.downSet, downSet := [] }.sweepBegin else d

def execDownFlushSweepStart (s : State) : Out := s.later 5 0 (·.downStart)

/-- The next sweep starts: down flushes before the queued FDB_FLUSH. -/
def Dev.nextSweep (d : Dev) : Dev :=
  if !d.downSet.isEmpty then d.downStart
  else { d with flushRun := d.flushQ, flushQ := none }.sweepBegin

/-- A sweep visits its places up to `n`: learned entries with a property are removed (R149). -/
def Dev.flushMatch (d : Dev) (n : Nat) (f : Fdb → Bool) (ring : Bool) : Dev :=
  let hits := d.fdb.filter (fun x => decide (d.sweepPos ≤ x.1 ∧ x.1 < n) && x.2.valid && !x.2.isStatic && f x.2)
  { hits.foldl (fun d x => { d.fdbRemove x.1 8 0 x.2.lstamp ring with flushCnt := d.flushCnt + 1 }) d with sweepPos := max d.sweepPos n }

/-- The entry matches an FDB_FLUSH_SPEC. -/
def flushHits (spec : Nat) (e : Fdb) : Bool :=
  (decide (bitsOf spec 21 21 = 0) || e.dest == bitsOf spec 8 0) && (decide (bitsOf spec 22 22 = 0) || e.fid == bitsOf spec 20 9)

/-- The sweep in progress visits its places up to `n`. -/
def Dev.sweepVisit (d : Dev) (n : Nat) : Dev :=
  if !d.downRun.isEmpty then d.flushMatch n (fun e => d.downRun.contains e.dest) true
  else match d.flushRun with
    | some v => d.flushMatch n (flushHits v) (decide (bitsOf v 23 23 = 1))
    | none => d

/-- The places a sweep has visited when a core cycle ends: one in two cycles, 262,144 within 350 µs (R149; DEDUCED, log entry
111). -/
def Dev.sweepTick (d : Dev) : Dev := if d.flushBusy then d.sweepVisit (min 262144 ((d.cycle - d.sweepAt) / 2)) else d

/-- A flush sweep ends: the places it has not come to are visited. -/
def Dev.sweepDone (d : Dev) : Dev :=
  let d := d.sweepVisit 262144
  if !d.downRun.isEmpty then { d with downRun := [] }.nextSweep
  else
    match d.flushRun with
    | none => d
    | some v =>
      let d := (d.raise F.FDB_EVENT_FLUSH_DONE).fdbRec 0 0x050F 1 d.flushCnt 0 0 0
      let d := { d with flushRun := none }.nextSweep
      match (if 2 ^ 24 ≤ v then d.jobs.find? (fun j => j.op == 0x313) else none) with
      | some j => d.finishJob j .ok
      | none => d

def execFlushSweepDone (s : State) : Out := s.later 5 2 (·.sweepDone)

/-- The host advances LR_CONS (R153, R163). -/
def Dev.lrCons (d : Dev) (w : Nat) : Dev := (d.store .LR_CONS 0 w).lrSettle

def execLrConsWrite (m : Fin 32) (w : Word) (s : State) : Out :=
  s.write m .LR_CONS 0 w.toNat (fun d w => d.lrCons w)

end Sys2Proof.Machine
end

