-- ==== Sys2Proof/Machine/Tables.lean ====
section
/-! DEFINITION. The plated tables and the VLAN table (R101 to R112, R133, R155 to R161): rules, edit instructions,
routes, next hops, groups, static FDB entries, their staging, their words under indirect access, and the SFI commands
of R162. -/

namespace Sys2Proof.Machine

/-! ## Rules (R101 to R104) -/

/-- The hash word of a stored key (R102). -/
def ruleHash (prof key : Nat) : Nat := crc32c (beBytes 1 (prof % 32) ++ beBytes 40 key)

/-- The candidate buckets of a rule in its table, by their first places. -/
def ruleBank0 (tbl prof key : Nat) : Nat := 8192 * tbl + 4 * (ruleHash prof key % 1024)
def ruleBank1 (tbl prof key : Nat) : Nat := 8192 * tbl + 4096 + 4 * (ruleHash prof key / 65536 % 1024)

/-- The eight candidate places. -/
def ruleCands (tbl prof key : Nat) : List Nat := slots4 (ruleBank0 tbl prof key) ++ slots4 (ruleBank1 tbl prof key)

/-- The place of a rule that a plate sees (R110). -/
def Dev.ruleFind (d : Dev) (tbl prof key plate : Nat) : Option Nat :=
  (ruleCands tbl prof key).find? (fun i =>
    let r := d.rules.get i
    decide (r.mask / 2 ^ plate % 2 = 1) && r.prof == prof && r.key == key)

/-- Inserts a rule (R101, R102): into a free place or along a relocation path; none when there is no place. -/
def Dev.ruleInsert (d : Dev) (tbl : Nat) (r : Rule) : Dev × Option Nat :=
  let free := fun i => (d.rules.get i).mask == 0
  let b0 := ruleBank0 tbl r.prof r.key
  match (ruleCands tbl r.prof r.key).find? free with
  | some i => ({ d with rules := d.rules.put i r }.mend 0 i, some i)
  | none =>
    let other := fun i =>
      let x := d.rules.get i
      if i % 8192 < 4096 then ruleBank1 tbl x.prof x.key else ruleBank0 tbl x.prof x.key
    match relocSearch free other 16 d b0 [] with
    | (d, some (path, p)) => ({ d with rules := pathPut d.rules r (path ++ [p]) }.mend 0 p, path.head?)
    | (d, none) => (d, none)

/-- An action's encodings are legal (R104, R266): its reserved bits are zero, its encodings not reserved. -/
def actionBits (a : Nat) : Bool := decide (a < 2 ^ 91 ∧ bitsOf a 2 0 ≠ 7 ∧ bitsOf a 26 25 ≠ 3 ∧ bitsOf a 71 68 < 8)

/-- An SFI command may stage the action (R9): its single port exists. -/
def actionOk (a : Nat) : Bool := actionBits a && (bitsOf a 2 0 != 3 || decide (bitsOf a 12 4 ≤ 260))

/-! ## Plates (R110 to R112) -/

/-- The active plate and the shadow's number. -/
def Dev.activePlate (d : Dev) : Nat := d.get F.PLATE_STATUS_ACTIVE
def Dev.shadowPlate (d : Dev) : Nat := (d.activePlate + 1) % 8

/-- Sets or clears a plate's bit of a membership mask. -/
def maskSet (m plate : Nat) (v : Bool) : Nat :=
  if decide (m / 2 ^ plate % 2 = 1) = v then m else if v then m + 2 ^ plate else m - 2 ^ plate

/-- A free hint of the remaining sweep time, at most 60 µs (R358). -/
def Dev.sweepBusy (d : Dev) (detail : Nat) : Dev × Ans :=
  let r := d.draw 6
  (r.2, { Ans.busy 4 (r.1 % 7) with detail := detail })

/-- The shadow accepts staging, or the answer that refuses it (R111, R112). -/
def Dev.canStage (d : Dev) : Option Ans :=
  if !d.on F.PLATE_STATUS_SHADOW_OPEN then some .invalid
  else if d.sweep ≠ 0 then some (.busy 4 6)
  else if d.on F.PLATE_STATUS_COMMIT_ARMED then some (.busy 5)
  else none

/-- Another session owns the shadow, or an admission's own plate is on its way (R127). A shadow that a register command
opened has no session for owner: any session may stage into it (DEDUCED, entry 41). -/
def Dev.otherOwns (d : Dev) (ch : Nat) : Bool :=
  d.owner != 0 && d.owner != ch + 1 && !(d.owner == 33 && d.autoPlate == 0)

/-- A command of the table group (R127): every other session is busy while a shadow is owned. -/
def Dev.tabCmd (d : Dev) (ch : Nat) (k : Dev → Dev × Ans) : Dev × Ans :=
  if d.otherOwns ch then (d, .busy 3) else k d

/-- A command that stages into the session's shadow (R162). -/
def Dev.stageCmd (d : Dev) (ch : Nat) (k : Dev → Dev × Ans) : Dev × Ans :=
  d.tabCmd ch (fun d => match d.canStage with
    | some a => if a.cause = 4 then d.sweepBusy 0 else (d, a)
    | none => k d)

/-! ## Words under indirect access (R160) -/

/-- Word `k` of a number. -/
def wordOf (v k : Nat) : Nat := v / 2 ^ (32 * k) % 2 ^ 32

/-- A number from words, word 0 lowest. -/
def ofWords (ws : List Nat) : Nat := ws.foldr (fun w a => w % 2 ^ 32 + 2 ^ 32 * a) 0

/-- An FDB entry's words. -/
def fdbWords (e : Fdb) (bad : Bool) : List Nat :=
  [wordOf e.mac 0, e.mac / 2 ^ 32 % 65536 + 65536 * (e.fid % 4096) + 2 ^ 28 * b2n e.valid + 2 ^ 29 * b2n e.isStatic
     + 2 ^ 30 * (e.dtype % 4),
   e.dest % 16384 + 2 ^ 14 * (e.age % 8) + 2 ^ 17 * (if !e.valid then 0 else if e.isStatic then e.mask else 255) + 2 ^ 25 * b2n bad, e.lstamp]

/-- An FDB entry from its words; PLATE_MASK is the model's to set. -/
def fdbOfWords (ws : List Nat) : Fdb :=
  let w1 := ws.getD 1 0
  let w2 := ws.getD 2 0
  { valid := decide (bitsOf w1 28 28 = 1), isStatic := decide (bitsOf w1 29 29 = 1),
    mac := ws.getD 0 0 % 2 ^ 32 + bitsOf w1 15 0 * 2 ^ 32, fid := bitsOf w1 27 16, dtype := bitsOf w1 31 30,
    dest := bitsOf w2 13 0, age := bitsOf w2 16 14, lstamp := ws.getD 3 0 % 2 ^ 32, mask := 0 }

/-- A rule's words. -/
def ruleWords (r : Rule) : List Nat :=
  (List.range 10).map (wordOf r.key) ++ [r.prof % 32 + 256 * (r.mask % 256), 0] ++ (List.range 4).map (wordOf r.action)

/-- A route's words, IPv4 or IPv6. -/
def routeWords (v6 : Bool) (r : Route) : List Nat :=
  (List.range (if v6 then 4 else 1)).map (wordOf r.pfx) ++ [r.len % 256 + 256 * (r.mask % 256), r.nh % 8192]

/-- A VLAN entry's words, and an entry from words. -/
def vlanWords (v : Vlan) : List Nat :=
  [b2n v.valid + 2 * (v.fid % 4096) + 2 ^ 13 * (v.group % 16384) + 2 ^ 27 * b2n v.memberAll + 2 ^ 28 * b2n v.filter
     + 2 ^ 29 * b2n v.learn, v.unkUc % 4 + 4 * (v.unkMc % 4)]

def vlanOfWords (ws : List Nat) : Vlan :=
  let w := ws.getD 0 0
  { valid := decide (bitsOf w 0 0 = 1), fid := bitsOf w 12 1, group := bitsOf w 26 13, memberAll := decide (bitsOf w 27 27 = 1),
    filter := decide (bitsOf w 28 28 = 1), learn := decide (bitsOf w 29 29 = 1), unkUc := bitsOf (ws.getD 1 0) 1 0,
    unkMc := bitsOf (ws.getD 1 0) 3 2 }

/-- A fragment entry is live (R123): written and not expired. -/
def Dev.fragLive (d : Dev) (i : Nat) : Bool :=
  let f := d.frags.get i
  f.ver != 0 && decide (d.pt < f.expiry)

/-- A fragment entry's words. -/
def Dev.fragWords (d : Dev) (i : Nat) : List Nat :=
  let f := d.frags.get i
  (List.range 4).map (wordOf f.src) ++ (List.range 4).map (wordOf f.dst) ++
    [f.ident % 2 ^ 32, f.proto % 256 + 256 * (f.plate % 8) + 2 ^ 11 * b2n (f.ver == 6) + 2 ^ 12 * b2n (d.fragLive i),
     f.expiry / 65536 % 2 ^ 32, 0] ++ (List.range 4).map (wordOf f.action)

/-- The number of entries of a table (R160). -/
def tblSize (id : Nat) : Nat :=
  if id = 0 then 262144 else if id ≤ 8 then 8192 else if id = 9 then 16384 else if id = 10 then 65536
  else if id = 11 then 16384 else if id = 12 then 8192 else if id = 13 then 16384 else if id = 14 then 4096
  else if id = 15 then 4096 else 0

/-- The version of an indexed plated table that a plate uses (R159). -/
def ver (size plate i : Nat) : Nat := plate % 2 * size + i

/-- An entry's data words, in the active or the shadow version. -/
def Dev.tblWords (d : Dev) (id i plate : Nat) : List Nat :=
  if id = 0 then fdbWords (d.fdb.get i) (d.bad 1 i)
  else if id ≤ 8 then ruleWords (d.rules.get (8192 * (id - 1) + i))
  else if id = 9 then (d.edits.get (ver 16384 plate i) ++ List.replicate 7 0).take 7
  else if id = 10 then routeWords false (d.routes.get i)
  else if id = 11 then routeWords true (d.routes.get (65536 + i))
  else if id = 12 then [d.nexthops.get (ver 8192 plate i)]
  else if id = 13 then (List.range 9).map (wordOf (d.groups.get (ver 16384 plate i)))
  else if id = 14 then vlanWords (d.vlans.get i)
  else d.fragWords i

/-- The parity of an entry is bad. -/
def Dev.tblBad (d : Dev) (id i plate : Nat) : Bool :=
  if id = 0 then d.bad 1 i else if id ≤ 8 then d.bad 0 (8192 * (id - 1) + i)
  else if id = 9 then d.bad 8 (ver 16384 plate i) else if id = 10 then d.bad 2 i else if id = 11 then d.bad 2 (65536 + i)
  else if id = 12 then d.bad 3 (ver 8192 plate i) else if id = 13 then d.bad 4 (ver 16384 plate i) else false

/-- A shadow write reaches the peer die (R428). -/
def Dev.mirrorTbl (d : Dev) (id i : Nat) : Dev := d.mirror false ([1, id, i] ++ d.tblWords id i d.shadowPlate)

/-! ## Staging (R112, R138, R155, R159) -/

/-- Adds a rule to the shadow, in the table its profile names there. -/
def Dev.stageRule (d : Dev) (prof key action : Nat) : Dev × Ans :=
  let tbl := d.get F.PROF_CFG_TABLE prof
  if !(decide (prof < 32 ∧ key < 2 ^ 320) && actionOk action) then (d, .invalid)
  else if (d.ruleFind tbl prof key d.shadowPlate).isSome then (d, .invalid)
  else match d.ruleInsert tbl { prof := prof, key := key, mask := 2 ^ d.shadowPlate, action := action } with
    | (d, some i) => (d.mirrorTbl (1 + i / 8192) (i % 8192), .ok)
    | (d, none) => (d, .noResource)

/-- Removes a rule from the shadow; one that was added in it is freed at once. -/
def Dev.unstageRule (d : Dev) (prof key : Nat) : Dev × Ans :=
  match (if prof < 32 then d.ruleFind (d.get F.PROF_CFG_TABLE prof) prof key d.shadowPlate else none) with
  | none => (d, .invalid)
  | some i =>
    let r := d.rules.get i
    let m := maskSet r.mask d.shadowPlate false
    ({ d with rules := d.rules.put i (if m = 0 then default else { r with mask := m }) }.mirrorTbl (1 + i / 8192) (i % 8192), .ok)

/-- The static entry of a key in the shadow. -/
def Dev.shadowStatic (d : Dev) (mac fid : Nat) : Option Nat := d.fdbStatic mac fid d.shadowPlate

/-- A static entry's encodings are legal (R137). -/
def staticBits (mac fid dtype dest : Nat) : Bool := decide (mac < 2 ^ 48 ∧ fid < 4096 ∧ dtype < 3 ∧ dest < 16384)

/-- An SFI command may stage the static entry (R9). -/
def staticOk (mac fid dtype dest : Nat) : Bool := staticBits mac fid dtype dest && (dtype != 0 || decide (dest ≤ 260))

/-- An insertion that is refused, all eight candidates being static, is counted and reported as such (R140). -/
def Dev.fdbPlace (d : Dev) (e : Fdb) (port : Nat) : Dev × Option Nat :=
  match d.fdbInsert e port with
  | (d, some i) => (d, some i)
  | (d, none) => (d.learnRefused { (default : LearnReq) with sa := e.mac, fid := e.fid, port := port, stamp := d.cycle } 10 0, none)

/-- Adds a static FDB entry to the shadow. -/
def Dev.stageStatic (d : Dev) (mac fid dtype dest : Nat) : Dev × Ans :=
  if !staticBits mac fid dtype dest || (d.shadowStatic mac fid).isSome then (d, .invalid)
  else match d.fdbPlace { (default : Fdb) with valid := true, isStatic := true, mac := mac, fid := fid, dtype := dtype,
                                                dest := dest, mask := 2 ^ d.shadowPlate } 0 with
    | (d, some i) => (d.mirrorTbl 0 i, .ok)
    | (d, none) => (d, .noResource)

/-- Clears a static entry's shadow bit. -/
def Dev.clearStatic (d : Dev) (i : Nat) : Dev :=
  let e := d.fdb.get i
  let m := maskSet e.mask d.shadowPlate false
  (d.fdbPut i (if m = 0 then default else { e with mask := m })).mirrorTbl 0 i

def Dev.unstageStatic (d : Dev) (mac fid : Nat) : Dev × Ans :=
  match d.shadowStatic mac fid with
  | some i => (d.clearStatic i, .ok)
  | none => (d, .invalid)

/-- Writes the shadow version of a group, a next hop or an edit instruction. -/
def Dev.stageGroup (d : Dev) (g v : Nat) : Dev :=
  ({ d with groups := d.groups.put (ver 16384 d.shadowPlate g) v }.mend 4 (ver 16384 d.shadowPlate g)).mirrorTbl 13 g
def Dev.stageHop (d : Dev) (i v : Nat) : Dev :=
  ({ d with nexthops := d.nexthops.put (ver 8192 d.shadowPlate i) v }.mend 3 (ver 8192 d.shadowPlate i)).mirrorTbl 12 i
def Dev.stageEdit (d : Dev) (i : Nat) (ws : List Nat) : Dev :=
  let ws := if ws.all (· == 0) then [] else (ws ++ List.replicate 7 0).take 7
  ({ d with edits := d.edits.put (ver 16384 d.shadowPlate i) ws }.mend 8 (ver 16384 d.shadowPlate i)).mirrorTbl 9 i

/-- A group bitmap names ports 0 to 257 and 260 only (R158). -/
def groupOk (v : Nat) : Bool := decide (v < 2 ^ 261 ∧ v / 2 ^ 258 % 4 = 0)

/-- Width of an address of a family, and the result entries it has (R155). -/
def addrBits (v6 : Bool) : Nat := if v6 then 128 else 32
def routeBase (v6 : Bool) : Nat := if v6 then 65536 else 0
def routeMax (v6 : Bool) : Nat := if v6 then 16384 else 65536

/-- The occupied result entries of a family. -/
def Dev.famRoutes (d : Dev) (v6 : Bool) : List (Nat × Route) :=
  d.routes.filter (fun e => decide (65536 ≤ e.1) == v6 && e.2.mask != 0)

/-- Distinct leading bits under which a longer prefix exists. -/
def trieNodes (w : Nat) (rs : List Route) (bits : Nat) : Nat :=
  ((rs.filter (fun r => decide (bits < r.len))).map (fun r => r.pfx / 2 ^ (w - bits))).eraseDups.length

/-- The nodes of a family's prefixes fit its pools (R155). -/
def trieFits (v6 : Bool) (rs : List Route) : Bool :=
  if v6 then decide ((List.range 14).foldl (fun n j => n + trieNodes 128 rs (16 + 8 * j)) 0 ≤ 16384)
  else decide (trieNodes 32 rs 16 ≤ 8192 ∧ trieNodes 32 rs 24 ≤ 8192)

/-- A prefix with the bits beyond its length cleared. -/
def cleanPfx (v6 : Bool) (pfx len : Nat) : Nat := pfx / 2 ^ (addrBits v6 - len) * 2 ^ (addrBits v6 - len)

/-- The entry of a prefix that a plate sees. -/
def Dev.routeFind (d : Dev) (v6 : Bool) (pfx len plate : Nat) : Option Nat :=
  ((d.famRoutes v6).find? (fun e => decide (e.2.mask / 2 ^ plate % 2 = 1) && e.2.pfx == pfx && e.2.len == len)).map Prod.fst

/-- The longest prefix that a plate sees and that covers an address (R155). -/
def Dev.routeLookup (d : Dev) (v6 : Bool) (addr plate : Nat) : Option Nat :=
  ((d.famRoutes v6).foldl (fun (b : Option (Nat × Nat)) e =>
    let w := addrBits v6
    if e.2.mask / 2 ^ plate % 2 = 1 ∧ addr / 2 ^ (w - e.2.len) = e.2.pfx / 2 ^ (w - e.2.len) ∧
        (match b with | some (l, _) => decide (l < e.2.len) | none => true) = true
    then some (e.2.len, e.1) else b) none).map Prod.snd

/-- Adds a prefix to the shadow. -/
def Dev.stageRoute (d : Dev) (v6 : Bool) (pfx len nh : Nat) : Dev × Ans :=
  if addrBits v6 < len ∨ 2 ^ addrBits v6 ≤ pfx ∨ 8192 ≤ nh then (d, .invalid)
  else
    let pfx := cleanPfx v6 pfx len
    if (d.routeFind v6 pfx len d.shadowPlate).isSome then (d, .invalid)
    else
      let r : Route := { pfx := pfx, len := len, mask := 2 ^ d.shadowPlate, nh := nh }
      match (List.range (routeMax v6)).find? (fun i => (d.routes.get (routeBase v6 + i)).mask == 0) with
      | none => (d, .noResource)
      | some i =>
        if trieFits v6 (r :: (d.famRoutes v6).map Prod.snd) then
          ({ d with routes := d.routes.put (routeBase v6 + i) r }.mirrorTbl (if v6 then 11 else 10) i, .ok)
        else (d, .noResource)

/-- Removes a prefix from the shadow. -/
def Dev.unstageRoute (d : Dev) (v6 : Bool) (pfx len : Nat) : Dev × Ans :=
  if addrBits v6 < len then (d, .invalid)
  else match d.routeFind v6 (cleanPfx v6 pfx len) len d.shadowPlate with
    | none => (d, .invalid)
    | some k =>
      let r := d.routes.get k
      let m := maskSet r.mask d.shadowPlate false
      ({ d with routes := d.routes.put k (if m = 0 then default else { r with mask := m }) }.mirrorTbl (if v6 then 11 else 10)
        (k - routeBase v6), .ok)

/-! ## Indirect access (R160, R161) -/

/-- An indirect command's outcome: RESULT (0 OK, 1 MISS, 2 NO_RESOURCE, 3 INVALID, 4 PARITY) and RESULT_INDEX. -/
abbrev IndRes := Dev × Nat × Nat

/-- Words of a data register bank. -/
def Dev.dataWords (d : Dev) (r : RegName) (base n : Nat) : List Nat := (List.range n).map (fun k => d.reg r (base + k))

/-- Writes a bank's words; the rest reads 0. -/
def Dev.putWords (d : Dev) (r : RegName) (base n : Nat) (ws : List Nat) : Dev :=
  (List.range n).foldl (fun d k => d.setReg r (base + k) (ws.getD k 0)) d

def Dev.tblRead (d : Dev) (c id i : Nat) : IndRes :=
  let plate := if d.on F.TBL_SEL_SHADOW_RD c then d.shadowPlate else d.activePlate
  (d.putWords .TBL_DATA (16 * c) 16 (d.tblWords id i plate), if d.tblBad id i plate then 4 else 0, i)

/-- A static FDB entry written at its place: the shadow bit only. -/
def Dev.writeStatic (d : Dev) (i : Nat) (e : Fdb) : IndRes :=
  let old := d.fdb.get i
  let same := old.valid && old.isStatic && old.mac == e.mac && old.fid == e.fid
  if d.canStage.isSome || !staticBits e.mac e.fid e.dtype e.dest then (d, 3, i)
  else if !e.valid then (if same then (d.clearStatic i, 0, i) else (d, 3, i))
  else if same && old.dtype == e.dtype && old.dest == e.dest then
    ((d.fdbPut i { old with mask := maskSet old.mask d.shadowPlate true }).mirrorTbl 0 i, 0, i)
  else if (!d.fdbLive i || (old.isStatic && old.mask == 2 ^ d.shadowPlate) || !old.isStatic) &&
      (d.shadowStatic e.mac e.fid).all (· == i) then
    ((d.fdbPut i { e with mask := 2 ^ d.shadowPlate, age := 0, lstamp := 0 }).mirrorTbl 0 i, 0, i)
  else (d, 3, i)

/-- An FDB entry written at its place (R160, R161): the key must have the place among its candidates. -/
def Dev.writeFdb (d : Dev) (i : Nat) (ws : List Nat) : IndRes :=
  let e := fdbOfWords ws
  if !(fdbCands e.mac e.fid).contains i then (d, 3, i)
  else if e.isStatic then d.writeStatic i e
  else if ((d.fdb.get i).valid && (d.fdb.get i).isStatic) || (e.valid && e.dtype != 0) then (d, 3, i)
  else (d.fdbPut i (if e.valid then e else default), 0, i)

/-- A rule written at its place: the shadow bit only. -/
def Dev.writeRule (d : Dev) (tbl i : Nat) (ws : List Nat) : IndRes :=
  let k := 8192 * tbl + i
  let key := ofWords (ws.take 10)
  let prof := ws.getD 10 0 % 32
  let act := ofWords (ws.drop 12)
  let old := d.rules.get k
  let want := decide (ws.getD 10 0 / 2 ^ (8 + d.shadowPlate) % 2 = 1)
  if d.canStage.isSome || !(ruleCands tbl prof key).contains k || !actionBits act then (d, 3, i)
  else if old.mask != 0 && old.prof == prof && old.key == key && old.action == act then
    let m := maskSet old.mask d.shadowPlate want
    ({ d with rules := d.rules.put k (if m = 0 then default else { old with mask := m }) }.mend 0 k |>.mirrorTbl (1 + tbl) i, 0, i)
  else if (old.mask == 0 || old.mask == 2 ^ d.shadowPlate) && (d.ruleFind tbl prof key d.shadowPlate).all (· == k) then
    ({ d with rules := d.rules.put k (if want then { prof := prof, key := key, mask := 2 ^ d.shadowPlate, action := act } else default) }.mend 0 k |>.mirrorTbl (1 + tbl) i, 0, i)
  else (d, 3, i)

/-- A VLAN entry's encodings are legal. -/
def Vlan.ok (v : Vlan) : Bool := decide (v.fid < 4096 ∧ v.group < 16384 ∧ v.unkUc < 3 ∧ v.unkMc < 3)

/-- An edit instruction is legal (R9, R221): no reserved count, its reserved bits zero. -/
def editOk (ws : List Nat) : Bool :=
  let w (k : Nat) := ws.getD k 0
  decide (bitsOf (w 0) 1 0 < 3 ∧ bitsOf (w 0) 3 2 < 3 ∧ w 0 < 65536 ∧ w 1 < 131072 ∧ w 2 < 65536 ∧ w 6 < 65536 ∧ w 7 = 0)

/-- WRITE. An entry that names a port 261 to 511 is stored: the frames it decides are discarded (R9). -/
def Dev.tblWrite (d : Dev) (id i : Nat) (ws : List Nat) : IndRes :=
  if id = 0 then d.writeFdb i ws
  else if id ≤ 8 then d.writeRule (id - 1) i ws
  else if id = 14 then
    let v := vlanOfWords ws
    if v.ok then ({ d with vlans := d.vlans.put i v }, 0, i) else (d, 3, i)
  else if id = 10 ∨ id = 11 ∨ id = 15 ∨ d.canStage.isSome then (d, 3, i)
  else if id = 9 then (if editOk ws then (d.stageEdit i ws, 0, i) else (d, 3, i))
  else if id = 12 then (d.stageHop i (ws.getD 0 0 % 2 ^ 31), 0, i)
  else
    let v := ofWords (ws.take 9)
    if groupOk v then (d.stageGroup i v, 0, i) else (d, 3, i)

/-- An index found, or MISS. -/
def hitOr (d : Dev) (o : Option Nat) : IndRes := match o with | some i => (d, 0, i) | none => (d, 1, 0)

/-- LOOKUP: a key of a hashed table or a prefix, as the active plate sees it. -/
def Dev.tblLookup (d : Dev) (id : Nat) (ws : List Nat) : IndRes :=
  let p := d.activePlate
  if id = 0 then
    let e := fdbOfWords ws
    let d := d.fdbRead e.mac e.fid
    hitOr d (d.fdbLookup e.mac e.fid p)
  else if id ≤ 8 then
    hitOr d ((d.ruleFind (id - 1) (ws.getD 10 0 % 32) (ofWords (ws.take 10)) p).map (· % 8192))
  else if id = 10 then hitOr d (d.routeFind false (ws.getD 0 0) (ws.getD 1 0 % 256) p)
  else if id = 11 then hitOr d ((d.routeFind true (ofWords (ws.take 4)) (ws.getD 4 0 % 256) p).map (· - 65536))
  else if id = 15 then
    hitOr d ((d.frags.find? (fun e => d.fragLive e.1 && (d.fragWords e.1).take 9 == ws.take 9 &&
      e.2.proto == ws.getD 9 0 % 256 && (e.2.ver == 6) == decide (bitsOf (ws.getD 9 0) 11 11 = 1))).map Prod.fst)
  else (d, 3, 0)

/-- INSERT (R139, R140). -/
def Dev.tblInsert (d : Dev) (id : Nat) (ws : List Nat) : IndRes :=
  if id = 0 then
    let e := fdbOfWords ws
    if e.isStatic then
      if d.canStage.isSome then (d, 3, 0)
      else match d.stageStatic e.mac e.fid e.dtype e.dest with
        | (d, a) => if a.st = 0 then (d, 0, (d.shadowStatic e.mac e.fid).getD 0) else (d, if a.st = 4 then 2 else 3, 0)
    else if e.dtype ≠ 0 then (d, 3, 0)
    else match d.fdbLearned e.mac e.fid with
      | some i => (d.fdbPut i { e with valid := true }, 0, i)
      | none => match d.fdbPlace { e with valid := true } e.dest with
        | (d, some i) => (d, 0, i)
        | (d, none) => (d, 2, 0)
  else if id ≤ 8 then
    let key := ofWords (ws.take 10)
    let prof := ws.getD 10 0 % 32
    let act := ofWords (ws.drop 12)
    if d.canStage.isSome || !actionBits act || (d.ruleFind (id - 1) prof key d.shadowPlate).isSome then (d, 3, 0)
    else match d.ruleInsert (id - 1) { prof := prof, key := key, mask := 2 ^ d.shadowPlate, action := act } with
      | (d, some i) => (d.mirrorTbl id (i % 8192), 0, i % 8192)
      | (d, none) => (d, 2, 0)
  else (d, 3, 0)

/-- DELETE: a learned entry at once, a plated one from the shadow. -/
def Dev.tblDelete (d : Dev) (id : Nat) (ws : List Nat) : IndRes :=
  if id = 0 then
    let e := fdbOfWords ws
    if e.isStatic then
      if d.canStage.isSome then (d, 3, 0)
      else match d.shadowStatic e.mac e.fid with
        | some i => (d.clearStatic i, 0, i)
        | none => (d, 1, 0)
    else match d.fdbLearned e.mac e.fid with
      | some i => (d.fdbPut i default, 0, i)
      | none => (d, 1, 0)
  else if id ≤ 8 then
    if d.canStage.isSome then (d, 3, 0)
    else match d.ruleFind (id - 1) (ws.getD 10 0 % 32) (ofWords (ws.take 10)) d.shadowPlate with
      | none => (d, 1, 0)
      | some i =>
        let r := d.rules.get i
        let m := maskSet r.mask d.shadowPlate false
        ({ d with rules := d.rules.put i (if m = 0 then default else { r with mask := m }) }.mirrorTbl id (i % 8192), 0, i % 8192)
  else (d, 3, 0)

/-- An access's outcome waits behind BUSY (R161). -/
def Dev.tblShow (_ : Dev) (c : Nat) (r : IndRes) : Dev :=
  { r.1 with tblRes := r.1.tblRes.put c (1 + 2 * r.2.1 + 16 * (r.2.2 % 2 ^ 18)) }.set F.TBL_STATUS_BUSY c 1

/-- An indirect access that writes the FDB entry a data-path write has met in this core cycle (R20, R152). -/
def Dev.tblMeets (d : Dev) (c w : Nat) : Bool :=
  let ws := d.dataWords .TBL_DATA (16 * c) 16
  let e := fdbOfWords ws
  d.get F.TBL_SEL_TBL_ID c == 0 &&
    (if w = 2 then d.fdbTouched (d.get F.TBL_SEL_INDEX c) else (w == 8 || w == 16) && (fdbCands e.mac e.fid).any d.fdbTouched)

/-- A command of a TABLES context is carried out; its status word is shown when the access is done. While one is in
progress a further command has no effect. Where a data-path write has met the entry in this core cycle, the access is made in
the next (R152). -/
def Dev.tblCmd (d : Dev) (c w : Nat) : Dev :=
  if d.on F.TBL_STATUS_BUSY c then d
  else
    let d := if d.tblMeets c w then d.nextCycle else d
    let id := d.get F.TBL_SEL_TBL_ID c
    let i := d.get F.TBL_SEL_INDEX c
    let ws := d.dataWords .TBL_DATA (16 * c) 16
    let r : IndRes :=
      if tblSize id = 0 then (d, 3, 0)
      else if w = 1 ∨ w = 2 then (if tblSize id ≤ i then (d, 3, i) else if w = 1 then d.tblRead c id i else d.tblWrite id i ws)
      else if w = 4 then d.tblLookup id ws
      else if w = 8 then d.tblInsert id ws
      else if w = 16 then d.tblDelete id ws
      else (d, 3, i)
    d.tblShow c r

def execTblRead (m : Fin 32) (c : Fin 2) (s : State) : Out := s.write m .TBL_CMD c 1 (fun d _ => d.tblCmd c 1)
def execTblWrite (m : Fin 32) (c : Fin 2) (s : State) : Out := s.write m .TBL_CMD c 2 (fun d _ => d.tblCmd c 2)
def execTblLookup (m : Fin 32) (c : Fin 2) (s : State) : Out := s.write m .TBL_CMD c 4 (fun d _ => d.tblCmd c 4)
def execTblInsert (m : Fin 32) (c : Fin 2) (s : State) : Out := s.write m .TBL_CMD c 8 (fun d _ => d.tblCmd c 8)
def execTblDelete (m : Fin 32) (c : Fin 2) (s : State) : Out := s.write m .TBL_CMD c 16 (fun d _ => d.tblCmd c 16)

/-- The status register of an indirect context. -/
def indStatus (blk : Nat) : RegName := if blk = 0 then .TBL_STATUS else if blk = 1 then .SAC_STATUS else .TM_ACC_STATUS

/-- An indirect access completes (R161, R192, R258): BUSY clears and RESULT is set. -/
def Dev.indDone (d : Dev) (blk c : Nat) : Dev :=
  let v := d.tblRes.get (2 * blk + c)
  if v = 0 then d else { d with tblRes := d.tblRes.put (2 * blk + c) 0 }.setReg (indStatus blk) c (v - 1)

def execIndirectAccessDone (blk : Fin 3) (c : Fin 2) (s : State) : Out := s.actAt (fun _ => untied (if blk.val = 0 then 5 else if blk.val = 1 then 6 else 8) 3) (·.indDone blk c)

/-! ## The SFI commands of R162 -/

/-- Words after the reply word that a reply may hold: 14 on a mailbox, RSP_LEN on a command ring (R350). -/
def Dev.replyRoom (d : Dev) (rq : Sfi) (op : Nat) : Nat :=
  match (if rq.ring then d.cmdJobs.find? (fun j => j.ch == rq.ch.val && j.sfiTag == rq.tag.val && j.op == op) else none) with
  | some j => j.rspLen / 4 - 1
  | none => 14

/-- A listing reply (R350): as many whole entries as fit; DETAIL 1 and the NEXT index when more remain. `es` are the
entries with their indices. -/
def Dev.listing (d : Dev) (rq : Sfi) (op size : Nat) (es : List (Nat × List Nat)) : Ans :=
  let room := d.replyRoom rq op
  if es.length * size ≤ room then .okW (es.flatMap Prod.snd)
  else
    let n := (room - 1) / size
    { detail := 1, words := (es.take n).flatMap Prod.snd ++ [match es[n]? with | some e => e.1 | none => 0] }

def execFdbQuery (rq : Sfi) (key : Option (Nat × Nat)) (start count filter : Nat) (s : State) : Out :=
  s.sfi rq 0x310 0 (fun d _ => d.tabCmd rq.ch (fun d =>
    match key with
    | some (mac, fid) =>
      if 2 ^ 48 ≤ mac ∨ 4096 ≤ fid then (d, .invalid)
      else (d, d.listing rq 0x310 4 ((fdbCands mac fid).filterMap (fun i =>
        let e := d.fdb.get i
        if d.fdbLive i && e.mac == mac && e.fid == fid then some (i, fdbWords e false) else none)))
    | none =>
      if 262144 < start + count ∨ 2 < filter then (d, .invalid)
      else (d, d.listing rq 0x310 4 ((d.fdb.filter (fun x => decide (start ≤ x.1 ∧ x.1 < start + count) && x.2.valid &&
        (filter == 0 || x.2.isStatic == (filter == 2)))).map (fun x => (x.1, fdbWords x.2 (d.bad 1 x.1)))))))

def execFdbStaticAdd (rq : Sfi) (mac fid dtype dest : Nat) (s : State) : Out :=
  s.sfi rq 0x311 2 (fun d _ => d.stageCmd rq.ch (fun d =>
    if staticOk mac fid dtype dest then d.stageStatic mac fid dtype dest else (d, .invalid)))

def execFdbStaticDelete (rq : Sfi) (mac fid : Nat) (s : State) : Out :=
  s.sfi rq 0x312 2 (fun d _ => d.stageCmd rq.ch (fun d => d.unstageStatic mac fid))

/-- The flush of an FDB_FLUSH command (R149): PENDING, or BUSY while one is queued. -/
def Dev.fdbFlush (d : Dev) (port fid : Option Nat) (report : Bool) : Dev × Ans :=
  let p := port.getD 0
  let f := fid.getD 0
  if 260 < p ∨ 4096 ≤ f then (d, .invalid)
  else
    match d.flushStart (p + 512 * f + 2 ^ 21 * b2n port.isSome + 2 ^ 22 * b2n fid.isSome + 2 ^ 23 * b2n report) true with
    | (d, true) => (d, .pending)
    | (d, false) => (d, .busy 9)

def execFdbFlush (rq : Sfi) (port fid : Option Nat) (report : Bool) (s : State) : Out :=
  s.sfi rq 0x313 1 (fun d _ => d.tabCmd rq.ch (fun d => d.fdbFlush port fid report))

def execFdbConfig (rq : Sfi) (age hold evict miss : Nat) (s : State) : Out :=
  s.sfi rq 0x314 2 (fun d _ => d.tabCmd rq.ch (fun d =>
    okIf (F.FDB_CFG_AGE_TIME.ok age && F.FDB_CFG_MOVE_HOLD.ok hold && decide (evict < 2 ∧ miss < 2)) d
      ((((d.cfgF F.FDB_CFG_AGE_TIME 0 age).cfgF F.FDB_CFG_MOVE_HOLD 0 hold).cfgF F.FDB_CFG_EVICT_POLICY 0 evict).cfgF
        F.FDB_CFG_ROUTE_MISS_ACT 0 miss)))

def execPortLearnSet (rq : Sfi) (port : Nat) (learn flush : Bool) (as : Nat) (s : State) : Out :=
  s.sfi rq 0x315 2 (fun d _ => d.tabCmd rq.ch (fun d =>
    okIf (decide (port < 256) && F.FDB_PORT_CFG_LEARN_AS.ok as) d
      (d.cfg .FDB_PORT_CFG port (b2n learn + 2 * b2n flush + 4 * as))))

/-- VLAN_SET (R162): the fields whose mask bit is set, in the order of R133. -/
def Dev.vlanSet (d : Dev) (vid mask : Nat) (x : VlanArgs) : Dev × Ans :=
  let old : Vlan := if (d.vlans.get vid).valid then d.vlans.get vid else default
  let on (k : Nat) : Bool := decide (mask / 2 ^ k % 2 = 1)
  let v : Vlan :=
    { valid := if on 0 then x.valid else old.valid, fid := if on 1 then x.fid else old.fid,
      group := if on 2 then x.group else old.group, memberAll := if on 3 then x.memberAll else old.memberAll,
      filter := if on 4 then x.filter else old.filter, learn := if on 5 then x.learn else old.learn,
      unkUc := if on 6 then x.unkUc else old.unkUc, unkMc := if on 7 then x.unkMc else old.unkMc }
  okIf (decide (vid < 4096 ∧ mask < 256) && v.ok) d { d with vlans := d.vlans.put vid v }

def execVlanSet (rq : Sfi) (vid mask : Nat) (x : VlanArgs) (s : State) : Out :=
  s.sfi rq 0x316 2 (fun d _ => d.tabCmd rq.ch (fun d => d.vlanSet vid mask x))

def execGroupSet (rq : Sfi) (group bitmap : Nat) (s : State) : Out :=
  s.sfi rq 0x317 2 (fun d _ => d.stageCmd rq.ch (fun d =>
    okIf (decide (group < 16384) && groupOk bitmap) d (d.stageGroup group bitmap)))

def execRouteAdd (rq : Sfi) (v6 : Bool) (pfx len nh : Nat) (s : State) : Out :=
  s.sfi rq 0x318 2 (fun d _ => d.stageCmd rq.ch (fun d => d.stageRoute v6 pfx len nh))

def execRouteDelete (rq : Sfi) (v6 : Bool) (pfx len : Nat) (s : State) : Out :=
  s.sfi rq 0x319 2 (fun d _ => d.stageCmd rq.ch (fun d => d.unstageRoute v6 pfx len))

/-- A next-hop word (R160). -/
def hopWord (dtype dest : Nat) (edit : Option Nat) : Nat :=
  dtype + 4 * dest + 65536 * b2n edit.isSome + 131072 * edit.getD 0

def execNexthopSet (rq : Sfi) (index dtype dest : Nat) (edit : Option Nat) (s : State) : Out :=
  s.sfi rq 0x31A 2 (fun d _ => d.stageCmd rq.ch (fun d =>
    okIf (decide (index < 8192 ∧ dtype < 4 ∧ dest < 16384 ∧ edit.getD 0 < 16384 ∧ (dtype = 0 → dest ≤ 260))) d
      (d.stageHop index (hopWord dtype dest edit))))

/-- LEARN_RING_SET (R162). -/
def Dev.learnRingSet (d : Dev) (fn base size mask : Nat) (en : Bool) : Dev × Ans :=
  if !(decide (fn < 8 ∧ base < 2 ^ 64 ∧ base % 16 = 0 ∧ mask < 65536) && F.LR_CFG_LR_SIZE.ok size) then (d, .invalid)
  else if !d.dmaOk fn base (16 * 2 ^ size) true then (d, .denied)
  else
    ((((d.cfg .LR_BASE_LO 0 (base % 2 ^ 32)).cfg .LR_BASE_HI 0 (base / 2 ^ 32)).cfg .LR_CFG 0
      (b2n en + 2 * size + 32 * fn + 256 * mask)).lrSettle, .ok)

def execLearnRingSet (rq : Sfi) (fn base size mask : Nat) (en : Bool) (s : State) : Out :=
  s.sfi rq 0x31B 1 (fun d _ => d.tabCmd rq.ch (fun d => d.learnRingSet fn base size mask en))

end Sys2Proof.Machine
end

