-- ==== Sys2Proof/Machine/BpmCmd.lean ====
section
/-! DEFINITION. Packet memory's own commands (R199, R210, R218, R220, R224): carving, pause repeats, reclaim sweeps,
memory errors, and the buffer commands of the queue group. -/

namespace Sys2Proof.Machine

/-! ## The carve (R199, R200) -/

/-- A record of the BPM about no account: COMMON_FREE and POOL_FREE follow in its snapshot (R228). -/
def Dev.bpmRec (d : Dev) (code sev a0 : Nat) : Dev :=
  d.record { code := code, sev := sev, a0 := a0, ints := [d.reg .ECC_LAST_ADDR] }

/-- Sizes in MiB keep the conditions of R199. -/
def carveOk (mib : List Nat) : Bool :=
  decide (mib.length = 4 ∧ 2 ≤ mib.getD 0 0 ∧ 2 ≤ mib.getD 1 0 ∧ mib.getD 0 0 + mib.getD 1 0 + mib.getD 2 0 + mib.getD 3 0 = 64)

/-- No buffer is allocated in any pool: the buffers of a bitmap word with bad parity count as allocated (R220), retired ones have
left their pools. -/
def Dev.noBuffers (d : Dev) : Bool := !d.owners.any (fun e => e.2.used) && d.badWords.isEmpty

/-- The pools are being rebuilt: every allocation fails meanwhile. -/
def Dev.carveStart (d : Dev) (mib : List Nat) : Dev := { d with mib := [], carveTo := mib }.set F.BPM_STATUS_CARVE_BUSY 0 1

/-- A carve is refused. -/
def Dev.carveRefused (d : Dev) : Dev := (d.raise F.BPM_EVENT_CARVE_REFUSED).bpmRec 0x0710 4 0

/-- CARVE's four sizes. -/
def Dev.carveSizes (d : Dev) : List Nat :=
  [d.get F.CARVE_P0_MIB, d.get F.CARVE_P1_MIB, d.get F.CARVE_P2_MIB, d.get F.CARVE_P3_MIB]

/-- CARVE_APPLY. -/
def Dev.carveApply (d : Dev) : Dev :=
  if carveOk d.carveSizes && d.noBuffers then d.carveStart d.carveSizes else d.carveRefused

def execCarveApply (m : Fin 32) (s : State) : Out := s.write m .CARVE_CMD 0 1 (fun d _ => d.carveApply)

/-- The pools and the reserve are built: every buffer is free. Retired memory stays out of them (log entry 116). -/
def Dev.carveDone (d : Dev) : Dev :=
  if d.on F.BPM_STATUS_CARVE_BUSY then
    let t : Tbl Nat := (List.range 4).foldl (fun t k => t.put k (d.carveTo.getD k 0)) []
    let d := { d with mib := t, carveTo := [], owners := [], badWords := [] }.set F.BPM_STATUS_CARVE_BUSY 0 0
    ((d.raise F.BPM_EVENT_CARVE_DONE).bpmRec 0x070F 1 0).finishOp 0x5C0 .ok
  else d.resetCarve

def execCarveDone (s : State) : Out := s.later 7 0 (·.carveDone)

/-! ## Pause repeats (R210) -/

/-- Half a quanta time, PAUSE_QUANTA × 256 bit times, has passed since the last frame: pause is sent again while a LOSSLESS account
stays at or above XON. -/
def Dev.pauseRepeat (d : Dev) (p : Nat) : Dev :=
  if d.portXoff p && decide (d.get F.PORT_FC_PAUSE_QUANTA p * 256 * 1500000 ≤ (d.cycle - d.pauseAt.get p) * kbps (d.portSpeed p))
  then d.pauseSend p else d

def execPauseRepeat (p : Fin 256) (s : State) : Out := s.later 2 0 (·.pauseRepeat p)

/-! ## Memory errors and the reclaim sweep (R218, R220) -/

/-- A single-bit error, corrected (R218). -/
def Dev.eccCorr (d : Dev) (addr : Nat) : Dev :=
  let d := ((d.satCount .ECC_CORR_CNT 0).setReg .ECC_LAST_ADDR 0 (addr % 2 ^ 23)).count 0x2C 2
  (d.raiseFirst F.BPM_EVENT_ECC_CORR 0 0 secCycles).recordLim secCycles
    { code := 0x0707, sev := 1, ints := [d.reg .ECC_LAST_ADDR] }

/-- An uncorrectable word; `link` says whether it is a chain link. -/
def Dev.eccUncorr (d : Dev) (addr : Nat) (link : Bool) : Dev :=
  let d := ((d.satCount .ECC_UNCORR_CNT 0).setReg .ECC_LAST_ADDR 0 (addr % 2 ^ 23 + 2 ^ 31)).count 0x2C 3
  if link then ({ d with reclaimAsk := true }.raise F.BPM_EVENT_LINK_ECC).bpmRec 0x070A 5 0 else (d.raise F.BPM_EVENT_ECC_UNCORR).bpmRec 0x0708 5 0

/-- A bitmap word of a pool fails its parity: its 64 buffers count as allocated until it is rebuilt. -/
def Dev.bitmapBad (d : Dev) (pool word : Nat) : Dev :=
  let w := 2 ^ 24 * pool + word
  if d.badWords.contains w || decide (4 ≤ pool ∨ d.poolCount pool ≤ 64 * word) then d
  else ({ d with badWords := d.badWords ++ [w] }.raise F.BPM_EVENT_BITMAP_PARITY).bpmRec 0x070C 4 0

/-- An ICRC mismatch (R217, R218). -/
def Dev.icrcFail (d : Dev) : Dev := ((d.raise F.BPM_EVENT_ICRC_FAIL).count 0x2C 4).bpmRec 0x0709 5 0

/-- Both copies of a reference count are uncorrectable (R213). -/
def Dev.refcntLost (d : Dev) (id : Nat) : Dev :=
  let d := d.frameSet id { d.frames.get id with lost := true }
  (d.raise F.BPM_EVENT_REFCNT_LOST).bpmRec 0x0711 5 0

/-- What memory shows while a frame of the device is read: errors that concern the frame itself are the caller's. -/
def Dev.memUpset (d : Dev) (us : List Upset) : Dev :=
  us.foldl (fun d u => match u with
    | .single a => d.eccCorr a
    | .bitmap p n => d.bitmapBad p n
    | _ => d) (d.upset us)

/-- The error of one copy of a reference count is repaired from the other (R213). -/
def Dev.refcntFixed (d : Dev) : Dev := (d.satCount .ECC_UNCORR_CNT 0).count 0x2C 3

/-- Buffers of all pools. -/
def Dev.allBufs (d : Dev) : Nat := (List.range 4).foldl (fun n p => n + d.poolCount p) 0

/-- The pool and place of the `n`th buffer of packet memory, in the order of its cells. -/
def Dev.nthBuf (d : Dev) (n : Nat) : Nat × Nat :=
  ((List.range 4).foldl (fun (a : Nat × Nat × Bool) p =>
    if a.2.2 then a else if a.2.1 < d.poolCount p then (p, a.2.1, true) else (4, a.2.1 - d.poolCount p, false)) (4, n, false)).1 |> fun p =>
      (p, n - (List.range p).foldl (fun m q => m + d.poolCount q) 0)

/-- The first cell the sweep has not visited after `n` buffers. -/
def Dev.sweepCell (d : Dev) (n : Nat) : Nat := let x := d.nthBuf n; d.cellAt x.1 x.2

/-- The sweep visits the buffers up to the `n`th: an allocated one whose OWNER head is free or carries another GEN is freed, a bitmap
word is rebuilt once its 64 buffers are visited (R220). -/
def Dev.reclaimVisit (d : Dev) (n : Nat) : Dev :=
  let lo := d.sweepCell d.reclaimPos
  let hi := d.sweepCell n
  let lost := d.owners.filter (fun e => e.2.used && decide (lo ≤ e.1 ∧ e.1 < hi) &&
    (let h := d.owners.get e.2.owner; !h.used || h.gen != e.2.gen))
  let d := lost.foldl (fun d e =>
    let p := ((List.range 4).filter (fun p => decide (d.poolPresent p ∧ d.poolBase p ≤ e.1))).getLastD 0
    (d.giveCell e.1 (poolCells p)).count 0x2C 7) d
  { d with reclaimPos := max d.reclaimPos n,
           badWords := d.badWords.filter (fun w => decide (hi < d.cellAt (w / 2 ^ 24) (min (d.poolCount (w / 2 ^ 24)) (64 * (w % 2 ^ 24) + 64)))) }

/-- A sweep that runs has visited one buffer in each core cycle (R220; that data-path accesses do not slow it is DEDUCED, log entry
111). -/
def Dev.reclaimTick (d : Dev) : Dev :=
  if d.on F.BPM_STATUS_RECLAIM_BUSY then d.reclaimVisit (min d.allBufs (d.cycle - d.reclaimAt)) else d

/-- A sweep is due: LINK_ECC has asked for one, or RECLAIM_PERIOD ms have passed since the last began. -/
def Dev.reclaimDue (d : Dev) : Bool :=
  let t := d.get F.BPM_CTRL_RECLAIM_PERIOD
  d.reclaimAsk || (t != 0 && decide (d.reclaimAt + t * msCycles ≤ d.cycle))

/-- RECLAIM_SWEEP: a sweep that is due begins; one that runs comes to its end, the buffers it has not come to visited. -/
def Dev.reclaim (d : Dev) (us : List Upset) : Dev :=
  let d := d.memUpset us
  if d.on F.BPM_STATUS_RECLAIM_BUSY then (d.reclaimVisit d.allBufs).set F.BPM_STATUS_RECLAIM_BUSY 0 0
  else if d.reclaimDue then
    { d with reclaimAsk := false, reclaimAt := d.cycle, reclaimPos := 0 }.set F.BPM_STATUS_RECLAIM_BUSY 0 1
  else d

def execReclaimSweep (us : List Upset) (s : State) : Out := s.later 7 0 (·.reclaim us)

/-! ## SFI commands (R224) -/

/-- BPM_CARVE: its one reply is OK at CARVE_DONE. -/
def Dev.bpmCarve (d : Dev) (mib : List Nat) : Dev × Ans :=
  if !(carveOk mib && mib.all (fun x => decide (x ≤ 60))) then (d.carveRefused, .invalid)
  else if !d.noBuffers then (d.carveRefused, .busy 9)
  else
    let w := mib.getD 0 0 + 2 ^ 8 * mib.getD 1 0 + 2 ^ 16 * mib.getD 2 0 + 2 ^ 24 * mib.getD 3 0
    ((d.cfg .CARVE 0 w).carveStart mib, .wait)

def execBpmCarve (rq : Sfi) (mib : List Nat) (s : State) : Out := s.sfi rq 0x5C0 2 (fun d _ => d.bpmCarve mib)

def Dev.quotaSet (d : Dev) (prof min alpha max headroom hyst warn : Nat) : Dev × Ans :=
  okIf (decide (prof < 16) && F.QP_MIN_MIN.ok min && F.QP_MIN_ALPHA.ok alpha && F.QP_MAX_MAX.ok max &&
      F.QP_FC_HEADROOM.ok headroom && F.QP_FC_XON_HYST.ok hyst && F.QP_WARN_WARN_PCT.ok warn) d
    ((((d.cfg .QP_MIN prof (min + 2 ^ 18 * alpha)).cfg .QP_MAX prof max).cfg .QP_FC prof (headroom + 65536 * hyst)).cfg
      .QP_WARN prof warn)

def execQuotaProfileSet (rq : Sfi) (prof min alpha max headroom hyst warn : Nat) (s : State) : Out :=
  s.sfi rq 0x5C1 2 (fun d _ => d.quotaSet prof min alpha max headroom hyst warn)

/-- Binds a range of accounts to a quota profile. -/
def Dev.bindRange (d : Dev) (lo hi prof : Nat) (lossless : Bool) : Dev :=
  (List.range (hi + 1 - lo)).foldl (fun d k =>
    let a := lo + k
    d.cfg .ACCT_BIND a (prof + 16 * b2n (lossless && !classSeven a))) d

/-- QUOTA_BIND: LOSSLESS reads 0 on class 7 (R209). -/
def Dev.quotaBind (d : Dev) (lo hi prof : Nat) (lossless : Bool) : Dev × Ans :=
  if !decide (lo ≤ hi ∧ hi < 2052 ∧ prof < 16) then (d, .invalid)
  else
    let d' := d.bindRange lo hi prof lossless
    if 262144 - 8192 - d.retiredCells < d'.sumMin then (d, .noResource) else (d', .ok)

def execQuotaBind (rq : Sfi) (lo hi prof : Nat) (lossless : Bool) (s : State) : Out :=
  s.sfi rq 0x5C2 2 (fun d _ => d.quotaBind lo hi prof lossless)

def execPortFlowSet (rq : Sfi) (port mode quanta : Nat) (s : State) : Out :=
  s.sfi rq 0x5C3 2 (fun d _ => okIf (decide (port < 256) && F.PORT_FC_FC_MODE.ok mode && F.PORT_FC_PAUSE_QUANTA.ok quanta) d
    (d.cfg .PORT_FC port (mode + 65536 * quanta)))

/-- BPM_QUERY's rows of the pools, and of a range of accounts. -/
def Dev.poolRows (d : Dev) : List (Nat × List Nat) :=
  [(0, [d.poolFree 0, d.poolFree 1]), (1, [d.poolFree 2, d.poolFree 3]), (2, [d.reserveCells 0, d.reserveCells 1]),
   (3, [d.view .COMMON_FREE, 0])]
def Dev.acctRows (d : Dev) (lo hi : Nat) : List (Nat × List Nat) :=
  (List.range (hi + 1 - lo)).map (fun k => (4 + k, [d.acctU.get (lo + k), d.dropLim d.acctU (lo + k)]))

/-- BPM_QUERY: entries of two words: pools, reserves, COMMON_FREE, then U and DROP_LIM of each account asked for. -/
def execBpmQuery (rq : Sfi) (range : Option (Nat × Nat)) (start : Nat) (s : State) : Out :=
  s.sfi rq 0x5C4 0 (fun d _ =>
    match range with
    | none => (d, d.listing rq 0x5C4 2 d.poolRows)
    | some (lo, hi) =>
      if lo ≤ hi ∧ hi < 2052 then
        (d, d.listing rq 0x5C4 2 ((d.poolRows ++ d.acctRows lo hi).filter (fun e => decide (start ≤ e.1))))
      else (d, .invalid))

def execEditSet (rq : Sfi) (index : Nat) (words : List Nat) (s : State) : Out :=
  s.sfi rq 0x5C5 2 (fun d _ => d.stageCmd rq.ch (fun d =>
    okIf (decide (index < 16384 ∧ words.length = 8) && editOk words && words.all (fun w => decide (w < 2 ^ 32))) d
      (d.stageEdit index words)))

end Sys2Proof.Machine
end

