-- ==== Sys2Proof/Machine/Link.lean ====
section
/-! DEFINITION. Lanes, quads, link state, preemption verification and EEE (R25 to R33, R42 to R53, R60), and the SFI
ports group (R363). -/

namespace Sys2Proof.Machine

/-- A record of a port (R60). -/
def Dev.portRec (d : Dev) (code sev p : Nat) : Dev := d.record { code := code, sev := sev, a0 := p, obj := .port p }

/-! ## Preemption (R43) -/

/-- What INIT takes of PORT_PRE: later writes of it take effect at the next entry (R43). -/
def Dev.preTaken (d : Dev) (p : Nat) : Nat :=
  d.get F.PORT_PRE_VERIFY_EN p + 4 * d.get F.PORT_PRE_ADD_FRAG p + 16 * d.get F.PORT_PRE_VERIFY_TIME p

/-- INIT is entered; it is left in the next core cycle (R43). -/
def Dev.preInit (d : Dev) (p : Nat) : Dev :=
  if d.on F.PORT_PRE_PRE_EN p && d.linkState p == 1 && d.get F.PORT_STATUS_PRE_STATE p == 0 then
    { d.preSet p 1 with verCfg := d.verCfg.put p (d.preTaken p), preIn := d.preIn ++ [p] }
  else d

/-- DISABLED: the link is not UP or PRE_EN is 0. -/
def Dev.preOff (d : Dev) (p : Nat) : Dev :=
  if d.get F.PORT_STATUS_PRE_STATE p = 0 then d else (d.preSet p 0).checkBounds p

/-- PRE_EN or the link changed. -/
def Dev.preRefresh (d : Dev) (p : Nat) : Dev :=
  if d.on F.PORT_PRE_PRE_EN p && d.linkState p == 1 then d.preInit p else d.preOff p

/-- VERIFY_TIME passed without a respond mPacket. -/
def Dev.verifyTimeout (d : Dev) (p : Nat) : Dev :=
  if d.get F.PORT_STATUS_PRE_STATE p == 2 && d.past (d.verAt.get p) (d.verCfg.get p / 16 * msCycles) then
    if d.verSent.get p < 3 then d.verifySend p (d.verSent.get p + 1)
    else ((d.preSet p 4).raise F.PORT_EVENT_PRE_VERIFY_FAILED p).portRec 0x0204 4 p
  else d

def execVerifyTimeout (p : Fin 256) (s : State) : Out := s.later 2 0 (·.verifyTimeout p)

/-- A verify mPacket is answered in every state but DISABLED. -/
def Dev.verifyRx (d : Dev) (p : Nat) : Dev := if d.get F.PORT_STATUS_PRE_STATE p = 0 then d else d.emit (.mac p 1)

def execVerifyMpacketRx (p : Fin 256) (s : State) : Out := s.later 2 0 (·.verifyRx p)

/-- A respond mPacket ends VERIFYING. -/
def Dev.respondRx (d : Dev) (p : Nat) : Dev :=
  if d.get F.PORT_STATUS_PRE_STATE p = 2 then (d.preSet p 3).checkBounds p else d

def execRespondMpacketRx (p : Fin 256) (s : State) : Out := s.later 2 0 (·.respondRx p)

/-! ## Link state (R51 to R53) -/

/-- Shapers of a port's queues up to now, before its state changes (R237). -/
def Dev.syncPort (d : Dev) (p : Nat) : Dev := (List.range 8).foldl (fun d c => d.shapeSync (8 * p + c)) d

/-- A burin copy of a frame is over; the frame's record goes with its last use. -/
def Dev.burinDone (d : Dev) (id : Nat) : Dev :=
  let f := d.frames.get id
  let f' := { f with burin := f.burin - 1 }
  if f'.burin = 0 ∧ f.refs = 0 ∧ f.ended ∧ f.decided then { d with frames := d.frames.put id default }
  else d.frameSet id f'

/-- The frames in transmission are aborted and the express holding queue emptied (R53). -/
def Dev.txAbort (d : Dev) (p : Nat) : Dev :=
  let d := (List.range 2).foldl (fun d m =>
    let t := d.tx.get (2 * p + m)
    if t.live then
      let d := if t.burin then d else d.shapeSync t.queue
      let d := { d with tx := d.tx.put (2 * p + m) default }.stat p 17
      if t.burin then d.burinDone t.copy.frame else d.consume t.copy.frame
    else d) d
  let d := (d.exprQ.get p).foldl (fun d id => (d.stat p 17).burinDone id) d
  { d with exprQ := d.exprQ.put p [] }

/-- A port that enters DOWN joins the set awaiting a down flush (R149). -/
def Dev.joinDown (d : Dev) (p : Nat) : Dev :=
  if d.on F.FDB_PORT_CFG_FLUSH_ON_DOWN p && !d.downSet.contains p then { d with downSet := d.downSet ++ [p] } else d

/-- A port leaves UP. -/
def Dev.leaveUp (d : Dev) (p st : Nat) : Dev :=
  let d := ((d.syncPort p).set F.PORT_STATUS_LINK_STATE p st).txAbort p
  let d := ((d.set F.PORT_STATUS_TX_LPI p 0).set F.PORT_STATUS_RX_LPI p 0)
  let d := { d with pauseQ := d.pauseQ.put p [], eeeRes := d.eeeRes.put p false, wake := d.wake.put p false, holdAt := d.holdAt.put p d.cycle }
  let d := (d.raise F.PORT_EVENT_LINK_DOWN p).portRec 0x0201 2 p
  (d.preOff p).checkBounds p

/-- A port enters DOWN: its queues are flushed (R215), its speed reads none. -/
def Dev.enterDown (d : Dev) (p : Nat) : Dev :=
  let d := (d.set F.PORT_STATUS_LINK_STATE p 0).set F.PORT_STATUS_SPEED p 0
  let d := { d with window := d.window.put p false, holdOver := d.holdOver.put p false }
  (d.joinDown p).flushPort p

/-- Straight to DOWN: a mode change (R32) or PORT_EN cleared (R52). -/
def Dev.forceDown (d : Dev) (p : Nat) : Dev :=
  let st := d.linkState p
  if st = 1 then (d.leaveUp p 0).enterDown p
  else if st = 2 then
    ((d.raise F.PORT_EVENT_LINK_DOWN p).portRec 0x0201 2 p).enterDown p
  else d

/-- The lanes that carry a port. -/
def Dev.portLanes (d : Dev) (p : Nat) : List Nat :=
  if d.get F.QUAD_MODE_QMODE (p / 16) = 0 then [p / 4] else (List.range 4).map (4 * (p / 16) + ·)

/-- A port's PCS has come up or gone down: while a port of a lane is up, the lane has signal, lock and, with FEC, codeword
alignment (R51); when the last goes down, the command does not say which was lost, and the four bits are free (entry 42). -/
def Dev.laneLock (d : Dev) (p : Nat) : Dev :=
  let up := (List.range 4).any (fun k => d.pcsUp.get (p / 4 * 4 + k)) || d.pcsUp.get (p / 16 * 16) && d.get F.QUAD_MODE_QMODE (p / 16) != 0
  (d.portLanes p).foldl (fun d l =>
    let fec := d.get F.QUAD_MODE_QMODE (l / 4) == 2 || d.get F.QUAD_MODE_QMODE (l / 4) == 0 && d.get F.LANE_CFG_FEC l != 0
    let x := d.draw 17
    let d := if up then d else x.2
    let v := if up then 15 else x.1 % 16
    let old := d.reg .LANE_STATUS l
    let d := if bitsOf old 1 1 = v / 2 % 2 then d else { d with cdrAt := d.cdrAt.put l d.cycle }
    d.setReg .LANE_STATUS l (withBits old 3 0 (if fec then v else v % 8))) d

/-- A port's PCS is down, or up with a LINK_UP_TIME window begun (R51, R52). -/
def Dev.pcsSet (d : Dev) (p : Nat) (up : Bool) : Dev :=
  { d with pcsUp := d.pcsUp.put p up, window := d.window.put p up, windowAt := d.windowAt.put p d.cycle }.laneLock p

/-- A port's PCS drops (R52). -/
def Dev.pcsLost (d : Dev) (p : Nat) : Dev :=
  let d := d.pcsSet p false
  let st := d.linkState p
  if st = 1 then
    if d.get F.PORT_LINK_LINK_HOLD p = 0 then (d.leaveUp p 0).enterDown p else d.leaveUp p 2
  else if st = 2 ∧ d.holdOver.get p then
    ((d.enterDown p).raise F.PORT_EVENT_HOLD_EXPIRED p).portRec 0x0203 3 p
  else d

/-- The PCS reports a port down: what is lost is the lane's, and takes all four sub-ports of a QSGMII or 10G-QXGMII lane down
together (R51). -/
def Dev.pcsDown (d : Dev) (p : Nat) : Dev :=
  if d.portMode p = 5 ∨ d.portMode p = 7 then
    ((List.range 4).map (p / 4 * 4 + ·)).foldl (fun d k => if d.pcsUp.get k then d.pcsLost k else d) (d.pcsLost p)
  else d.pcsLost p

def execPcsDown (p : Fin 256) (s : State) : Out := s.later 2 0 (·.pcsDown p)

/-- The PCS comes up, on lanes that are enabled (R33): a LINK_UP_TIME window begins (R52). -/
def Dev.pcsUpOp (d : Dev) (p : Nat) : Dev :=
  if d.present p && d.lanesOn p && !d.pcsUp.get p then d.pcsSet p true else d

def execPcsUp (p : Fin 256) (s : State) : Out := s.later 2 0 (·.pcsUpOp p)

/-- A port enters UP (R52). -/
def Dev.enterUp (d : Dev) (p : Nat) : Dev :=
  let d := (d.syncPort p).set F.PORT_STATUS_LINK_STATE p 1
  let d := { d with window := d.window.put p false, holdOver := d.holdOver.put p false, heldOnce := d.heldOnce.put p false }
  let d := d.set F.PORT_STATUS_SPEED p (d.portSpeed p)
  let d := ((d.busy p).raise F.PORT_EVENT_LINK_UP p).portRec 0x0202 1 p
  (d.preInit p).checkBounds p

/-- The window completes: UP (R52). -/
def Dev.linkUp (d : Dev) (p : Nat) : Dev :=
  let st := d.linkState p
  if d.window.get p && d.past (d.windowAt.get p) (d.get F.PORT_LINK_LINK_UP_TIME p * usCycles) && d.pcsUp.get p &&
      d.on F.PORT_CFG_PORT_EN p && (st == 0 || st == 2) && d.portSpeed p != 0 then
    d.enterUp p
  else d

def execLinkUpTimeExpire (p : Fin 256) (s : State) : Out := s.later 2 0 (·.linkUp p)

/-- The hold expires (R52): DOWN with flush, or HOLD until a running window ends. -/
def Dev.holdExpire (d : Dev) (p : Nat) : Dev :=
  if d.linkState p == 2 && d.past (d.holdAt.get p) (d.get F.PORT_LINK_LINK_HOLD p * usCycles) then
    if d.window.get p then { d with holdOver := d.holdOver.put p true }
    else ((d.enterDown p).raise F.PORT_EVENT_HOLD_EXPIRED p).portRec 0x0203 3 p
  else d

def execLinkHoldExpire (p : Fin 256) (s : State) : Out := s.later 2 0 (·.holdExpire p)

/-- A speed that the mode carries is taken (R29). After a refused one, a PCS that is up begins a new window. -/
def Dev.speedTaken (d : Dev) (p speed : Nat) : Dev :=
  let old := d.portSpeed p
  let d := if old = 0 ∧ d.pcsUp.get p then { d with window := d.window.put p true, windowAt := d.windowAt.put p d.cycle } else d
  let d := { d with anSpeed := d.anSpeed.put p speed }
  if d.linkState p = 1 ∧ old ≠ speed then (d.set F.PORT_STATUS_SPEED p speed).checkBounds p else d

/-- A speed that the mode does not carry: PARTNER_10M or PARTNER_SPEED, and the port goes to DOWN (R29). -/
def Dev.speedRefused (d : Dev) (p speed : Nat) : Dev :=
  let d := { d with anSpeed := d.anSpeed.put p 15 }
  let d := if speed = 0 then (d.raise F.PORT_EVENT_PARTNER_10M p).portRec 0x0209 3 p
    else (d.raise F.PORT_EVENT_PARTNER_SPEED p).portRec 0x020C 3 p
  if d.linkState p = 1 ∨ d.linkState p = 2 then
    (if d.linkState p = 1 then d.leaveUp p 0 else d).enterDown p
  else d

/-- The modes whose speed an auto-negotiation word gives (R29). -/
def modeAn (m : Nat) : Bool := m == 2 || m == 3 || m == 5 || m == 7

/-- An auto-negotiation word (R29, R51): the speed it reports (0 is 10 Mb/s, 1 to 7 the codes of PORT_STATUS, others
reserved), and the sub-port's link bit on the modes that carry one. -/
def Dev.anWord (d : Dev) (p speed : Nat) (link : Bool) : Dev :=
  let m := d.portMode p
  if d.present p && modeAn m && d.on F.LANE_CFG_AN_EN (p / 4) then
    let d := d.set F.LANE_STATUS_AN_DONE (p / 4) 1
    if speed ∈ modeSpeeds m then
      let d := d.speedTaken p speed
      if m = 5 ∨ m = 7 then (if link then d.pcsUpOp p else d.pcsLost p) else d
    else d.speedRefused p speed
  else d

def execAnWordRx (p : Fin 256) (speed : Fin 16) (link : Bool) (s : State) : Out := s.later 2 0 (·.anWord p speed link)

/-! ## Quads and lanes (R26 to R32) -/

/-- The lane rate of a mode, in kb/s. -/
def laneRate (m : Nat) : Nat :=
  if m = 0 then 0 else if m ≤ 3 then 1250000 else if m = 4 then 3125000 else if m = 5 then 5000000
  else if m ≤ 7 then 10312500 else 25781250

/-- The distinct rates of a quad's enabled lanes, given their modes, in lane order. -/
def quadRates (en : Nat → Bool) (mode : Nat → Nat) : List Nat :=
  (List.range 4).foldl (fun l k => if en k && mode k != 0 && !l.contains (laneRate (mode k)) then l ++ [laneRate (mode k)] else l) []

/-- The PLL assigned to each lane (R26). The rule says only that the hardware assigns one: the first rate in lane order takes
PLL_0, and a four-lane mode PLL_0 (DESIGN CHOICE, log entry 100). -/
def Dev.assignPlls (d : Dev) (q : Nat) : Dev :=
  let rates := quadRates (fun k => d.on F.LANE_CFG_LANE_EN (4 * q + k)) (fun k => d.get F.LANE_CFG_LMODE (4 * q + k))
  (List.range 4).foldl (fun d k =>
    d.set F.LANE_STATUS_PLL_IDX (4 * q + k)
      (if d.get F.QUAD_MODE_QMODE q = 0 ∧ rates.idxOf (laneRate (d.get F.LANE_CFG_LMODE (4 * q + k))) = 1 then 1 else 0)) d

/-- A mode write is discarded (R26, R28), of the quad or of the lane concerned. -/
def Dev.modeConflict (d : Dev) (q : Nat) (o : Obj := .quad q) : Dev :=
  (d.raise F.QUAD_EVENT_MODE_CONFLICT q).record { code := 0x0205, sev := 3, a0 := q, obj := o }

/-- The ports of a quad that were present go straight to DOWN unless `keep` (R32); their modes change next. -/
def Dev.dropPorts (d : Dev) (ps : List Nat) : Dev :=
  ps.foldl (fun d p =>
    let d := d.forceDown p
    { d with pcsUp := d.pcsUp.put p false, window := d.window.put p false, anSpeed := d.anSpeed.put p 0 }) d

/-- A quad takes another mode (R26): its ports go to DOWN, its PLLs and the bounds follow. -/
def Dev.quadModeTake (d : Dev) (q v : Nat) : Dev :=
  (((d.dropPorts ((List.range 16).map (16 * q + ·))).cfgF F.QUAD_MODE_QMODE q v).assignPlls q).checkAllBounds

/-- QUAD_MODE takes a new value (R28, R32). Answers whether it was taken. -/
def Dev.quadMode (d : Dev) (q v : Nat) : Dev × Bool :=
  if 3 ≤ v ∨ v = d.get F.QUAD_MODE_QMODE q then (d, decide (v < 3))
  else if v = 0 ∧ 2 < (quadRates (fun k => d.on F.LANE_CFG_LANE_EN (4 * q + k))
      (fun k => d.get F.LANE_CFG_LMODE (4 * q + k))).length then (d.modeConflict q, false)
  else (d.quadModeTake q v, true)

def execQuadModeWrite (m : Fin 32) (q : Fin 16) (w : Word) (s : State) : Out :=
  s.write m .QUAD_MODE q w.toNat (fun d w => (d.quadMode q (w % 4)).1)

/-- The lane's new mode would need a third rate in its quad (R26, R28). -/
def Dev.thirdRate (d : Dev) (l lmode : Nat) (en : Bool) : Bool :=
  let q := l / 4
  d.get F.QUAD_MODE_QMODE q == 0 &&
    decide (2 < (quadRates (fun k => if 4 * q + k = l then en else d.on F.LANE_CFG_LANE_EN (4 * q + k))
      (fun k => if 4 * q + k = l then lmode else d.get F.LANE_CFG_LMODE (4 * q + k))).length)

/-- A LANE_CFG word's field, or the field's present value where the word's is reserved (R8). -/
def pickField (old w : Nat) (f : Fld) : Nat := if f.ok (bitsOf w f.hi f.lo) then bitsOf w f.hi f.lo else bitsOf old f.hi f.lo

/-- A lane that is not enabled has its receiver off: the PCS of the ports it carries goes down (R33, R51). -/
def Dev.laneOff (d : Dev) (l : Nat) : Dev :=
  if d.on F.LANE_CFG_LANE_EN l then d
  else (if d.get F.QUAD_MODE_QMODE (l / 4) = 0 then (List.range 4).map (4 * l + ·) else [l / 4 * 16]).foldl
    (fun d p => if d.pcsUp.get p then d.pcsLost p else d) d

/-- A lane takes a word with a mode its quad can clock: a FEC value that LMODE does not allow is discarded; a change of
mode or FEC takes the lane's ports to DOWN (R32). Answers 0, or 2 for a FEC refused. -/
def Dev.laneTake (d : Dev) (l w lmode : Nat) : Dev × Nat :=
  let old := d.reg .LANE_CFG l
  let badFec := decide (bitsOf w 6 5 ≠ 0 ∧ lmode ≠ 8)
  let fec := if badFec then bitsOf old 6 5 else pickField old w F.LANE_CFG_FEC
  let d := if badFec then d.modeConflict (l / 4) (.lane l) else d
  let moved := decide (lmode ≠ bitsOf old 4 1 ∨ fec ≠ bitsOf old 6 5) && d.get F.QUAD_MODE_QMODE (l / 4) == 0
  let d := if moved then d.dropPorts ((List.range 4).map (4 * l + ·)) else d
  let d := if w % 2 = 1 ∧ old % 2 = 0 then (d.setReg .FEC_CORR l 0).setReg .FEC_UNCORR l 0 else d
  let v := w % 2 + 2 * lmode + 32 * fec + 128 * bitsOf w 9 7 + 1024 * pickField old w F.LANE_CFG_LOOPBACK
  let d := if w % 2 = 0 then d.set F.LANE_STATUS_SIG_DET l 0 else d
  let off := (List.range 4).all (fun k => !d.on F.LANE_CFG_LANE_EN (l / 4 * 4 + k))
  let d := if off ∧ w % 2 = 1 then d.count 0x60 6 else d
  ((((d.cfg .LANE_CFG l v).assignPlls (l / 4)).laneOff l).checkAllBounds, if badFec then 2 else 0)

/-- A LANE_CFG value takes effect (R26, R28): a write that needs a third rate is discarded. Reserved values keep the field
(R8). Answers 0, or 1 for a third rate, 2 for a FEC refused. -/
def Dev.laneCfg (d : Dev) (l w : Nat) : Dev × Nat :=
  let lmode := pickField (d.reg .LANE_CFG l) w F.LANE_CFG_LMODE
  if d.thirdRate l lmode (w % 2 == 1) then (d.modeConflict (l / 4) (.lane l), 1) else d.laneTake l w lmode

def execLaneCfgWrite (m : Fin 32) (l : Fin 64) (w : Word) (s : State) : Out :=
  s.write m .LANE_CFG l w.toNat (fun d w => (d.laneCfg l w).1)

/-- PORT_CFG takes a new value (R37, R52): PORT_EN cleared takes the port to DOWN. Set with the PCS already up it starts a new
LINK_UP_TIME window (DESIGN CHOICE, log entry 101: R52 does not say whether the time before counts). -/
def Dev.portCfg (d : Dev) (p w : Nat) : Dev :=
  let was := d.on F.PORT_CFG_PORT_EN p
  let d := d.store .PORT_CFG p w
  let now := d.on F.PORT_CFG_PORT_EN p
  let d := if was && !now then d.forceDown p else d
  let d := if !was && now && d.pcsUp.get p then { d with window := d.window.put p true, windowAt := d.windowAt.put p d.cycle } else d
  d.checkAllBounds

def execPortCfgWrite (m : Fin 32) (p : Fin 256) (w : Word) (s : State) : Out :=
  s.write m .PORT_CFG p w.toNat (fun d w => d.portCfg p w)

/-- A PLL serves an enabled lane of its quad (R28, R58). -/
def Dev.pllServes (d : Dev) (q pll : Nat) : Bool :=
  if d.get F.QUAD_MODE_QMODE q = 0
  then (List.range 4).any (fun k => d.on F.LANE_CFG_LANE_EN (4 * q + k) && d.get F.LANE_CFG_LMODE (4 * q + k) != 0 &&
    d.get F.LANE_STATUS_PLL_IDX (4 * q + k) == pll)
  else pll == 0 && (List.range 4).any (fun k => d.on F.LANE_CFG_LANE_EN (4 * q + k))

/-- The lock bit and the event flag of a PLL. -/
def pllLock (pll : Nat) : Fld := if pll = 0 then F.QUAD_STATUS_PLL_0_LOCK else F.QUAD_STATUS_PLL_1_LOCK
def pllFlag (pll : Nat) : Fld := if pll = 0 then F.QUAD_EVENT_PLL_0_UNLOCK else F.QUAD_EVENT_PLL_1_UNLOCK

/-- A quad PLL locks or loses lock (R60, R465). -/
def Dev.quadPll (d : Dev) (q pll : Nat) (lock : Bool) : Dev :=
  let was := d.on (pllLock pll) q
  let d := d.set (pllLock pll) q (b2n lock)
  if was && !lock && d.pllServes q pll then
    (d.raise (pllFlag pll) q).record { code := 0x020B, sev := 5, a0 := q, a1 := pll, obj := .quad q }
  else d

def execQuadPllUnlock (q : Fin 16) (pll : Fin 2) (s : State) : Out := s.later 2 0 (·.quadPll q pll false)
def execQuadPllLock (q : Fin 16) (pll : Fin 2) (s : State) : Out := s.later 2 0 (·.quadPll q pll true)

/-- Codewords that a lane's FEC corrected, and those it could not (R58, R60): on a four-lane mode lane 0's counts cover the
quad. -/
def Dev.fecWords (d : Dev) (l corr uncorr : Nat) : Dev :=
  let l := if d.get F.QUAD_MODE_QMODE (l / 4) = 0 then l else l / 4 * 4
  let d := d.satCount .FEC_CORR l corr
  if uncorr = 0 then d
  else ((d.satCount .FEC_UNCORR l uncorr).raiseFirst F.QUAD_EVENT_FEC_UNCORR (l / 4) (l % 4) msCycles).recordLim msCycles
    { code := 0x0208, sev := 3, a0 := l, obj := .lane l }

def execFecUncorrCodeword (l : Fin 64) (s : State) (corr : Nat := 0) (uncorr : Nat := 1) : Out := s.later 2 0 (·.fecWords l corr uncorr)

/-! ## EEE (R48 to R50) -/

/-- The mode carries LPI (R27). -/
def modeLpi (m : Nat) : Bool := m == 3 || m == 5 || m == 6 || m == 7 || m == 8

/-- No frame is queued or in transmission on a port. -/
def Dev.portIdle (d : Dev) (p : Nat) : Bool :=
  (List.range 8).all (fun c => (d.queues.get (8 * p + c)).isEmpty) && (d.exprQ.get p).isEmpty &&
    !(d.tx.get (2 * p)).live && !(d.tx.get (2 * p + 1)).live

/-- EEE_IDLE passed without a frame: the transmitter signals LPI (R48 to R50). -/
def Dev.eeeIdle (d : Dev) (p : Nat) : Dev :=
  if d.linkState p == 1 && d.past (d.busyAt.get p) (d.get F.PORT_EEE_EEE_IDLE p * usCycles) && modeLpi (d.portMode p) && d.on F.PORT_EEE_EEE_EN p && !d.on F.PORT_STATUS_EEE_INHIBIT p &&
      (d.eeeRes.get p || d.eeeOver.get p) && d.portIdle p && !d.on F.PORT_STATUS_TX_LPI p then
    (d.set F.PORT_STATUS_TX_LPI p 1).stat p 23
  else d

/-- The partner signals LPI, or ends it (R48): accepted on every mode that carries LPI, whatever EEE_EN. -/
def Dev.partnerLpi (d : Dev) (p : Nat) (on : Bool) : Dev :=
  if d.linkState p == 1 && modeLpi (d.portMode p) then d.set F.PORT_STATUS_RX_LPI p (b2n on) else d

/-- This end's transmitter, or the partner's, falls idle. -/
def execEeeIdleExpire (p : Fin 256) (s : State) (partner : Bool := false) : Out :=
  s.later 2 0 (fun d => if partner then d.partnerLpi p true else d.eeeIdle p)

/-- TW_TX passed: the held frame may be sent (R48). -/
def Dev.twTx (d : Dev) (p : Nat) : Dev :=
  if d.past (d.wakeAt.get p) (d.get F.PORT_EEE_TW_TX p * usCycles) then { d with wake := d.wake.put p false } else d

/-- This end's transmitter, or the partner's, has woken. -/
def execTwTxExpire (p : Fin 256) (s : State) (partner : Bool := false) : Out :=
  s.later 2 0 (fun d => if partner then d.partnerLpi p false else d.twTx p)

/-- EEE_INHIBIT and EXPRESS_RESTRICT follow whether the port is in the egress set of an admitted TC_7 stream (R50,
R236). -/
def Dev.tripMarks (d : Dev) (p : Nat) : Dev :=
  let want := !(d.tripStreams p).isEmpty
  let was := d.on F.PORT_STATUS_EEE_INHIBIT p
  let d := (d.set F.PORT_STATUS_EEE_INHIBIT p (b2n want)).set F.TM_PORT_STATUS_EXPRESS_RESTRICT p (b2n want)
  if want && !was then
    let d := (d.set F.PORT_STATUS_TX_LPI p 0)
    (d.raise F.PORT_EVENT_EEE_INHIBIT_SET p).portRec 0x020A 1 p
  else d

/-! ## The SFI ports group (R363) -/

def execPortQuery (rq : Sfi) (port : Nat) (s : State) : Out :=
  s.sfi rq 0x100 0 (fun d _ => if 256 ≤ port then (d, .invalid) else
    (d, .okW [d.view .PORT_STATUS port, d.view .PORT_CFG port, d.view .PORT_LINK port, d.view .PORT_PRE port,
              d.view .PORT_EEE port, d.reg .LANE_STATUS (port / 4)]))

/-- One lane's LANE_CFG word, its enable kept. -/
def Dev.laneWord (d : Dev) (l : Nat) (x : LaneArgs) : Nat :=
  d.get F.LANE_CFG_LANE_EN l + 2 * x.lmode + 32 * x.fec + 128 * b2n x.an + 256 * b2n x.rxInv + 512 * b2n x.txInv + 1024 * x.loopback

/-- The mode LANE_MODE_SET asks for its lane `k`. -/
def laneModes (lanes : List LaneArgs) (k : Nat) : Nat := match lanes[k]? with | some x => x.lmode | none => 0

/-- One lane of an accepted LANE_MODE_SET: a change of its mode or FEC takes its ports to DOWN. -/
def Dev.laneModeOne (d : Dev) (l qmode : Nat) (x : LaneArgs) : Dev :=
  let moved := decide (x.lmode ≠ d.get F.LANE_CFG_LMODE l ∨ x.fec ≠ d.get F.LANE_CFG_FEC l) && qmode == 0
  let d := if moved then d.dropPorts ((List.range 4).map (4 * l + ·)) else d
  d.cfg .LANE_CFG l (d.laneWord l x)

/-- An accepted LANE_MODE_SET: the quad's mode, then its lanes in ascending order. -/
def Dev.laneModeTake (d : Dev) (quad qmode : Nat) (lanes : List LaneArgs) : Dev :=
  let d := if qmode ≠ d.get F.QUAD_MODE_QMODE quad then d.dropPorts ((List.range 16).map (16 * quad + ·)) else d
  let d := d.cfgF F.QUAD_MODE_QMODE quad qmode
  let d := (List.range 4).foldl (fun d k => match lanes[k]? with | some x => d.laneModeOne (4 * quad + k) qmode x | none => d) d
  (d.assignPlls quad).checkAllBounds

/-- LANE_MODE_SET: all values are checked first; a quad takes its mode, its lanes theirs. -/
def Dev.laneModeSet (d : Dev) (quad qmode : Nat) (lanes : List LaneArgs) : Dev × Ans :=
  let ok := decide (quad < 16 ∧ qmode < 3 ∧ lanes.length = 4) &&
    lanes.all (fun x => decide (x.lmode < 9 ∧ x.fec < 3 ∧ x.loopback < 3))
  if !ok then (d, .invalid)
  else if qmode = 0 ∧ 2 < (quadRates (fun k => d.on F.LANE_CFG_LANE_EN (4 * quad + k)) (laneModes lanes)).length
  then (d.modeConflict quad, .invalid 1)
  else if lanes.any (fun x => decide (x.fec ≠ 0 ∧ x.lmode ≠ 8)) then (d.modeConflict quad, .invalid 2)
  else (d.laneModeTake quad qmode lanes, .ok)

def execLaneModeSet (rq : Sfi) (quad qmode : Nat) (lanes : List LaneArgs) (s : State) : Out :=
  s.sfi rq 0x101 2 (fun d _ => d.laneModeSet quad qmode lanes)

/-- LANE_ENABLE: the masked lanes, in ascending order, each under the check of R26. -/
def Dev.laneEnable (d : Dev) (mask : Nat) (en : Bool) : Dev × Ans :=
  okIf (decide (mask < 2 ^ 64)) d ((List.range 64).foldl (fun d l =>
    if mask / 2 ^ l % 2 = 1 then (d.laneCfg l (d.reg .LANE_CFG l / 2 * 2 + b2n en)).1 else d) d)

def execLaneEnable (rq : Sfi) (mask : Nat) (en : Bool) (s : State) : Out :=
  s.sfi rq 0x102 2 (fun d _ => d.laneEnable mask en)

/-- Some admitted stream through the port has a larger F_MAX (R363); with ING_PORTS any, every present port is one of its (log
entry 114). -/
def Dev.fMaxAbove (d : Dev) (p n : Nat) : Bool :=
  d.streams.any (fun e => e.2.valid && (e.2.egress.contains p || e.2.ing.contains p || (e.2.ing.isEmpty && d.present p)) &&
    decide (n < e.2.fMax))

def Dev.portConfigSet (d : Dev) (port : Nat) (en : Bool) (maxFrame hold upTime : Nat) : Dev × Ans :=
  okIf (decide (port < 256) && F.PORT_CFG_MAX_FRAME.ok maxFrame && F.PORT_LINK_LINK_HOLD.ok hold &&
      F.PORT_LINK_LINK_UP_TIME.ok upTime && !d.fMaxAbove port maxFrame) d
    ((d.cfg .PORT_LINK port (hold + 65536 * upTime)).portCfg port (maxFrame + 16384 * b2n en))

def execPortConfigSet (rq : Sfi) (port : Nat) (en : Bool) (maxFrame hold upTime : Nat) (s : State) : Out :=
  s.sfi rq 0x103 2 (fun d _ => d.portConfigSet port en maxFrame hold upTime)

/-- PORT_PRE takes a new value: PRE_EN acts at once, the rest at the next entry to INIT (R43). -/
def Dev.portPre (d : Dev) (p w : Nat) : Dev := ((d.store .PORT_PRE p w).preRefresh p).checkBounds p

def Dev.portPreSet (d : Dev) (port : Nat) (en verify : Bool) (time addFrag expressTc : Nat) : Dev × Ans :=
  okIf (decide (port < 256) && F.PORT_PRE_VERIFY_TIME.ok time && decide (addFrag < 4 ∧ expressTc < 256)) d
    (d.portPre port (b2n en + 2 * b2n verify + 4 * time + 1024 * addFrag + 4096 * (expressTc % 128) +
      2 ^ 20 * d.get F.PORT_PRE_PARTNER_ADD_FRAG port))

def execPortPreSet (rq : Sfi) (port : Nat) (en verify : Bool) (time addFrag expressTc : Nat) (s : State) : Out :=
  s.sfi rq 0x104 2 (fun d _ => d.portPreSet port en verify time addFrag expressTc)

def Dev.portEeeSet (d : Dev) (port : Nat) (en : Bool) (idle : Nat) (ovr : Bool) : Dev × Ans :=
  okIf (decide (port < 256) && F.PORT_EEE_EEE_IDLE.ok idle) d
    (let d := (d.cfgF F.PORT_EEE_EEE_EN port (b2n en)).cfgF F.PORT_EEE_EEE_IDLE port idle
     { d with eeeOver := d.eeeOver.put port (en && ovr) })

def execPortEeeSet (rq : Sfi) (port : Nat) (en : Bool) (idle : Nat) (ovr : Bool) (s : State) : Out :=
  s.sfi rq 0x105 2 (fun d _ => d.portEeeSet port en idle ovr)

def Dev.portParseSet (d : Dev) (port : Nat) (prpLan slowFrag : Bool) (grp pcp pvid fwd : Nat) : Dev × Ans :=
  okIf (decide (port < 256 ∧ grp < 16 ∧ pcp < 8 ∧ fwd < 4) && F.PARSER_PORT_CFG_PVID.ok pvid) d
    (d.cfg .PARSER_PORT_CFG port (b2n prpLan + 2 * b2n slowFrag + 4 * grp + 64 * pcp + 512 * pvid + 2 ^ 22 * fwd))

def execPortParseSet (rq : Sfi) (port : Nat) (prpLan slowFrag : Bool) (grp pcp pvid fwd : Nat) (s : State) : Out :=
  s.sfi rq 0x106 2 (fun d _ => d.portParseSet port prpLan slowFrag grp pcp pvid fwd)

def execPortTsTrimSet (rq : Sfi) (port ing egr : Nat) (s : State) : Out :=
  s.sfi rq 0x107 2 (fun d _ => okIf (decide (port < 256 ∧ ing < 2 ^ 32 ∧ egr < 2 ^ 32)) d
    ((d.cfg .TS_ING_TRIM port ing).cfg .TS_EGR_TRIM port egr))

def execPcpMapSet (rq : Sfi) (pipe map : Nat) (s : State) : Out :=
  s.sfi rq 0x108 2 (fun d _ => okIf (decide (pipe < 2 ∧ map < 2 ^ 24)) d (d.cfg .PCP_TO_TC pipe map))

end Sys2Proof.Machine
end

