-- ==== Sys2Proof/Machine/Stream.lean ====
section
/-! DEFINITION. The STREAM block's tables (R166, R178 to R182, R184, R192, R193), duplicate discard (R179 to R181),
sequence and silence supervision (R171 to R177). -/

namespace Sys2Proof.Machine

/-! ## Words under indirect access (R193) -/

/-- The action of anomaly class `k` of R177: 0 SEQ_GAP, 1 SEQ_BACK, 2 REPEAT, 3 RESTART, 4 SILENCE, 5 RATE, 6 QUALITY. -/
def Stream.act (s : Stream) (k : Nat) : Nat := s.acts / 4 ^ k % 4

/-- Table 0. -/
def streamWords (s : Stream) : List Nat :=
  [b2n s.valid + 2 * (s.type % 8) + 16 * (s.tc % 8) + 128 * b2n s.tc7Ok + 256 * b2n s.fixedPos
     + 512 * b2n s.gmac + 1024 * b2n s.dd + 2048 * b2n s.cb + 4096 * b2n s.stateRec + 8192 * (s.acts % 16384),
   s.fMax % 16384 + 16384 * (s.burst % 32), s.interval % 2 ^ 32, s.offA % 256 + 256 * (s.offB % 256) + 65536 * (s.offC % 256),
   s.smpRate % 65536 + 65536 * (s.smpWrap % 65536), s.keySlot % 512 + 65536 * (s.rateTol % 256), s.ddSource % 65536, 0]

/-- A stream entry with the fields that table 0 shows taken from words. -/
def streamOfWords (s : Stream) (ws : List Nat) : Stream :=
  let w (k : Nat) := ws.getD k 0
  { s with valid := decide (bitsOf (w 0) 0 0 = 1), type := bitsOf (w 0) 3 1, tc := bitsOf (w 0) 6 4,
           tc7Ok := decide (bitsOf (w 0) 7 7 = 1),
           fixedPos := decide (bitsOf (w 0) 8 8 = 1), gmac := decide (bitsOf (w 0) 9 9 = 1),
           dd := decide (bitsOf (w 0) 10 10 = 1), cb := decide (bitsOf (w 0) 11 11 = 1),
           stateRec := decide (bitsOf (w 0) 12 12 = 1), acts := bitsOf (w 0) 26 13, fMax := bitsOf (w 1) 13 0,
           burst := bitsOf (w 1) 18 14, interval := w 2, offA := bitsOf (w 3) 7 0, offB := bitsOf (w 3) 15 8,
           offC := bitsOf (w 3) 23 16, smpRate := bitsOf (w 4) 15 0, smpWrap := bitsOf (w 4) 31 16,
           keySlot := bitsOf (w 5) 8 0, rateTol := bitsOf (w 5) 23 16, ddSource := bitsOf (w 6) 15 0 }

/-- Table 1. -/
def stateWords (s : Stream) : List Nat :=
  [s.st % 2 ^ 32, s.sq % 2 ^ 32, s.deadline % 2 ^ 32,
   b2n s.silent + 2 * b2n s.qualBad + 4 * b2n s.first + 65536 * (s.seen % 65536), s.spdu % 2 ^ 32, 0, 0, 0]

/-- The instant in ns whose low 32 bits are `low` and that lies nearest to `now`. -/
def nearNs (now low : Nat) : Nat :=
  let v := now / 2 ^ 32 * 2 ^ 32 + low % 2 ^ 32
  if now + 2 ^ 31 < v ∧ 2 ^ 32 ≤ v then v - 2 ^ 32 else if v + 2 ^ 31 < now then v + 2 ^ 32 else v

/-- A stream's state from words read at an instant: the upper part of a deadline follows from it (DEDUCED, log entry 122). -/
def stateOfWords (s : Stream) (now : Nat) (ws : List Nat) : Stream :=
  let w (k : Nat) := ws.getD k 0
  { s with st := w 0, sq := w 1, deadline := if w 2 % 2 ^ 32 = 0 then 0 else nearNs now (w 2),
           silent := decide (bitsOf (w 3) 0 0 = 1), qualBad := decide (bitsOf (w 3) 1 1 = 1),
           first := decide (bitsOf (w 3) 2 2 = 1), seen := bitsOf (w 3) 31 16, spdu := w 4 }

/-- Tables 2 and 3. -/
def exprWords (e : Expr) : List Nat :=
  let k := ofLe e.key
  let p (j : Nat) := (e.slots.getD j (0, false)).1 % 512
  let en := (List.range 4).foldl (fun w j => w + 2 ^ j * b2n (e.slots.getD j (0, false)).2) 0
  (List.range 4).map (wordOf k) ++
    [k / 2 ^ 128 % 65536 + 65536 * (e.stream % 16384), e.mask % 2 ^ 18 + 2 ^ 18 * (e.ing % 512) + 2 ^ 27 * b2n e.valid,
     p 0 + 65536 * p 1, p 2 + 65536 * p 3 + 2 ^ 28 * en]

def exprOfWords (e : Expr) (ws : List Nat) : Expr :=
  let w (k : Nat) := ws.getD k 0
  let ports := [bitsOf (w 6) 8 0, bitsOf (w 6) 24 16, bitsOf (w 7) 8 0, bitsOf (w 7) 24 16]
  { e with valid := decide (bitsOf (w 5) 27 27 = 1), key := leBytes 18 (ofWords (ws.take 4) + bitsOf (w 4) 15 0 * 2 ^ 128),
           mask := bitsOf (w 5) 17 0, ing := bitsOf (w 5) 26 18, stream := bitsOf (w 4) 29 16,
           slots := (List.range 4).map (fun j => (ports.getD j 0, decide (w 7 / 2 ^ (28 + j) % 2 = 1))),
           staged := false, leaving := false }

/-- Table 4. -/
def ddWords (e : DdSrc) : List Nat :=
  [e.high % 65536 + 65536 * b2n e.live + 2 ^ 17 * b2n e.cb + 2 ^ 18 * b2n e.pinned, wordOf e.win 0, wordOf e.win 1,
   e.txSeq % 65536, e.last % 2 ^ 32, wordOf e.key 0, if e.cb then 0 else e.key / 2 ^ 32 % 65536, 0]

def ddOfWords (e : DdSrc) (now : Nat) (ws : List Nat) : DdSrc :=
  let w (k : Nat) := ws.getD k 0
  { e with used := true, high := bitsOf (w 0) 15 0, live := decide (bitsOf (w 0) 16 16 = 1), cb := decide (bitsOf (w 0) 17 17 = 1),
           pinned := decide (bitsOf (w 0) 18 18 = 1), win := w 1 + w 2 * 2 ^ 32, txSeq := bitsOf (w 3) 15 0,
           last := nearNs now (w 4),
           key := if bitsOf (w 0) 17 17 = 1 then w 5 % 16384 else e.key / 2 ^ 48 * 2 ^ 48 + w 5 + bitsOf (w 6) 15 0 * 2 ^ 32 }

/-- Table 5. -/
def rpairWords (r : RPair) : List Nat :=
  [r.mode % 4 + 4 * (r.a % 512) + 2048 * (r.b % 512) + 2 ^ 20 * (r.inter % 512) + 2 ^ 29 * b2n r.quad, r.peer % 128, 0, 0, 0, 0, 0, 0]

def rpairOfWords (ws : List Nat) : RPair :=
  let w := ws.getD 0 0
  { mode := bitsOf w 1 0, a := bitsOf w 10 2, b := bitsOf w 19 11, inter := bitsOf w 28 20, quad := decide (bitsOf w 29 29 = 1),
    peer := ws.getD 1 0 % 128 }

/-- Entries of a table of the STREAM block. -/
def sacSize (t : Nat) : Nat :=
  if t < 2 then 16384 else if t < 4 then 64 else if t = 4 then 65536 else if t = 5 then 128 else 0

def Dev.sacWords (d : Dev) (t i : Nat) : List Nat :=
  if t = 0 then streamWords (d.streams.get i) else if t = 1 then stateWords (d.streams.get i)
  else if t < 4 then exprWords (d.express.get (64 * (t - 2) + i))
  else if t = 4 then ddWords (d.dd.get i) else rpairWords (d.rpairs.get i)

/-- The ports of a pair that is on. -/
def RPair.ports (r : RPair) : List Nat :=
  if r.mode = 0 then [] else if r.inter = 511 then [r.a, r.b] else [r.a, r.b, r.inter]

/-- A pair's values are legal, its ports front-panel ports of no other pair (R178). -/
def Dev.rpairOk (d : Dev) (k : Nat) (r : RPair) : Bool :=
  let used := (d.rpairs.filter (fun e => e.1 != k)).flatMap (fun e => e.2.ports)
  decide (k < 128 ∧ r.mode < 3 ∧ r.peer < 128) && (r.mode == 0 || (r.ports.all (fun p => decide (p < 256)) && decide r.ports.Nodup)) &&
    r.ports.all (fun p => !used.contains p)

/-- A port leaves a pair (R142): LEARN_AS is its own number again, and its former learning port awaits a down flush. -/
def Dev.leavePair (d : Dev) (p : Nat) : Dev :=
  let old := d.get F.FDB_PORT_CFG_LEARN_AS p
  let d := d.cfgF F.FDB_PORT_CFG_LEARN_AS p p
  if d.downSet.contains old then d else { d with downSet := d.downSet ++ [old] }

/-- A pair is configured (R142, R178): LEARN_AS of both ports is the lower port number. -/
def Dev.rpairPut (d : Dev) (k : Nat) (r : RPair) : Dev :=
  let old := d.rpairs.get k
  let d := { d with rpairs := d.rpairs.put k (if r.mode = 0 then default else r) }
  let d := (old.ports.take 2).foldl (fun d p => if (r.ports.take 2).contains p then d else d.leavePair p) d
  (r.ports.take 2).foldl (fun d p => d.cfgF F.FDB_PORT_CFG_LEARN_AS p (min r.a r.b)) d

/-- What follows a write of a stream's entry: EEE_INHIBIT (R50), R169's rate, BOUND_OK. -/
def Dev.streamWritten (d : Dev) (i : Nat) : Dev :=
  (d.streams.get i).egress.foldl (fun d p => ((d.trip169Keep p).tripMarks p).checkBounds p) d

def Dev.sacPut (d : Dev) (t i : Nat) (ws : List Nat) : Dev :=
  if t = 0 then ({ d with streams := d.streams.put i (streamOfWords (d.streams.get i) ws) }.mend 5 i).streamWritten i
  else if t = 1 then { d with streams := d.streams.put i (stateOfWords (d.streams.get i) d.ptNs ws) }
  else if t < 4 then
    let k := 64 * (t - 2) + i
    { d with express := d.express.put k (exprOfWords (d.express.get k) ws) }.mend 6 k
  else if t = 4 then { d with dd := d.dd.put i (ddOfWords (d.dd.get i) d.ptNs ws) }
  else d.rpairPut i (rpairOfWords ws)

/-- Words of a table are legal (R8): no reserved TYPE, action or MODE; a pair's ports are free (R178). An express entry that names
a port 261 to 511 is stored: the frames it matches are discarded (R9). -/
def Dev.sacOk (d : Dev) (t i : Nat) (ws : List Nat) : Bool :=
  let w := ws.getD 0 0
  if t = 0 then decide (bitsOf w 3 1 ≤ 4) && (List.range 7).all (fun k => decide (bitsOf w (14 + 2 * k) (13 + 2 * k) < 3))
  else if t = 5 then d.rpairOk i (rpairOfWords ws)
  else true

/-- Whether an express entry waits for a commit to act, and to leave: a ninth word of its mirror message (R184, R428). -/
def Dev.exprMarks (d : Dev) (t i : Nat) : List Nat :=
  if t = 2 ∨ t = 3 then [b2n (d.express.get (64 * (t - 2) + i)).staged + 2 * b2n (d.express.get (64 * (t - 2) + i)).leaving] else []

/-- A change of an entry reaches the peer die (R428): supervision state and sources replace a queued update. -/
def Dev.mirrorSac (d : Dev) (t i : Nat) : Dev := d.mirror (t == 1 || t == 4) ([2, t, i] ++ d.sacWords t i ++ d.exprMarks t i)

/-- The express entries at these places reach the peer die. -/
def Dev.mirrorExpr (d : Dev) (ks : List Nat) : Dev := ks.foldl (fun d k => d.mirrorSac (2 + k / 64) (k % 64)) d

/-- A STREAM context's access and its RESULT (R192): 0 OK, 1 INVALID, 2 PARITY. -/
def Dev.sacAccess (d : Dev) (c : Nat) (write : Bool) : Dev × Nat :=
  let t := d.get F.SAC_SEL_TBL c
  let i := d.get F.SAC_SEL_INDEX c
  let ws := d.dataWords .SAC_DATA (8 * c) 8
  let bad := (t == 0 && d.bad 5 i) || ((t == 2 || t == 3) && d.bad 6 (64 * (t - 2) + i))
  if sacSize t ≤ i then (d, 1)
  else if !write then (d.putWords .SAC_DATA (8 * c) 8 (d.sacWords t i), if bad then 2 else 0)
  else if (c = 1 ∧ (t = 1 ∨ t = 4)) ∨ d.sacOk t i ws = false then (d, 1)
  else ((d.sacPut t i ws).mirrorSac t i, 0)

/-- A command of a STREAM context (R192). -/
def Dev.sacCmd (d : Dev) (c : Nat) (write : Bool) : Dev :=
  if d.on F.SAC_STATUS_BUSY c then d
  else
    let r := d.sacAccess c write
    { r.1 with tblRes := r.1.tblRes.put (2 + c) (1 + 2 * r.2) }.set F.SAC_STATUS_BUSY c 1

def execSacRead (m : Fin 32) (c : Fin 2) (s : State) : Out := s.write m .SAC_CMD c 1 (fun d _ => d.sacCmd c false)
def execSacWrite (m : Fin 32) (c : Fin 2) (s : State) : Out := s.write m .SAC_CMD c 2 (fun d _ => d.sacCmd c true)

/-! ## Records (R177, R197) -/

/-- A record about a stream, limited to one per `n` cycles. -/
def Dev.streamRecLim (d : Dev) (n code sev st a1 : Nat) : Dev :=
  d.recordLim n { code := code, sev := sev, a0 := st, a1 := a1, obj := .stream st, ints := d.streamInts st }

/-- A record about a redundancy pair, limited to one per `n` cycles. -/
def Dev.pairRecLim (d : Dev) (n code sev k : Nat) : Dev :=
  d.recordLim n { code := code, sev := sev, a0 := 32768 + k, obj := .stream (32768 + k), ints := d.streamInts 16384 }

/-! ## Duplicate discard (R179 to R181) -/

/-- The bucket of a source (R180), by its first place. -/
def ddBucket (cb : Bool) (key : Nat) : Nat :=
  4 * (crc32c (if cb then beBytes 1 0x80 ++ beBytes 5 0 ++ beBytes 2 key
               else beBytes 1 (key / 2 ^ 48) ++ beBytes 1 0 ++ beBytes 6 key) % 16384)

/-- A source is in use (R179): pinned, or used within DD_FORGET. -/
def Dev.ddUsed (d : Dev) (i : Nat) : Bool :=
  let e := d.dd.get i
  e.used && (e.pinned || decide (d.ptNs < e.last + d.get F.STREAM_CTRL_DD_FORGET * 1000000))

/-- The place of a source in use. -/
def Dev.ddFind (d : Dev) (cb : Bool) (key : Nat) : Option Nat :=
  (slots4 (ddBucket cb key)).find? (fun i => d.ddUsed i && (d.dd.get i).cb == cb && (d.dd.get i).key == key)

/-- A source's place, allocated when it has none: the lowest free slot of its bucket. -/
def Dev.ddAlloc (d : Dev) (cb : Bool) (key : Nat) (fresh : DdSrc) : Dev × Option Nat :=
  match d.ddFind cb key with
  | some i => (d, some i)
  | none =>
    match (slots4 (ddBucket cb key)).find? (fun i => !d.ddUsed i) with
    | some i => ({ d with dd := d.dd.put i { fresh with used := true, cb := cb, key := key, last := d.ptNs } }, some i)
    | none => (d, none)

/-- A bucket is full (R179). `k` names the object of the record: a stream, or a pair by 32,768 + its index. -/
def Dev.ddFull (d : Dev) (k : Nat) : Dev :=
  let d := (d.count 0x28 2).raise F.STREAM_EVENT_DD_TABLE_FULL
  d.recordOnce secCycles { code := 0x060A, sev := 3, a0 := k, obj := .stream k,
                           ints := d.streamInts (if 32768 ≤ k then 16384 else k) }

/-- Signed difference of two 16-bit sequence numbers. -/
def seqDiff (a b : Nat) : Int :=
  let x := ((a : Int) - b).emod 65536
  if x < 32768 then x else x - 65536

/-- The check of R181: the source after it, whether the frame is accepted, whether it was a rogue, whether the window
restarted. -/
def ddStep (e : DdSrc) (s : Nat) : DdSrc × Bool × Bool × Bool :=
  let df := seqDiff s e.high
  if !e.live then ({ e with live := true, high := s, win := 1 }, true, false, false)
  else if 0 < df then
    let w := if 64 ≤ df then 0 else e.win * 2 ^ df.toNat % 2 ^ 64
    ({ e with win := w ||| 1, high := s }, true, false, false)
  else if -64 < df then
    let b := 2 ^ df.natAbs
    if e.win / b % 2 = 1 then (e, false, false, false) else ({ e with win := e.win + b }, true, false, false)
  else if e.cb then (e, false, true, false)
  else ({ e with high := s, win := 1 }, true, false, true)

/-- The check on a source in place; whether the frame is accepted. -/
def Dev.ddCheck (d : Dev) (i s : Nat) : Dev × Bool :=
  match ddStep (d.dd.get i) s with
  | (e, ok, rogue, restart) =>
    let d := ({ d with dd := d.dd.put i { e with last := d.ptNs } }.mirrorSac 4 i).count 0x28 0
    let d := if restart then d.count 0x28 3 else d
    let d := if rogue then d.satCount .DD_ROGUE_CNT 0 else d
    (if ok then d else d.count 0x28 1, ok)

/-- A source unused for DD_FORGET becomes free (R179). -/
def Dev.ddForget (d : Dev) (i : Nat) : Dev :=
  if (d.dd.get i).used && !d.ddUsed i then { d with dd := d.dd.put i default }.mirrorSac 4 i else d

def execDdSourceForget (i : Fin 65536) (s : State) : Out := s.later 6 0 (·.ddForget i)

/-- Every address that sends on an interlink has a source (R182). The value a frame of it is sent with, where it is: the source's
TX_SEQ, which then increments; with a full bucket the device's own. -/
def Dev.txSeqOf (d : Dev) (pair sa : Nat) (sent : Bool) : Dev × Nat :=
  match d.ddAlloc false (pair * 2 ^ 48 + sa) { (default : DdSrc) with txSeq := d.ownTx, proxy := true } with
  | (d, some i) =>
    let e := d.dd.get i
    ({ d with dd := d.dd.put i { e with txSeq := (e.txSeq + b2n sent) % 65536, last := d.ptNs, proxy := true } }.mirrorSac 4 i, e.txSeq)
  | (d, none) => ({ d with ownTx := (d.ownTx + b2n sent) % 65536 }.ddFull (32768 + pair), d.ownTx)

/-! ## Extraction (R171) -/

/-- A BER INTEGER behind its tag, inside the parse window. -/
def berAt (b : List Byte) (off tag : Nat) : Option Nat :=
  let w := b.take 256
  if w.length < off + 2 ∨ be w off 1 ≠ tag then none
  else
    let n := be w (off + 1) 1
    if n < 1 ∨ 5 < n ∨ w.length < off + 2 + n then none
    else if 128 ≤ be w (off + 2) 1 ∨ (n = 5 ∧ be w (off + 2) 1 ≠ 0) then none
    else some (be w (off + 2) n)

/-- The sequence fields of a frame: stNum, sqNum, timeAllowedToLive; or smpCnt, 0, the quality word. -/
def extractFixed (s : Stream) (b : List Byte) : Option (Nat × Nat × Nat) :=
  if !s.fixedPos then none
  else if s.type = 2 ∨ s.type = 4 then
    match berAt b s.offA 0x82 with
    | some c => if (b.take 256).length < s.offC + 4 then none else some (c, 0, be b s.offC 4)
    | none => none
  else
    match berAt b s.offA 0x85, berAt b s.offB 0x86, berAt b s.offC 0x81 with
    | some a, some q, some t => some (a, q, t)
    | _, _, _ => none

/-! ## Supervision (R173 to R177) -/

/-- Signed difference of two 32-bit numbers. -/
def numDiff (a b : Nat) : Int :=
  let x := ((a : Int) - b).emod (2 ^ 32)
  if x < 2 ^ 31 then x else x - 2 ^ 32

/-- The successor of R173. -/
def succ32 (n : Nat) : Nat := if n = 4294967295 then 1 else n + 1

/-- Severity of an anomaly class for a stream. -/
def anomSev (s : Stream) (k : Nat) : Nat :=
  if k = 0 then 3 else if k = 1 then 4 else if k = 2 then 2 else if k = 3 then 2
  else if k = 4 then (if s.tc = 7 then 5 else 3) else 3

/-- Record code of an anomaly class. -/
def anomCode (k : Nat) : Nat := if k < 5 then 0x0601 + k else 0x0602 + k

/-- An anomaly of a stream: its event, record and whether the frame is discarded (R177). -/
def Dev.anomaly (d : Dev) (st k : Nat) : Dev × Bool :=
  let s := d.streams.get st
  let a := s.act k
  let d := d.raiseFirst F.STREAM_EVENT_SEQ_ANOMALY 0 0 msCycles
  let d := if a = 0 then d
    else if k = 4 then d.streamRec (anomCode k) (anomSev s k) st 0
    else d.streamRecLim msCycles (anomCode k) (anomSev s k) st 0
  (d, a == 2 && k != 4 && k != 5)

/-- Stores a stream entry's new state. -/
def Dev.streamPut (d : Dev) (st : Nat) (s : Stream) : Dev := { d with streams := d.streams.put st s }.mirrorSac 1 st

/-- GOOSE and R-GOOSE (R173): class (none in order), the pair stored after. -/
def gooseClass (s : Stream) (st' sq' : Nat) : Option Nat × Bool × Nat × Nat :=
  if st' = s.st ∧ sq' = succ32 s.sq then (none, false, st', sq')
  else if st' = succ32 s.st ∧ sq' = 0 then (none, true, st', sq')
  else if st' = 1 ∧ sq' = 0 ∧ s.st ≠ 0 then (some 3, false, st', sq')
  else if st' = s.st ∧ sq' = s.sq then (some 2, false, s.st, s.sq)
  else if 0 < numDiff st' s.st ∨ (st' = s.st ∧ 0 < numDiff sq' s.sq) then (some 0, false, st', sq')
  else (some 1, false, s.st, s.sq)

/-- SV and R-SV (R174): class, the count stored after, frames lost. -/
def svClass (s : Stream) (c : Nat) : Option Nat × Nat × Nat :=
  let w := s.smpWrap
  if w ≤ c then (some 1, s.st, 0)
  else
    let df := ((c : Int) - s.st).emod w
    if df = 1 then (none, c, 0)
    else if df = 0 then (some 2, s.st, 0)
    else if 2 * df ≤ w then (some 0, c, (df - 1).toNat)
    else (some 1, s.st, 0)

/-- Counts an anomaly class in the stream's set (R196). -/
def Dev.anomCount (d : Dev) (st : Nat) (k : Option Nat) (lost : Nat) : Dev :=
  match k with
  | some 0 => (d.sstat st 2).sstat st 3 lost
  | some 1 => d.sstat st 4
  | some 2 => d.sstat st 4
  | _ => d

/-- Supervises a frame of a stream (R173 to R175): `pt` its ingress PT in ns, its fields, its SPDU number. Whether it is
discarded. -/
def Dev.supervise (d : Dev) (st pt : Nat) (x : Nat × Nat × Nat) (spdu : Option Nat) : Dev × Bool :=
  let s := d.streams.get st
  let sv := s.type == 2 || s.type == 4
  let dl := if sv then (if s.smpRate = 0 then 0 else pt + (3000000000 + s.smpRate - 1) / s.smpRate) else pt + x.2.2 * 1000000
  let d := if s.silent then d.streamRec 0x0606 1 st 0 else d
  let bad := decide (x.2.2 % 4 ≠ 0)
  let base : Stream := { s with deadline := dl, silent := false }
  if s.first || s.silent then
    (d.streamPut st { base with st := x.1, sq := if sv then 0 else x.2.1, first := false, qualBad := sv && bad,
                                spdu := spdu.getD s.spdu }, false)
  else
    let old := match spdu with | some n => decide (s.type = 3 ∨ s.type = 4) && decide (numDiff n s.spdu ≤ 0) | none => false
    let base := if old then base else { base with spdu := spdu.getD s.spdu }
    let r : Option Nat × Bool × Nat × Nat × Nat :=
      if old then (some 1, false, s.st, s.sq, 0)
      else if sv then (match svClass s x.1 with | (k, c, l) => (k, false, c, 0, l))
      else (match gooseClass s x.1 x.2.1 with | (k, ch, a, b) => (k, ch, a, b, 0))
    let counts := sv && (r.1 == none || r.1 == some 0)
    let s' := { base with st := r.2.2.1, sq := r.2.2.2.1, seen := if counts then (s.seen + 1) % 65536 else s.seen,
                          qualBad := sv && bad }
    let d := (d.streamPut st s').anomCount st r.1 r.2.2.2.2
    let d := if r.2.1 && s.stateRec then d.streamRec 0x0609 2 st x.1 else d
    let y := match r.1 with | some k => d.anomaly st k | none => (d, false)
    if sv && bad && !s.qualBad then
      let z := y.1.anomaly st 6
      (z.1, y.2 || z.2)
    else y

/-- A stream's deadline passed without a frame (R175); with ingress closed nothing is supervised (R419). -/
def Dev.silence (d : Dev) (st : Nat) : Dev :=
  let s := d.streams.get st
  if s.valid && s.type != 0 && d.ingressOpen && d.on F.STREAM_CTRL_SUPV_EN && s.deadline != 0 && !s.silent && decide (s.deadline ≤ d.ptNs) then
    let d := ((d.streamPut st { s with silent := true }).sstat st 5).raise F.STREAM_EVENT_SILENCE
    (d.anomaly st 4).1
  else d

def execSilenceDeadline (st : Fin 16384) (s : State) : Out := s.later 6 0 (·.silence st)

/-- At a second boundary of PT an SV stream's count is compared with SMP_RATE (R174). -/
def Dev.rateCheck (d : Dev) (st : Nat) : Dev :=
  let s := d.streams.get st
  if s.valid && (s.type == 2 || s.type == 4) && d.ingressOpen && d.on F.STREAM_CTRL_SUPV_EN then
    let off := decide (s.seen + s.rateTol < s.smpRate ∨ s.smpRate + s.rateTol < s.seen)
    let d := d.streamPut st { s with seen := 0 }
    if off then (d.anomaly st 5).1 else d
  else d

def execSmpRateCheck (st : Fin 16384) (s : State) : Out := s.later 6 0 (·.rateCheck st)

/-! ## Admission's part of a commit (R166, R184) -/

/-- The rule action of an admission (R166); with no egress port it forwards to none (DESIGN CHOICE, log entry 113). -/
def admitAction (s : Stream) (st : Nat) : Nat :=
  let dest := match s.group, s.egress with
    | some g, _ => 2 + 16 * g
    | none, p :: _ => 3 + 16 * p
    | none, [] => 4
  dest + 8 + 2 ^ 20 + 2 ^ 21 * s.tc + 2 ^ 27 + 2 ^ 28 * st + 2 ^ 87

/-- The bitmap of a set of ports. -/
def portBits (ps : List Nat) : Nat := ps.foldl (fun w p => w ||| 2 ^ p) 0

/-- Stages an admission or a withdrawal into the shadow; what its command answers when it cannot. -/
def Dev.stageAdmit (d : Dev) (a : Admit) : Dev × Ans :=
  let s := d.streams.get a.stream
  if a.isAdmit then
    let d := match s.group with | some g => d.stageGroup g (portBits s.egress) | none => d
    let r := d.stageRule s.prof s.key (admitAction s a.stream)
    (if r.2.st = 0 then r.1 else match s.group with | some g => r.1.stageGroup g 0 | none => r.1, r.2)
  else
    let d := match s.group with | some g => d.stageGroup g 0 | none => d
    ((d.unstageRule s.prof s.key).1, .ok)

/-- A stream as its admission left it: its supervision begins anew (R194). -/
def Stream.anew (x : Stream) : Stream :=
  { x with st := 0, sq := 0, deadline := 0, silent := false, qualBad := false, first := true, seen := 0, spdu := 0 }

/-- A stream and all it holds is cleared (R166): its counters, its source, its policer, its express entries. -/
def Dev.clearStream (d : Dev) (st : Nat) : Dev :=
  let s := d.streams.get st
  let ex := (d.express.filter (fun e => e.2.stream == st)).map Prod.fst
  let src := (d.dd.filter (fun e => e.2.cb && e.2.pinned && e.2.key == st)).map Prod.fst
  let d := { d with
    streams := d.streams.put st default
    streamStats := d.streamStats.filter (fun e => e.1 / 8 != st)
    dd := d.dd.filter (fun e => !(e.2.cb && e.2.pinned && e.2.key == st))
    policers := d.policers.put st default
    express := d.express.filter (fun e => e.2.stream != st)
    lapsed := d.lapsed.filter (fun e => e.1 / 512 != st) }
  let d := src.foldl (fun d i => d.mirrorSac 4 i) (((d.mirrorSac 0 st).mirrorSac 1 st).mirrorExpr ex)
  s.egress.foldl (fun d p => (d.tripMarks p).checkBounds p) d

/-- The commands that wait for a commit are answered. -/
def Dev.admitReply (d : Dev) (a : Admit) (ans : Ans) : Dev :=
  match d.jobs.find? (fun j => j.ch == a.ch && j.tag == a.tag && (j.op == 0x400 || j.op == 0x401)) with
  | some j => d.finishJob j ans
  | none => d

/-- The bound of R190 in ns for a stream's largest frame on an egress, at its present speed. -/
def Dev.boundNs (d : Dev) (s : Stream) (expr : Bool) (p : Nat) : Dev × Nat :=
  let kb := if d.portSpeed p = 0 then kbps (d.lowSpeed p) else kbps (d.portSpeed p)
  let res := if d.guardBand p && !d.preActive p then 0 else 143 + 64 * d.addFrag p
  let w := d.tripLoad p - (s.fMax + 20)
  let path : Nat := if expr then 5 else 480
  let r := d.divFree (((res + w + s.fMax) * 8000000 : Nat) : Int) kb
  let g := r.2.divFree (s.tProg : Int) 180
  (if s.gmac then g.2 else r.2, path + r.1.toNat + (if s.gmac then g.1.toNat else 0))

/-- The reply of an admission (R191): index, path (1 the burin path), for a TC_7 stream the bound on each egress. -/
def Dev.admitWords (d : Dev) (st : Nat) : Dev × List Nat :=
  let s := d.streams.get st
  let expr := d.express.any (fun e => e.2.valid && e.2.stream == st)
  if s.tc = 7 then
    s.egress.foldl (fun x p => let y := x.1.boundNs s expr p; (y.1, x.2 ++ [y.2])) (d, [st, b2n expr])
  else (d, [st, b2n expr])

/-- The commit of admissions and withdrawals: the matcher switches, withdrawn streams leave with the old plate. -/
def Dev.admitsCommit (d : Dev) : Dev :=
  let l := d.admits
  let d := { d with express := (d.express.filter (fun e => !e.2.leaving)).map (fun e => (e.1, { e.2 with staged := false })), admits := [] }
  l.foldl (fun d a =>
    if a.isAdmit then
      let w := d.admitWords a.stream
      w.1.admitReply a (.okW w.2)
    else { d with streams := d.streams.put a.stream { d.streams.get a.stream with leaving := true } }.admitReply a .ok) d

/-- The shadow that held them is aborted: admitted entries are freed, withdrawals forgotten. -/
def Dev.admitsAbort (d : Dev) (ans : Ans) : Dev :=
  let l := d.admits
  let d := { d with express := d.express.map (fun e => (e.1, { e.2 with leaving := false })), admits := [] }
  l.foldl (fun d a => (if a.isAdmit then d.clearStream a.stream else d).admitReply a ans) d

/-- The old plate retires: withdrawn streams are invalid from now on. -/
def Dev.admitsRetire (d : Dev) : Dev :=
  (d.streams.filter (fun e => e.2.leaving)).foldl (fun d e => d.clearStream e.1) d

end Sys2Proof.Machine
end

