-- ==== Sys2Proof/Machine/Time.lean ====
section
/-! DEFINITION. The TIME block (R61 to R91): the bases and their lock epochs, presented time, compares and time pins,
PPS and SyncE, the SFI time group (R364). -/

namespace Sys2Proof.Machine

/-! ## Bases and PT -/

/-- A signed value of `n` bits. -/
def signed (n v : Nat) : Int := if v < 2 ^ (n - 1) then (v : Int) else (v : Int) - 2 ^ n

/-- Sets a base's count, modulo 2^112. -/
def Dev.setTb (d : Dev) (n : Nat) (v : Int) : Dev :=
  if n = 0 then { d with tb0 := (v.emod (2 ^ 112)).toNat } else { d with tb1 := (v.emod (2 ^ 112)).toNat }

/-- The base is the active one. -/
def Dev.isActive (d : Dev) (n : Nat) : Bool := d.get F.TIME_STATUS_PT_TB == n

/-- A record of the TIME block: its internal words are the LT word of the base or pin concerned (R90). -/
def Dev.timeRec (d : Dev) (code sev a0 a1 lt : Nat) (o : Obj) : Dev :=
  d.record { code := code, sev := sev, a0 := a0, a1 := a1, obj := o, ints := [ltWord lt 0, ltWord lt 1, ltWord lt 2] }

/-- The compare source's LT (R80): 0 PT, 1 TB_0, 2 TB_1. -/
def Dev.srcLt (d : Dev) (src : Nat) : Nat := if src = 0 then d.pt else d.tbLt (src - 1)

/-- How far an armed commit's target lies ahead of a PT value: from the 80-bit target that core 0 holds for HOLD, else
from the compare's own (R115). -/
def Dev.commitDiff (d : Dev) (pt : Nat) : Int :=
  match (if d.on F.PLATE_AT_1_HOLD then d.heldT.find? (fun h => h.kind == 2) else none) with
  | some h => (h.target : Int) - pt
  | none => cmpDiff d.commitAt pt

/-- PT steps from an earlier value while a timed commit is armed (R115): a step to or past the target disarms it. -/
def Dev.ptStepped (d : Dev) (before : Nat) : Dev :=
  if d.on F.PLATE_STATUS_COMMIT_ARMED && decide (0 < d.commitDiff before ∧ d.commitDiff d.pt ≤ 0) then
    let d := (d.set F.PLATE_STATUS_COMMIT_ARMED 0 0).set F.PLATE_STATUS_REFUSE_REASON 0 6
    let d := { d with heldT := d.heldT.filter (fun h => h.kind != 2) }
    ((d.raise F.PLATE_EVENT_COMMIT_REFUSED).record { code := 0x0505, sev := 4, a0 := 6 }).finishOp 0x305 (.invalid 6)
  else d

/-- PT_VALID sets in the first tick in which the active base is LOCKED (R77). -/
def Dev.checkValid (d : Dev) : Dev :=
  if !d.on F.TIME_STATUS_PT_VALID && d.get F.TB_STATE_STATE (d.get F.TIME_STATUS_PT_TB) == 2 then
    { d with off := 0 }.set F.TIME_STATUS_PT_VALID 0 1
  else d

/-- The active base becomes `b` (R76 to R78): PT is continuous once it is valid, and steps before. -/
def Dev.switchPt (d : Dev) (b : Nat) : Dev :=
  let before := d.pt
  let off := if d.on F.TIME_STATUS_PT_VALID then (d.tb (d.get F.TIME_STATUS_PT_TB) : Int) + d.off - d.tb b else 0
  let d := { d with off := off }.set F.TIME_STATUS_PT_TB 0 b
  let d := d.ptStepped before
  let d := (d.raise F.TIME_EVENT_PT_SWITCH).timeRec 0x0906 2 b 0 (d.tbLt b) (.base b)
  d.checkValid

/-- The automatic selection after a base left LOCKED (R78). -/
def Dev.autoSelect (d : Dev) (n : Nat) : Dev :=
  if d.on F.TIME_CTRL_AUTO_SEL && d.isActive n && d.get F.TB_STATE_STATE (1 - n) == 2 then d.switchPt (1 - n) else d

/-- A base enters FREE (R65). -/
def Dev.enterFree (d : Dev) (n : Nat) : Dev :=
  let d := (d.set F.TB_STATE_STATE n 0).set F.TB_STATE_STEP_AVAIL n 0
  let d := (d.raise F.TIME_EVENT_TB_FREE 0 n).timeRec 0x0903 5 n 0 (d.tbLt n) (.base n)
  d.autoSelect n

/-- OFF reaches 0 (R76). -/
def Dev.aligned (d : Dev) : Dev :=
  let d := { d with off := 0 }.raise F.TIME_EVENT_PT_ALIGNED
  d.timeRec 0x0907 1 0 0 d.pt .none

/-- What a tick adds to a base, in 2^-48 ns (R63), and the device once a rounding is drawn. -/
def Dev.tbAdv (d : Dev) (n : Nat) : Int × Dev := d.divFree (5 * 2 ^ 48 + 5 * (if n = 0 then d.rate0 else d.rate1)) 4

/-- A base advances by one tick: 1.25 ns × (1 + RATE × 2^-48); a pending RATE commits (R63) and restarts the servo timer
(R65). The tick at which it commits still advances by the old RATE (DESIGN CHOICE, log entry 103). -/
def Dev.tbMove (d : Dev) (n : Nat) : Dev :=
  let r := d.tbAdv n
  let d := r.2.setTb n ((d.tb n : Int) + r.1)
  let d := if (if n = 0 then d.pend0 else d.pend1).isSome then { d with servoAt := d.servoAt.put n d.cycle } else d
  let d := if n = 0 then { d with rate0 := d.pend0.getD d.rate0, pend0 := none }
           else { d with rate1 := d.pend1.getD d.rate1, pend1 := none }
  d.checkValid

/-- OFF slews towards 0 over an advance of PT (R76). -/
def Dev.ptSlew (d : Dev) (adv : Int) : Dev :=
  let s := d.divFree (adv * d.get F.TIME_CTRL_PT_SLEW) 10000000
  if (d.off.natAbs : Int) ≤ s.1 then s.2.aligned
  else { s.2 with off := if s.2.off < 0 then s.2.off + s.1 else s.2.off - s.1 }

/-- One tick of a base (R63, R76): it advances, and a tick of the active base slews OFF towards 0. -/
def Dev.tbTick (d : Dev) (n : Nat) : Dev :=
  if !d.ticking.get n then d
  else if (d.tbMove n).isActive n && (d.tbMove n).off != 0 && (d.tbMove n).on F.TIME_STATUS_PT_VALID
  then (d.tbMove n).ptSlew (d.tbAdv n).1
  else d.tbMove n

def execTbTick (n : Fin 2) (s : State) : Out := s.actAt (fun _ => atTime) (·.tbTick n)

/-- The largest magnitude of RATE, 500 ppm (R63). -/
def rateLimit : Int := 140737488355

/-- A TB_RATE_1 write commits RATE at the next tick, or is discarded out of range (R63). -/
def Dev.tbRate1 (d : Dev) (n w : Nat) : Dev :=
  let r := signed 48 (w % 65536 * 2 ^ 32 + d.reg .TB_RATE_0 n)
  if r < -rateLimit ∨ rateLimit < r then d
  else
    let d := d.store .TB_RATE_1 n w
    if n = 0 then { d with pend0 := some r } else { d with pend1 := some r }

def execTbRate1Write (m : Fin 32) (n : Fin 2) (w : Word) (s : State) : Out :=
  s.write m .TB_RATE_1 n w.toNat (fun d w => d.tbRate1 n w)

/-- START (R65). -/
def Dev.tbStart (d : Dev) (n : Nat) : Dev :=
  if d.get F.TB_STATE_STATE n = 0 then
    ((d.set F.TB_STATE_STATE n 1).set F.TB_STATE_STEP_AVAIL n 1).set F.TB_STATE_EPOCH n ((d.get F.TB_STATE_EPOCH n + 1) % 256)
  else d

/-- RELOCK (R65). -/
def Dev.tbRelock (d : Dev) (n : Nat) : Dev :=
  if d.get F.TB_STATE_STATE n = 3 then ({ d with servoAt := d.servoAt.put n d.cycle }.set F.TB_STATE_STATE n 2).checkValid else d

/-- EPOCH_END (R65). -/
def Dev.tbEpochEnd (d : Dev) (n : Nat) : Dev := if d.get F.TB_STATE_STATE n = 0 then d else d.enterFree n

/-! ## Pins and compares (R80 to R86) -/

/-- TIO and PPS outputs may be driven (R77). -/
def Dev.outputsOn (d : Dev) : Bool := d.on F.TIME_STATUS_PT_VALID || d.on F.TIME_CTRL_FREE_RUN_OUT

/-- The trim of a pin's output edges, in 2^-16 ns (R85). -/
def Dev.tioTrim (d : Dev) (n : Nat) : Int := signed 32 (d.reg .TIO_TRIM n)

/-- Drives a pin active or inactive, with its polarity; the edge is placed at an instant of the compare's source plus TIO_TRIM
(R85). -/
def Dev.drivePin (d : Dev) (n : Nat) (act : Bool) (t : Nat) : Dev :=
  { d with active := d.active.put n act }.emit
    (.edge n (b2n (act != d.on F.TIO_CFG_POLARITY n)) (((t : Int) + d.tioTrim n).emod (2 ^ 56)).toNat)

/-- The outputs that are active become inactive (R77): the pins, and PPS_OUT. -/
def Dev.outputsOff (d : Dev) : Dev :=
  let d := (List.range 8).foldl (fun (d : Dev) n =>
    if d.active.get n then { d.drivePin n false (d.srcLt (d.get F.TIO_CFG_CMP_SRC n)) with pulseEnd := d.pulseEnd.put n none } else d) d
  if d.ppsEnd.isSome then { d with ppsEnd := none }.emit (.pin 1 0 0) else d

/-- The length of a pulse in 2^-16 ns (R83): WIDTH, at most PERIOD − 8 ns of a periodic output, at least 8 ns. -/
def Dev.tioPulse (d : Dev) (n : Nat) : Nat :=
  let w := d.reg .TIO_WIDTH n * 65536
  let top := d.reg .TIO_PERIOD_0 n * 65536 + d.get F.TIO_PERIOD_1_PERIOD_FRAC n - 524288
  max 524288 (if d.get F.TIO_CFG_MODE n = 3 then min w top else w)

/-- PERIOD in 2^-16 ns. -/
def Dev.tioPeriod (d : Dev) (n : Nat) : Nat := d.reg .TIO_PERIOD_0 n * 65536 + d.get F.TIO_PERIOD_1_PERIOD_FRAC n

/-- The first second boundary of the source at or after an LT, in 2^-16 ns. -/
def nextSecond (lt : Nat) : Nat := (lt + 65536000000000 - 1) / 65536000000000 * 65536000000000

/-- The target after an edge of a periodic output (R84): a period later, or the next second's boundary if that comes
first with ALIGN_SEC. A LOCK step of its source that carries the output past several edges fires them one after another (DESIGN
CHOICE, log entry 104). -/
def Dev.nextEdge (d : Dev) (n target : Nat) : Nat :=
  let src := d.get F.TIO_CFG_CMP_SRC n
  let full := (((d.srcLt src : Nat) : Int) + cmpDiff target (d.srcLt src)).toNat
  let nxt := full + d.tioPeriod n
  (if d.on F.TIO_CFG_ALIGN_SEC n ∧ nextSecond (full + 1) ≤ nxt then nextSecond (full + 1) else nxt) % 2 ^ 56

/-- A compare fires (R80, R83): pulse, periodic edge or level; the pin disarms when its sequence ends. In MODE 4 the pin takes
LEVEL as it is, whatever POLARITY (DESIGN CHOICE, log entry 105). -/
def Dev.fire (d : Dev) (n : Nat) : Dev :=
  match d.cmp.get n with
  | none => d
  | some t =>
    let d := d.count 0x38 6
    let mode := d.get F.TIO_CFG_MODE n
    if mode = 4 then
      let d := { d with cmp := d.cmp.put n none }
      if d.outputsOn then { d with active := d.active.put n (d.on F.TIO_CFG_LEVEL n) }.emit
        (.edge n (d.get F.TIO_CFG_LEVEL n) (((t : Int) + d.tioTrim n).emod (2 ^ 56)).toNat) else d
    else
      let k := d.pulses.get n + 1
      let cnt := d.reg .TIO_COUNT n
      let more := mode = 3 ∧ (cnt = 0 ∨ k < cnt)
      let d := { d with pulses := d.pulses.put n k
                        cmp := d.cmp.put n (if more then some (d.nextEdge n t) else none) }
      if d.outputsOn then { d with pulseEnd := d.pulseEnd.put n (some ((t + d.tioPulse n) % 2 ^ 56)) }.drivePin n true t else d

/-- A compare fired late or was stepped over (R81, R82, R84). -/
def Dev.trigLate (d : Dev) (n code : Nat) : Dev :=
  (d.raise F.TIME_EVENT_TRIG_LATE 0 n).timeRec code 4 n 0 (d.srcLt (d.get F.TIO_CFG_CMP_SRC n)) (.pin n)

/-- The first edge of a late periodic output that is not in the past, and the edges before it (R84), from its first edge `t0` and
the present, both whole LT values. With ALIGN_SEC the sequence has restarted at every second boundary since. -/
def lateEdge (t0 now per : Nat) (align : Bool) : Nat × Nat :=
  if align then
    let sec := 65536000000000
    let b := now / sec * sec
    let j := (now - b + per - 1) / per
    (min (b + j * per) (b + sec), (b - t0) / sec * ((sec + per - 1) / per) + j)
  else
    let k := (now - t0 + per - 1) / per
    (t0 + k * per, k)

/-- Arms a pin's compare at a target (R81, R83, R84). -/
def Dev.armTio (d : Dev) (n target : Nat) : Dev :=
  let mode := d.get F.TIO_CFG_MODE n
  if mode < 2 then d
  else
    let now := d.srcLt (d.get F.TIO_CFG_CMP_SRC n)
    let t0 := if mode = 3 ∧ d.on F.TIO_CFG_ALIGN_SEC n
      then nextSecond (((now : Nat) : Int) + cmpDiff target now).toNat % 2 ^ 56 else target % 2 ^ 56
    let diff := cmpDiff t0 now
    let d := { d with cmp := d.cmp.put n (some t0), pulses := d.pulses.put n 0 }
    if 0 < diff then d
    else
      let d := d.trigLate n 0x0908
      let per := d.tioPeriod n
      if mode = 3 ∧ 0 < per then
        let e := lateEdge (((now : Nat) : Int) + diff).toNat now per (d.on F.TIO_CFG_ALIGN_SEC n)
        let cnt := d.reg .TIO_COUNT n
        if cnt ≠ 0 ∧ cnt ≤ e.2 then { d with cmp := d.cmp.put n none }
        else
          let d := { d with cmp := d.cmp.put n (some (e.1 % 2 ^ 56)), pulses := d.pulses.put n e.2 }
          if e.1 ≤ now then d.fire n else d
      else d.fire n

/-- A LOCK step that carries a compare's source past its target fires it late (R82). -/
def Dev.steppedOver (d : Dev) (before : Nat → Nat) : Dev :=
  (List.range 8).foldl (fun d n =>
    match d.cmp.get n with
    | none => d
    | some t =>
      let src := d.get F.TIO_CFG_CMP_SRC n
      if 0 < cmpDiff t (before src) ∧ cmpDiff t (d.srcLt src) ≤ 0 then (d.trigLate n 0x0909).fire n else d) d

/-- The step of a LOCK (R66): to the LT of TB_STEP, or by it. -/
def Dev.lockStep (d : Dev) (n : Nat) (abs : Bool) : Int :=
  let lt : Nat := d.reg .TB_STEP (3 * n) + d.reg .TB_STEP (3 * n + 1) * 2 ^ 32 + d.reg .TB_STEP (3 * n + 2) % 65536 * 2 ^ 64
  if abs then (lt : Int) * 2 ^ 32 - d.tb n else signed 80 lt * 2 ^ 32

/-- A base takes its step (R66); an active, valid one leaves PT as it is (R76). -/
def Dev.tbStep (d : Dev) (n : Nat) (step : Int) : Dev :=
  let d := d.setTb n ((d.tb n : Int) + step)
  if d.isActive n && d.on F.TIME_STATUS_PT_VALID then { d with off := d.off - step } else d

/-- A base locks (R65): its step is spent, its servo timer restarts. -/
def Dev.tbLocked (d : Dev) (n : Nat) : Dev :=
  ({ d with servoAt := d.servoAt.put n d.cycle }.set F.TB_STATE_STATE n 2).set F.TB_STATE_STEP_AVAIL n 0

/-- The records of a LOCK (R90). The two arguments of TB_STEP hold 64 bits of the 80-bit step: its low ones (DESIGN CHOICE, log
entry 106). -/
def Dev.lockRecs (d : Dev) (n : Nat) (step : Int) : Dev :=
  let d := d.timeRec 0x0901 1 n 0 (d.tbLt n) (.base n)
  if step = 0 then d else
    d.timeRec 0x0904 2 (step.emod (2 ^ 80) / 2 ^ 32 % 2 ^ 32).toNat (step.emod (2 ^ 112) / 2 ^ 64 % 2 ^ 32).toNat
      (d.tbLt n) (.base n)

/-- LOCK (R65, R66, R76, R77). Its records carry the time before the step (R68). -/
def Dev.tbLock (d : Dev) (n : Nat) (abs : Bool) : Dev :=
  if d.get F.TB_STATE_STATE n ≠ 1 then
    (d.raise F.TIME_EVENT_STEP_REFUSED).timeRec 0x0905 4 n 0 (d.tbLt n) (.base n)
  else
    let step := d.lockStep n abs
    (((((d.tbLocked n).lockRecs n step).tbStep n step).ptStepped d.pt).steppedOver (fun src => d.srcLt src)).checkValid

def execTbStart (m : Fin 32) (n : Fin 2) (s : State) : Out :=
  s.write m .TB_CMD n 1 (fun d _ => d.tbStart n)

def execTbLock (m : Fin 32) (n : Fin 2) (abs : Bool) (s : State) : Out :=
  s.writeAt atTime m .TB_CMD n (2 + 4 * b2n abs) (fun d _ => d.tbLock n abs)

def execTbRelock (m : Fin 32) (n : Fin 2) (s : State) : Out :=
  s.write m .TB_CMD n 8 (fun d _ => d.tbRelock n)

def execTbEpochEnd (m : Fin 32) (n : Fin 2) (s : State) : Out :=
  s.write m .TB_CMD n 16 (fun d _ => d.tbEpochEnd n)

/-- A base enters HOLDOVER (R65, R78). -/
def Dev.enterHoldover (d : Dev) (n : Nat) : Dev :=
  let d := ({ d with holdoverAt := d.holdoverAt.put n d.cycle }.set F.TB_STATE_STATE n 3).raise F.TIME_EVENT_TB_HOLDOVER 0 n
  let d := d.timeRec 0x0902 3 n 0 (d.tbLt n) (.base n)
  if d.on F.TIME_CTRL_SEL_ON_HOLDOVER then d.autoSelect n else d

/-- The servo timer has reached SERVO_TIMEOUT in LOCKED (R65, R67). -/
def Dev.servoTimeout (d : Dev) (n : Nat) : Dev :=
  if d.get F.TB_STATE_STATE n == 2 && d.past (d.servoAt.get n) (d.get F.TB_TIMERS_SERVO_TIMEOUT n * msCycles)
  then d.enterHoldover n else d

def execServoTimeout (n : Fin 2) (s : State) : Out := s.later 9 0 (·.servoTimeout n)

/-- HOLDOVER_LIMIT elapses in HOLDOVER (R65); 0 holds over without limit. -/
def Dev.holdoverLimit (d : Dev) (n : Nat) : Dev :=
  if d.get F.TB_STATE_STATE n == 3 && d.on F.TB_TIMERS_HOLDOVER_LIMIT n &&
      d.past (d.holdoverAt.get n) (d.get F.TB_TIMERS_HOLDOVER_LIMIT n * secCycles) then d.enterFree n else d

def execHoldoverLimit (n : Fin 2) (s : State) : Out := s.later 9 0 (·.holdoverLimit n)

/-- A time PLL locks; the first lock starts the base's ticks (R64). -/
def Dev.tpllLock (d : Dev) (n : Nat) : Dev :=
  { d with ticking := d.ticking.put n true }.setBit F.TIME_STATUS_TPLL_LOCK 0 n true

def execTpllLock (n : Fin 2) (s : State) : Out := s.later 9 0 (·.tpllLock n)

/-- A time PLL loses lock (R62, R64, R65). -/
def Dev.tpllUnlock (d : Dev) (n : Nat) : Dev :=
  if d.bit F.TIME_STATUS_TPLL_LOCK 0 n then
    let d := (d.setBit F.TIME_STATUS_TPLL_LOCK 0 n false).timeRec 0x090C 5 n 0 (d.tbLt n) (.base n)
    d.enterFree n
  else d

def execTpllUnlock (n : Fin 2) (s : State) : Out := s.later 9 0 (·.tpllUnlock n)

/-- A time PLL loses its reference and holds its frequency word (R62). -/
def Dev.tpllRefLoss (d : Dev) (n : Nat) : Dev :=
  if d.bit F.TIME_STATUS_TPLL_REF_LOSS 0 n then d
  else (d.setBit F.TIME_STATUS_TPLL_REF_LOSS 0 n true).timeRec 0x090C 5 n 1 (d.tbLt n) (.base n)

def execTpllRefLoss (n : Fin 2) (s : State) : Out := s.later 9 0 (·.tpllRefLoss n)

/-- The reference returns (R62). -/
def execTpllRefReturn (n : Fin 2) (s : State) : Out := s.later 9 0 (·.setBit F.TIME_STATUS_TPLL_REF_LOSS 0 n false)

/-- A TIME_CTRL write: its fields, and the active base by ACTIVE_TB (R78). Outputs that are no longer allowed become inactive
(R77). -/
def Dev.timeCtrl (d : Dev) (w : Nat) : Dev :=
  let d := d.store .TIME_CTRL 0 w
  let d := if d.outputsOn then d else d.outputsOff
  if d.get F.TIME_CTRL_ACTIVE_TB = d.get F.TIME_STATUS_PT_TB then d else d.switchPt (d.get F.TIME_CTRL_ACTIVE_TB)

def execActiveTbWrite (m : Fin 32) (w : Word) (s : State) : Out :=
  s.writeAt atSelect m .TIME_CTRL 0 w.toNat (fun d w => d.timeCtrl w)

/-- What is left of OFF is no more than a tick of the active base slews (R76). -/
def Dev.slewEnds (d : Dev) : Bool :=
  let r := if d.get F.TIME_STATUS_PT_TB = 0 then d.rate0 else d.rate1
  decide ((d.off.natAbs : Int) * 40000000 ≤ (5 * 2 ^ 48 + 5 * r) * d.get F.TIME_CTRL_PT_SLEW)

/-- The PT slew brings OFF to zero (R76). -/
def Dev.ptAligned (d : Dev) : Dev :=
  if d.on F.TIME_STATUS_PT_VALID && d.off != 0 && d.slewEnds then d.aligned else d

def execPtAligned (s : State) : Out := s.actAt (fun _ => atTime) (·.ptAligned)

/-- SNAP (R68). -/
def Dev.timeSnap (d : Dev) : Dev :=
  let pt := d.pt
  let d := (List.range 3).foldl (fun d k => d.setReg .PT_READ k (ltWord pt k)) d
  (List.range 6).foldl (fun d k => d.setReg .TB_READ k (ltWord (d.tbLt (k / 3)) (k % 3))) d

def execTimeSnap (m : Fin 32) (s : State) : Out := s.write m .TIME_CMD 0 1 (fun d _ => d.timeSnap)

/-- Some PT-driven output is enabled (R79). -/
def Dev.ptOutputs (d : Dev) : Bool :=
  d.on F.PPS_CFG_PPS_OUT_EN || (List.range 8).any (fun n => decide (2 ≤ d.get F.TIO_CFG_MODE n))

/-- PT_JAM (R79): accepted with every output disabled. OFF is set to 0 and not slewed there: PT_ALIGNED is not raised (DESIGN
CHOICE, log entry 107). -/
def Dev.ptJam (d : Dev) : Dev :=
  if d.ptOutputs then d.timeRec 0x090E 4 0 0 d.pt .none
  else
    let before := d.pt
    let step := ((-d.off) / 2 ^ 32).emod (2 ^ 64)
    let d := { d with off := 0 }
    let d := d.timeRec 0x090D 2 (step % 2 ^ 32).toNat (step / 2 ^ 32).toNat d.pt .none
    d.ptStepped before

def execTimeCmdPtJam (m : Fin 32) (s : State) : Out := s.writeAt atTime m .TIME_CMD 0 2 (fun d _ => d.ptJam)

/-- A TIO_START_1 write arms or re-arms the compare (R83). -/
def Dev.tioStart1 (d : Dev) (n w : Nat) : Dev :=
  (d.store .TIO_START_1 n w).armTio n (w % 2 ^ 24 * 2 ^ 32 + d.reg .TIO_START_0 n)

def execTioStart1Write (m : Fin 32) (n : Fin 8) (w : Word) (s : State) : Out :=
  s.write m .TIO_START_1 n w.toNat (fun d w => d.tioStart1 n w)

/-- A pin whose mode has no output driver drives no active level (R83). -/
def Dev.tioDriver (d : Dev) (n : Nat) : Dev :=
  if d.active.get n && decide (d.get F.TIO_CFG_MODE n < 2) then
    { d.drivePin n false (d.srcLt (d.get F.TIO_CFG_CMP_SRC n)) with pulseEnd := d.pulseEnd.put n none }
  else d

/-- A TIO_CFG write disarms the pin's compare (R83); with MODE 0 or 1 its output driver goes off. -/
def Dev.tioCfg (d : Dev) (n w : Nat) : Dev :=
  let d := d.store .TIO_CFG n w
  if n = 8 then d else ({ d with cmp := d.cmp.put n none, pulses := d.pulses.put n 0 }.tioDriver n)

def execTioModeWrite (m : Fin 32) (n : Fin 8) (w : Word) (s : State) : Out :=
  s.write m .TIO_CFG n w.toNat (fun d w => d.tioCfg n w)

/-- A compare has reached its target (R80). -/
def Dev.compareFire (d : Dev) (n : Nat) : Dev :=
  match d.cmp.get n with
  | some t => if cmpDiff t (d.srcLt (d.get F.TIO_CFG_CMP_SRC n)) ≤ 0 then d.fire n else d
  | none => d

def execCompareFire (n : Fin 8) (s : State) : Out := s.later 9 0 (·.compareFire n)

/-- A pulse's WIDTH ends (R83). -/
def Dev.tioPulseEnd (d : Dev) (n : Nat) : Dev :=
  match d.pulseEnd.get n with
  | some t =>
    if cmpDiff t (d.srcLt (d.get F.TIO_CFG_CMP_SRC n)) ≤ 0 then { d with pulseEnd := d.pulseEnd.put n none }.drivePin n false t else d
  | none => d

/-- A PPS_OUT pulse ends (R87). -/
def Dev.ppsOutEnd (d : Dev) : Dev :=
  match d.ppsEnd with
  | some t => if t ≤ d.pt then { d with ppsEnd := none }.emit (.pin 1 0 0) else d
  | none => d

/-- A pulse ends on TIO pin `n`, or on PPS_OUT (8). -/
def execTioPulseEnd (n : Fin 9) (s : State) : Out :=
  s.later 9 0 (fun d => if n.val = 8 then d.ppsOutEnd else d.tioPulseEnd n)

/-- An edge is captured (R68, R86). -/
def Dev.capture (d : Dev) (n : Nat) (rising : Bool) (size : Nat) : Dev :=
  if (d.capQ.get n).length < size then
    { d with capQ := d.capQ.put n (d.capQ.get n ++ [{ pt := d.pt, tb0 := d.tbLt 0, tb1 := d.tbLt 1, rising := rising }]) }
  else
    let d := d.count 0x38 7
    let d := if n = 8 then d.raise F.TIME_EVENT_SYNCE_SQUELCH else d.raise F.TIME_EVENT_CAP_OVERFLOW 0 n
    d.recordLim msCycles { code := 0x090A, sev := 3, a0 := n, obj := .pin n,
                           ints := [ltWord d.pt 0, ltWord d.pt 1, ltWord d.pt 2] }

/-- EDGE selects the edge (R83, R89). -/
def edgeOk (sel : Nat) (rising : Bool) : Bool := sel == 3 || (sel == 1 && rising) || (sel == 2 && !rising)

def Dev.tioEdge (d : Dev) (n : Nat) (rising : Bool) : Dev :=
  if d.get F.TIO_CFG_MODE n == 1 && edgeOk (d.get F.TIO_CFG_EDGE n) rising then d.capture n rising 16 else d

def execTioInputEdge (n : Fin 8) (rising : Bool) (s : State) : Out := s.later 9 0 (·.tioEdge n rising)

/-- A base with a time of day takes the PPS_IN edge as its source (R87): the edge is at that second. -/
def Dev.ppsSource (d : Dev) (n : Nat) : Dev :=
  match d.tod.get n with
  | some s => { d with tod := d.tod.put n none, ppsRef := d.ppsRef.put n (some (s, d.tbLt n)) }
  | none => d

/-- A PPS_IN edge (R86, R87). -/
def Dev.ppsIn (d : Dev) (rising : Bool) : Dev :=
  if d.on F.PPS_CFG_PPS_IN_EN && (rising != d.on F.PPS_CFG_PPS_IN_EDGE) then
    ((d.ppsSource 0).ppsSource 1).capture 8 rising 4
  else d

def execPpsInEdge (rising : Bool) (s : State) : Out := s.later 9 0 (·.ppsIn rising)

/-- Removes the head capture record (R86). -/
def Dev.capPop (d : Dev) (n : Nat) : Dev := { d with capQ := d.capQ.put n (d.capQ.get n).tail }

def execTioCapPop (m : Fin 32) (n : Fin 9) (s : State) : Out :=
  s.write m .TIO_CAP_POP n 1 (fun d _ => d.capPop n)

/-- PT less PPS_OUT_TRIM: PPS_OUT goes active where it crosses a second (R87). -/
def Dev.ppsNow (d : Dev) : Nat := (((d.pt : Int) - signed 32 (d.reg .PPS_OUT_TRIM)).emod (2 ^ 80)).toNat

/-- PT is in the tick that crossed a second boundary, whose pulse has not begun. A tick advances PT by 81,961 × 2^-16 ns at
most. -/
def Dev.ppsDue (d : Dev) : Bool :=
  decide (d.ppsNow % 65536000000000 ≤ 81961) && d.ppsSec != d.ppsNow / 65536000000000

/-- A second boundary of PT: PPS_OUT goes active for PPS_WIDTH µs (R77, R87). -/
def Dev.ppsOutSecond (d : Dev) : Dev :=
  if d.on F.PPS_CFG_PPS_OUT_EN && d.outputsOn && d.ppsDue then
    { d with
      ppsSec := d.ppsNow / 65536000000000
      ppsEnd := some (d.pt + d.get F.PPS_CFG_PPS_WIDTH * 65536000) }.emit (.pin 1 0 1)
  else d

def execPpsOutSecond (s : State) : Out := s.later 9 0 (·.ppsOutSecond)

/-- SyncE output `n` is enabled (R88). -/
def Dev.synceOn (d : Dev) (n : Nat) : Bool := if n = 0 then d.on F.SYNCE_CFG_SYNCE_0_EN else d.on F.SYNCE_CFG_SYNCE_1_EN

/-- The lane that SyncE output `n` takes its clock from, and its divider. -/
def Dev.synceLane (d : Dev) (n : Nat) : Nat := if n = 0 then d.get F.SYNCE_CFG_SYNCE_0_LANE else d.get F.SYNCE_CFG_SYNCE_1_LANE
def Dev.synceDiv (d : Dev) (n : Nat) : Nat := (if n = 0 then d.get F.SYNCE_CFG_SYNCE_0_DIV else d.get F.SYNCE_CFG_SYNCE_1_DIV) + 1

/-- The selected lane's clock is recovered. -/
def Dev.synceLock (d : Dev) (n : Nat) : Bool := d.on F.LANE_STATUS_CDR_LOCK (d.synceLane n)

/-- The selected lane has lost CDR lock: the output is held low (R88). -/
def Dev.synceSquelch (d : Dev) (n : Nat) : Dev :=
  if d.synceOn n && !d.squelched.get n && !d.synceLock n then
    let d := ({ d with squelched := d.squelched.put n true }.emit (.pin 2 n 0)).raise F.TIME_EVENT_SYNCE_SQUELCH
    d.timeRec 0x090B 3 n 0 d.pt .none
  else d

def execSynceSquelch (n : Fin 2) (s : State) : Out := s.later 9 0 (·.synceSquelch n)

/-- 10 ms after the lock returned the output resumes, at the lane's 156.25 MHz divided (R88). -/
def Dev.synceResume (d : Dev) (n : Nat) : Dev :=
  if d.squelched.get n && d.synceLock n && d.past (d.cdrAt.get (d.synceLane n)) (10 * msCycles) then
    { d with squelched := d.squelched.put n false }.emit (.pin 2 n (d.synceDiv n))
  else d

/-- SYNCE_CFG has changed (R88, R89): a disabled output is held low, an enabled one runs, unless its lane has no CDR lock. -/
def Dev.synceDrive (d : Dev) (n : Nat) : Dev :=
  let d := { d with squelched := d.squelched.put n false }
  if !d.synceOn n then d.emit (.pin 2 n 0)
  else if d.synceLock n then d.emit (.pin 2 n (d.synceDiv n)) else d.synceSquelch n

def execSynceResume (n : Fin 2) (s : State) : Out := s.later 9 0 (·.synceResume n)

/-- A follow-up match entry unmatched for 100 ms is freed (R72). -/
def Dev.fuExpire (d : Dev) (i : Nat) : Dev :=
  match d.fu[i]? with
  | some e => if d.past e.made (100 * msCycles) then { d with fu := d.fu.eraseIdx i } else d
  | none => d

def execFuEntryExpire (i : Nat) (s : State) : Out := s.later 9 0 (·.fuExpire i)

/-! ## The SFI time group (R364) -/

def execTimeQuery (rq : Sfi) (s : State) : Out :=
  s.sfi rq 0x200 0 (fun d _ => (d, .okW [d.view .TIME_STATUS, d.reg .TB_STATE 0, d.reg .TB_STATE 1, d.view .PT_OFF,
    ltWord d.pt 0, ltWord d.pt 1, ltWord d.pt 2]))

/-- A profile permits a role (R74): 0 NONE is always permitted. -/
def roleOk (profile role : Nat) : Bool :=
  role == 0 || role == 1 || (if profile = 0 then role == 3 else role == 2)

/-- The role a port holds for a base. -/
def Dev.ptpRole (d : Dev) (p n : Nat) : Nat :=
  if n = 0 then d.get F.PTP_PORT_CFG_ROLE_0 p else d.get F.PTP_PORT_CFG_ROLE_1 p

/-- TB_PROFILE_SET (R74, R364): profile 61850-9-3 and C37.238 use L2 transport only. -/
def Dev.tbProfileSet (d : Dev) (base profile domain transports refSel lane : Nat) : Dev × Ans :=
  okIf (decide (base < 2 ∧ profile < 3 ∧ domain < 256 ∧ transports < 8 ∧ refSel < 4 ∧ lane < 64 ∧
      (profile = 0 → transports < 4) ∧ (0 < profile → transports / 2 = 0)) &&
      (List.range 256).all (fun p => roleOk profile (d.ptpRole p base))) d
    ({ d with profile := d.profile.put base profile }.cfg .TB_CFG base
      (refSel + 4 * lane + 256 * domain + 65536 + 131072 * transports))

def execTbProfileSet (rq : Sfi) (base profile domain transports refSel lane : Nat) (s : State) : Out :=
  s.sfi rq 0x201 2 (fun d _ => d.tbProfileSet base profile domain transports refSel lane)

def Dev.ptpRoleSet (d : Dev) (port base role : Nat) : Dev × Ans :=
  okIf (decide (port < 256 ∧ base < 2 ∧ role < 4) && roleOk (d.profile.get base) role) d
    (if base = 0 then d.cfgF F.PTP_PORT_CFG_ROLE_0 port role else d.cfgF F.PTP_PORT_CFG_ROLE_1 port role)

def execPtpPortRoleSet (rq : Sfi) (port base role : Nat) (s : State) : Out :=
  s.sfi rq 0x202 2 (fun d _ => d.ptpRoleSet port base role)

/-- TB_CONTROL (R364): starts or ends an epoch, sets the servo's enable and timers. -/
def Dev.tbControl (d : Dev) (base : Nat) (start epochEnd servo : Bool) (timeout limit : Nat) : Dev × Ans :=
  okIf (decide (base < 2) && !(start && epochEnd) && F.TB_TIMERS_SERVO_TIMEOUT.ok timeout &&
      F.TB_TIMERS_HOLDOVER_LIMIT.ok limit) d
    (let d := { d with servoOn := d.servoOn.put base servo }.cfg .TB_TIMERS base (timeout + 65536 * limit)
     if start then d.tbStart base else if epochEnd then d.tbEpochEnd base else d)

def execTbControl (rq : Sfi) (base : Nat) (start epochEnd servo : Bool) (timeout limit : Nat) (s : State) : Out :=
  s.sfi rq 0x203 2 (fun d _ => d.tbControl base start epochEnd servo timeout limit)

def Dev.ptSelect (d : Dev) (base : Nat) (auto hold : Bool) (slew : Nat) (freeRun : Bool) : Dev × Ans :=
  okIf (decide (base < 2) && F.TIME_CTRL_PT_SLEW.ok slew) d
    (d.timeCtrl (base + 2 * b2n auto + 4 * b2n hold + 8 * b2n freeRun + 16 * slew))

def execPtSelect (rq : Sfi) (base : Nat) (auto hold : Bool) (slew : Nat) (freeRun : Bool) (s : State) : Out :=
  s.sfi rq 0x204 2 (fun d _ => d.ptSelect base auto hold slew freeRun)

def execPtJam (rq : Sfi) (s : State) : Out :=
  s.sfi rq 0x205 2 (fun d _ => (d.ptJam, if d.ptOutputs then .invalid else .ok))

/-- The values of TIO_SET are in range (R83, R364). -/
def tioArgsOk (x : TioArgs) : Bool :=
  decide (x.pin < 8 ∧ x.target < 2 ^ 80 ∧ x.periodFrac < 65536 ∧ x.width < 2 ^ 32 ∧ x.count < 2 ^ 32 ∧ x.trim < 2 ^ 32) &&
    F.TIO_CFG_MODE.ok x.mode && F.TIO_CFG_EDGE.ok x.edge && F.TIO_CFG_CMP_SRC.ok x.src &&
    (F.TIO_PERIOD_0_PERIOD_NS.ok x.periodNs || x.mode != 3)

/-- The compare registers of a pin, set to a target. -/
def Dev.tioTarget (d : Dev) (pin target : Nat) : Dev :=
  (((d.cfg .TIO_START_0 pin (target % 2 ^ 32)).cfg .TIO_START_1 pin (target / 2 ^ 32 % 2 ^ 24)).armTio pin
    (target % 2 ^ 56))

/-- TIO_SET's configuration of a pin: its registers, its compare disarmed. -/
def Dev.tioConfig (d : Dev) (x : TioArgs) : Dev :=
  let n := x.pin
  let w := x.mode + 8 * x.edge + 32 * x.src + 128 * b2n x.align + 256 * b2n x.polarity + 512 * b2n x.level
  let d := (d.cfg .TIO_CFG n w)
  let d := { d with cmp := d.cmp.put n none, heldT := d.heldT.filter (fun h => !(h.kind == 0 && h.obj == n)) }.tioDriver n
  ((((d.cfg .TIO_PERIOD_0 n x.periodNs).cfg .TIO_PERIOD_1 n x.periodFrac).cfg .TIO_WIDTH n x.width).cfg
    .TIO_COUNT n x.count).cfg .TIO_TRIM n x.trim

/-- TIO_SET (R81, R364): the pin is configured, and its compare armed, or held in core 0 when the target lies more
than 512 s ahead. -/
def Dev.tioSet (d : Dev) (rq : Sfi) (x : TioArgs) : Dev × Ans :=
  if !tioArgsOk x then (d, .invalid)
  else
    let d := d.tioConfig x
    if x.mode < 2 then (d, .ok)
    else if d.srcLt x.src + 512000000000 * 65536 < x.target then
      ({ d with heldT := d.heldT ++ [{ kind := 0, obj := x.pin, src := x.src, target := x.target, ch := rq.ch.val, tag := rq.tag.val }] },
       .pending)
    else (d.tioTarget x.pin x.target, .ok)

def execTioSet (rq : Sfi) (x : TioArgs) (s : State) : Out := s.sfi rq 0x206 2 (fun d _ => d.tioSet rq x)

/-- TIO_CAPTURE_POP (R364): the head record and CAP_LEVEL, then the record removed; DETAIL 1 when empty. -/
def Dev.tioCapturePop (d : Dev) (pin : Nat) : Dev × Ans :=
  if 9 ≤ pin then (d, .invalid)
  else match (d.capQ.get pin).head? with
    | none => (d, { detail := 1 })
    | some c => (d.capPop pin, .okW ((List.range 9).map (capWord c) ++ [(d.capQ.get pin).length]))

def execTioCapturePop (rq : Sfi) (pin : Nat) (s : State) : Out := s.sfi rq 0x207 1 (fun d _ => d.tioCapturePop pin)

def Dev.ppsSet (d : Dev) (outEn : Bool) (width trim : Nat) (inEn inEdge : Bool) : Dev × Ans :=
  okIf (F.PPS_CFG_PPS_WIDTH.ok width && decide (trim < 2 ^ 32)) d
    ((d.cfg .PPS_CFG 0 (b2n outEn + 2 * width + 2 ^ 20 * b2n inEn + 2 ^ 21 * b2n inEdge)).cfg .PPS_OUT_TRIM 0 trim)

def execPpsSet (rq : Sfi) (outEn : Bool) (width trim : Nat) (inEn inEdge : Bool) (s : State) : Out :=
  s.sfi rq 0x208 2 (fun d _ => d.ppsSet outEn width trim inEn inEdge)

def Dev.synceSet (d : Dev) (o lane div : Nat) (en : Bool) : Dev × Ans :=
  okIf (decide (o < 2 ∧ lane < 64 ∧ 1 ≤ div ∧ div ≤ 256)) d
    ((if o = 0 then ((d.cfgF F.SYNCE_CFG_SYNCE_0_LANE 0 lane).cfgF F.SYNCE_CFG_SYNCE_0_DIV 0 (div - 1)).cfgF F.SYNCE_CFG_SYNCE_0_EN 0 (b2n en)
     else ((d.cfgF F.SYNCE_CFG_SYNCE_1_LANE 0 lane).cfgF F.SYNCE_CFG_SYNCE_1_DIV 0 (div - 1)).cfgF F.SYNCE_CFG_SYNCE_1_EN 0 (b2n en)).synceDrive o)

def execSynceSet (rq : Sfi) (o lane div : Nat) (en : Bool) (s : State) : Out :=
  s.sfi rq 0x209 2 (fun d _ => d.synceSet o lane div en)

def Dev.timeOfDaySet (d : Dev) (base secs : Nat) : Dev × Ans :=
  okIf (d.on F.PPS_CFG_PPS_IN_EN && decide (base < 2 ∧ secs < 2 ^ 48)) d { d with tod := d.tod.put base (some secs) }

def execTimeOfDaySet (rq : Sfi) (base secs : Nat) (s : State) : Out :=
  s.sfi rq 0x20A 2 (fun d _ => d.timeOfDaySet base secs)

end Sys2Proof.Machine
end

