-- ==== Sys2Proof/Machine/Plate.lean ====
section
/-! DEFINITION. Plates (R109 to R119, R126, R127): opening, staging, committing at once or at a time, retiring,
aborting; the life of fragment entries; the SFI commands of R127. -/

namespace Sys2Proof.Machine

/-! ## Sweeps over every plated entry (R111, R117, R119) -/

/-- Copies one version of an indexed table over the other (R159). -/
def copyVersion {α : Type} (size src dst : Nat) (t : Tbl α) : Tbl α :=
  let old := t.filter (fun e => e.1 / size != dst)
  (t.filter (fun e => e.1 / size == src)).foldl (fun t e => t.ins (dst * size + e.1 % size) e.2) old

/-- Empties one version. -/
def dropVersion {α : Type} (size v : Nat) (t : Tbl α) : Tbl α := t.filter (fun e => e.1 / size != v)

/-- A register lies in a profile bank: 0x241000 the shadow's, 0x242000 the active one. -/
def inBank (base a : Nat) : Bool := decide (base ≤ a ∧ a < base + 0x800)

/-- Copies the active profile bank into the other bank (R111). -/
def copyBank (t : Tbl Word) : Tbl Word :=
  t.foldl (fun u e => if inBank 0x242000 e.1 then u.ins (e.1 - 0x1000) e.2 else u) (t.filter (fun e => !inBank 0x241000 e.1))

/-- The two profile banks alternate (R110). -/
def swapBanks (t : Tbl Word) : Tbl Word :=
  t.foldl (fun u e =>
    u.ins (if inBank 0x241000 e.1 then e.1 + 0x1000 else if inBank 0x242000 e.1 then e.1 - 0x1000 else e.1) e.2) []

/-- The open sweep's work: bit A is copied to bit A + 1 in every plated entry (R111, R159). -/
def Dev.openSweep (d : Dev) : Dev :=
  let a := d.activePlate
  let n := d.shadowPlate
  let cp (m : Nat) : Nat := maskSet m n (decide (m / 2 ^ a % 2 = 1))
  { d with
    rules := d.rules.map (fun e => (e.1, { e.2 with mask := cp e.2.mask }))
    routes := d.routes.map (fun e => (e.1, { e.2 with mask := cp e.2.mask }))
    fdb := d.fdb.map (fun e => (e.1, if e.2.isStatic then { e.2 with mask := cp e.2.mask } else e.2))
    groups := copyVersion 16384 (a % 2) (n % 2) d.groups
    nexthops := copyVersion 8192 (a % 2) (n % 2) d.nexthops
    edits := copyVersion 16384 (a % 2) (n % 2) d.edits
    regs := copyBank d.regs }

/-- The retire or abort sweep's work: a plate's bit is cleared, entries left with no bit are freed, the version of the
plate is dropped (R117, R119). -/
def Dev.clearSweep (d : Dev) (n : Nat) : Dev :=
  { d with
    rules := (d.rules.map (fun e => (e.1, { e.2 with mask := maskSet e.2.mask n false }))).filter (fun e => e.2.mask != 0)
    routes := (d.routes.map (fun e => (e.1, { e.2 with mask := maskSet e.2.mask n false }))).filter (fun e => e.2.mask != 0)
    fdb := (d.fdb.map (fun e => (e.1, if e.2.isStatic then { e.2 with mask := maskSet e.2.mask n false } else e.2))).filter
      (fun e => !e.2.isStatic || e.2.mask != 0)
    groups := dropVersion 16384 (n % 2) d.groups
    nexthops := dropVersion 8192 (n % 2) d.nexthops
    edits := dropVersion 16384 (n % 2) d.edits }

/-! ## The commands' checks (R113, R114) -/

/-- Width of a key field (R96); 0 for a FIELD_ID outside the catalogue. -/
def fieldWidth (f : Nat) : Nat :=
  ([0, 9, 48, 48, 16, 16, 16, 4, 8, 4, 4, 128, 128, 8, 6, 16, 16, 4, 8, 16, 8, 32, 16] : List Nat).getD f 0

/-- A slot: FIELD_ID, START, WIDTH. -/
abbrev KeySlot := Nat × Nat × Nat

/-- A used slot is legal (R113 cause 4). -/
def slotOk (x : KeySlot) : Bool :=
  x.1 == 0 || decide (1 ≤ x.2.2 ∧ x.2.2 ≤ 128 ∧ 0 < fieldWidth x.1 ∧ x.2.1 + x.2.2 ≤ fieldWidth x.1)

/-- Bits of the key that slots form. -/
def keyBits (l : List KeySlot) : Nat := l.foldl (fun n x => if x.1 = 0 then n else n + x.2.2) 0

/-- The slots of a profile in the shadow bank, and in the active one. -/
def Dev.profSlots (d : Dev) (act : Bool) (p : Nat) : List KeySlot :=
  (List.range 10).map (fun k =>
    if act then (d.get F.ACT_PROF_SLOT_FIELD_ID (10 * p + k), d.get F.ACT_PROF_SLOT_START (10 * p + k), d.get F.ACT_PROF_SLOT_WIDTH (10 * p + k))
    else (d.get F.PROF_SLOT_FIELD_ID (10 * p + k), d.get F.PROF_SLOT_START (10 * p + k), d.get F.PROF_SLOT_WIDTH (10 * p + k)))

/-- Enabled profiles of the shadow bank that name a table, one profile left out. -/
def Dev.tableUse (d : Dev) (tbl skip : Nat) : Nat :=
  ((List.range 32).filter (fun p => p != skip && d.on F.PROF_CFG_PROF_EN p && d.get F.PROF_CFG_TABLE p == tbl)).length

/-- Causes 3 to 5 of R113 for the shadow's profiles; 0 none. -/
def Dev.profReason (d : Dev) : Nat :=
  let en := (List.range 32).filter (fun p => d.on F.PROF_CFG_PROF_EN p)
  if en.any (fun p => decide (320 < keyBits (d.profSlots false p))) then 3
  else if en.any (fun p => !(d.profSlots false p).all slotOk) then 4
  else if (List.range 8).any (fun t => decide (4 < d.tableUse t 32)) then 5 else 0

/-- The PLATE_CMD commands. -/
inductive PlateOp where
  | open_ | commit | commitAt | disarm | abort
  deriving DecidableEq, Repr

/-- The first cause that refuses a command (R113, R114); 0 none. `diff` is the target's distance, `hold` its HOLD. -/
def Dev.plateReason (d : Dev) (op : PlateOp) (diff : Int) (hold : Bool) : Nat :=
  let shadow := d.on F.PLATE_STATUS_SHADOW_OPEN
  let armed := d.on F.PLATE_STATUS_COMMIT_ARMED
  let sweeping := decide (d.sweep = 2 ∨ d.sweep = 3)
  match op with
  | .open_ => if shadow then 8 else if d.on F.PLATE_STATUS_RETIRING then 9 else if sweeping then 10 else 0
  | .commit =>
    if !shadow then 1 else if d.sweep = 1 then 2 else if d.profReason ≠ 0 then d.profReason
    else if armed then 7 else if sweeping then 10 else 0
  | .commitAt =>
    if !shadow then 1 else if d.sweep = 1 then 2 else if d.profReason ≠ 0 then d.profReason
    else if !hold && decide (diff ≤ 0) then 6 else if sweeping then 10 else if armed then 11 else 0
  | .disarm => if armed then 0 else 12
  | .abort => if sweeping then 10 else if shadow then 0 else 13

/-- The status an SFI command fails with for a cause; a shadow that another session owns gives BUSY 3. -/
def Dev.reasonAns (d : Dev) (r ch : Nat) : Dev × Ans :=
  if r = 2 ∨ r = 10 then d.sweepBusy r
  else if r = 7 then (d, { Ans.busy 5 with detail := r })
  else if r = 8 then (d, if d.otherOwns ch then { Ans.busy 3 with detail := 8 } else .invalid 8)
  else if r = 9 then (d, { Ans.busy 6 with detail := r })
  else if r = 11 then (d, { Ans.busy 5 with detail := r })
  else (d, .invalid r)

/-- A command is refused (R114). -/
def Dev.plateRefuse (d : Dev) (r : Nat) : Dev :=
  ((d.set F.PLATE_STATUS_REFUSE_REASON 0 r).raise F.PLATE_EVENT_COMMIT_REFUSED).record { code := 0x0505, sev := 4, a0 := r }

/-! ## The commands (R111 to R119) -/

/-- The digest of the shadow plate: its rules, routes, static FDB entries, groups, next hops and edit instructions. -/
def Dev.shadowDigest (d : Dev) : Nat :=
  let n := d.shadowPlate
  let v := n % 2
  Config.shadowDigest
    ((d.rules.filter (fun e => e.2.mask / 2 ^ n % 2 == 1)).flatMap (fun e => [e.1, e.2.prof, e.2.key, e.2.action]) ++
      (d.routes.filter (fun e => e.2.mask / 2 ^ n % 2 == 1)).flatMap (fun e => [e.1, e.2.pfx, e.2.len, e.2.nh]) ++
      (d.fdb.filter (fun e => e.2.isStatic && e.2.mask / 2 ^ n % 2 == 1)).flatMap (fun e => [e.1, e.2.mac, e.2.fid, e.2.dtype, e.2.dest]) ++
      (d.groups.filter (fun e => e.1 / 16384 == v)).flatMap (fun e => [e.1 % 16384, e.2]) ++
      (d.nexthops.filter (fun e => e.1 / 8192 == v)).flatMap (fun e => [e.1 % 8192, e.2]) ++
      (d.edits.filter (fun e => e.1 / 16384 == v)).flatMap (fun e => (e.1 % 16384) :: e.2)) % 2 ^ 32

/-- A plate command reaches the peer die (R428): the command, the plate number, the target, the digest. -/
def Dev.mirrorPlate (d : Dev) (op plate target : Nat) : Dev :=
  if d.mirrors then d.mirror false [3, op, plate, target, d.shadowDigest] else d

/-- The open sweep starts; `who` is the owner: a channel + 1, or 33. -/
def Dev.plateOpen (d : Dev) (who : Nat) : Dev :=
  let d := (d.set F.PLATE_STATUS_SHADOW_OPEN 0 1).set F.PLATE_STATUS_SWEEP_BUSY 0 1
  { d with sweep := 1, owner := who, abortHeld := false }.mirrorPlate 0 d.shadowPlate 0

/-- The commit takes effect (R113): the shadow becomes active, the former active plate retires, both banks alternate,
the express matcher switches, admissions complete. -/
def Dev.plateCommit (d : Dev) : Dev :=
  let a := d.activePlate
  let n := d.shadowPlate
  let d := d.mirrorPlate 1 n 0
  let d := { d with regs := swapBanks d.regs, owner := 0, autoPlate := 0, commitCycle := d.cycle + 1 }
  let d := { d with heldT := d.heldT.filter (fun h => h.kind != 2) }
  let d := (((d.set F.PLATE_STATUS_ACTIVE 0 n).set F.PLATE_STATUS_SHADOW_OPEN 0 0).set F.PLATE_STATUS_RETIRING 0 1).set
    F.PLATE_STATUS_RETIRING_PLATE 0 a
  let d := ((d.set F.PLATE_STATUS_COMMIT_ARMED 0 0).raise F.PLATE_EVENT_COMMITTED).count 0x24 3
  (d.record { code := 0x0502, sev := 2, a0 := n, a1 := d.cycle % 2 ^ 32 }).admitsCommit

/-- A timed commit is armed at a target (2^-16 ns modulo 2^56). -/
def Dev.plateArm (d : Dev) (target : Nat) : Dev :=
  { d with commitAt := target % 2 ^ 56 }.set F.PLATE_STATUS_COMMIT_ARMED 0 1 |>.mirrorPlate 2 d.shadowPlate (target % 2 ^ 56)

/-- An armed commit is cancelled; its command's completion carries `detail` (R115). -/
def Dev.plateDisarm (d : Dev) (detail : Nat) : Dev :=
  let d := (d.set F.PLATE_STATUS_COMMIT_ARMED 0 0).mirrorPlate 3 d.shadowPlate 0
  { d with heldT := d.heldT.filter (fun h => h.kind != 2) }.finishOp 0x305 (.invalid detail)

/-- The abort sweep starts (R119); an armed commit is disarmed first; during the open sweep the abort is held. -/
def Dev.plateAbort (d : Dev) : Dev :=
  let d := if d.on F.PLATE_STATUS_COMMIT_ARMED then d.plateDisarm 33 else d
  if d.sweep = 1 then { d with abortHeld := true }
  else ({ d with sweep := 3 }.set F.PLATE_STATUS_SWEEP_BUSY 0 1).mirrorPlate 4 d.shadowPlate 0

/-- The target of PLATE_AT (R115, R129). -/
def Dev.plateAt (d : Dev) : Nat := d.get F.PLATE_AT_1_HIGH * 2 ^ 32 + d.reg .PLATE_AT_0

/-- A PLATE_CMD bit. -/
def Dev.plateReg (d : Dev) (op : PlateOp) : Dev :=
  let r := d.plateReason op (cmpDiff d.plateAt d.pt) (d.on F.PLATE_AT_1_HOLD)
  if r ≠ 0 then d.plateRefuse r
  else match op with
    | .open_ => d.plateOpen 33
    | .commit => d.plateCommit
    | .commitAt => d.plateArm d.plateAt
    | .disarm => d.plateDisarm 32
    | .abort => d.plateAbort

def execPlateCmdOpen (m : Fin 32) (s : State) : Out := s.write m .PLATE_CMD 0 1 (fun d _ => d.plateReg .open_)
def execPlateCmdCommit (m : Fin 32) (s : State) : Out := s.write m .PLATE_CMD 0 2 (fun d _ => d.plateReg .commit)
def execPlateCmdCommitAt (m : Fin 32) (s : State) : Out :=
  s.write m .PLATE_CMD 0 4 (fun d _ => d.plateReg .commitAt)
def execPlateCmdDisarm (m : Fin 32) (s : State) : Out := s.write m .PLATE_CMD 0 8 (fun d _ => d.plateReg .disarm)
def execPlateCmdAbort (m : Fin 32) (s : State) : Out := s.write m .PLATE_CMD 0 16 (fun d _ => d.plateReg .abort)

/-- HOLD of an armed commit clears (R115): its compare runs, and a target that is past disarms it. -/
def Dev.plateUnhold (d : Dev) : Dev :=
  let d := { d with heldT := d.heldT.filter (fun h => h.kind != 2) }.set F.PLATE_AT_1_HOLD 0 0
  if 0 < cmpDiff d.commitAt d.pt then d
  else ((d.set F.PLATE_STATUS_COMMIT_ARMED 0 0).plateRefuse 6).finishOp 0x305 (.invalid 6)

/-- A PLATE_AT_1 write: with a commit armed it changes HOLD alone (R115). -/
def Dev.plateAt1 (d : Dev) (w : Nat) : Dev :=
  if !d.on F.PLATE_STATUS_COMMIT_ARMED then d.store .PLATE_AT_1 0 w
  else
    let was := d.on F.PLATE_AT_1_HOLD
    let now := decide (bitsOf w 24 24 = 1)
    let d := d.store .PLATE_AT_1 0 (withBits (d.reg .PLATE_AT_1) 24 24 (b2n now))
    if was && !now then d.plateUnhold else d

def execPlateAt1Write (m : Fin 32) (w : Word) (s : State) : Out :=
  s.write m .PLATE_AT_1 0 w.toNat (fun d w => d.plateAt1 w)

/-- An admission's own plate, its shadow open: staged and committed, or aborted when it finds no place (R166). -/
def Dev.autoStage (d : Dev) : Dev :=
  let r := d.admits.foldl (fun (x : Dev × Ans) a => if x.2.st = 0 then x.1.stageAdmit a else x) (d, .ok)
  if r.2.st ≠ 0 then (r.1.admitsAbort r.2).plateAbort
  else if r.1.profReason ≠ 0 then (r.1.admitsAbort (.invalid r.1.profReason)).plateAbort
  else r.1.plateCommit

/-- The open sweep ends (R111, R119). -/
def Dev.openDone (d : Dev) : Dev :=
  if d.sweep ≠ 1 then d
  else
    let d := { d.openSweep with sweep := 0 }.set F.PLATE_STATUS_SWEEP_BUSY 0 0
    let d := (d.raise F.PLATE_EVENT_OPENED).record { code := 0x0501, sev := 1 }
    let d := d.finishOp 0x301 .ok
    if d.abortHeld then { d with abortHeld := false }.plateAbort
    else if d.autoPlate ≠ 0 then d.autoStage else d

def execOpenSweepDone (s : State) : Out := s.later 5 0 (·.openDone)

/-- A timed commit's target is reached (R115). -/
def Dev.timedCommit (d : Dev) : Dev :=
  if d.on F.PLATE_STATUS_COMMIT_ARMED && !d.on F.PLATE_AT_1_HOLD && decide (cmpDiff d.commitAt d.pt ≤ 0) then
    d.plateCommit.finishOp 0x305 .ok
  else d

def execTimedCommitFire (s : State) : Out := s.later 5 0 (·.timedCommit)

/-- Some live fragment entry names a plate (R117, R126). -/
def Dev.fragNames (d : Dev) (k : Nat) : Bool := d.frags.any (fun e => d.fragLive e.1 && e.2.plate == k)

/-- A retiring plate with no copy and no fragment entry retires: its sweep starts; streams withdrawn with it are invalid
(R117, R166). -/
def Dev.plateRetire (d : Dev) : Dev :=
  let k := d.get F.PLATE_STATUS_RETIRING_PLATE
  if d.on F.PLATE_STATUS_RETIRING && d.inflight.get k == 0 && !d.fragNames k then
    ((({ d with sweep := 2 }.set F.PLATE_STATUS_RETIRING 0 0).set F.PLATE_STATUS_SWEEP_BUSY 0 1)).admitsRetire
  else d

def execPlateRetire (s : State) : Out := s.later 5 0 (·.plateRetire)

/-- The retire sweep ends. -/
def Dev.retireDone (d : Dev) : Dev :=
  if d.sweep ≠ 2 then d
  else
    let d := { d.clearSweep (d.get F.PLATE_STATUS_RETIRING_PLATE) with sweep := 0 }.set F.PLATE_STATUS_SWEEP_BUSY 0 0
    (d.raise F.PLATE_EVENT_RETIRED).record { code := 0x0503, sev := 1 }

def execRetireSweepDone (s : State) : Out := s.later 5 0 (·.retireDone)

/-- The abort sweep ends: the shadow closes. Until then it counts as open, so that OPEN meets reason 8 and COMMIT reason 10 (R114;
DESIGN CHOICE, log entry 125). -/
def Dev.abortDone (d : Dev) : Dev :=
  if d.sweep ≠ 3 then d
  else
    let d := { d.clearSweep d.shadowPlate with sweep := 0, owner := 0, autoPlate := 0 }
    let d := (d.set F.PLATE_STATUS_SWEEP_BUSY 0 0).set F.PLATE_STATUS_SHADOW_OPEN 0 0
    let d := (d.raise F.PLATE_EVENT_ABORTED).record { code := 0x0504, sev := 2 }
    d.admitsAbort (.invalid 33)

def execAbortSweepDone (s : State) : Out := s.later 5 0 (·.abortDone)

/-- Discards a queue's copies of a plate (R118); counts them. `n` bounds the places looked at. -/
def Dev.flushPlate : Nat → Dev → Nat → Nat → Nat → Nat → Dev × Nat
  | 0, d, _, _, _, c => (d, c)
  | n + 1, d, q, k, i, c =>
    match (d.queues.get q)[i]? with
    | none => (d, c)
    | some x =>
      if (d.frames.get x.frame).plate = k then
        Dev.flushPlate n (((d.leaveQ q i).count 0x24 4).consume x.frame) q k i (c + 1)
      else Dev.flushPlate n d q k (i + 1) c

/-- The flush of a plate (R118): its waiting copies, counted, and its fragment entries. -/
def Dev.flushRetiring (d : Dev) (k : Nat) : Dev × Nat :=
  let r := d.queues.foldl (fun (x : Dev × Nat) e =>
    let y := Dev.flushPlate e.2.length x.1 e.1 k 0 0
    (y.1, x.2 + y.2)) (d, 0)
  ({ r.1 with frags := r.1.frags.filter (fun e => e.2.plate != k) }, r.2)

/-- RETIRE_LIMIT ms have passed since the commit (R118); 0 sets no limit. -/
def Dev.overLimit (d : Dev) : Bool :=
  let lim := d.get F.PLATE_LIMITS_RETIRE_LIMIT
  decide (lim ≠ 0 ∧ d.commitCycle + lim * msCycles ≤ d.cycle + 1)

/-- A plate still retires RETIRE_LIMIT ms after its commit (R118). -/
def Dev.retireLimit (d : Dev) : Dev :=
  if d.on F.PLATE_STATUS_RETIRING && d.overLimit then
    let r := d.flushRetiring (d.get F.PLATE_STATUS_RETIRING_PLATE)
    (r.1.raise F.PLATE_EVENT_RETIRE_LIMIT).record { code := 0x0506, sev := 5, a0 := r.2 }
  else d

def execRetireLimitExpire (s : State) : Out := s.later 5 0 (·.retireLimit)

/-- A fragment entry reaches FRAG_LIFE (R123). -/
def Dev.fragExpire (d : Dev) (i : Nat) : Dev :=
  if (d.frags.get i).ver ≠ 0 ∧ d.fragLive i = false then { d with frags := d.frags.put i default }.count 0x24 6 else d

def execFragEntryExpire (i : Fin 4096) (s : State) : Out := s.later 5 0 (·.fragExpire i)

/-! ## The SFI commands of R127 -/

/-- PLATE_QUERY: active, shadow (8 none), retiring (8 none), the two in-flight counts, the owner channel (32 none). -/
def Dev.plateQuery (d : Dev) : List Nat :=
  [d.activePlate, if d.on F.PLATE_STATUS_SHADOW_OPEN then d.shadowPlate else 8,
   if d.on F.PLATE_STATUS_RETIRING then d.get F.PLATE_STATUS_RETIRING_PLATE else 8,
   d.view .INFLIGHT_ACTIVE, d.view .INFLIGHT_RETIRING, if 0 < d.owner ∧ d.owner ≤ 32 then d.owner - 1 else 32]

def execPlateQuery (rq : Sfi) (s : State) : Out :=
  s.sfi rq 0x300 2 (fun d _ => d.tabCmd rq.ch (fun d => (d, .okW d.plateQuery)))

/-- A plate command of a session: refused with its cause, or carried out. -/
def Dev.plateSfi (d : Dev) (rq : Sfi) (op : PlateOp) (target : Nat) (k : Dev → Dev × Ans) : Dev × Ans :=
  let hold := decide (d.pt + 512000000000 * 65536 < target)
  let r := d.plateReason op ((target : Int) - d.pt) hold
  if r = 0 then k d else (d.plateRefuse r).reasonAns r rq.ch

def execPlateOpen (rq : Sfi) (s : State) : Out :=
  s.sfi rq 0x301 2 (fun d _ => d.plateSfi rq .open_ 0 (fun d => (d.plateOpen (rq.ch + 1), .wait)))

/-- PROFILE_SET: the profile as written must not cause a refusal at commit (R127). -/
def Dev.profileSet (d : Dev) (prof : Nat) (en : Bool) (table types groups : Nat) (slots : List KeySlot) : Dev × Ans :=
  if 32 ≤ prof ∨ 8 ≤ table ∨ 65536 ≤ types ∨ 65536 ≤ groups ∨ slots.length ≠ 10 ∨
      slots.any (fun x => decide (256 ≤ x.1 ∨ 128 ≤ x.2.1 ∨ 256 ≤ x.2.2)) = true then (d, .invalid)
  else if en ∧ 320 < keyBits slots then (d, .invalid 3)
  else if en ∧ slots.all slotOk = false then (d, .invalid 4)
  else if en ∧ 4 ≤ d.tableUse table prof then (d, .invalid 5)
  else
    let d := (d.cfg .PROF_CFG prof (b2n en + 2 * table + 16 * types)).cfg .PROF_GRP prof groups
    ((List.range 10).foldl (fun d k =>
      let x := slots.getD k (0, 0, 0)
      d.cfg .PROF_SLOT (10 * prof + k) (x.1 + 256 * x.2.1 + 32768 * x.2.2)) d, .ok)

/-- A profile of the shadow bank reaches the peer die (R110, R428), as entry `prof` of a table 32 of its messages. -/
def Dev.mirrorProf (d : Dev) (prof : Nat) : Dev :=
  d.mirror true ([1, 32, prof, d.reg .PROF_CFG prof, d.reg .PROF_GRP prof] ++
    (List.range 10).map (fun k => d.reg .PROF_SLOT (10 * prof + k)))

def execProfileSet (rq : Sfi) (prof : Nat) (en : Bool) (table types groups : Nat) (slots : List (Nat × Nat × Nat)) (s : State) : Out :=
  s.sfi rq 0x302 2 (fun d _ => d.stageCmd rq.ch (fun d =>
    let x := d.profileSet prof en table types groups slots
    (if x.2.st = 0 then x.1.mirrorProf prof else x.1, x.2)))

def execRuleAdd (rq : Sfi) (prof key action : Nat) (s : State) : Out :=
  s.sfi rq 0x303 2 (fun d _ => d.stageCmd rq.ch (fun d => d.stageRule prof key action))

def execRuleDelete (rq : Sfi) (prof key : Nat) (s : State) : Out :=
  s.sfi rq 0x304 2 (fun d _ => d.stageCmd rq.ch (fun d => d.unstageRule prof key))

/-- PLATE_COMMIT (R115): at once, or armed at an 80-bit target, with HOLD when it lies more than 512 s ahead. -/
def Dev.plateCommitAt (d : Dev) (rq : Sfi) (t : Nat) : Dev × Ans :=
  let hold := decide (d.pt + 512000000000 * 65536 < t)
  let d := (d.cfg .PLATE_AT_0 0 (t % 2 ^ 32)).cfg .PLATE_AT_1 0 (t / 2 ^ 32 % 2 ^ 24 + 2 ^ 24 * b2n hold)
  let d := if hold then
      { d with heldT := d.heldT ++ [{ kind := 2, obj := 0, src := 0, target := t, ch := rq.ch.val, tag := rq.tag.val }] }
    else d
  (d.plateArm t, .pending)

def execPlateCommit (rq : Sfi) (target : Option Nat) (s : State) : Out :=
  s.sfi rq 0x305 2 (fun d _ => d.tabCmd rq.ch (fun d =>
    match target with
    | none => d.plateSfi rq .commit 0 (fun d => (d.plateCommit, .ok))
    | some t => if 2 ^ 80 ≤ t then (d, .invalid) else d.plateSfi rq .commitAt t (fun d => d.plateCommitAt rq t)))

def execPlateAbort (rq : Sfi) (s : State) : Out :=
  s.sfi rq 0x306 2 (fun d _ => d.tabCmd rq.ch (fun d => d.plateSfi rq .abort 0 (fun d => (d.plateAbort, .ok))))

def execFragConfig (rq : Sfi) (life : Nat) (s : State) : Out :=
  s.sfi rq 0x307 2 (fun d _ => d.tabCmd rq.ch (fun d => okIf (F.FRAG_CFG_FRAG_LIFE.ok life) d (d.cfg .FRAG_CFG 0 life)))

def execPlateDisarm (rq : Sfi) (s : State) : Out :=
  s.sfi rq 0x308 2 (fun d _ => d.tabCmd rq.ch (fun d => d.plateSfi rq .disarm 0 (fun d => (d.plateDisarm 32, .ok))))

end Sys2Proof.Machine
end

