-- ==== Sys2Proof/Machine/Classify.lean ====
section
/-! DEFINITION. Classification and forwarding of a frame (R97 to R107, R121 to R126, R133 to R135, R155 to R158, R178,
R182, R496, and PTP's R70 to R73): what the decision looks up, before streams, buffers and queues. Sets of ports are
bitmaps, as in R158; a bit above 260 stands for a port that does not exist, which an entry named (R9). -/

namespace Sys2Proof.Machine

/-- Bit `k` of a number. -/
def bitAt (w k : Nat) : Bool := w / 2 ^ k % 2 == 1

/-- A set of ports without one port. -/
def dropBit (w k : Nat) : Nat := if bitAt w k then w - 2 ^ k else w

/-- The ports of a bitmap, ascending. -/
def portList (w : Nat) : List Nat := (List.range 261).filter (fun p => bitAt w p)

/-! ## Keys (R96 to R99) -/

/-- What a port is classified with (R128, R496). -/
def Dev.inSet (d : Dev) (p : Nat) : InSet :=
  if p < 256 then
    { grp := d.get F.PARSER_PORT_CFG_PORT_GRP p, pvid := d.get F.PARSER_PORT_CFG_PVID p,
      pcp := d.get F.PARSER_PORT_CFG_DEFAULT_PCP p, fwd := d.get F.PARSER_PORT_CFG_DEFAULT_FWD p,
      slow := d.on F.PARSER_PORT_CFG_SLOW_FRAG p }
  else { grp := if p = 256 then 15 else if p = 257 then 14 else 13, pvid := 1, pcp := 0, fwd := 0, slow := false }

/-- OUTER_TCI, and whether it is implied (R97). -/
def tciOf (x : InSet) (p : Parsed) : Nat × Bool :=
  match p.outer with
  | some t => if t % 4096 = 0 then (x.pvid + 8192 * x.pcp, true) else (t, false)
  | none => (x.pvid + 8192 * x.pcp, true)

/-- FLAGS of R96. -/
def flagsOf (x : InSet) (p : Parsed) : Nat :=
  let first := match p.frag with | some (_, o, _) => o == 0 | none => false
  b2n p.hsr.isSome + 2 * b2n p.rtag.isSome + 4 * b2n p.prp.isSome + 8 * b2n first + 16 * b2n p.hdrErr + 32 * b2n p.deep
    + 64 * b2n p.sim + 128 * b2n (tciOf x p).2

/-- A field of the catalogue of R96, where the frame has it. -/
def fieldOf (port : Nat) (x : InSet) (p : Parsed) (fid : Nat) : Option Nat :=
  let ip (v : Nat) : Option Nat := p.ipVer.map (fun _ => v)
  match fid with
  | 0x01 => some port
  | 0x02 => some p.da
  | 0x03 => some p.sa
  | 0x04 => some (tciOf x p).1
  | 0x05 => p.inner
  | 0x06 => some p.etype
  | 0x07 => some p.ftype
  | 0x08 => some (flagsOf x p)
  | 0x09 => p.hsr.map (fun h => h.2.1)
  | 0x0A => ip p.verNib
  | 0x0B => ip p.ipSrc
  | 0x0C => ip p.ipDst
  | 0x0D => ip p.proto
  | 0x0E => ip p.dscp
  | 0x0F => p.l4.map Prod.fst
  | 0x10 => p.l4.map Prod.snd
  | 0x11 => p.ptp.map (·.msgType)
  | 0x12 => p.ptp.map (·.domain)
  | 0x13 => p.appid
  | 0x14 => p.sess.map Prod.fst
  | 0x15 => p.sess.map (fun s => s.2.2.2)
  | 0x16 => p.sess.map (fun s => s.2.2.1)
  | _ => none

/-- A profile applies to the frame (R99); then its key (R98). `act` chooses the bank. -/
def Dev.keyFor (d : Dev) (act : Bool) (k port : Nat) (x : InSet) (p : Parsed) : Option Nat :=
  let en := if act then d.on F.ACT_PROF_CFG_PROF_EN k else d.on F.PROF_CFG_PROF_EN k
  let types := if act then d.get F.ACT_PROF_CFG_TYPE_MASK k else d.get F.PROF_CFG_TYPE_MASK k
  let grps := if act then d.get F.ACT_PROF_GRP_GROUP_MASK k else d.get F.PROF_GRP_GROUP_MASK k
  if !en || !bitAt types p.ftype || !bitAt grps x.grp then none
  else ((d.profSlots act k).foldl (fun (a : Option (Nat × Nat)) s =>
    match a with
    | none => none
    | some (key, pos) =>
      if s.1 = 0 then a
      else match fieldOf port x p s.1 with
        | none => none
        | some v => some (key + v / 2 ^ s.2.1 % 2 ^ s.2.2 * 2 ^ pos, pos + s.2.2)) (some (0, 0))).map Prod.fst

/-! ## Probes and merging (R100, R104 to R108) -/

/-- The bits of a hit that fill a field still unset (R105). -/
def takeField (acc hit valid hi lo : Nat) : Nat :=
  if bitAt acc valid || !bitAt hit valid then acc else withBits acc hi lo (bitsOf hit hi lo)

/-- Merges a hit's action into what is merged so far (R105), both as words of R104. FLOWHASH_SEL, which has no VALID bit, comes
from the hit that sets PROGRAM (DESIGN CHOICE, log entry 110). -/
def mergeAct (acc hit : Nat) : Nat :=
  let a := takeField acc hit 3 19 0
  let a := takeField a hit 20 23 20
  let a := takeField a hit 24 26 24
  let a := takeField a hit 27 41 27
  let a := takeField a hit 42 54 42
  let a := if bitsOf a 57 55 = 0 then withBits a 57 55 (bitsOf hit 57 55) else a
  let a := if bitsOf a 60 58 = 0 then withBits a 60 58 (bitsOf hit 60 58) else a
  let a := if bitsOf hit 67 62 = 0 then a else takeField a hit 61 71 61
  let a := takeField a hit 72 86 72
  withBits a 90 88 (bitsOf a 90 88 ||| bitsOf hit 90 88)

/-- A rule entry fails parity at lookup (R108). -/
def Dev.ruleParity (d : Dev) : Dev :=
  ((d.count 0x24 2).raise F.PLATE_EVENT_RULE_PARITY).record { code := 0x0507, sev := 4 }

/-- All profiles are probed in ascending order and their hits merged (R100): the merged action, whether merging has
stopped, whether any profile hit. -/
def Dev.classify (d : Dev) (plate port : Nat) (x : InSet) (p : Parsed) : Dev × Nat × Bool × Bool :=
  let act := plate == d.activePlate
  (List.range 32).foldl (fun (a : Dev × Nat × Bool × Bool) k =>
    match a.1.keyFor act k port x p with
    | none => a
    | some key =>
      let tbl := if act then a.1.get F.ACT_PROF_CFG_TABLE k else a.1.get F.PROF_CFG_TABLE k
      match a.1.ruleFind tbl k key plate with
      | none => (a.1.count 0x24 1, a.2)
      | some i =>
        if a.1.bad 0 i then (a.1.ruleParity.count 0x24 1, a.2)
        else
          let hit := (a.1.rules.get i).action
          if a.2.2.1 then (a.1.count 0x24 0, a.2.1, true, true)
          else (a.1.count 0x24 0, mergeAct a.2.1 hit, !bitAt hit 87, true)) (d, 0, false, false)

/-- An event of the pipe's parser: its flag and record, each the first in 1 ms (R132). -/
def Dev.parserEvt (d : Dev) (f : FrameRec) (fl : Fld) (code sev idx : Nat) : Dev :=
  ((d.count (0x20 + f.pipe) idx).raiseFirst fl f.pipe 0 msCycles).recordLim msCycles
    { code := code, sev := sev, obj := .ingress f.pipe f.port }

/-- A decision names a port that does not exist (R9). -/
def Dev.cfgErr (d : Dev) (f : FrameRec) : Dev :=
  (((d.rxStat f 27).count (0x20 + f.pipe) 7).raise F.PARSER_EVENT_CFG_ERR f.pipe).record
    { code := 0x0402, sev := 4, obj := .ingress f.pipe f.port }

/-- HDR_ERR is counted (R94). -/
def Dev.hdrErrCount (d : Dev) (f : FrameRec) : Dev := (d.rxStat f 24).parserEvt f F.PARSER_EVENT_HDR_ERR 0x0401 2 2

/-! ## The fragment table (R121 to R126) -/

/-- A frame's fragment key and its bucket (R122): version, source, destination, identification, protocol. -/
def fragKey (p : Parsed) : Option (Nat × Nat × Nat × Nat × Nat) :=
  match p.ipVer, p.frag with
  | some v, some (ident, _, _) => some (v, p.ipSrc, p.ipDst, ident, p.fragProto)
  | _, _ => none

def fragBucket (k : Nat × Nat × Nat × Nat × Nat) : Nat :=
  let n := if k.1 = 4 then 4 else 16
  4 * (crc32c (beBytes 1 k.1 ++ beBytes n k.2.1 ++ beBytes n k.2.2.1 ++ beBytes (if k.1 = 4 then 2 else 4) k.2.2.2.1 ++
    beBytes 1 k.2.2.2.2) % 1024)

/-- The live entry of a key. -/
def Dev.fragFind (d : Dev) (k : Nat × Nat × Nat × Nat × Nat) : Option Nat :=
  (slots4 (fragBucket k)).find? (fun i =>
    let e := d.frags.get i
    d.fragLive i && e.ver == k.1 && e.src == k.2.1 && e.dst == k.2.2.1 && e.ident == k.2.2.2.1 && e.proto == k.2.2.2.2)

/-- A first fragment's entry (R123): the merged action, the plate, FRAG_LIFE from the ingress time in PT. -/
def Dev.fragWrite (d : Dev) (f : FrameRec) (p : Parsed) (act : Nat) : Dev :=
  match fragKey p with
  | none => d
  | some k =>
    let d := d.count (0x20 + f.pipe) 4
    if (d.fragFind k).isSome then d
    else
      match (slots4 (fragBucket k)).find? (fun i => !d.fragLive i) with
      | some i =>
        { d with frags := d.frags.put i { ver := k.1, src := k.2.1, dst := k.2.2.1, ident := k.2.2.2.1, proto := k.2.2.2.2,
                                          plate := f.plate, action := act,
                                          expiry := f.pt + d.get F.FRAG_CFG_FRAG_LIFE * 1000000 * 65536 } }
      | none =>
        ((d.count 0x24 5).raiseFirst F.PLATE_EVENT_FRAG_TABLE_FULL 0 0 msCycles).recordOnce msCycles { code := 0x0508, sev := 3 }

/-! ## Bridge and route (R133 to R135, R155 to R158) -/

/-- A group's members in a plate; none where its entry fails parity, which is recorded (R158). -/
def Dev.groupBits (d : Dev) (f : FrameRec) (g : Nat) : Dev × Option Nat :=
  let i := ver 16384 f.plate g
  if d.bad 4 i then
    (((d.rxStat f 29).raise F.FDB_EVENT_GROUP_PARITY).fdbRec 0 0x0511 4 0 0 0 0, none)
  else (d, some (d.groups.get i))

/-- Every present front-panel port. -/
def Dev.presentBits (d : Dev) : Nat := (List.range 256).foldl (fun w p => if d.present p then w + 2 ^ p else w) 0

/-- The ingress learning port (R142): LEARN_AS; an internal port has no other. -/
def Dev.learnPort (d : Dev) (p : Nat) : Nat := if p < 256 then d.get F.FDB_PORT_CFG_LEARN_AS p else p

/-- The FID of R134 step 3. -/
def fidOf (act : Nat) (v : Vlan) : Nat := if bitsOf act 2 0 = 0 ∧ bitAt act 16 = true then bitsOf act 15 4 else v.fid

/-- The bridge (R134, R135): the egress set. -/
def Dev.bridge (d : Dev) (f : FrameRec) (p : Parsed) (vid act : Nat) : Dev × Nat :=
  let v := d.vlans.get vid
  let lp := d.learnPort f.port
  if !v.valid then (d.rxStat f 29, 0)
  else
    match (if v.memberAll then (d, some d.presentBits) else d.groupBits f v.group) with
    | (d, none) => (d, 0)
    | (d, some m) =>
      if v.filter && !bitAt m f.port then (d.rxStat f 29, 0)
      else
        let fid := fidOf act v
        let d := d.fdbRead p.da fid
        let unknown (d : Dev) (a : Nat) : Dev × Nat :=
          if a = 0 then (d, dropBit m f.port) else if a = 1 then (d.rxStat f 29, 0) else (d, 2 ^ 257)
        match d.fdbLookup p.da fid f.plate with
        | some i =>
          let e := d.fdb.get i
          if e.dtype = 0 ∧ 260 < e.dest then (d, 2 ^ e.dest)
          else if e.dtype = 0 then (if e.dest = lp ∨ bitAt m e.dest = false then (d.rxStat f 29, 0) else (d, 2 ^ e.dest))
          else if e.dtype = 1 then
            match d.groupBits f e.dest with
            | (d, none) => (d, 0)
            | (d, some g) => (d, dropBit (g &&& m) f.port)
          else (d.rxStat f 29, 0)
        | none =>
          if p.da = 2 ^ 48 - 1 then (d, dropBit m f.port)
          else if bitAt p.da 40 then unknown d v.unkMc
          else unknown (d.rxStat f 28) v.unkUc

/-- ROUTE_MISS_ACT (R156). -/
def Dev.routeMiss (d : Dev) (f : FrameRec) : Dev × Nat :=
  (d.rxStat f 31, if d.on F.FDB_CFG_ROUTE_MISS_ACT then 2 ^ 257 else 0)

/-- The trie or a next hop fails parity (R156). -/
def Dev.trieParity (d : Dev) (f : FrameRec) : Dev × Nat :=
  ((d.raise F.FDB_EVENT_TRIE_PARITY).fdbRec 0 0x0510 4 0 0 0 0).routeMiss f

/-- The route stage (R155, R156): the egress set and the next hop's edit instruction. -/
def Dev.route (d : Dev) (f : FrameRec) (p : Parsed) : Dev × Nat × Option Nat :=
  let w (x : Dev × Nat) : Dev × Nat × Option Nat := (x.1, x.2, none)
  match p.ipVer with
  | none => w (d.routeMiss f)
  | some v =>
    match d.routeLookup (v == 6) p.ipDst f.plate with
    | none => w (d.routeMiss f)
    | some i =>
      let h := ver 8192 f.plate (d.routes.get i).nh
      if d.bad 2 i || d.bad 3 h then w (d.trieParity f)
      else
        let x := d.nexthops.get h
        let e := if bitAt x 16 then some (bitsOf x 30 17) else none
        let dest := bitsOf x 15 2
        match x % 4 with
        | 0 => (d, 2 ^ dest, e)
        | 1 => match d.groupBits f dest with
          | (d, none) => (d, 0, none)
          | (d, some g) => (d, g, e)
        | 2 => (d, 0, none)
        | _ => (d, 2 ^ 257, e)

/-- Forwarding by FWD_MODE (R104, R106): the egress set and a next hop's edit instruction. -/
def Dev.forward (d : Dev) (f : FrameRec) (p : Parsed) (vid act : Nat) : Dev × Nat × Option Nat :=
  match bitsOf act 2 0 with
  | 0 => let r := d.bridge f p vid act; (r.1, r.2, none)
  | 1 => d.route f p
  | 2 => match d.groupBits f (bitsOf act 17 4) with
    | (d, none) => (d, 0, none)
    | (d, some g) => (d, g, none)
  | 3 => (d, 2 ^ bitsOf act 12 4, none)
  | 5 => (d, 2 ^ 256, none)
  | 6 => (d, 2 ^ 257, none)
  | _ => (d, 0, none)

/-! ## Redundancy pairs (R135, R178, R182) -/

/-- The pair a port belongs to as PORT_A or PORT_B. -/
def Dev.pairOf (d : Dev) (p : Nat) : Option (Nat × RPair) :=
  d.rpairs.find? (fun e => e.2.mode != 0 && (e.2.a == p || e.2.b == p))

/-- The pair whose INTERLINK a port is. -/
def Dev.interOf (d : Dev) (p : Nat) : Option (Nat × RPair) :=
  d.rpairs.find? (fun e => e.2.mode != 0 && e.2.inter == p)

/-- A supervision frame (R275). -/
def isSupv (p : Parsed) : Bool := p.da / 256 == 0x01154E0001

/-- A received supervision frame of a PRP pair goes to port 257 only (R182). -/
def Dev.prpSupv (d : Dev) (f : FrameRec) (p : Parsed) : Bool :=
  isSupv p && (match d.pairOf f.port with | some (_, r) => r.mode == 1 | none => false)

/-- The port a frame's unicast destination is learned on (R182). -/
def Dev.learnedDest (d : Dev) (f : FrameRec) (p : Parsed) (fid : Nat) : Option Nat :=
  match d.fdbLookup p.da fid f.plate with
  | some i => if (d.fdb.get i).isStatic || bitAt p.da 40 then none else some (d.fdb.get i).dest
  | none => none

/-- The pair's part in the egress set (R135, R182): both ports of the ingress pair removed, ring and QuadBox forwarding
of a tagged frame added; a destination learned on another pair, and a frame of another pair's interlink, widened to both its
ports. -/
def Dev.pairPorts (d : Dev) (f : FrameRec) (p : Parsed) (e : Nat) (dropped : Bool) (dest : Option Nat) : Nat :=
  let ing := d.pairOf f.port
  let ring : Nat := match ing with
    | some (_, r) =>
      if r.mode = 2 ∧ p.hsr.isSome ∧ dropped = false then
        let o := 2 ^ (if r.a = f.port then r.b else r.a)
        if r.quad then let q := d.rpairs.get r.peer; o ||| 2 ^ q.a ||| 2 ^ q.b else o
      else 0
    | none => 0
  let own : Nat := match ing with
    | some (_, r) => if isSupv p then 2 ^ 257 else dropBit (dropBit e r.a) r.b
    | none => e
  let k := ing.map Prod.fst
  (d.rpairs.foldl (fun w x =>
    if x.2.mode ≠ 0 ∧ some x.1 ≠ k ∧ (bitAt w x.2.a || bitAt w x.2.b) = true ∧
        (dest = some x.2.a ∨ dest = some x.2.b ∨ x.2.inter = f.port) then w ||| 2 ^ x.2.a ||| 2 ^ x.2.b else w) own) ||| ring

/-- The tag edits of a copy to a port (R182, R222); `seq` the TX_SEQ value where the frame came over the interlink. The
LAN and path codes are IEC 62439-3's (PRESUMED, log entry 10). -/
def Dev.pairEdit (d : Dev) (f : FrameRec) (p : Parsed) (q seq : Nat) : PairEdit :=
  match d.pairOf f.port with
  | some (_, r) =>
    let peer := d.rpairs.get r.peer
    if q = r.a ∨ q = r.b ∨ (r.mode = 2 ∧ r.quad = true ∧ (q = peer.a ∨ q = peer.b)) then default
    else { (default : PairEdit) with stripHsr := r.mode == 2 && p.hsr.isSome, stripPrp := r.mode == 1 && p.prp.isSome }
  | none =>
    match d.interOf f.port with
    | some (_, r) =>
      if q = r.a ∨ q = r.b then
        { (default : PairEdit) with ins := r.mode, seq := seq, lan := (if r.mode = 1 then 10 else 0) + b2n (q == r.b) }
      else default
    | none => default

/-! ## PTP (R70 to R73) -/

/-- What becomes of a PTP message. -/
inductive PtpDo where
  | ordinary | prompter | discard | resid | residDelay | follow | followDelay | twoStep | origin
  deriving DecidableEq, Repr

/-- The base that handles a message (R70): its transport enabled, PTP_EN, its domain; TB_0 where both match. -/
def Dev.ptpBase (d : Dev) (h : PtpHdr) : Option Nat :=
  [0, 1].find? (fun n =>
    (if !h.udp then d.on F.TB_CFG_TRANSPORT_L2 n else if h.v6 then d.on F.TB_CFG_TRANSPORT_UDP6 n
     else d.on F.TB_CFG_TRANSPORT_UDP4 n) && d.on F.TB_CFG_PTP_EN n && d.get F.TB_CFG_PTP_DOMAIN n == h.domain)

/-- The message's treatment under the role of its port (R71 to R73): 1 BC, 2 P2P_TC, 3 E2E_TC. A two-step Sync keeps its own
correction field: its residence goes to its Follow_Up (DESIGN CHOICE, log entry 108). -/
def ptpRoleDo (role : Nat) (h : PtpHdr) : PtpDo :=
  let m := h.msgType
  if role = 0 then .ordinary
  else if role = 1 then .prompter
  else if m = 0 then (if h.twoStep then .twoStep else if role = 2 then .residDelay else .resid)
  else if m = 1 then (if role = 2 then .discard else .resid)
  else if m = 8 then (if role = 2 then .followDelay else .follow)
  else if role = 2 ∧ (m = 2 ∨ m = 3 ∨ m = 10) then .prompter
  else .ordinary

/-- A PTP message at its decision: the base that handles it, and its treatment, counted. -/
def Dev.ptpTreat (d : Dev) (f : FrameRec) (p : Parsed) : Dev × Option Nat × PtpDo :=
  match p.ptp with
  | none => (d, none, .ordinary)
  | some h =>
    match d.ptpBase h with
    | none => (d.count 0x38 3, none, .ordinary)
    | some n =>
      let event := decide (h.msgType < 4)
      let d := if event then d.count 0x38 0 else d
      if 256 ≤ f.port then (d, some n, if f.port = 257 ∧ h.msgType = 0 ∧ h.twoStep = false then .origin else .ordinary)
      else
        let x := ptpRoleDo (d.ptpRole f.port n) h
        if x = .discard then (d.count 0x38 5, some n, x)
        else if event && h.v6 && decide (2 ≤ d.ptpRole f.port n) && x != .prompter then (d.count 0x38 4, some n, .ordinary)
        else (d, some n, x)

/-- The treatment of a copy, as the copy keeps it. -/
def PtpDo.code : PtpDo → Nat
  | .resid => 1
  | .residDelay => 2
  | .follow => 3
  | .followDelay => 4
  | .twoStep => 5
  | .origin => 6
  | _ => 0

/-- A Follow_Up that finds no entry, or a Sync that found the table full (R72). -/
def Dev.fuMiss (d : Dev) (base : Nat) : Dev :=
  let lt := d.tbLt base
  (d.count 0x38 2).recordOnce secCycles { code := 0x090F, sev := 4, obj := .base base, ints := [ltWord lt 0, ltWord lt 1, ltWord lt 2] }

end Sys2Proof.Machine
end

