-- ==== Sys2Proof/Machine/Engine.lean ====
section
/-! DEFINITION. Dispatch to the stagehand engines (R263 to R269): the flow hash, pin entries, input queues, default
verdicts. -/

namespace Sys2Proof.Machine

/-! ## The flow hash (R265, R266) -/

/-- The bytes hashed for a FLOWHASH_SEL: whole bytes, most significant first, absent fields as zeros (log entry 22). -/
def flowBytes (sel port : Nat) (x : InSet) (p : Parsed) (stream : Option Nat) : List Byte :=
  let fld (n fid : Nat) : List Byte := beBytes n ((fieldOf port x p fid).getD 0)
  match sel with
  | 0 => fld 2 0x01 ++ fld 6 0x03
  | 1 => fld 6 0x02 ++ fld 6 0x03 ++ beBytes 2 ((tciOf x p).1 % 4096)
  | 2 => fld 6 0x02 ++ fld 6 0x03 ++ fld 2 0x13
  | 3 => match stream with
    | some s => beBytes 2 s
    | none => fld 6 0x02 ++ fld 6 0x03 ++ fld 2 0x13
  | 4 => fld 16 0x0B ++ fld 16 0x0C ++ fld 1 0x0D ++ fld 2 0x0F ++ fld 2 0x10
  | 5 => fld 16 0x0B ++ fld 16 0x0C
  | 6 => fld 16 0x0B ++ fld 4 0x15
  | 7 => fld 2 0x01
  | _ => []

/-- The pin entry of a program for a frame, as 256 × program + entry. -/
def pinKey (prog sel port : Nat) (x : InSet) (p : Parsed) (stream : Option Nat) : Nat :=
  256 * prog + crc32c (flowBytes sel port x p stream) % 256

/-! ## Engines (R263, R269, R272) -/

/-- A record of the STAGE block about an engine (R297). -/
def Dev.stageRec (d : Dev) (code sev e : Nat) : Dev := d.record { code := code, sev := sev, a0 := e, obj := .engine e }

/-- The engine that a pin entry names, where it takes frames; none takes the default verdict. -/
def Dev.pinEngine (d : Dev) (key : Nat) : Option Nat :=
  match (d.pins.get key).1 with
  | 0 => none
  | e + 1 => if d.clRuns (e / 8) && !d.on F.ENG_STATUS_STOPPED e then some e else none

/-- Chooses the engine for a dispatch (R265, R269): none is the default verdict, counted. -/
def Dev.chooseEngine (d : Dev) (key : Nat) : Dev × Option Nat :=
  match d.pinEngine key with
  | none => (d.count 0x3C 1, none)
  | some e =>
    if (d.engQ.get e).length < 64 then (d, some e)
    else
      let d := d.count 0x3C 1
      if d.firstIn (2 ^ 62 + e) msCycles then
        (((d.mark (2 ^ 62 + e) msCycles).raise F.STAGE_EVENT_QUEUE_FULL).stageRec 0x0A01 3 e, none)
      else (d, none)

/-- Puts an item at the end of an engine's input queue. -/
def Dev.pushItem (d : Dev) (e : Nat) (x : EngItem) : Dev :=
  { d with engQ := d.engQ.put e (d.engQ.get e ++ [x])
           pinUse := d.pinUse.put x.pin (d.pinUse.get x.pin + 1) }.count 0x3C 0

/-- A pin rebalance of a program is answered when none of its entries waits (R292). -/
def Dev.pinsApplied (d : Dev) (prog : Nat) : Dev :=
  if (List.range 256).any (fun k => (d.pins.get (256 * prog + k)).2 != 0) then d
  else
    match d.jobs.find? (fun j => j.op == 0x603 && j.data == [prog]) with
    | some j => d.finishJob j .ok
    | none => d

/-- A frame dispatched through a pin entry has returned its verdict: a rewrite that waited for it and for no other takes effect
(R267). -/
def Dev.pinReturn (d : Dev) (key : Nat) : Dev :=
  let d := { d with pinUse := d.pinUse.put key (d.pinUse.get key - 1) }
  let p := d.pins.get key
  if p.2 = 0 then d
  else
    let left := d.pinWait.get key - 1
    let d := { d with pinWait := d.pinWait.put key left }
    if left = 0 then { d with pins := d.pins.put key (p.2 - 1, 0) }.pinsApplied (key / 256) else d

/-- Writes a pin entry, engine + 1 or 0 for none: at once, or when the frames now dispatched through it have returned (R267). -/
def Dev.setPin (d : Dev) (key v : Nat) : Dev :=
  let old := (d.pins.get key).1
  if old = v ∨ old = 0 ∨ d.pinUse.get key = 0 then { d with pins := d.pins.put key (v, 0) }
  else { d with pins := d.pins.put key (old, v + 1), pinWait := d.pinWait.put key (d.pinUse.get key) }

/-- The Prompter writes an entry; one engine of a cluster of the program's mask, or the write is discarded (DESIGN CHOICE, log entry
120). -/
def Dev.pinWrite (d : Dev) (prog k e : Nat) : Dev :=
  if d.bit F.PROG_CFG_CL_MASK prog (e / 8) then d.setPin (256 * prog + k) (e + 1) else d

/-- The engines that take a program's frames: those of the running clusters of its mask whose instruction memory holds it, that
are not stopped. -/
def Dev.progEngines (d : Dev) (n : Nat) : List Nat :=
  ((d.progClusters n).filter (fun c => (d.imem.get c).any (fun x => x.1 == n))).flatMap (fun c =>
    ((List.range 8).map (fun k => 8 * c + k)).filter (fun e => !d.on F.ENG_STATUS_STOPPED e))

/-- The engines a program's entries name: where none takes frames, those of its mask all the same; none for a program that is
absent or has no mask. -/
def Dev.pinTargets (d : Dev) (n : Nat) : List Nat :=
  if d.on F.PROG_CFG_LOADED n = false then []
  else if (d.progEngines n).isEmpty then (List.range 128).filter (fun e => d.bit F.PROG_CFG_CL_MASK n (e / 8))
  else d.progEngines n

/-- Fills a program's pin table evenly over its engines, in turn (R265; the order is the model's, log entry 25). -/
def Dev.refillPins (d : Dev) (n : Nat) : Dev :=
  let es := d.pinTargets n
  (List.range 256).foldl (fun d k => d.setPin (256 * n + k) (if es.isEmpty then 0 else es.getD (k % es.length) 0 + 1)) d

/-- Refills every program's table. -/
def Dev.refillAll (d : Dev) : Dev := [1, 2, 3, 4, 5].foldl Dev.refillPins { d with repin := false }

/-- The Prompter, when its core 0 runs, refills the tables for a cluster that went to step 0 or was frozen, or an engine that
stopped (R265, R24). -/
def Dev.repinTick (d : Dev) : Dev := if d.repin && d.core0Up then d.refillAll else d

/-- The default verdict of a program (R273), as R270 numbers them; SUPV_GEN and FOLIO_FORMAT decide no frame. -/
def defVerdict (prog : Nat) : Nat := if prog = 1 then 1 else if prog = 2 ∨ prog = 3 then 2 else 0

/-- A sample is lost (R277): its queue or its ring was full. -/
def Dev.sampleLost (d : Dev) (p : Nat) : Dev :=
  ({ d with sampDrops := d.sampDrops.put p (d.sampDrops.get p + 1) }.count 0x3C 7).raiseFirst F.STAGE_EVENT_SAMPLE_DROP 0 0 secCycles

/-! ## The sampler (R276) -/

/-- The sampler of a port sees a frame: the sample's words POOL, N and DROPS where it is selected. -/
def Dev.sampleFrame (d : Dev) (p : Nat) : Dev × Option (List Nat) :=
  if 256 ≤ p ∨ d.on F.SAMPLER_CFG_SAMPLE_EN p = false then (d, none)
  else
    let n := d.get F.SAMPLER_CFG_N p
    let rnd := d.on F.SAMPLER_CFG_RANDOM p
    let gap (d : Dev) : Nat × Dev := if rnd then (let x := d.draw 4; (x.1 % (2 * n - 1) + 1, x.2)) else (n, d)
    let start : Nat × Dev := if d.sampLeft.get p = 0 then gap d else (d.sampLeft.get p, d)
    let d := start.2
    let pool := d.sampPool.get p + 1
    if start.1 = 1 then
      let g := gap d
      ({ g.2 with
          sampLeft := g.2.sampLeft.put p g.1
          sampPool := g.2.sampPool.put p 0
          sampDrops := g.2.sampDrops.put p 0 },
       some [pool, n + 2 ^ 24 * b2n rnd, d.sampDrops.get p])
    else ({ d with sampLeft := d.sampLeft.put p (start.1 - 1), sampPool := d.sampPool.put p pool }, none)

end Sys2Proof.Machine
end

