-- ==== Sys2Proof/Machine/Queues.lean ====
section
/-! DEFINITION. Policers (R249 to R252, R259), cue lists and their takeover (R242 to R248), indirect access to both
(R258), and the SFI commands of the queue group (R257). -/

namespace Sys2Proof.Machine

/-! ## Policers -/

/-- A policer's data words (R259). -/
def polWords (p : Pol) : List Nat :=
  [p.ctl % 16, p.cir, p.pir, p.cbs % 2 ^ 24, p.ebs % 2 ^ 24, p.tokC / 65536 % 2 ^ 24, p.tokE / 65536 % 2 ^ 24, p.green, p.yellow, p.red]

/-- A policer as its configuration words leave it: buckets full, counts 0 (R250). -/
def polOf (ctl cir pir cbs ebs now : Nat) : Pol :=
  { ctl := ctl % 16, cir := cir, pir := pir, cbs := cbs, ebs := ebs, tokC := cbs * 65536, tokE := ebs * 65536, at_ := now,
    green := 0, yellow := 0, red := 0 }

/-- A policer rewritten with its configuration (R250). -/
def Pol.anew (p : Pol) (now : Nat) : Pol := polOf p.ctl p.cir p.pir p.cbs p.ebs now

/-- Configuration values are legal (R250): rates and buckets in their ranges, PIR not below CIR; PIR is ignored for TYPE 0. -/
def polOk (ctl cir pir cbs ebs : Nat) : Bool :=
  decide (1 ≤ cir ∧ cir ≤ 400000000 ∧ 64 ≤ cbs ∧ cbs ≤ 16777215 ∧ 64 ≤ ebs ∧ ebs ≤ 16777215) &&
    (ctl / 2 % 2 == 0 || decide (cir ≤ pir ∧ pir ≤ 400000000))

/-- Bytes of 2^-16 that `n` core cycles bring at a rate in kb/s. -/
def Dev.fillOf (d : Dev) (kb n : Nat) : Nat × Dev :=
  let r := d.divFree ((kb * n * 125 * 65536 : Nat) : Int) 1500000000
  (r.1.toNat, r.2)

/-- Both buckets after the core cycles since the last update: RFC 2697 fills the excess bucket with what the committed
one cannot hold, RFC 2698 the peak bucket at PIR (R250). -/
def Dev.polFill (d : Dev) (p : Pol) : Pol × Dev :=
  let n := d.cycle - p.at_
  let x := d.fillOf p.cir n
  let c := min (p.cbs * 65536) (p.tokC + x.1)
  if p.ctl / 2 % 2 = 0 then
    ({ p with tokC := c, tokE := min (p.ebs * 65536) (p.tokE + (p.tokC + x.1 - c)), at_ := d.cycle }, x.2)
  else
    let y := x.2.fillOf p.pir n
    ({ p with tokC := c, tokE := min (p.ebs * 65536) (p.tokE + y.1), at_ := d.cycle }, y.2)

/-- The colour of a frame of `len` bytes and the buckets it leaves; `pre` is 0 for a colour-blind policer. -/
def polMark (p : Pol) (len pre : Nat) : Pol × Nat :=
  let b := len * 65536
  if p.ctl / 2 % 2 = 0 then
    if pre = 0 ∧ b ≤ p.tokC then ({ p with tokC := p.tokC - b }, 0)
    else if pre ≤ 1 ∧ b ≤ p.tokE then ({ p with tokE := p.tokE - b }, 1)
    else (p, 2)
  else
    if 2 ≤ pre ∨ p.tokE < b then (p, 2)
    else if pre = 1 ∨ p.tokC < b then ({ p with tokE := p.tokE - b }, 1)
    else ({ p with tokC := p.tokC - b, tokE := p.tokE - b }, 0)

/-- Counts a frame under the colour it leaves with; the counts saturate (R251). -/
def polCount (p : Pol) (colour : Nat) : Pol :=
  if colour = 0 then { p with green := min (p.green + 1) 0xFFFFFFFF }
  else if colour = 1 then { p with yellow := min (p.yellow + 1) 0xFFFFFFFF }
  else { p with red := min (p.red + 1) 0xFFFFFFFF }

/-- A policer meters a frame (R251, R252): the colour after it, and whether the frame is discarded as red by RED_ACT. -/
def Dev.meter (d : Dev) (i len colour : Nat) : Dev × Nat × Bool :=
  let p := d.policers.get i
  if d.bad 7 i then
    ((d.raise F.TM_EVENT_POLICER_PARITY).record
      { code := 0x0807, sev := 4, ints := [i, p.ctl % 16, p.cir] }, colour, false)
  else if p.ctl % 2 = 0 then (d, colour, false)
  else
    let f := d.polFill p
    let m := polMark f.1 len (if p.ctl / 4 % 2 = 1 then colour else 0)
    let c := max colour m.2
    ({ f.2 with policers := f.2.policers.put i (polCount m.1 c) }, c, c == 2 && p.ctl / 8 % 2 == 0)

/-! ## Indirect access (R258, R259) -/

/-- A cue-list entry's words, and an entry from them: bit 7 of GATES reads 1 (R242). -/
def cueWords (x : Nat × Nat) : List Nat := [x.1 % 2 ^ 27, withBits (x.2 % 2048) 7 7 1]
def cueOfWords (ws : List Nat) : Nat × Nat := (ws.getD 0 0 % 2 ^ 27, withBits (ws.getD 1 0 % 2048) 7 7 1)

/-- An entry is legal (R242). -/
def cueOk (x : Nat × Nat) : Bool := decide (1 ≤ x.1 ∧ x.1 ≤ 125000000 ∧ x.2 / 256 % 4 ≠ 3)

/-- A write of an administrative entry: discarded while a takeover is armed (R247). -/
def Dev.adminPut (d : Dev) (k : Nat) (x : Nat × Nat) : Dev :=
  if d.on F.TM_PORT_STATUS_ARMED (k / 256) then d else { d with clAdmin := d.clAdmin.put k x }

/-- A write of the data words: RESULT 0 OK, 1 INVALID. -/
def Dev.tmPut (d : Dev) (c t i : Nat) (ws : List Nat) : Dev × Nat :=
  let w (k : Nat) := ws.getD k 0
  if t = 0 then
    if (c = 1 ∧ i < 16384) ∨ polOk (w 0) (w 1) (w 2) (w 3 % 2 ^ 24) (w 4 % 2 ^ 24) = false then (d, 1)
    else ({ d with policers := d.policers.put i (polOf (w 0) (w 1) (w 2) (w 3 % 2 ^ 24) (w 4 % 2 ^ 24) d.cycle) }.mend 7 i, 0)
  else if cueOk (cueOfWords ws) = false ∨ (t = 2 ∧ c = 1) then (d, 1)
  else if t = 1 then (d.adminPut i (cueOfWords ws), 0)
  else (({ d with clOper := d.clOper.put i (cueOfWords ws) }.mend 9 i).checkBounds (i / 256), 0)

/-- A TM context's access and its RESULT (R258): 0 OK, 1 INVALID, 2 PARITY. -/
def Dev.tmAccess (d : Dev) (c : Nat) (write : Bool) : Dev × Nat :=
  let t := d.get F.TM_SEL_TBL c
  let i := d.get F.TM_SEL_INDEX c
  if t = 3 ∨ (t = 0 ∧ 20480 ≤ i) then (d, 1)
  else if write then d.tmPut c t i (d.dataWords .TM_DATA (10 * c) 10)
  else
    let ws := if t = 0 then polWords (d.policers.get i)
      else cueWords (if t = 1 then d.clAdmin.get i else d.clOper.get i)
    (d.putWords .TM_DATA (10 * c) 10 ws, if (t == 0 && d.bad 7 i) || (t == 2 && d.bad 9 i) then 2 else 0)

/-- A command of a TM context; a further one while BUSY has no effect. -/
def Dev.tmCmd (d : Dev) (c : Nat) (write : Bool) : Dev :=
  if d.on F.TM_ACC_STATUS_BUSY c then d
  else
    let r := d.tmAccess c write
    { r.1 with tblRes := r.1.tblRes.put (4 + c) (1 + 2 * r.2) }.set F.TM_ACC_STATUS_BUSY c 1

def execTmRead (m : Fin 32) (c : Fin 2) (s : State) : Out := s.write m .TM_CMD c 1 (fun d _ => d.tmCmd c false)
def execTmWrite (m : Fin 32) (c : Fin 2) (s : State) : Out := s.writeAt atRelease m .TM_CMD c 2 (fun d _ => d.tmCmd c true)

/-! ## Cue lists in force (R243, R246, R248) -/

/-- The entry in force at PT and the instant it began: its cycle runs from BASE by CYCLE (R243). -/
def Dev.cueNow (d : Dev) (p : Nat) : Option (CueSlot × Nat) :=
  let cyc := d.operCycle.get p
  if d.on F.TM_PORT_STATUS_OPER_VALID p = false ∨ cyc = 0 then none
  else
    let off := (((d.pt : Int) - d.operBase.get p).emod cyc).toNat
    ((d.operSlots p).filter (fun s => decide (s.start ≤ off))).getLast?.map (fun s => (s, d.pt - off + s.start))

/-- Asserts or releases hold on a port (R47, R246). -/
def Dev.hold_ (d : Dev) (p : Nat) (v : Bool) : Dev :=
  (d.set F.TM_PORT_STATUS_HOLD p (b2n v)).set F.PORT_STATUS_HOLD_ACTIVE p (b2n v)

/-- A copy in transmission when its gate closes (R244). -/
def Dev.gateOverrun (d : Dev) (p old new : Nat) : Dev :=
  (List.range 2).foldl (fun d k =>
    let t := d.tx.get (2 * p + k)
    let c := t.queue % 8
    if t.live && !t.burin && old / 2 ^ c % 2 == 1 && new / 2 ^ c % 2 == 0 then
      ((d.count 0x30 2 1 { tc := some c }).raiseFirst F.TM_EVENT_GATE_OVERRUN 0 0 msCycles).recordLim msCycles
        { code := 0x0802, sev := 4, obj := .port p }
    else d) d

/-- The gates follow the entry in force; with GATE_EN = 0, or no list, every gate is open (R242). -/
def Dev.gatesNow (d : Dev) (p : Nat) : Dev :=
  let d := d.syncPort p
  let old := d.get F.TM_PORT_STATUS_GATES p
  match d.cueNow p with
  | some (s, t) =>
    let new := if d.on F.TM_PORT_GATE_GATE_EN p then s.gates else 255
    let d := { d with entryAt := d.entryAt.put p t }.gateOverrun p old new
    ((d.set F.TM_PORT_STATUS_GATES p new).set F.TM_PORT_STATUS_ENTRY p s.idx).set F.TM_PORT_STATUS_PROTECTED p (b2n s.prot)
  | none => d.set F.TM_PORT_STATUS_GATES p 255

/-- What an entry does as it comes into force: CL_PARITY of a bad one, hold by its OP. -/
def Dev.enterCue (d : Dev) (p : Nat) : Dev :=
  match d.cueNow p with
  | none => d
  | some (s, _) =>
    let d := d.gatesNow p
    let d := if d.cueBad p s.idx then (d.raise F.TM_EVENT_CL_PARITY).record { code := 0x0806, sev := 4, obj := .port p } else d
    if d.on F.TM_PORT_GATE_GATE_EN p = false then d
    else if s.op = 1 then d.hold_ p true else if s.op = 2 then d.hold_ p false else d

/-- An entry boundary: the entry in force at PT is another than the one that was. -/
def Dev.gateChange (d : Dev) (p : Nat) (us : List Upset) : Dev :=
  match d.cueNow p with
  | none => d
  | some (_, t) => if d.entryAt.get p = t then d else (d.upset us).enterCue p

def execGateEntryChange (p : Fin 256) (us : List Upset) (s : State) : Out := s.actAt (fun _ => atGate) (·.gateChange p us)

/-- HOLD_ADVANCE ns before the start of a Set-And-Hold-MAC entry (R246). -/
def Dev.holdAssert (d : Dev) (p : Nat) : Dev :=
  if d.on F.TM_PORT_GATE_GATE_EN p then
    match d.nextCue p d.pt (fun s => s.op == 1) with
    | some e => if e ≤ d.pt + d.get F.TM_PORT_GATE_HOLD_ADVANCE p * 65536 then d.hold_ p true else d
    | none => d
  else d

def execHoldAssert (p : Fin 256) (s : State) : Out := s.actAt (fun _ => atHold) (·.holdAssert p)

/-! ## Takeover (R247) -/

/-- BASE of the administrative list, 56 bits. -/
def Dev.adminBase (d : Dev) (p : Nat) : Nat := d.reg .CL_ADMIN_BASE_0 p + d.get F.CL_ADMIN_BASE_1_HIGH p * 2 ^ 32

/-- T_c for a base given in full (2^-16 ns): the base if it lies 1 µs ahead, else the first cycle that does. -/
def takeoverAt (base now cyc : Int) : Int :=
  if now + 65536000 ≤ base then base else base + (now + 65536000 - base + cyc - 1) / cyc * cyc

/-- ARM with a base in full: answers T_c. A list without entries or cycle is no list and arms nothing (log entry 14). -/
def Dev.cueArm (d : Dev) (p : Nat) (base : Int) : Dev :=
  let cyc := d.adminCycle p
  if d.adminLen p = 0 ∨ cyc = 0 then d
  else
    let tc := (takeoverAt base d.pt cyc).toNat
    let late := decide ((tc : Int) ≠ base)
    let d := { d with clTc := d.clTc.put p (tc + 1) }.set F.TM_PORT_STATUS_ARMED p 1
    let d := (d.setReg .CL_TAKEOVER (2 * p) (tc % 2 ^ 32)).setReg .CL_TAKEOVER (2 * p + 1) (tc / 2 ^ 32 % 2 ^ 24)
    if late then
      (d.raise F.TM_EVENT_TAKEOVER_LATE).tmRec 0x0805 4 (base / 65536 % 2 ^ 32).toNat (tc / 65536 % 2 ^ 32) p
    else d

/-- CL_CMD ARM: the 56-bit BASE under the signed difference of R80. -/
def Dev.cueArmReg (d : Dev) (p : Nat) : Dev :=
  if d.on F.TM_PORT_STATUS_ARMED p then d else d.cueArm p ((d.pt : Int) + cmpDiff (d.adminBase p) d.pt)

/-- The PENDING CUE_LIST_ARM commands of a port complete. -/
def Dev.armsEnd (d : Dev) (p : Nat) (a : Ans) : Dev :=
  (d.jobs.filter (fun j => j.op == 0x511 && j.data == [p])).foldl (fun d j => d.finishJob j a) d

/-- DISARM cancels a takeover, held in core 0 or armed. -/
def Dev.cueDisarm (d : Dev) (p : Nat) (a : Ans) : Dev :=
  let d := { d with clTc := d.clTc.put p 0, heldT := d.heldT.filter (fun h => !(h.kind == 1 && h.obj == p)) }
  (d.set F.TM_PORT_STATUS_ARMED p 0).armsEnd p a

def execClCmdArm (m : Fin 32) (p : Fin 256) (s : State) : Out :=
  s.write m .CL_CMD p 1 (fun d _ => d.cueArmReg p)
def execClCmdDisarm (m : Fin 32) (p : Fin 256) (s : State) : Out :=
  s.write m .CL_CMD p 2 (fun d _ => d.cueDisarm p .invalid)

/-- The administrative list of a port becomes its operating one, from T_c (R247). -/
def Dev.listsMove (d : Dev) (p tc : Nat) : Dev :=
  let mine (k : Nat) : Bool := k / 256 == p
  let oper : Tbl (Nat × Nat) := (d.clAdmin.filter (fun e => mine e.1)).foldl (fun t e => t.ins e.1 e.2)
    (d.clOper.filter (fun e => !mine e.1))
  let d : Dev := { d with
    clOper := oper
    operLen := d.operLen.put p (d.adminLen p), operCycle := d.operCycle.put p (d.adminCycle p)
    operBase := d.operBase.put p tc, clTc := d.clTc.put p 0
    corrupt := d.corrupt.filter (fun c => !(c / 2 ^ 32 == 9 && mine (c % 2 ^ 32))) }
  (d.set F.TM_PORT_STATUS_ARMED p 0).set F.TM_PORT_STATUS_OPER_VALID p 1

/-- T_c: the takeover (R247), its record, the entry in force, the port's bounds, the command that waited. -/
def Dev.takeover (d : Dev) (p : Nat) : Dev :=
  let tc := d.clTc.get p - 1
  if d.on F.TM_PORT_STATUS_ARMED p && decide (tc ≤ d.pt) then
    let d := ((d.listsMove p tc).raise F.TM_EVENT_TAKEOVER_DONE).tmRec 0x0804 2 (tc / 65536 % 2 ^ 32) (tc / 65536 / 2 ^ 32) p
    ((d.enterCue p).checkBounds p).armsEnd p .ok
  else d

def execCueTakeover (p : Fin 256) (s : State) : Out := s.actAt (fun _ => atTakeover) (·.takeover p)

/-! ## Received flow control (R240) -/

/-- A class is no longer paused. -/
def Dev.pauseStop (d : Dev) (p c : Nat) : Dev :=
  let d := d.syncPort p
  { d with paused := d.paused.put (8 * p + c) (0, 0) }.setBit F.TM_PORT_STATUS_PAUSED p c false

/-- The pause time of a class runs out: Q × 512 bit times at the port's speed after the end of the frame that gave it. -/
def Dev.pauseExpire (d : Dev) (p c : Nat) : Dev :=
  let x := d.paused.get (8 * p + c)
  if x.1 * 512 * 1500000 ≤ (d.cycle - x.2) * kbps (d.portSpeed p) then d.pauseStop p c else d

def execPauseExpire (p : Fin 256) (c : Fin 8) (s : State) : Out := s.later 2 0 (·.pauseExpire p c)

/-- A received pause time for a class: quanta 0 ends a stop, others start or restart it; TC_7 and exempt classes never
stop. -/
def Dev.pauseClass (d : Dev) (p c quanta : Nat) : Dev :=
  if quanta = 0 then d.pauseStop p c
  else if c = 7 ∨ d.bit F.TM_PORT_CFG_PAUSE_EXEMPT p c = true then d
  else
    let d := d.syncPort p
    ({ d with paused := d.paused.put (8 * p + c) (quanta, d.cycle) }.setBit F.TM_PORT_STATUS_PAUSED p c true).count 0x30 5 1 { tc := some c }

/-! ## The SFI commands of R257 -/

/-- Queues exist on the front-panel ports and on ports 256, 257, 259 and 260 (R229). -/
def hasQueues (p : Nat) : Bool := decide (p ≤ 260 ∧ p ≠ 258)

/-- Q_CFG as a queue holds it: the bits that a Q_7, or any queue of port 257, fixes (R238, R239). -/
def qCfgFix (q w : Nat) : Nat :=
  let w := if q % 8 = 7 then withBits (withBits w 20 20 0) 21 21 0 else w
  if q = 8 * 257 + 7 then withBits w 22 22 1 else if q % 8 = 7 then withBits w 22 22 0 else w

/-- The values of QUEUE_SET are in range and not reserved. -/
def queueArgsOk (x : QueueArgs) : Bool :=
  F.Q_CFG_QUANTUM.ok x.quantum && F.Q_LIMIT_Q_LIMIT.ok x.limit && F.Q_CFG_WRED_PROF.ok x.wredProf &&
    F.Q_CBS_IDLE_KBPS.ok x.idle && F.Q_CBS_CREDIT_HI_CREDIT.ok x.hi && F.Q_CBS_CREDIT_LO_CREDIT.ok x.lo &&
    F.Q_TBS_RATE_KBPS.ok x.tbsRate && F.Q_TBS_BURST_BYTES.ok x.tbsBurst && F.Q_CFG_MIR_SESSION.ok x.mirror

/-- An accepted QUEUE_SET: credit and tokens brought up to date, then the queue's registers. -/
def Dev.queueTake (d : Dev) (q : Nat) (x : QueueArgs) : Dev :=
  let d := d.shapeSync q
  let w := x.quantum + 2 ^ 16 * x.wredProf + 2 ^ 20 * b2n x.wredEn + 2 ^ 21 * b2n x.cbsEn + 2 ^ 22 * b2n x.tbsEn + 2 ^ 23 * x.mirror
  let d := (((d.cfg .Q_CFG q (qCfgFix q w)).cfg .Q_LIMIT q x.limit).cfg .Q_CBS_IDLE q x.idle).cfg .Q_CBS_CREDIT q (x.hi + 65536 * x.lo)
  (d.cfg .Q_TBS_RATE q x.tbsRate).cfg .Q_TBS_BURST q x.tbsBurst

def Dev.queueSet (d : Dev) (port queue : Nat) (x : QueueArgs) : Dev × Ans :=
  let q := 8 * port + queue
  if !(hasQueues port && decide (queue < 8)) then (d, .invalid)
  else if !queueArgsOk x then (d, .invalid)
  else if port = 257 ∧ x.tbsEn = false then (d, .invalid)
  else (d.queueTake q x, .ok)

def execQueueSet (rq : Sfi) (port queue : Nat) (x : QueueArgs) (s : State) : Out :=
  s.sfi rq 0x500 2 (fun d _ => d.queueSet port queue x)

/-- OVERHEAD is a 7-bit two's complement number; PAUSE_EXEMPT bit 7 reads 1 (R240). -/
def Dev.portSchedSet (d : Dev) (port sp overhead exempt : Nat) : Dev × Ans :=
  okIf (hasQueues port && F.TM_PORT_CFG_SP_LEVEL.ok sp && F.TM_PORT_CFG_OVERHEAD.ok overhead && decide (exempt < 256)) d
    (d.cfg .TM_PORT_CFG port (sp + 16 * overhead + 2 ^ 16 * (exempt % 128) + 2 ^ 23))

def execPortSchedSet (rq : Sfi) (port sp overhead exempt : Nat) (s : State) : Out :=
  s.sfi rq 0x501 2 (fun d _ => d.portSchedSet port sp overhead exempt)

/-- One queue's rows of two words, `n` the first one's number: its configuration, DEPTH and deficit, credit and tokens in bytes, and
its class's eight counters of 64 bits. -/
def Dev.queueRows (d : Dev) (q n : Nat) : List (Nat × List Nat) :=
  [(n, [d.reg .Q_CFG q, d.reg .Q_LIMIT q]), (n + 1, [d.reg .Q_CBS_IDLE q, d.reg .Q_CBS_CREDIT q]),
   (n + 2, [d.reg .Q_TBS_RATE q, d.reg .Q_TBS_BURST q]), (n + 3, [d.depth q, d.deficit.get q]),
   (n + 4, [sat32 (d.credit.get q / 65536), sat32 (d.tokens.get q / 65536)])] ++
    (List.range 8).map (fun i => let v := d.classStats.get (8 * q + i); (n + 5 + i, [v % 2 ^ 32, v / 2 ^ 32 % 2 ^ 32]))

def execQueueQuery (rq : Sfi) (port : Nat) (queue : Option Nat) (start : Nat) (s : State) : Out :=
  s.sfi rq 0x502 0 (fun d _ =>
    if !hasQueues port then (d, .invalid)
    else
      let d := d.syncPort port
      match queue with
      | some q =>
        if q < 8 then (d, d.listing rq 0x502 2 ((d.queueRows (8 * port + q) 0).filter (fun e => decide (start ≤ e.1)))) else (d, .invalid)
      | none => (d, d.listing rq 0x502 2 (((List.range 8).flatMap (fun q => d.queueRows (8 * port + q) (13 * q))).filter
          (fun e => decide (start ≤ e.1)))))

/-- A change on an egress that an admitted TC_7 stream names is recorded with the session's channel (R257). -/
def Dev.tripNote (d : Dev) (port ch : Nat) : Dev :=
  if (d.tripStreams port).isEmpty then d else d.tmRec 0x080B 2 ch 0 port

/-- An accepted CUE_LIST_LOAD writes the administrative list, its LEN and CYCLE. -/
def Dev.cueTake (d : Dev) (port : Nat) (es : List (Nat × Nat)) (cycle : Nat) : Dev :=
  let d := (List.range es.length).foldl (fun d e =>
    let x := es.getD e (1, 0)
    d.adminPut (256 * port + e) (x.1, withBits x.2 7 7 1)) d
  let d := (d.cfg .CL_ADMIN_LEN port es.length).cfg .CL_ADMIN_CYCLE_0 port (cycle / 65536)
  d.cfg .CL_ADMIN_CYCLE_1 port (cycle % 65536)

/-- CUE_LIST_LOAD: entries, LEN and CYCLE of the administrative list; CYCLE in 2^-16 ns. -/
def Dev.cueLoad (d : Dev) (ch port : Nat) (es : List (Nat × Nat)) (cycle : Nat) : Dev × Ans :=
  if !(decide (port < 256 ∧ 1 ≤ es.length ∧ es.length ≤ 256 ∧ cycle % 65536 < 65536) &&
      F.CL_ADMIN_CYCLE_0_NS.ok (cycle / 65536) && es.all (fun e => cueOk e && decide (e.2 < 2048))) then (d, .invalid)
  else if d.on F.TM_PORT_STATUS_ARMED port || d.heldT.any (fun h => h.kind == 1 && h.obj == port) then (d, .busy 5)
  else ((d.cueTake port es cycle).tripNote port ch, .ok)

def execCueListLoad (rq : Sfi) (port : Nat) (entries : List (Nat × Nat)) (cycle : Nat) (s : State) : Out :=
  s.sfi rq 0x510 2 (fun d _ => d.cueLoad rq.ch port entries cycle)

/-- CUE_LIST_ARM with an 80-bit base: armed at once, or kept in core 0 while the base lies more than 512 s ahead. -/
def Dev.cueArmSfi (d : Dev) (rq : Sfi) (port base : Nat) : Dev × Ans :=
  if 256 ≤ port ∨ 2 ^ 80 ≤ base ∨ d.adminLen port = 0 ∨ d.adminCycle port = 0 then (d, .invalid)
  else if d.on F.TM_PORT_STATUS_ARMED port || d.heldT.any (fun h => h.kind == 1 && h.obj == port) then (d, .busy 5)
  else
    let d := (d.cfg .CL_ADMIN_BASE_0 port (base % 2 ^ 32)).cfg .CL_ADMIN_BASE_1 port (base / 2 ^ 32 % 2 ^ 24)
    let d := d.tripNote port rq.ch
    if d.pt + 512000000000 * 65536 < base then
      ({ d with heldT := d.heldT ++ [{ kind := 1, obj := port, src := 0, target := base, ch := rq.ch.val, tag := rq.tag.val }] },
       { Ans.pending [port] with words := (List.range 3).map (ltWord base) })
    else
      let d := d.cueArm port base
      (d, { Ans.pending [port] with words := (List.range 3).map (ltWord (d.clTc.get port - 1)) })

def execCueListArm (rq : Sfi) (port base : Nat) (s : State) : Out := s.sfi rq 0x511 2 (fun d _ => d.cueArmSfi rq port base)

/-- CUE_LIST_DISARM; the cancelled arm's completion carries INVALID. -/
def execCueListDisarm (rq : Sfi) (port : Nat) (s : State) : Out :=
  s.sfi rq 0x512 2 (fun d _ =>
    okIf (decide (port < 256) && (d.on F.TM_PORT_STATUS_ARMED port || d.heldT.any (fun h => h.kind == 1 && h.obj == port))) d
      ((d.cueDisarm port .invalid).tripNote port rq.ch))

/-- TM_PORT_GATE takes a new value at once (R242): gates, hold and the bound's guard band follow. -/
def Dev.portGate (d : Dev) (p w : Nat) : Dev :=
  let d := (d.store .TM_PORT_GATE p w)
  let d := if d.on F.TM_PORT_GATE_GATE_EN p then d else d.hold_ p false
  (d.gatesNow p).checkBounds p

def execGateConfig (rq : Sfi) (port : Nat) (en la guard : Bool) (hold : Nat) (s : State) : Out :=
  s.sfi rq 0x513 2 (fun d _ => okIf (decide (port < 256 ∧ hold < 4096)) d
    ((d.portGate port (b2n en + 2 * b2n la + 4 * b2n guard + 16 * hold)).tripNote port rq.ch))

/-- CUE_LIST_QUERY's rows: the two lengths and the entry in force, T_c, then both lists, two words an entry. -/
def Dev.cueRows (d : Dev) (port : Nat) : List (Nat × List Nat) :=
  let head := (0, [d.adminLen port + 65536 * d.operLen.get port, d.get F.TM_PORT_STATUS_ENTRY port +
    256 * d.get F.TM_PORT_STATUS_ARMED port + 512 * d.get F.TM_PORT_STATUS_OPER_VALID port])
  let tc := [(1, [d.reg .CL_TAKEOVER (2 * port), d.reg .CL_TAKEOVER (2 * port + 1)])]
  let adm := (List.range (d.adminLen port)).map (fun e => (2 + e, cueWords (d.clAdmin.get (256 * port + e))))
  let opr := (List.range (d.operLen.get port)).map
    (fun e => (2 + d.adminLen port + e, cueWords (d.clOper.get (256 * port + e))))
  head :: tc ++ adm ++ opr

def execCueListQuery (rq : Sfi) (port start : Nat) (s : State) : Out :=
  s.sfi rq 0x514 0 (fun d _ =>
    if 256 ≤ port then (d, .invalid)
    else (d, d.listing rq 0x514 2 ((d.cueRows port).filter (fun e => decide (start ≤ e.1)))))

/-- A general policer is named by an admitted TC_7 stream: a rule that binds frames to the stream selects it (R104, R257). -/
def Dev.tripPolicer (d : Dev) (n : Nat) : Bool :=
  d.rules.any (fun e =>
    let a := e.2.action
    let s := d.streams.get (bitsOf a 41 28)
    bitsOf a 42 42 == 1 && bitsOf a 54 43 == n && bitsOf a 27 27 == 1 && s.valid && s.tc == 7)

/-- A change of such a policer is recorded with the session's channel, with its index and data words 0 and 1 (R257, R261). -/
def Dev.policerNote (d : Dev) (n ch : Nat) : Dev :=
  let p := d.policers.get (16384 + n)
  if d.tripPolicer n then d.record { code := 0x080B, sev := 2, a0 := ch, ints := [16384 + n, p.ctl % 16, p.cir] } else d

/-- POLICER_SET: general policers only. -/
def Dev.policerSet (d : Dev) (n : Nat) (x : PolicerArgs) : Dev × Ans :=
  let ctl := b2n x.en + 2 * x.type + 4 * b2n x.aware + 8 * b2n x.redAct
  okIf (decide (n < 4096 ∧ x.type < 2 ∧ x.pir < 2 ^ 32) && polOk ctl x.cir x.pir x.cbs x.ebs) d
    ({ d with policers := d.policers.put (16384 + n) (polOf ctl x.cir x.pir x.cbs x.ebs d.cycle) }.mend 7 (16384 + n))

def execPolicerSet (rq : Sfi) (n : Nat) (x : PolicerArgs) (s : State) : Out :=
  s.sfi rq 0x520 2 (fun d _ => let r := d.policerSet n x; (if r.2.st = 0 then r.1.policerNote n rq.ch else r.1, r.2))

def execPolicerQuery (rq : Sfi) (i : Nat) (s : State) : Out :=
  s.sfi rq 0x521 0 (fun d _ => if i < 20480 then (d, .okW (polWords (d.policers.get i))) else (d, .invalid))

/-- A WRED curve is no reserved encoding: MAX_TH is 0, or MIN_TH lies below it (R241). -/
def wredOk (minTh maxTh : Nat) : Bool := maxTh == 0 || decide (minTh < maxTh)

/-- WRED_PROFILE_SET: WEIGHT and the curves of green, yellow and red, each MIN_TH, MAX_TH, MAX_P. -/
def Dev.wredSet (d : Dev) (prof weight : Nat) (curves : List (Nat × Nat × Nat)) : Dev × Ans :=
  okIf (decide (prof < 16 ∧ curves.length = 3) && F.WRED_CFG_WEIGHT.ok weight && curves.all (fun c =>
      F.WRED_MIN_MIN_TH.ok c.1 && F.WRED_MAX_MAX_TH.ok c.2.1 && F.WRED_MAX_MAX_P.ok c.2.2 && wredOk c.1 c.2.1)) d
    ((List.range 3).foldl (fun d k =>
      let c := curves.getD k (0, 0, 0)
      (d.cfg .WRED_MIN (3 * prof + k) c.1).cfg .WRED_MAX (3 * prof + k) (c.2.1 + 2 ^ 19 * c.2.2)) (d.cfg .WRED_CFG prof weight))

def execWredProfileSet (rq : Sfi) (prof weight : Nat) (curves : List (Nat × Nat × Nat)) (s : State) : Out :=
  s.sfi rq 0x530 2 (fun d _ => d.wredSet prof weight curves)

def Dev.mirrorSet (d : Dev) (session dest tc : Nat) (en : Bool) : Dev × Ans :=
  okIf (decide (1 ≤ session ∧ session ≤ 7) && F.MIR_CFG_DEST.ok dest && F.MIR_CFG_MIR_TC.ok tc) d
    (d.cfg .MIR_CFG (session - 1) (dest + 2 ^ 9 * tc + 2 ^ 12 * b2n en))

def execMirrorSet (rq : Sfi) (session dest tc : Nat) (en : Bool) (s : State) : Out :=
  s.sfi rq 0x540 2 (fun d _ => d.mirrorSet session dest tc en)

end Sys2Proof.Machine
end

