-- ==== Sys2Proof/Machine/Decide.lean ====
section
/-! DEFINITION. A frame's decision (R17, R22, R92 to R107, R123 to R125, R134, R171 to R183, R187, R202 to R214, R230,
R253, R265 to R269, R276, R284): the steps a frame takes in its slot, and the stream steps that run after a verdict. -/

namespace Sys2Proof.Machine

/-- A decision in progress: the device, the frame and its number, its headers, its ingress settings; the egress set and
the next hop's edit; whether it is discarded (1 to 4 the DISCARD_REASON of R283, 8 dropped by a verdict, 9 otherwise);
the verdict it waits for (1 GMAC, 3 extraction, 9 the action's program) and the engine and item of that dispatch. -/
structure Dec where
  d : Dev
  id : Nat
  f : FrameRec
  p : Parsed
  x : InSet
  out : Nat := 0
  hop : Option Nat := none
  gone : Nat := 0
  wait : Nat := 0
  go : Option (Nat × EngItem) := none
  deriving DecidableEq, Repr

/-- A frame's decision goes on after a verdict, with what its descriptor carries (R17). -/
def Dec.of (d : Dev) (id : Nat) : Dec :=
  let f := d.frames.get id
  { d := d, id := id, f := f, p := f.parsed, x := f.inset }

/-- A frame's decision begins: it takes its port's settings. -/
def Dec.start (d : Dev) (id : Nat) : Dec :=
  let f := { d.frames.get id with inset := d.inSet (d.frames.get id).port }
  { d := d, id := id, f := f, p := f.parsed, x := f.inset }

/-- ESMC messages (R88): slow-protocol frames of a front-panel port go to core 0. -/
def Dec.isEsmc (c : Dec) : Bool := c.p.etype == 0x8809 && c.f.recirc == 0 && decide (c.f.port < 256) && c.f.direct.isNone

/-- FCS_BAD, OVERSIZE or RUNT_SUPP is set: no stream step, never forwarded (R172, R218). -/
def FrameRec.bad (f : FrameRec) : Bool := f.fcsBad || f.oversize || f.runtSupp

/-! ## Parse and action (R94, R100 to R107, R123 to R125) -/

/-- What the parser counts, and HDR_ERR_ACT (R94, R131). -/
def Dec.parseStep (c : Dec) : Dec :=
  let k := 0x20 + c.f.pipe
  let d := c.d.count k 0
  let d := if c.p.deep then d.count k 1 else d
  let d := if c.p.prp.isSome then d.count k 3 else d
  let d := if c.p.hdrErr then d.hdrErrCount c.f else d
  { c with d := d, f := { c.f with hdrErr := c.p.hdrErr },
           gone := if c.p.hdrErr && d.on F.PARSER_CTRL_HDR_ERR_ACT c.f.pipe then 9 else c.gone }

/-- Classification by profiles, and the fragment entry of a first fragment (R100, R123). -/
def Dec.profiles (c : Dec) : Dec :=
  let r := c.d.classify c.f.plate c.f.port c.x c.p
  let d := if r.2.2.2 then r.1 else r.1.rxStat c.f 25
  let first := match c.p.frag with | some (_, o, _) => o == 0 | none => false
  let d := if first then d.fragWrite c.f c.p r.2.1 else d
  { c with d := d, f := { c.f with action := r.2.1 } }

/-- A later fragment without an entry (R124). -/
def Dec.fragMiss (c : Dec) : Dec :=
  let d := (c.d.rxStat c.f 26).raiseFirst F.PARSER_EVENT_FRAG_MISS c.f.pipe 0 msCycles
  let d := d.recordLim msCycles { code := 0x0404, sev := 2, obj := .ingress c.f.pipe c.f.port }
  let a := d.get F.PARSER_CTRL_FRAG_MISS_ACT c.f.pipe
  let c := { c with d := d }
  if a = 0 then { c with gone := 9 }
  else if a = 1 then c.profiles
  else { c with f := { c.f with action := 14 } }

/-- The plate and the merged action (R22, R100, R124, R125, R310). -/
def Dec.actionStep (c : Dec) : Dec :=
  if c.gone ≠ 0 then c
  else
    let c := { c with f := { c.f with plate := if c.f.recirc = 0 then c.d.activePlate else c.f.plate } }
    match c.f.direct with
    | some (port, tc) =>
      if 256 ≤ port then { c with d := c.d.cfgErr c.f, gone := 9 }
      else { c with f := { c.f with action := 3 + 8 + 16 * port + 2 ^ 20 + 2 ^ 21 * tc + 2 ^ 88 } }
    | none =>
      if c.p.frag.isSome && c.x.slow then { c with d := c.d.count 0x24 7, f := { c.f with action := 14 } }
      else if c.p.ftype = 9 then
        match (fragKey c.p).bind c.d.fragFind with
        | some i =>
          let e := c.d.frags.get i
          { c with d := c.d.count (0x20 + c.f.pipe) 5,
                   f := { c.f with action := e.action, plate := if c.f.recirc = 0 then e.plate else c.f.plate } }
        | none => c.fragMiss
      else c.profiles

/-- A stream entry with bad parity binds no frame (R194). -/
def Dev.streamParity (d : Dev) (st : Nat) : Dev := (d.raise F.STREAM_EVENT_STREAM_PARITY).streamRec 0x0610 4 st 0

/-- The defaults of R106, the traffic class with R107's demotion, the colour, the stream. -/
def Dec.classStep (c : Dec) : Dec :=
  if c.gone ≠ 0 then c
  else
    let a := c.f.action
    let def' := if c.x.fwd = 0 then 0 else if c.x.fwd = 1 then 4 else if c.x.fwd = 2 then 5 else 6
    let a := if bitAt a 3 then a else withBits (withBits a 19 4 0) 2 0 def'
    let st := bitsOf a 41 28
    let named := bitAt a 27 && (c.d.streams.get st).valid && !c.f.unbound
    let d := if named && c.d.bad 5 st then c.d.streamParity st else c.d
    let stream := if named && !c.d.bad 5 st then some st else none
    let pcp := (tciOf c.x c.p).1 / 2 ^ 13
    let handled := match c.p.ptp with | some h => (d.ptpBase h).isSome | none => false
    let tc := if bitAt a 20 then bitsOf a 23 21 else if handled then 6 else d.pcpTc c.f.pipe pcp
    let seven := match stream with | some s => (d.streams.get s).tc7Ok | none => false
    let demote := tc == 7 && !seven
    let c := { c with f := { c.f with action := a, stream := stream, tc := if demote then 6 else tc,
                                      colour := if bitAt a 24 then min (bitsOf a 26 25) 2 else 0 } }
    { c with d := if demote then d.parserEvt c.f F.PARSER_EVENT_TC7_DEMOTED 0x0403 3 6 else d }

/-- The Prompter's rule of every plate for the domain agent (R441): frames of FRAME_TYPE 10 from DOMAIN_PORTS, addressed to
DOM_MAC or DOM_GROUP_DA. -/
def Dec.isDom (c : Dec) : Bool :=
  let d := c.d
  d.on F.DOM_CFG_DOM_EN && c.f.recirc == 0 && decide (c.f.port < 256) && c.p.ftype == 10 &&
    d.bit F.DOMAIN_PORTS_PORTS (c.f.port / 32) (c.f.port % 32) &&
    (c.p.da == d.get F.DOM_MAC_1_ADDR * 2 ^ 32 + d.reg .DOM_MAC_0 ||
      c.p.da == d.get F.DOM_GROUP_DA_1_ADDR * 2 ^ 32 + d.reg .DOM_GROUP_DA_0)

/-- Such a frame takes class DOM_TC. -/
def Dec.domClass (c : Dec) : Dec := if c.gone = 0 && c.isDom then { c with f := { c.f with tc := c.d.get F.DOM_CFG_DOM_TC } } else c

/-! ## Forwarding -/

/-- The learn request's FID (R141): kept for the frame's end. -/
def Dec.learnStep (c : Dec) : Dec :=
  let v := c.d.vlans.get ((tciOf c.x c.p).1 % 4096)
  if c.f.recirc ≠ 0 then c
  else
    let ok := decide (c.f.port < 256) && c.d.on F.FDB_CFG_LEARN_GLOBAL_EN && c.d.on F.FDB_PORT_CFG_LEARN_EN c.f.port &&
      v.valid && v.learn && !bitAt c.f.action 88 && !bitAt c.p.sa 40 && c.p.sa != 0
    { c with f := { c.f with learnFid := if ok then fidOf c.f.action v + 1 else 0 } }

/-- Forwarding by FWD_MODE, COPY_HOST and COPY_PROMPTER, redundancy pairs, a port that does not exist (R9, R104, R135,
R182); a frame of the domain agent, or an ESMC message, goes to port 257 (R441, R88). Ports 258 and 259 take no forwarded copy. -/
def Dec.forwardStep (c : Dec) : Dec :=
  if c.gone ≠ 0 then c
  else if c.isDom || c.isEsmc then { c with out := 2 ^ 257 }
  else
    let a := c.f.action
    let r := c.d.forward c.f c.p ((tciOf c.x c.p).1 % 4096) a
    if r.2.1 / 2 ^ 261 ≠ 0 ∨ c.f.exprBack.any (fun q => decide (260 < q)) = true then { c with d := r.1.cfgErr c.f, gone := 9 }
    else if r.1.prpSupv c.f c.p then { c with d := r.1, out := 2 ^ 257 }
    else
      let dest := if bitsOf a 2 0 = 0 then r.1.learnedDest c.f c.p (fidOf a (r.1.vlans.get ((tciOf c.x c.p).1 % 4096))) else none
      let e := r.1.pairPorts c.f c.p r.2.1 (bitsOf a 2 0 == 4) dest
      let e := if bitAt a 89 then e ||| 2 ^ 256 else e
      let e := if bitAt a 90 then e ||| 2 ^ 257 else e
      { c with d := r.1, out := dropBit (dropBit e 258) 259, hop := r.2.2 }

/-! ## Stream steps (R172) -/

/-- Chooses the engine for a dispatch of the frame; `wait` names what the verdict is for. False: the queue is full, or
no engine serves the flow. -/
def Dec.dispatch (c : Dec) (prog sel wait : Nat) : Dec × Bool :=
  let key := pinKey prog sel c.f.port c.x c.p c.f.stream
  let r := c.d.chooseEngine key
  match r.2 with
  | some e => ({ c with d := r.1, wait := wait, go := some (e, { frame := c.id, prog := prog, pin := key, info := [] }),
                        f := { c.f with prog := prog, phase := wait } }, true)
  | none => ({ c with d := r.1 }, false)

/-- FLOWHASH_SEL of a dispatch by the STREAM block (log entry 22). -/
def Dec.streamSel (c : Dec) : Nat := if bitAt c.f.action 61 then bitsOf c.f.action 71 68 else 3

/-- The action's program (R264, R265, R269). -/
def Dec.progStep (c : Dec) : Dec :=
  if c.gone ≠ 0 ∨ bitAt c.f.action 61 = false then c
  else
    let n := bitsOf c.f.action 67 62
    if c.d.on F.PROG_CFG_LOADED n = false then
      let d := (c.d.count 0x3C 4).raise F.STAGE_EVENT_PROG_ABSENT
      { c with d := d.recordLim secCycles { code := 0x0A04, sev := 4, obj := .key n }, f := { c.f with mark := true } }
    else
      match c.dispatch n (bitsOf c.f.action 71 68) 9 with
      | (c, true) => c
      | (c, false) =>
        if defVerdict n = 1 then { c with f := { c.f with mark := true } }
        else if defVerdict n = 2 then { c with d := c.d.count 0x3C 2, gone := 8 } else c

/-- A frame of a stream is discarded by supervision, policer or GMAC (R196). -/
def Dec.dropStream (c : Dec) (st reason : Nat) : Dec := { c with d := c.d.sstat st 6, gone := reason }

/-- The frame's length as a policer meters it (R249): free where the frame has not ended (log entry 23). -/
def Dec.meterLen (c : Dec) : Dec × Nat :=
  if c.f.ended then (c, c.f.len) else let x := c.d.draw 9; ({ c with d := x.2 }, x.1)

/-- The general policer (R251), then the action's program. -/
def Dec.generalStep (c : Dec) : Dec :=
  if c.gone ≠ 0 then c
  else if bitAt c.f.action 42 then
    let l := c.meterLen
    let r := l.1.d.meter (16384 + bitsOf c.f.action 54 43) l.2 c.f.colour
    let c := { l.1 with d := r.1, f := { c.f with colour := r.2.1 } }
    if r.2.2 then { c with d := c.d.count 0x30 6, gone := 3 } else c.progStep
  else c.progStep

/-- Step 5: the stream policer; a TC_7 stream passes green frames alone (R176, R251). -/
def Dec.policeStep (c : Dec) : Dec :=
  match c.f.stream with
  | none => c.generalStep
  | some st =>
    let l := c.meterLen
    let on := (l.1.d.policers.get st).ctl % 2 == 1 && !l.1.d.bad 7 st
    let r := l.1.d.meter st l.2 c.f.colour
    let c := { l.1 with d := r.1, f := { c.f with colour := r.2.1 } }
    if r.2.2 || (on && (c.d.streams.get st).tc == 7 && r.2.1 != 0) then
      { c with d := c.d.rxStat c.f 33 }.dropStream st 3
    else c.generalStep

/-- Step 4: supervision with the extracted fields (R173 to R175, R177). -/
def Dec.superviseStep (c : Dec) (st : Nat) (x : Nat × Nat × Nat) : Dec :=
  if c.d.on F.STREAM_CTRL_SUPV_EN then
    let r := c.d.supervise st (c.f.pt / 65536) x (c.p.sess.map (fun s => s.2.1))
    let c := { c with d := r.1 }
    if r.2 then { c with d := c.d.rxStat c.f 34 }.dropStream st 2 else c.policeStep
  else c.policeStep

/-- A frame whose fields could not be read goes unsupervised (R171, R273). -/
def Dec.unsupervised (c : Dec) : Dec := { c with d := c.d.count 0x28 5 }.policeStep

/-- Step 3: extraction (R171). -/
def Dec.extractStep (c : Dec) : Dec :=
  match c.f.stream with
  | none => c.policeStep
  | some st =>
    let s := c.d.streams.get st
    if s.type = 0 then c.policeStep
    else
      match extractFixed s c.f.bytes with
      | some x => c.superviseStep st x
      | none =>
        match c.dispatch 1 c.streamSel 3 with
        | (c, true) => { c with d := c.d.count 0x28 4 }
        | (c, false) => { c with f := { c.f with mark := true } }.unsupervised

/-- A sequence number meets its source (R181): a duplicate or rogue is discarded. -/
def Dec.ddStep (c : Dec) (i seq : Nat) : Dec :=
  let r := c.d.ddCheck i seq
  if r.2 then { c with d := r.1 }.extractStep else { c with d := r.1.rxStat c.f 32, gone := 1 }

/-- A frame from a redundancy pair that carries a sequence number (R179). -/
def Dec.pairSource (c : Dec) (k seq : Nat) : Dec :=
  match c.d.ddAlloc false (k * 2 ^ 48 + c.p.sa) default with
  | (d, some i) => { c with d := d }.ddStep i seq
  | (d, none) => { c with d := d.ddFull (32768 + k) }.extractStep

/-- The frame's source address was learned on the pair's interlink, or is the device's own (R182). -/
def Dec.ownReturn (c : Dec) (r : RPair) : Bool :=
  let v := c.d.vlans.get ((tciOf c.x c.p).1 % 4096)
  c.p.sa == Config.deviceAddr ||
    (decide (r.inter < 512) && match c.d.fdbLearned c.p.sa (fidOf c.f.action v) with
      | some i => (c.d.fdb.get i).dtype == 0 && (c.d.fdb.get i).dest == c.d.learnPort r.inter
      | none => false)

/-- Step 2: duplicate discard (R179 to R182). -/
def Dec.dupStep (c : Dec) : Dec :=
  let s := match c.f.stream with | some st => c.d.streams.get st | none => default
  if c.f.stream.isSome && s.dd && s.cb then
    match c.p.rtag with
    | some (_, seq) =>
      match c.d.ddFind true (c.f.stream.getD 0) with
      | some i => c.ddStep i seq
      | none => c.extractStep
    | none => { c with d := c.d.satCount .DD_TAGLESS_CNT 0 }.extractStep
  else
    match c.d.pairOf c.f.port with
    | none => c.extractStep
    | some (k, r) =>
      if r.mode = 1 then
        match c.p.prp with
        | some (seq, lan) =>
          let d := if lan = 10 + b2n (c.f.port == r.b) then c.d
            else ((c.d.rxStat c.f 35).raise F.STREAM_EVENT_WRONG_LAN).pairRecLim secCycles 0x060B 2 k
          { c with d := d }.pairSource k seq
        | none => c.extractStep
      else if c.ownReturn r then { c with d := c.d.satCount .HSR_OWN_RETURN_CNT 0, gone := 9 }
      else
        match c.p.hsr with
        | some (_, _, _, seq) => c.pairSource k seq
        | none => c.extractStep

/-- The stream's key slot has a key for the frame (R183): its ID is that of the session header, where the frame has one, and its
period covers the frame's PT. -/
def Dec.keyValid (c : Dec) (st : Nat) : Bool :=
  ([0, 1] : List Nat).any (fun n =>
    match c.d.keySlots.get (2 * (c.d.streams.get st).keySlot + n) with
    | kid :: _ :: start :: stop :: _ =>
      (match c.p.sess with | some s => s.2.2.2 == kid | none => true) && decide (start ≤ c.f.pt / 65536 ∧ c.f.pt / 65536 ≤ stop)
    | _ => false)

/-- A frame fails its GMAC step (R183). -/
def Dec.gmacFail (c : Dec) (st : Nat) : Dec :=
  let d := (c.d.count 0x28 7).raise F.STREAM_EVENT_GMAC_FAIL
  { c with d := d.streamRecLim msCycles 0x060C 5 st 0 }.dropStream st 4

/-- The steps from the first: what a stream's frame counts (R196), the GMAC dispatch (R183). -/
def Dec.streamStep (c : Dec) : Dec :=
  if c.gone ≠ 0 ∨ c.f.bad = true then c
  else
    match c.f.stream with
    | none => c.dupStep
    | some st =>
      let c := { c with d := (c.d.sstat st 0).sstat st 1 (if c.f.ended then c.f.len else 0) }
      if (c.d.streams.get st).gmac then
        match c.dispatch 2 c.streamSel 1 with
        | (c, true) => c
        | (c, false) => { c with d := (c.d.count 0x3C 2).count 0x28 7 }.dropStream st 4
      else c.dupStep

/-! ## The copy set (R182, R187, R212, R218, R253, R284) -/

/-- A PTP message's handling (R71, R73): to port 257, or discarded. -/
def Dec.ptpStep (c : Dec) : Dec × Option Nat × PtpDo :=
  if c.gone ≠ 0 ∨ c.f.bad = true ∨ c.f.direct.isSome = true then (c, none, .ordinary)
  else
    let r := c.d.ptpTreat c.f c.p
    let c := { c with d := r.1 }
    if r.2.2 = .prompter then ({ c with out := 2 ^ 257 }, r.2)
    else if r.2.2 = .discard then ({ c with out := 0 }, r.2)
    else (c, r.2)

/-- The frame may leave: what its marks and its discard leave of the egress set, the express ports taken out (R36, R187,
R218). -/
def Dec.outSet (c : Dec) : Nat :=
  if c.gone ≠ 0 then 0
  else if c.f.bad then
    (if bitAt c.out 256 && !c.f.runtSupp && (!c.f.fcsBad || c.d.on F.BPM_CTRL_HOST_BAD) then 2 ^ 256 else 0)
  else c.f.exprPorts.foldl dropBit (c.f.exprBack.foldl (fun w p => w ||| 2 ^ p) c.out)

/-- The follow-up match table takes or finds a copy's entry (R72): the handling the copy keeps. -/
def Dec.fuStep (c : Dec) (h : PtpHdr) (base q code : Nat) : Dec × Nat :=
  if 256 ≤ q then (c, 0)
  else if code = 5 then
    if c.d.fu.length < 1024 then
      ({ c with d := { c.d with fu := c.d.fu ++ [{ inPort := c.f.port, spi := h.spi, seqId := h.seqId, egress := q, resid := 0,
                                                   base := base, made := c.d.cycle }] } }, 5)
    else (c, 5)
  else if code = 3 ∨ code = 4 then
    if c.d.fu.any (fun e => e.inPort == c.f.port && e.spi == h.spi && e.seqId == h.seqId && e.egress == q) then (c, code)
    else ({ c with d := c.d.fuMiss base }, 0)
  else (c, code)

/-- The forwarded copies, one for each port of the egress set, ascending. -/
def Dec.forwarded (c : Dec) (ptp : Option Nat) (todo : PtpDo) : Dec × List Copy :=
  let out := c.outSet
  let sq := match c.d.interOf c.f.port with
    | some (k, r) => if c.f.bad then (c.d, 0) else c.d.txSeqOf k c.p.sa (bitAt out r.a || bitAt out r.b)
    | none => (c.d, 0)
  let edit := if bitAt c.f.action 72 then bitsOf c.f.action 86 73 + 1 else match c.hop with | some e => e + 1 | none => 0
  (portList out).foldl (fun (a : Dec × List Copy) q =>
    let y := match c.p.ptp with | some h => a.1.fuStep h (ptp.getD 0) q todo.code | none => (a.1, 0)
    (y.1, a.2 ++ [{ (default : Copy) with
      frame := c.id, port := q, tc := if c.f.exprBack.contains q then 7 else c.f.tc, colour := c.f.colour, edit := edit,
      pair := y.1.d.pairEdit c.f c.p q sq.2, ptp := y.2, base := ptp.getD 0 }])) ({ c with d := sq.1 }, [])

/-- A copy for mirror session `m`, 1 to 7, if the session creates one (R253). -/
def Dev.mirrorCopy (d : Dev) (m : Nat) (x : Copy) : List Copy :=
  let q := d.get F.MIR_CFG_DEST (m - 1)
  if m = 0 ∨ d.on F.MIR_CFG_EN (m - 1) = false ∨ 257 < q then []
  else [{ x with port := q, tc := min (d.get F.MIR_CFG_MIR_TC (m - 1)) 6, kind := 1, ptp := 0 }]

/-- The capture copy (R284). -/
def Dec.captured (c : Dec) : List Copy :=
  let ing := if c.f.port < 256 ∧ c.d.bit F.FOLIO_PORT_CAP_TC_MASK c.f.port c.f.tc = true
    then c.d.get F.FOLIO_PORT_CAP_ING_CLASS c.f.port else 0
  let k := max (bitsOf c.f.action 57 55) ing
  if k = 0 ∨ c.gone = 9 ∨ (c.gone = 1 ∧ c.d.on F.FOLIO_CTRL_CAP_DUP = false) ∨
      (c.f.fcsBad = true ∧ c.d.on F.BPM_CTRL_CAP_BAD = false) then []
  else [{ (default : Copy) with frame := c.id, port := 259, tc := c.f.tc, colour := c.f.colour, kind := 2, cls := k,
                                reason := if c.gone < 8 then c.gone else 0, parked := c.wait != 0 }]

/-! ## Buffers (R202 to R211) -/

/-- A frame is refused by its quota (R208). -/
def Dev.quotaDrop (d : Dev) (f : FrameRec) (a : Nat) : Dev :=
  let d := d.rxStat f 36
  let d := d.cstat f.port f.tc 0
  (d.raiseFirst F.BPM_EVENT_QUOTA_DROP 0 0 msCycles).recordOnce msCycles
    { code := 0x0703, sev := 3, a0 := a, obj := .acct a, ints := [d.acctU.get a] }

/-- Completes a chain; a frame that runs out of buffers after its head is discarded (R204, R211). -/
def Dev.growChain (d : Dev) (f : FrameRec) (l3 : Option Nat) (known : Bool) : Dev × FrameRec × Bool :=
  match Dev.fillChain 64 d f l3 known with
  | (d, f, true) => (d, f, true)
  | (d, f, false) =>
    let last := f.bufs.getLastD 0
    let p := if 4 ≤ bufKind last then 1 else d.nextPool (bufKind last) (remBytes f l3 known (chainBytes f.bufs))
    ((d.poolEmpty p f.account).rxStat f 37, f, false)

/-- A chain of account `a` is begun at a frame's decision (R202, R204, R211). -/
def Dev.beginChain (d : Dev) (f : FrameRec) (a : Nat) (p : Parsed) (barred : Bool) : Dev × FrameRec × Bool :=
  match d.headBuf f.pipe f.tc (a + 1) barred with
  | (d, none) => (d.rxStat f 37, f, false)
  | (d, some b) => d.growChain { f with bufs := [b], account := a + 1 } p.l3End f.ended

/-- The chain of a decided frame: its quota, its head, its further buffers; the provisional chain of a PRP LAN port moves
to the decided account first (R202), and a TC_7 frame over its quota changes it for one of the reserve (R211). False: the frame is
refused. -/
def Dev.admitChain (d : Dev) (f : FrameRec) (p : Parsed) : Dev × FrameRec × Bool :=
  let a := acctOf f.port f.tc
  let u := d.seenU
  let ovr := decide (d.dropLim u a ≤ u.get a)
  if f.recirc ≠ 0 then (d, f, true)
  else if !f.bufs.isEmpty then
    let n := chargedCells f.bufs
    let d := if f.account = a + 1 then d else (d.credit_ (f.account - 1) n).charge a n
    let f := { f with account := a + 1 }
    if !ovr then (d, f, true)
    else if f.tc != 7 then (d.quotaDrop f a, f, false)
    else (d.giveChain f).beginChain { f with bufs := [], account := 0 } a p true
  else if ovr && f.tc != 7 then (d.quotaDrop f a, f, false)
  else d.beginChain f a p (ovr || f.noHead)

/-! ## The end of a decision -/

/-- Issues a frame's learn request once it has ended and been decided, if it is good (R141). -/
def Dev.learnNow (d : Dev) (f : FrameRec) (sa : Nat) : Dev :=
  if f.ended && f.decided && f.learnFid != 0 && !f.bad && !f.icrcBad then
    d.learnRequest f.pipe { sa := sa, fid := f.learnFid - 1, port := d.learnPort f.port, ing := f.port, stamp := f.stamp,
                            plate := f.plate }
  else d

/-- A frame makes its learn request once (R141). -/
def FrameRec.learned (f : FrameRec) : FrameRec := if f.ended then { f with learnFid := 0 } else f

/-- A frame is kept with `n` copies, the writer's reference besides while it is received; a recirculated frame's own
reference passes to the new copies (R212). -/
def Dev.keepFrame (d : Dev) (id : Nat) (f : FrameRec) (n : Nat) : Dev :=
  let refs := if f.recirc = 0 then n + b2n (!f.ended) else f.refs + n - 1
  let d := d.frameSet id { f with decided := true, refs := refs, copies := n }
  let d := if f.recirc = 0 then d.flightUp f.plate n
    else { d with inflight := d.inflight.put f.plate (d.inflight.get f.plate + n - 1) }
  if refs = 0 then d.freeChain id else d

/-- The sample of a decided frame, if its port's sampler selects it: OUTCOME, POOL, N, DROPS (R276, R277). -/
def Dec.sampled (c : Dec) : Dec × Option (List Nat) :=
  if c.f.recirc ≠ 0 then (c, none)
  else
    let r := c.d.sampleFrame c.f.port
    let o := if c.f.express then 3 else if c.gone ≠ 0 ∨ c.outSet = 0 then 1 else if c.wait ≠ 0 then 2 else 0
    ({ c with d := r.1 }, r.2.map (fun w => o :: w))

/-- The engine for a sample copy; a full queue loses it (R269, R277). -/
def Dec.samplePlace (c : Dec) (s : Option (List Nat)) : Dec × Option (Nat × EngItem) :=
  match s with
  | none => (c, none)
  | some w =>
    let key := pinKey 3 7 c.f.port c.x c.p none
    match c.d.chooseEngine key with
    | (d, some e) => ({ c with d := d }, some (e, { frame := c.id, prog := 3, pin := key, info := w }))
    | (d, none) => ({ c with d := d.sampleLost c.f.port }, none)

/-- The copy set is formed, admitted, counted, dispatched and enqueued (R204, R208, R212, R230, R268, R310). -/
def Dec.finish (c : Dec) : Dev :=
  let t := c.ptpStep
  let fw := t.1.forwarded t.2.1 t.2.2
  let c := fw.1
  let eg := fw.2.flatMap (fun x => c.d.mirrorCopy (c.d.get F.Q_CFG_MIR_SESSION (8 * x.port + x.tc)) x)
  let raw : Copy := { (default : Copy) with frame := c.id, colour := c.f.colour }
  let im := if c.f.bad then [] else c.d.mirrorCopy (bitsOf c.f.action 60 58) raw
  let cap := c.captured
  let s := c.sampled
  let sp := s.1.samplePlace s.2
  let c := sp.1
  let n := fw.2.length + eg.length + im.length + cap.length + b2n sp.2.isSome + b2n c.go.isSome
  let r := if n = 0 ∧ c.f.express = false then (c.d, c.f, true) else c.d.admitChain c.f c.p
  let d := r.1.learnNow { r.2.1 with decided := true } c.p.sa
  let g := r.2.1.learned
  if !r.2.2 then
    let d := if sp.2.isSome then d.sampleLost c.f.port else d
    d.keepFrame c.id { g with prog := 0, phase := 0 } 0
  else
    let late := c.wait ≠ 0
    let f := { g with parked := if late then fw.2 ++ eg else [] }
    let multi := decide (1 < n)
    let done := f.direct.isNone && f.txJob.isSome
    let d := if done then d.txDone f 0 0 0 else d
    let d := d.keepFrame c.id { f with txJob := if done then none else f.txJob } n
    let d := match sp.2 with | some (e, i) => d.pushItem e i | none => d
    let d := match c.go with | some (e, i) => d.pushItem e i | none => d
    let d := if eg.length + im.length = 0 then d else d.count 0x30 7 (eg.length + im.length)
    let d := ((if late then [] else fw.2 ++ eg) ++ im ++ cap).foldl (fun d x => d.enqueue x multi) d
    match (d.frames.get c.id).txJob with
    | some (_, _, _, _, false) =>
      let f := d.frames.get c.id
      (d.txDone f 0 0 0).frameSet c.id { f with txJob := none }
    | _ => d

/-- The whole decision of a frame. -/
def Dev.decideFrame (d : Dev) (id : Nat) : Dev :=
  (((((((Dec.start d id).parseStep).actionStep).classStep).domClass).learnStep).forwardStep).streamStep.finish

end Sys2Proof.Machine
end

