-- ==== Sys2Proof/Machine/Rx.lean ====
section
/-! DEFINITION. A frame's way in: ingress stamps (R54 to R57, R68), the express matcher (R184 to R187, R45, R46), the
header's completion (R92, R16, R202), the decision slot (R15, R16), further buffers (R203, R204), the frame's end (R34
to R38, R189). -/

namespace Sys2Proof.Machine

/-! ## Stamps -/

/-- R55's corrections in tenths of ns, ingress and egress, by mode, speed code and FEC; none where the table has no row
for the port's speed. -/
def corrections (mode speed fec : Nat) : Option (Nat × Nat) :=
  if mode = 1 then some (840, 520)
  else if mode = 2 then some (488, 312)
  else if mode = 3 then some (if speed = 1 then (4120, 2860) else (488, 312))
  else if mode = 4 then some (224, 144)
  else if mode = 5 then some (if speed = 1 then (4256, 2952) else (616, 408))
  else if mode = 6 then some (211, 136)
  else if mode = 7 then (if speed = 3 then some (296, 200) else none)
  else if mode = 8 then some (if fec = 0 then (99, 70) else if fec = 1 then (142, 82) else (954, 186))
  else if mode = 9 then some (182, 121)
  else if mode = 10 then some (867, 153)
  else none

/-- A port's correction in 2^-16 ns: free where R55 has no row (log entry 24), rounded freely (log entry 6). -/
def Dev.correction (d : Dev) (p : Nat) (egress : Bool) : Int × Dev :=
  if 256 ≤ p then (0, d)
  else
    match corrections (d.portMode p) (d.portSpeed p) (d.get F.LANE_CFG_FEC (p / 4)) with
    | some c => d.divFree (((if egress then c.2 else c.1) * 65536 : Nat) : Int) 10
    | none => let x := d.draw 10; ((x.1 : Int), x.2)

/-- The trim of R56. -/
def Dev.trim (d : Dev) (p : Nat) (egress : Bool) : Int :=
  if 256 ≤ p then 0
  else
    let w := if egress then d.reg .TS_EGR_TRIM p else d.reg .TS_ING_TRIM p
    if w < 2 ^ 31 then w else (w : Int) - 2 ^ 32

/-- An LT value moved by 2^-16 ns. -/
def ltMove (x : Nat) (by' : Int) : Nat := (((x : Int) + by').emod (2 ^ 80)).toNat

/-! ## Frames -/

/-- A frame's marks on the tables of frames. -/
def rxKey (p mac : Nat) : Nat := 2 * p + mac

/-- TB_0, TB_1 and PT as they stand, and the core cycle. -/
def Dev.sofNow (d : Dev) : Nat × Nat × Nat × Nat := (d.tbLt 0, d.tbLt 1, d.pt, d.cycle)

/-- The latch at the message timestamp point of the frame a MAC receives, by its first fragment (R54, R57): an EXPRESS_MATCH
without a byte is the first bit after the SFD. A frame of which no such bit was reported is stamped at its first command (log
entry 24). -/
def Dev.latchSof (d : Dev) (p mac : Nat) : Dev :=
  if (d.sof.get (rxKey p mac)).isSome then d else { d with sof := d.sof.put (rxKey p mac) (some d.sofNow) }

/-- A new frame enters on a port: its number and its record, with its stamps; those of port 260 are counted (R434). -/
def Dev.newFrame (d : Dev) (p pipe : Nat) (mac : Nat := 0) : Dev × Nat × FrameRec :=
  let c := d.correction p false
  let m := c.2.trim p false - c.1
  let t := (d.sof.get (rxKey p mac)).getD d.sofNow
  let nb := d.noBind.get (rxKey p mac)
  let d := { c.2 with nextFrame := c.2.nextFrame + 1, sof := c.2.sof.put (rxKey p mac) none, noBind := c.2.noBind.put (rxKey p mac) false }
  let d := if p = 260 then d.count 0x58 7 else d
  (d, d.nextFrame, { (default : FrameRec) with
    live := true, inPort := p, port := p, pipe := pipe, tb0 := ltMove t.1 m, tb1 := ltMove t.2.1 m,
    pt := ltMove t.2.2.1 m, stamp := t.2.2.2, unbound := nb })

/-- A port takes frames: a front-panel port that is UP with ingress open, the Prompter's port, the understudy link's. -/
def Dev.takesFrames (d : Dev) (p : Nat) : Bool :=
  if p < 256 then d.linkState p == 1 && d.ingressOpen else p == 257 || p == 260

/-- A header joins its port's holding queue of 16 (R16). -/
def Dev.hold16 (d : Dev) (p id : Nat) : Dev := { d with hold := d.hold.put p (d.hold.get p ++ [(id, d.cycle)]) }

/-- A frame that a program or the Prompter sends into a pipe joins the queue of its internal port, or waits for a place in it
(R16; that it waits is DESIGN CHOICE, log entry 102). -/
def Dev.joinHold (d : Dev) (p id : Nat) : Dev :=
  if (d.hold.get p).length < 16 then d.hold16 p id else { d with holdWait := d.holdWait.put p (d.holdWait.get p ++ [id]) }

/-- A place of a holding queue has become free: the first frame that waits for it takes it. -/
def Dev.refillHold (d : Dev) (p : Nat) : Dev :=
  match d.holdWait.get p with
  | id :: r => { d with holdWait := d.holdWait.put p r }.hold16 p id
  | [] => d

/-- A frame's chain is released before its decision or its end (R204): nothing further of it is stored. -/
def Dev.dropChain (d : Dev) (id : Nat) : Dev :=
  let f := d.frames.get id
  ((d.giveChain f).count 0x2C 1).frameSet id { f with bufs := [], account := 0, reach := none, dead := true }

/-- The provisional chain of a PRP LAN port's frame holds what has arrived of it (R202): head first, each buffer chosen while the
frame still arrives, on the account of its outer PCP's class. A frame that finds no head is refused at its decision; one that runs
out of buffers after it is discarded now (R204; that it does so whatever its class may become is DEDUCED, log entry 118). -/
def Dev.provide (d : Dev) (id : Nat) (f : FrameRec) : Dev :=
  if f.dead || f.noHead then d.frameSet id f
  else
    let p := f.parsed
    let a := acctOf f.port (d.pcpTc f.pipe ((tciOf (d.inSet f.port) p).1 / 2 ^ 13)) + 1
    let x := if f.bufs.isEmpty then
        (match d.headBuf f.pipe 0 a false with
        | (d, none) => (d, { f with noHead := true })
        | (d, some b) => (d, { f with bufs := [b], account := a }))
      else (d, f)
    if x.2.noHead then x.1.frameSet id x.2
    else
      match x.1.growChain x.2 p.l3End false with
      | (d, g, true) => d.frameSet id g
      | (d, g, false) => (d.frameSet id g).dropChain id

/-! ## EXPRESS_MATCH (R184 to R187) -/

/-- The masked-in bytes of the first 18 equal the key. -/
def Expr.hits (e : Expr) (b : List Byte) : Bool :=
  (List.range 18).all (fun k => !bitAt e.mask k || b[k]? == e.key[k]?)

/-- The entry of a pipe that acts on a frame: the lowest number that matches. -/
def Dev.exprFind (d : Dev) (p : Nat) (b : List Byte) : Option Nat :=
  ((List.range 64).map (fun n => 64 * pipeOf p + n)).find? (fun i =>
    let e := d.express.get i
    e.valid && !e.staged && (e.ing == p || e.ing == 511) && e.hits b)

/-- A copy is not cut through (R186). -/
def Dev.fallback (d : Dev) (i : Nat) : Dev :=
  let st := (d.express.get i).stream
  let d := (d.count 0x28 6).raise F.STREAM_EVENT_EXPR_FALLBACK
  if d.firstIn (2 ^ 63 + i) msCycles then (d.mark (2 ^ 63 + i) msCycles).streamRec 0x060D 5 st 0 else d

/-- An express frame finds a port's holding queue full (R46). -/
def Dev.exprFull (d : Dev) (q : Nat) : Dev := ((d.stat q 22).raise F.PORT_EVENT_EXPR_Q_FULL q).portRec 0x0206 5 q

/-- An entry that names a port 261 to 511 discards the frame (R9): its egress ports as the shadow's decision finds them. -/
def Expr.misnamed (e : Expr) : Bool := e.egress.any (fun q => decide (260 < q))

/-- One copy of a matched frame: cut through into the port's express holding queue, or left to the shadow. A frame that finds
both MACs idle starts at once and takes no place of the four. -/
def Dev.cutCopy (d : Dev) (i id p q : Nat) (gate : Bool) : Dev × Bool :=
  let low := d.tx.get (2 * q + 1)
  let room := (d.exprQ.get q).length < (if (d.tx.get (2 * q)).live || (low.live && !low.yielded) then 4 else 5)
  if !gate || decide (256 ≤ q) || d.linkState q != 1 || decide (kbps (d.portSpeed p) < kbps (d.portSpeed q)) then (d.fallback i, false)
  else if room then
    let d := (d.exprWait q).sstat (d.express.get i).stream 7
    ({ d with exprQ := d.exprQ.put q (d.exprQ.get q ++ [id]) }, true)
  else ((d.exprFull q).fallback i, false)

/-- The 18th byte completes a match: the copies, the burst gate, the shadow's record (R186, R187). -/
def Dev.exprAct (d : Dev) (i p mac : Nat) (b : List Byte) : Dev :=
  let e := d.express.get i
  let n := d.newFrame p (pipeOf p) mac
  let id := n.2.1
  let fresh := decide (e.until_ ≤ d.cycle)
  let used := if fresh then 0 else e.cut
  let gate := decide (used < (d.streams.get e.stream).burst) && !e.misnamed
  let r := e.egress.foldl (fun (a : Dev × List Nat × List Nat) q =>
    let x := a.1.cutCopy i id p q gate
    if x.2 then (x.1, a.2.1 ++ [q], a.2.2) else (x.1, a.2.1, a.2.2 ++ [q])) (n.1, [], [])
  let d := r.1.frameSet id { n.2.2 with bytes := b, express := true, exprPorts := r.2.1, exprBack := r.2.2,
                                        burin := r.2.1.length, exprStream := e.stream }
  let d := { d with rxCur := d.rxCur.put (rxKey p mac) id }
  if r.2.1.isEmpty then d
  else
    { d with express := d.express.put i { e with
        cut := used + 1
        until_ := if fresh then d.cycle + (d.streams.get e.stream).interval * 1500 else e.until_ } }.stat p 13

/-- The 18th byte of a frame is received. -/
def Dev.exprMatch (d : Dev) (p mac : Nat) (b : List Byte) (us : List Upset) : Dev :=
  let d := d.memUpset us
  if !d.takesFrames p || d.rxCur.get (rxKey p mac) != 0 || d.rxOpen.get (rxKey p mac) != 0 then d
  else if b.isEmpty then d.latchSof p mac
  else if b.length != 18 then d
  else
    match d.exprFind p b with
    | none => d
    | some i =>
      if d.bad 6 i || d.bad 5 (d.express.get i).stream then
        { d.streamParity (d.express.get i).stream with noBind := d.noBind.put (rxKey p mac) true }
      else d.exprAct i p mac b

def execExpressMatch (p : Fin 256) (mac : Fin 2) (bytes : List Byte) (us : List Upset) (s : State) : Out :=
  s.actAt (fun d => d.rxPlace p) (·.exprMatch p mac bytes us)

/-! ## HEADER_COMPLETE (R92) -/

/-- A MAC control frame (R35): it is not forwarded. -/
def isMacCtl (b : List Byte) : Bool := be b 12 2 == 0x8808

/-- A received frame's header is complete: it joins the holding queue; a frame that has run out of buffers is gone (R204). -/
def Dev.headerEnded (d : Dev) (p mac id : Nat) : Dev :=
  let d := { d with rxCur := d.rxCur.put (rxKey p mac) 0 }
  let f := d.frames.get id
  if f.dead then d.freeChain id else (d.frameSet id { f with prpLan := d.prpLan p }).hold16 p id

/-- 256 bytes of a frame have been received. -/
def Dev.headerOpen (d : Dev) (p mac : Nat) (b : List Byte) : Dev :=
  let k := rxKey p mac
  let cur := d.rxCur.get k
  if d.rxOpen.get k ≠ 0 ∨ d.prpLan p = true ∨ b.length ≠ 256 ∨ isMacCtl b = true then d
  else
    let x : Dev × Nat × FrameRec := if cur = 0 then d.newFrame p (inPipe p) mac else (d, cur, d.frames.get cur)
    let d := x.1.frameSet x.2.1 { x.2.2 with bytes := b, head := b }
    { d with rxCur := d.rxCur.put k 0, rxOpen := d.rxOpen.put k x.2.1 }.hold16 p x.2.1

/-- The header of the frame on a port's MAC is complete (R92). A port whose queue of 16 is full takes no further header:
R16's bound keeps it from filling. -/
def Dev.headerComplete (d : Dev) (p mac : Nat) (b : List Byte) : Dev :=
  let cur := d.rxCur.get (rxKey p mac)
  if 16 ≤ (d.hold.get p).length then d
  else if cur ≠ 0 ∧ (d.frames.get cur).ended = true then d.headerEnded p mac cur
  else if d.takesFrames p then d.headerOpen p mac b
  else d

def execHeaderComplete (p : Fin 261) (mac : Fin 2) (bytes : List Byte) (s : State) : Out :=
  s.actAt (fun d => d.rxPlace p) (·.headerComplete p mac bytes)

/-! ## DECISION_SLOT_GRANT (R15, R16) -/

/-- The first waiting header of an internal port that enters the pipe. -/
def Dev.waitOf (d : Dev) (pipe p : Nat) : Option (Nat × Nat) :=
  (d.hold.get p).find? (fun e => (d.frames.get e.1).pipe == pipe)

/-- The internal port granted, in the order of R15. -/
def Dev.internalPick (d : Dev) (pipe : Nat) : Option (Nat × Nat) :=
  (([258, 260, 256, 257] : List Nat).filterMap (fun p => (d.waitOf pipe p).map (fun e => (p, e.1)))).head?

/-- The front-panel port granted: its header complete earliest, then the lowest port (R16); with ingress closed none
(R419). -/
def Dev.frontPick (d : Dev) (pipe : Nat) : Option (Nat × Nat) :=
  if !d.ingressOpen then none
  else (d.hold.foldl (fun (m : Option (Nat × Nat × Nat)) e =>
    match e.2.head? with
    | some h =>
      if e.1 < 256 ∧ pipeOf e.1 = pipe then
        match m with
        | some x => if h.2 < x.1 then some (h.2, e.1, h.1) else m
        | none => some (h.2, e.1, h.1)
      else m
    | none => m) none).map Prod.snd

/-- The slot's grant: port and frame. -/
def Dev.grant (d : Dev) (pipe : Nat) : Option (Nat × Nat) :=
  if d.cycle % 8 = 7 then (d.internalPick pipe).orElse (fun _ => d.frontPick pipe)
  else (d.frontPick pipe).orElse (fun _ => d.internalPick pipe)

/-- A pipe's decision slot: where the pipe has decided in this core cycle already, the next cycle's. -/
def Dev.slotGrant (d : Dev) (pipe : Nat) (us : List Upset) : Dev :=
  let d := if d.slotAt.get pipe = d.cycle + 1 then { d.nextCycle with place := d.nextCycle.slotPlace pipe } else d
  let d := d.memUpset us
  match d.grant pipe with
  | none => d
  | some (p, id) =>
    ({ d with
      hold := d.hold.put p ((d.hold.get p).filter (fun e => e.1 != id))
      slotAt := d.slotAt.put pipe (d.cycle + 1) }.refillHold p).decideFrame id

def execDecisionSlotGrant (pipe : Fin 2) (us : List Upset) (s : State) : Out := s.actAt (fun d => d.slotPlace pipe) (·.slotGrant pipe us)

/-! ## Taking copies back (R204, R218) -/

/-- Discards a frame's queued and parked copies that a test picks. -/
def Dev.dropCopies (d : Dev) (id : Nat) (pick : Copy → Bool) : Dev :=
  let hit (c : Copy) : Bool := c.frame == id && pick c
  let d := d.queues.foldl (fun d e =>
    e.2.foldl (fun d c =>
      if hit c then
        match (d.queues.get e.1).findIdx? hit with
        | some k => (d.leaveQ e.1 k).consume id
        | none => d
      else d) d) d
  let f := d.frames.get id
  let gone := f.parked.filter pick
  gone.foldl (fun d _ => d.consume id) (d.frameSet id { f with parked := f.parked.filter (fun c => !pick c) })

/-- A frame runs out of buffers after its head (R204): its chain is released, its copies discarded; those in transmission
end stomped. -/
def Dev.killFrame (d : Dev) (id : Nat) : Dev :=
  ((d.dropChain id).dropCopies id (fun _ => true)).deref id 1

/-! ## NEXT_BUFFER_ALLOC (R203) -/

/-- What has arrived of a PRP LAN port's frame is stored (R202). -/
def Dev.nextProv (d : Dev) (p mac : Nat) (b : List Byte) : Dev :=
  let k := rxKey p mac
  let cur := d.rxCur.get k
  let f := d.frames.get cur
  if (cur ≠ 0 ∧ (f.ended = true ∨ b.take f.bytes.length ≠ f.bytes)) ∨ (cur = 0 ∧ d.takesFrames p = false) ∨ b.length < 64 ∨
      d.maxFrame p < b.length ∨ isMacCtl b = true then d
  else
    let x : Dev × Nat × FrameRec := if cur = 0 then d.newFrame p (inPipe p) mac else (d, cur, f)
    { x.1 with rxCur := x.1.rxCur.put k x.2.1 }.provide x.2.1 { x.2.2 with bytes := b, prpLan := true }

/-- A buffer of a frame in reception is full: the next is chosen. -/
def Dev.nextBuffer (d : Dev) (p mac : Nat) (b : List Byte) (us : List Upset) : Dev :=
  let d := d.memUpset us
  if d.prpLan p && d.rxOpen.get (rxKey p mac) == 0 then d.nextProv p mac b
  else
  let id := d.rxOpen.get (rxKey p mac)
  let f := d.frames.get id
  if id = 0 ∨ f.decided = false ∨ f.dead = true ∨ f.bufs.isEmpty = true ∨ b.length ≤ chainBytes f.bufs ∨
      d.maxFrame p < b.length ∨ b.take f.bytes.length ≠ f.bytes then d
  else
    match d.growChain { f with bytes := b } f.parsed.l3End false with
    | (d, f, true) => d.frameSet id f
    | (d, f, false) => (d.frameSet id f).killFrame id

def execNextBufferAlloc (p : Fin 256) (mac : Fin 2) (bytes : List Byte) (us : List Upset) (s : State) : Out :=
  s.actAt (fun d => d.rxPlace p) (·.nextBuffer p mac bytes us)

/-! ## Memory faults of a frame (R213, R218, R220) -/

/-- The place in a frame's chain, as far as its links lead, of the buffer that holds a word of packet memory: 32 words of eight bytes
to a cell; a link word is named by a word of the buffer it stands in (DESIGN CHOICE, log entry 116). -/
def FrameRec.bufAt (f : FrameRec) (word : Nat) : Option Nat :=
  f.reached.findIdx? (fun b => decide (bufCell b ≤ word / 32 ∧ word / 32 < bufCell b + poolCells (bufKind b)))

/-- Faults met while a frame is read, and whether its bytes suffer. A data word's buffer is retired when it is freed; past a broken
link the chain is not read (R218, R220). A word that is not the chain's is not met. -/
def Dev.frameUpset (d : Dev) (id : Nat) (us : List Upset) : Dev × Bool :=
  us.foldl (fun (a : Dev × Bool) u =>
    let f := a.1.frames.get id
    match u with
    | .data x =>
      match f.bufAt x with
      | some k =>
        let c := bufCell (f.bufs.getD k 0)
        ({ a.1 with owners := a.1.owners.put c { a.1.owners.get c with bad := x + 1 } }.eccUncorr x false, true)
      | none => a
    | .link x =>
      match f.bufAt x with
      | some k => if k + 1 < f.bufs.length then ((a.1.frameSet id { f with reach := some (k + 1, x) }).eccUncorr x true, true) else a
      | none => a
    | .refcnt => (a.1.refcntLost id, a.2)
    | .refcntOne => (a.1.refcntFixed, a.2)
    | .icrc => (a.1.icrcFail, true)
    | _ => a) (d.memUpset us, false)

/-- A copy of a frame is read: what earlier reads found uncorrectable, or what does not match the ICRC, is met again. -/
def Dev.frameRead (d : Dev) (id : Nat) (us : List Upset) : Dev × Bool :=
  let f := d.frames.get id
  let old := f.reached.filterMap (fun b => match (d.owners.get (bufCell b)).bad with | 0 => none | x + 1 => some (Upset.data x))
  let cut := match f.reach with | some r => [Upset.link r.2] | none => []
  let all := old ++ cut ++ (if f.icrcBad then [.icrc] else [])
  d.frameUpset id (us ++ all.filter (fun u => !us.contains u))

/-- The stored bytes a read of a frame reaches (R218). -/
def FrameRec.readBytes (f : FrameRec) : List Byte := if f.reach.isSome then f.bytes.take (chainBytes f.reached) else f.bytes

/-! ## FRAME_RX_END (R34 to R38) -/

/-- A pause or PFC frame is consumed (R35, R240); the opcode, the quanta and the priority vector lie as IEEE 802.3 and
802.1Q place them (PRESUMED, log entry 10). -/
def Dev.macControl (d : Dev) (p : Nat) (b : List Byte) : Dev :=
  if be b 14 2 = 1 then
    (List.range 8).foldl (fun d c => d.pauseClass p c (be b 16 2)) (d.stat p 9)
  else if be b 14 2 = 0x0101 then
    (List.range 8).foldl (fun d k =>
      if bitAt (be b 16 2) k then d.pauseClass p (d.pcpTc (pipeOf p) k) (be b (18 + 2 * k) 2) else d) (d.stat p 10)
  else d.stat p 6

/-- What the MAC settles of a frame: the bytes it stores, the length under R4, FCS_BAD, OVERSIZE, the last six bytes before the
FCS. -/
structure Settled where
  bytes : List Byte
  len : Nat
  bad : Bool
  long : Bool
  tail : List Byte
  deriving DecidableEq, Repr

/-- What the MAC settles of a frame's bytes on a front-panel port (R36, R38). -/
def settleRx (b : List Byte) (pcsErr : Bool) (maxFrame : Nat) : Settled :=
  let b := b.take 16384
  let n := b.length
  let body := b.take (n - 4)
  let good := decide (b.drop (n - 4) = leBytes 4 (fcsOf body)) && !pcsErr
  { bytes := if maxFrame < n then b.take maxFrame else body, len := n, bad := !good, long := decide (maxFrame < n),
    tail := body.drop (n - 10) }

/-- A frame of an internal port: its bytes come without an FCS. -/
def settleInt (b : List Byte) : Settled := { bytes := b, len := b.length + 4, bad := false, long := false, tail := b.drop (b.length - 6) }

/-- The latched counts of a frame that is not a runt (R59). -/
def Dev.rxCount (d : Dev) (p : Nat) (b : List Byte) (n : Nat) (bad long : Bool) : Dev :=
  let d := if bad then d.stat p 2 else d
  let d := if long then d.stat p 4 else d
  let d := if 16384 ≤ n then d.stat p 5 else d
  if bad || long then d
  else
    let d := (d.stat p 0).stat p 1 n
    if be b 0 6 = 2 ^ 48 - 1 then d.stat p 8 else if bitAt (be b 0 6) 40 then d.stat p 7 else d

/-- A cut-through frame found bad at its end (R36, R189, R218): the burin copies end stomped, copies that have not begun
are discarded where a frame with that mark is not delivered. -/
def Dev.lateBad (d : Dev) (id : Nat) : Dev :=
  let f := d.frames.get id
  if !f.bad then d
  else
    d.dropCopies id (fun c =>
      if c.kind = 2 then f.fcsBad && !d.on F.BPM_CTRL_CAP_BAD
      else !(c.port == 256 && (!f.fcsBad || d.on F.BPM_CTRL_HOST_BAD)))

/-- EXPR_STOMPED (R189). -/
def Dev.exprStomped (d : Dev) (f : FrameRec) : Dev :=
  if f.bad && f.burin != 0 then d.streamRec 0x060E 3 f.exprStream f.burin else d

/-- The end of a frame whose header was complete before (R94, R141, R204, R212). -/
def Dev.endOpen (d : Dev) (id : Nat) (us : List Upset) : Dev :=
  let f := d.frames.get id
  let d := d.exprStomped f
  if !f.decided then d
  else
    let p := f.parsed
    let d := if f.judged.hdrErr && !f.hdrErr then d.hdrErrCount f else d
    let d := match f.stream with | some st => if f.bad then d else d.sstat st 1 f.len | none => d
    let u := d.frameUpset id us
    let d := (u.1.lateBad id).learnNow { f with icrcBad := f.icrcBad || u.2 } p.sa
    let f := (d.frames.get id).learned
    let d := d.frameSet id { f with icrcBad := f.icrcBad || us.contains .icrc }
    if f.dead then d
    else if f.bufs.isEmpty then d.deref id 1
    else
      match d.growChain f p.l3End true with
      | (d, g, true) => (d.frameSet id g).deref id 1
      | (d, g, false) => (d.frameSet id g).killFrame id

/-- A frame is lost in the MAC after its header was complete: reassembly failed (R38). It was decided or still waits for
its slot. -/
def Dev.rxLost (d : Dev) (p id : Nat) : Dev :=
  let f := d.frames.get id
  let d := { d with hold := d.hold.put p ((d.hold.get p).filter (fun e => e.1 != id)) }.frameSet id
    { f with ended := true, fcsBad := true, decided := true }
  if f.decided then (d.dropCopies id (fun _ => true)).deref id 1
  else d.freeChain id

/-- A frame as its end leaves it: its bytes, its length, its ICRC and its marks. -/
def rxFrame (f : FrameRec) (r : Settled) (runt : Bool) : FrameRec :=
  { f with
    bytes := r.bytes, len := r.len, icrc := crc32c r.bytes, ended := true, fcsBad := !runt && r.bad, oversize := r.long
    tail := r.tail, runtSupp := runt && !f.exprPorts.isEmpty }

/-- A frame that has ended before its header was complete waits on its MAC for HEADER_COMPLETE. -/
def Dev.rxWaits (d : Dev) (k id : Nat) (f : FrameRec) (us : List Upset) : Dev :=
  let d := ({ d with rxCur := d.rxCur.put k id }.frameSet id f)
  let d := if d.prpLan f.port then d.provide id { f with prpLan := true } else d
  let u := d.frameUpset id us
  (u.1.frameSet id { u.1.frames.get id with icrcBad := us.contains .icrc }).exprStomped f

/-- The last byte of a frame is received: what the MAC settles of it. -/
def Dev.rxLast (d : Dev) (p mac : Nat) (b : List Byte) (pcsErr : Bool) (frags : Nat) (assyErr : Bool) (us : List Upset) : Dev :=
  let k := rxKey p mac
  let opened := d.rxOpen.get k
  let cur := d.rxCur.get k
  let known := opened ≠ 0 ∨ cur ≠ 0
  if (cur ≠ 0 ∧ (d.frames.get cur).ended = true) ∨ (¬ known ∧ d.takesFrames p = false) then d
  else
    let d := if mac = 1 then d.stat p 11 frags else d
    let d := { d with rxOpen := d.rxOpen.put k 0 }
    if mac = 1 ∧ assyErr = true then
      let d := { d.stat p 12 with rxCur := d.rxCur.put k 0 }
      if known then d.rxLost p (if opened ≠ 0 then opened else cur) else d
    else
      let d := if pcsErr && decide (p < 256) then d.stat p 6 else d
      let r := if p < 256 then settleRx b pcsErr (d.maxFrame p) else settleInt b
      let runt := decide (p < 256 ∧ r.len < 64)
      if runt && cur == 0 then d.stat p 3
      else if !runt && !r.bad && isMacCtl b && decide (p < 256) && !known then d.macControl p b
      else
        let d := if runt then d.stat p 3 else if p < 256 then d.rxCount p b r.len r.bad r.long else d
        let x : Dev × Nat × FrameRec :=
          if opened ≠ 0 then (d, opened, d.frames.get opened)
          else if cur ≠ 0 then (d, cur, d.frames.get cur)
          else d.newFrame p (inPipe p) mac
        let f := rxFrame x.2.2 r runt
        let d := x.1.frameSet x.2.1 f
        if opened ≠ 0 then d.endOpen x.2.1 us
        else if runt && f.exprPorts.isEmpty then
          { d with rxCur := d.rxCur.put k 0, frames := d.frames.put x.2.1 default }
        else d.rxWaits k x.2.1 f us

/-- The last byte of a frame is received. -/
def Dev.rxEnd (d : Dev) (p mac : Nat) (b : List Byte) (pcsErr : Bool) (frags : Nat) (assyErr : Bool) (us : List Upset) : Dev :=
  let d := d.rxLast p mac b pcsErr frags assyErr us
  { d with sof := d.sof.put (rxKey p mac) none, noBind := d.noBind.put (rxKey p mac) false }

def execFrameRxEnd (p : Fin 261) (mac : Fin 2) (bytes : List Byte) (pcsErr : Bool) (frags : Nat) (assyErr : Bool)
    (us : List Upset) (s : State) : Out :=
  s.actAt (fun d => d.rxPlace p) (·.rxEnd p mac bytes pcsErr frags assyErr us)

end Sys2Proof.Machine
end

