-- ==== Sys2Proof/Machine/Egress.lean ====
section
/-! DEFINITION. A copy's way out: selection (R231 to R236), the start of a copy with its edits and stamps (R54, R71, R72,
R222, R223), preemption (R42 to R47), the end of a copy (R40, R41, R116, R189, R217 to R219, R234, R237). -/

namespace Sys2Proof.Machine

/-! ## PTP in flight (R71 to R73) -/

/-- The meanLinkDelay of a port in 2^-16 ns. -/
def Dev.pdelay (d : Dev) (p : Nat) : Nat := if p < 256 then d.get F.PTP_PDELAY_PDELAY p * 256 else 0

/-- Residence: egress stamp minus ingress stamp in the handling base. -/
def residence (f : FrameRec) (base tb0 tb1 : Nat) : Nat :=
  ltMove (if base = 0 then tb0 else tb1) (-((if base = 0 then f.tb0 else f.tb1 : Nat) : Int))

/-- A message whose correction field the egress edit updates is counted, copy by copy (R91, log entry 38). -/
def Dev.corrected (d : Dev) (c : Copy) : Dev := d.count 0x38 1 1 { tc := some c.tc }

/-- What a PTP copy's correction field gains as it starts; a two-step Sync fills its entry of the follow-up match table,
a Follow_Up takes and frees it (R72). -/
def Dev.ptpStart (d : Dev) (c : Copy) (f : FrameRec) (tb0 tb1 : Nat) : Dev × Nat :=
  let r := residence f c.base tb0 tb1
  match c.ptp, f.parsed.ptp with
  | 1, _ => (d.corrected c, r)
  | 2, _ => (d.corrected c, r + d.pdelay f.port)
  | 5, some h =>
    ({ d with fu := d.fu.map (fun e =>
        if e.inPort = f.port ∧ e.spi = h.spi ∧ e.seqId = h.seqId ∧ e.egress = c.port then { e with resid := r } else e) }, 0)
  | 3, some h | 4, some h =>
    match d.fu.findIdx? (fun e => e.inPort == f.port && e.spi == h.spi && e.seqId == h.seqId && e.egress == c.port) with
    | some k =>
      ({ d with fu := d.fu.eraseIdx k }.corrected c,
       (match d.fu[k]? with | some e => e.resid | none => 0) + (if c.ptp = 4 then d.pdelay f.port else 0))
    | none => (d.fuMiss c.base, 0)
  | _, _ => (d, 0)

/-- The PTP header's offset in an edited frame: the edits move it by what they add or remove before it. -/
def ptpOff (b edited : List Byte) (p : Parsed) (h : PtpHdr) : Nat :=
  let tail := b.length - (if p.prp.isSome then 6 else 0) - h.off
  let q := parseHead edited (some edited.length)
  match q.ptp with
  | some x => x.off
  | none => edited.length - tail

/-- The bytes with the correction field raised, or the origin timestamp written, its fraction in the correction field (R61); an
event message over UDP/IPv4 leaves with checksum 0 (R73). -/
def ptpEdit (b : List Byte) (off : Nat) (h : PtpHdr) (code gain stamp : Nat) : List Byte :=
  let b := if code = 6 then
      let ns := stamp / 65536
      splice (splice b (off + 34) (beBytes 6 (ns / 1000000000) ++ beBytes 4 (ns % 1000000000))) (off + 8)
        (beBytes 8 (be b (off + 8) 8 + stamp % 65536))
    else if code = 1 ∨ code = 2 ∨ code = 3 ∨ code = 4 then splice b (off + 8) (beBytes 8 (be b (off + 8) 8 + gain)) else b
  if h.udp && !h.v6 && (code == 1 || code == 2 || code == 5) then splice b (off - 2) (beBytes 2 0) else b

/-- A copy whose edit instruction fails parity at dequeue is discarded (R223). -/
def Dev.editDrop (d : Dev) (c : Copy) : Dev :=
  ((((d.count 0x2C 6).raise F.BPM_EVENT_EDIT_PARITY).bpmRec 0x070D 4 0)).consume c.frame

/-- The bytes a copy leaves with: edits of R222 and the PTP correction. -/
def Dev.wireBytes (d : Dev) (t : Tx) : List Byte :=
  let f := d.frames.get t.copy.frame
  let b := d.copyBytes t.copy
  match f.parsed.ptp with
  | some h =>
    if t.copy.ptp = 0 then b
    else ptpEdit b (ptpOff f.bytes b f.parsed h) h t.copy.ptp t.gain (if t.copy.base = 0 then t.tb0 else t.tb1)
  | none => b

/-! ## Starting a copy -/

/-- Egress stamps in TB_0, TB_1 and PT (R54 to R57). -/
def Dev.egressStamp (d : Dev) (p : Nat) : Dev × Nat × Nat × Nat :=
  let c := d.correction p true
  let m := c.1 + c.2.trim p true
  (c.2, ltMove (d.tbLt 0) m, ltMove (d.tbLt 1) m, ltMove d.pt m)

/-- The edit instruction of a copy has bad parity (R223). -/
def Dev.editBad (d : Dev) (c : Copy) : Bool :=
  c.edit != 0 && d.bad 8 ((d.frames.get c.frame).plate % 2 * 16384 + (c.edit - 1))

/-- The R-tag's value is read once per frame (R222). -/
def Dev.readRtag (d : Dev) (c : Copy) : Dev :=
  let f := d.frames.get c.frame
  let w := d.editWords f.plate c.edit
  let src := w.getD 6 0 % 65536
  if bitAt (w.getD 0 0) 5 && !f.rtags.any (fun x => x.1 == src) then
    d.frameSet c.frame { f with rtags := f.rtags ++ [(src, (d.dd.get src).txSeq)] }
  else d

/-- A copy takes its MAC: deficit and tokens pay its counted length (R233, R238), its stamps are latched. -/
def Dev.txStart (d : Dev) (c : Copy) (mac : Nat) : Dev :=
  let q := 8 * c.port + c.tc
  let n := d.counted c
  let drr := decide (c.tc < d.get F.TM_PORT_CFG_SP_LEVEL c.port)
  let d := if drr then { d with deficit := d.deficit.put q (d.deficit.get q - n) } else d
  let d := { d with tokens := d.tokens.put q (d.tokens.get q - ((n * 65536 : Nat) : Int)) }
  let s := d.egressStamp c.port
  let g := s.1.ptpStart c (d.frames.get c.frame) s.2.1 s.2.2.1
  let t : Tx := { live := true, copy := c, burin := false, yielded := false, preempted := false, counted := n, queue := q, begun := d.cycle, sent := 0, drr := drr, fallen := 0,
                  tb0 := s.2.1, tb1 := s.2.2.1, pt := s.2.2.2, gain := g.2, integ := false }
  { g.1 with tx := g.1.tx.put (2 * c.port + mac) t, txAt := d.cycle + 1 }

/-- The head copy of a class leaves its queue: it is sent, or discarded for its edit instruction's parity (R223) or an
edited length above the egress MAX_FRAME (R40). -/
def Dev.startHead (d : Dev) (p class' mac : Nat) : Dev :=
  let q := 8 * p + class'
  match (d.queues.get q).head? with
  | none => d
  | some c =>
    if d.editBad c then
      (d.leaveQ q 0).editDrop c
    else
      let d := d.readRtag c
      if (match d.copyLen c with | some n => decide (d.maxFrame p < n) | none => false) then
        ((d.leaveQ q 0).stat p 18).consume c.frame
      else (d.txStart c mac).leaveQ q 0

/-- The express MAC takes the next burin copy of its holding queue (R46, R235). -/
def Dev.startBurin (d : Dev) (p id : Nat) (rest : List Nat) : Dev :=
  let s := d.egressStamp p
  let c : Copy := { (default : Copy) with frame := id, port := p, tc := 7 }
  let t : Tx := { (default : Tx) with live := true, copy := c, burin := true, queue := 8 * 261, tb0 := s.2.1,
                                      tb1 := s.2.2.1, pt := s.2.2.2 }
  { s.1 with exprQ := s.1.exprQ.put p rest, tx := s.1.tx.put (2 * p) t, txAt := d.cycle + 1 }

/-! ## EGRESS_SELECT (R232, R235) -/

/-- The selector `k` over a set of classes chooses and its copy starts on a MAC. -/
def Dev.selectFrom (d : Dev) (p k set mac : Nat) : Dev × Bool :=
  match d.pick p k set with
  | (d, some c) => (d.startHead p c (if mac = 2 then (if bitAt (d.expressSet p) c then 0 else 1) else mac), true)
  | (d, none) => (d, false)

/-- The preempted frame goes on. -/
def Dev.resume (d : Dev) (p : Nat) : Dev :=
  let d := d.shapeSync (d.tx.get (2 * p + 1)).queue
  { d with tx := d.tx.put (2 * p + 1) { d.tx.get (2 * p + 1) with yielded := false, begun := d.cycle } }

/-- The selectors of a port at a frame boundary. -/
def Dev.selectPort (d : Dev) (p : Nat) : Dev :=
  let half := (d.tx.get (2 * p + 1)).live
  match d.exprQ.get p with
  | id :: r => d.startBurin p id r
  | [] =>
    let d := d.readyPort p
    if d.preActive p then
      let e := d.expressSet p
      match d.selectFrom p 0 e 0 with
      | (d, true) => d
      | (d, false) =>
        if d.on F.TM_PORT_STATUS_HOLD p then d
        else if half then d.resume p
        else (d.selectFrom p 1 (255 - e) 1).1
    else if half then d.resume p
    else (d.selectFrom p 0 255 (if 256 ≤ p then 0 else 2)).1

/-- A port at a frame boundary: it leaves LPI first (R48), and waits until it is awake. The queues of ports 256, 257 and
259 are served by RX_DELIVER, PROMPTER_RX_FRAME and FOLIO_FORMATTER_TAKE. -/
def Dev.egressSelect (d : Dev) (p : Nat) (us : List Upset) : Dev :=
  let d := d.memUpset us
  let t1 := d.tx.get (2 * p + 1)
  if d.linkState p ≠ 1 ∨ (256 ≤ p ∧ p ≠ 260) ∨ (p < 256 ∧ d.ingressOpen = false) ∨ (d.tx.get (2 * p)).live = true ∨ (t1.live = true ∧ t1.yielded = false) then d
  else if d.on F.PORT_STATUS_TX_LPI p && decide (p < 256) then
    if d.portIdle p then d else { d.set F.PORT_STATUS_TX_LPI p 0 with wake := d.wake.put p true, wakeAt := d.wakeAt.put p d.cycle }
  else if d.wake.get p then d
  else d.selectPort p

def execEgressSelect (p : Fin 261) (us : List Upset) (s : State) : Out := s.actAt (fun _ => atSend) (·.egressSelect p us)

/-! ## PREEMPTABLE_YIELD (R44, R47) -/

/-- An express frame waits on a port. -/
def Dev.expressWaits (d : Dev) (p : Nat) : Bool :=
  !(d.exprQ.get p).isEmpty ||
    (List.range 8).any (fun c => bitAt (d.expressSet p) c && (d.syncPort p).eligible (8 * p + c))

/-- Frame bytes that the fragment in progress has carried since its 8 bytes of preamble and SMD. -/
def Dev.fragBytes (d : Dev) (p : Nat) (t : Tx) : Nat := (d.cycle - t.begun) * kbps (d.portSpeed p) / 12000000 - 8

/-- The point is permitted (R44): the fragment has its minimum, and at least 64 bytes remain. -/
def Dev.mayYield (d : Dev) (p : Nat) (t : Tx) : Bool :=
  decide (64 * (d.addFrag p + 1) ≤ d.fragBytes p t ∧ t.sent + d.fragBytes p t + 64 ≤ t.counted)

/-- The preemptable MAC yields at a permitted point to an express frame or to hold. -/
def Dev.yieldPort (d : Dev) (p : Nat) : Dev :=
  let t := d.tx.get (2 * p + 1)
  if d.preActive p && t.live && !t.yielded && d.mayYield p t && (d.on F.TM_PORT_STATUS_HOLD p || d.expressWaits p) then
    let d := (if t.preempted then d else d.stat p 19).shapeSync t.queue
    let t := d.tx.get (2 * p + 1)
    { d with tx := d.tx.put (2 * p + 1) { t with yielded := true, preempted := true, sent := t.sent + d.fragBytes p t } }
  else d

def execPreemptableYield (p : Fin 256) (s : State) : Out := s.actAt (fun _ => atSend) (·.yieldPort p)

/-! ## COPY_TX_END -/

/-- What a transmission's credit has still to fall at its end, for its counted length of `n` bytes (R234, R237). -/
def Dev.payCredit (d : Dev) (p q n fallen : Nat) : Dev :=
  let rate := d.portRate p
  if rate = 0 then d
  else d.creditMove q (((n * 12000000 : Nat) : Int) - fallen * rate) ((d.get F.Q_CBS_IDLE_KBPS q : Int) - rate) (1500000000 * rate)

/-- Deficit, where it paid, and tokens take back what a length unknown at selection cost too much (R234). -/
def Dev.correctCount (d : Dev) (q was n : Nat) (drr : Bool) : Dev :=
  let d := if (d.queues.get q).isEmpty || !drr then d else { d with deficit := d.deficit.put q (d.deficit.get q + was - n) }
  { d with tokens := d.tokens.put q (d.tokens.get q + (((was : Int) - n) * 65536)) }

/-- What a transmission that ended counts on its port (R59, R219): a good frame, or one stomp. -/
def Dev.txCount (d : Dev) (p mac n : Nat) (good integ : Bool) : Dev :=
  let d := if good then (d.stat p 14).stat p 15 n else d.stat p 16
  let d := if mac = 0 then d.stat p 20 else d
  if integ then d.stat p 38 else d

/-- Cuts a frame that reaches the egress MAX_FRAME (R40). -/
def cutAt (m : Nat) (b : List Byte) : List Byte × Bool := if m < b.length + 4 then (b.take m, true) else (b, false)

/-- EDIT_PATH_PARITY at the FCS generator (R218). -/
def Dev.editPathBad (d : Dev) (us : List Upset) : Dev × Bool :=
  if us.contains .editPath then ((d.raise F.BPM_EVENT_EDIT_PATH_PARITY).bpmRec 0x0712 5 0, true) else (d, false)

/-- The bytes that reach the wire: a copy of a broken chain ends at the break (R218), with no trailer after it. -/
def Dev.brokenBytes (d : Dev) (t : Tx) : List Byte :=
  let id := t.copy.frame
  let f := d.frames.get id
  if f.reach.isNone then d.wireBytes t
  else
    let pe := t.copy.pair
    (d.frameSet id { f with bytes := f.readBytes }).wireBytes
      { t with copy := { t.copy with pair := { pe with ins := if pe.ins = 1 then 0 else pe.ins, stripPrp := false } } }

/-- A burin copy's last byte leaves (R189). -/
def Dev.burinEnd (d : Dev) (p : Nat) (t : Tx) (us : List Upset) : Dev :=
  let f := d.frames.get t.copy.frame
  if !f.ended then d
  else
    let d := d.memUpset us
    let integ := us.contains .icrc || f.icrcBad
    let d := if integ then d.icrcFail else d
    let b := cutAt (d.maxFrame p) f.bytes
    let d := if b.2 then d.stat p 18 else d
    let good := !f.bad && !f.dead && !integ && !b.2
    let d := (d.txCount p 0 (b.1.length + 4) good (integ && !f.fcsBad)).emit (.frame p 0 (withFcs b.1 good) good)
    (({ d with tx := d.tx.put (2 * p) default }.busy p).pauseOut p).burinDone t.copy.frame

/-- A copy is sent: integrity, counts, shapers, the host's job, the reference. -/
def Dev.copySent (d : Dev) (p mac : Nat) (t : Tx) (us : List Upset) : Dev :=
  let id := t.copy.frame
  let f := d.frames.get id
  let u := d.frameRead id us
  let e := u.1.editPathBad us
  let b := cutAt (d.maxFrame p) (u.1.brokenBytes t)
  let integ := u.2 || e.2
  let good := !f.bad && !f.dead && !integ && !b.2
  let n := b.1.length + 4
  let d := if b.2 then e.1.stat p 18 else e.1
  let d := d.txCount p mac n good (integ && !f.fcsBad)
  let d := (d.qstat t.copy 4).qstat t.copy 5 n
  let d := if p = 260 then d.count 0x58 7 else d
  let o := d.get F.TM_PORT_CFG_OVERHEAD p
  let m := if o < 64 then n + o else n - (128 - o)
  let d := d.shapeSync t.queue
  let d := (d.correctCount t.queue t.counted m t.drr).payCredit p t.queue m (d.tx.get (2 * p + mac)).fallen
  let d := d.emit (.frame p mac (if p < 256 then withFcs b.1 good else b.1) good)
  let f := d.frames.get id
  let d := match f.txJob with
    | some _ => (d.txDone f 0 p (t.pt / 65536 % 2 ^ 32)).frameSet id { f with txJob := none }
    | none => d
  (({ d with tx := d.tx.put (2 * p + mac) default }.busy p).pauseOut p).consume id

/-- A copy's last byte leaves its MAC. -/
def Dev.copyEnd (d : Dev) (p mac : Nat) (us : List Upset) : Dev :=
  let t := d.tx.get (2 * p + mac)
  let f := d.frames.get t.copy.frame
  if !t.live || t.yielded then d
  else if t.burin then d.burinEnd p t us
  else if !f.ended && !f.dead then d
  else d.copySent p mac t us

def execCopyTxEnd (p : Fin 261) (mac : Fin 2) (us : List Upset) (s : State) : Out := s.actAt (fun _ => atSend) (·.copyEnd p mac us)

end Sys2Proof.Machine
end

