-- ==== Sys2Proof/Machine/Folio.lean ====
section
/-! DEFINITION. The Folio capture store (R279 to R293): the formatter and its shed level, the segments of the ring, the
drives, windows, read-back, and the SFI commands of the Folio group. -/

namespace Sys2Proof.Machine

/-! ## Taking copies from an internal port's queues (R232) -/

/-- The next copy of an internal port, from a set of its classes, leaves its queue in the order of R232; deficit and tokens
pay for it. It is not delivered where its edit instruction fails parity (R223), and carries INTEGRITY_ERR where its read finds an
error (R218). -/
def Dev.takeHead (d : Dev) (p set : Nat) (us : List Upset) : Dev × Option Copy :=
  match (d.readyPort p).pick p 0 set with
  | (d, none) => (d, none)
  | (d, some k) =>
    let q := 8 * p + k
    match (d.queues.get q).head? with
    | none => (d, none)
    | some c =>
      let n := d.counted c
      let d := if k < d.get F.TM_PORT_CFG_SP_LEVEL p then { d with deficit := d.deficit.put q (d.deficit.get q - n) } else d
      let d := { d with tokens := d.tokens.put q (d.tokens.get q - ((n * 65536 : Nat) : Int)) }
      let d := d.leaveQ q 0
      if d.editBad c then (d.editDrop c, none)
      else
        let u := d.frameRead c.frame us
        ({ u.1 with txAt := d.cycle + 1 }, some { c with integ := u.2 })

/-- A copy was delivered from its queue (R260). -/
def Dev.delivered (d : Dev) (c : Copy) : Dev := (d.qstat c 4).qstat c 5 ((d.frames.get c.frame).readBytes.length + 4)

/-! ## Records (R283) -/

/-- Capture runs: RUNNING or DEGRADED. -/
def Dev.folioRuns (d : Dev) : Bool := decide (2 ≤ d.get F.FOLIO_STATUS_STATE)

/-- DATA_LEN of a class for a frame stored with `n` bytes (R284). -/
def Dev.snapLen (d : Dev) (k n : Nat) : Nat :=
  let s := d.get F.CLASS_CFG_SNAP_LEN k
  if s = 0 then n else min n (8 * s)

/-- FLAGS of a record. -/
def recFlags (f : FrameRec) (c : Copy) (n : Nat) (gap : Bool) : Nat :=
  b2n f.fcsBad + 2 * b2n f.oversize + 4 * b2n f.runtSupp + 8 * b2n f.express + 16 * b2n c.integ +
    32 * b2n (decide (n < f.bytes.length)) + 64 * b2n gap + 128 * b2n f.mark + 256 * b2n c.parked +
    512 * b2n (c.reason != 0) + 1024 * (c.reason % 8)

/-- A record's bytes with a header of 28 bytes: the CRC-32C, the data, the padding. -/
def recBytes (hdr data : List Byte) : List Byte :=
  hdr ++ leBytes 4 (crc32c (hdr ++ data)) ++ data ++ List.replicate ((8 - data.length % 8) % 8) 0

/-- A record with GAP set in its FLAGS (R283), where records of its class before it were lost. -/
def FolRec.withGap (r : FolRec) : FolRec :=
  let n := ofLe (slice r.bytes 18 2)
  let hdr := r.bytes.take 20 ++ ((r.bytes.drop 20).take 1).map (fun b => b ||| 64#8) ++ (r.bytes.drop 21).take 7
  { r with bytes := recBytes hdr ((r.bytes.drop 32).take n) }

/-- A capture copy's record: header, data, padding; FOLIO_FORMAT completes it under its number. -/
def Dev.folioRecord (d : Dev) (c : Copy) (fmt : Nat) : FolRec :=
  let f := d.frames.get c.frame
  let n := d.snapLen c.cls f.readBytes.length
  let len := if f.oversize then f.bytes.length + 4 else f.len
  let hdr := leBytes 2 f.pt ++ leBytes 8 (f.pt / 65536) ++ leBytes 2 d.timeFlags ++
    leBytes 2 (f.port % 512 + 512 * c.tc + 4096 * c.colour + 16384 * f.pipe) ++ leBytes 2 (c.cls + 8 * f.plate) ++
    leBytes 2 len ++ leBytes 2 n ++ leBytes 4 (recFlags f c n (d.gap.get c.cls)) ++
    leBytes 4 (match f.stream with | some s => s % 16384 + 16384 | none => 0)
  { fmt := fmt, pt := f.pt / 65536, port := f.port, cls := c.cls, stream := f.stream, bytes := recBytes hdr (f.readBytes.take n) }

/-! ## The shed level (R285) -/

/-- The assembly buffer's size, the bytes of a drive write, and the bytes of records a segment holds. -/
def asmSize : Nat := 2097152
def drainSize : Nat := 131072
def segRoom : Nat := 4190208

/-- Since when the fill is below SHED_LO. -/
def Dev.markLow (d : Dev) : Dev :=
  { d with lowSince := if d.asmFill * 100 < d.get F.FOLIO_STATUS_SHED_LO * asmSize then some (d.lowSince.getD d.cycle) else none }

/-- L rises with the fill at or above SHED_HI, at most once per 10 µs. -/
def Dev.shedUp (d : Dev) : Dev :=
  let l := d.get F.FOLIO_STATUS_SHED_LEVEL
  let d := d.markLow
  if d.get F.FOLIO_CTRL_SHED_HI * asmSize ≤ d.asmFill * 100 ∧ l < 6 ∧ (d.shedUpAt = 0 ∨ d.shedUpAt + 15000 ≤ d.cycle + 1) then
    let d := { d with shedAt := d.cycle, shedUpAt := d.cycle + 1 }.set F.FOLIO_STATUS_SHED_LEVEL 0 (l + 1)
    (d.raise F.FOLIO_EVENT_SHED_UP).record { code := 0x0B01, sev := 3, a0 := l + 1 }
  else d

/-- L falls after the fill has stayed below SHED_LO for 1 ms since the last change. -/
def Dev.shedDown (d : Dev) : Dev :=
  let l := d.get F.FOLIO_STATUS_SHED_LEVEL
  match d.lowSince with
  | some t =>
    if l ≠ 0 ∧ max t d.shedAt + msCycles ≤ d.cycle then
      ({ d with shedAt := d.cycle }.set F.FOLIO_STATUS_SHED_LEVEL 0 (l - 1)).record { code := 0x0B02, sev := 1, a0 := l - 1 }
    else d
  | none => d

/-- A record of class `k` is missing: its next record carries GAP, the open segment's SHED_MAP its bit. -/
def Dev.missing (d : Dev) (k : Nat) : Dev :=
  let g := d.segs.get d.wrPos
  let d := { d with gap := d.gap.put k true }
  if d.wrOpen then { d with segs := d.segs.put d.wrPos { g with shedMap := g.shedMap ||| 2 ^ k } } else d

/-- A copy is released without a record. -/
def Dev.shed (d : Dev) (k : Nat) : Dev := ((d.satCount .SHED k).count 0x40 2).missing k

/-- A record is lost: no room in the assembly buffer, or FOLIO_FORMAT's queue is full. -/
def Dev.overrun (d : Dev) (k : Nat) : Dev :=
  let d := ((d.satCount .OVERRUN k).count 0x40 3).missing k
  (d.raiseFirst F.FOLIO_EVENT_OVERRUN 0 0 msCycles).recordOnce msCycles { code := 0x0B03, sev := 5, a0 := k }

/-- A copy that is kept goes into the buffer and to FOLIO_FORMAT, on an engine of a free pin entry (log entry 26). -/
def Dev.formatCopy (d : Dev) (c : Copy) : Dev :=
  let n := d.fmtLast + 1
  let r := d.folioRecord c n
  if asmSize < d.asmFill + r.bytes.length then d.overrun c.cls
  else
    let x := d.draw 11
    let key := 256 * 5 + x.1 % 256
    match x.2.chooseEngine key with
    | (d, none) => d.overrun c.cls
    | (d, some e) =>
      let d := { d with asm := d.asm ++ [r], asmFill := d.asmFill + r.bytes.length, gap := d.gap.put c.cls false, fmtLast := n }
      d.pushItem e { frame := 0, prog := 5, pin := key, info := [n] }

/-- FOLIO_FORMAT has completed a record of the buffer. -/
def Dev.formatDone (d : Dev) (n : Nat) : Dev :=
  { d with asm := d.asm.map (fun r => if r.fmt = n then { r with fmt := 0 } else r) }

/-- A record of the buffer is lost with its FOLIO_FORMAT (R273): the next one of its class carries GAP. -/
def Dev.loseRec (d : Dev) (n : Nat) : Dev :=
  match d.asm.findIdx? (fun r => r.fmt == n) with
  | none => d
  | some k =>
    let r := d.asm.getD k default
    let later := d.asm.drop (k + 1)
    let d := { d with asmFill := d.asmFill - r.bytes.length }.overrun r.cls
    match later.findIdx? (fun x => x.cls == r.cls) with
    | some j =>
      { d with asm := d.asm.take k ++ later.take j ++ [(later.getD j default).withGap] ++ later.drop (j + 1), gap := d.gap.put r.cls false }
    | none => { d with asm := d.asm.take k ++ later }

/-- The formatter begins a core cycle: L rises first, on the fill the last cycle left, so that a copy taken in a cycle is judged at
the level before a change in it (R291). -/
def Dev.takeCycle (d : Dev) : Dev :=
  if d.takeAt = d.cycle + 1 then d else { d.shedUp with takeAt := d.cycle + 1, takeN := 0 }

/-- The formatter takes a copy: it sheds it, or keeps it; the copy is consumed. -/
def Dev.formatterTake (d : Dev) (us : List Upset) : Dev :=
  let d := d.takeCycle
  match { d with takeN := d.takeN + 1 }.takeHead 259 255 us with
  | (d, none) => d
  | (d, some c) =>
    let d := d.delivered c
    let d := if d.folioRuns = false then d
      else if c.cls ≤ d.get F.FOLIO_STATUS_SHED_LEVEL ∧ c.cls < 7 then d.shed c.cls
      else d.formatCopy c
    d.consume c.frame

/-- The formatter takes two copies in a core cycle (R285): a third one waits for the next. -/
def Dev.takePlace (d : Dev) : Nat := if d.takeAt = d.cycle + 1 ∧ 2 ≤ d.takeN then 0 else atSend

def execFolioFormatterTake (s : State) (us : List Upset := []) : Out := s.actAt Dev.takePlace (·.formatterTake us)

/-- What a core cycle without a copy brings to the shed level. -/
def Dev.shedTick (d : Dev) : Dev := if d.folioRuns then d.shedUp else d

def execShedDown (s : State) : Out := s.later 11 0 (·.shedDown)

/-! ## Segments (R281, R282, R286, R287) -/

/-- PIN_LIMIT in segments. -/
def Dev.pinLimit (d : Dev) : Nat := d.get F.FOLIO_CTRL_PIN_LIMIT * d.ringSegs / 100

/-- A window that pins too much is shortened from its earliest end, or refused (R287). -/
def Dev.trimWin (d : Dev) (w : Win) : Dev :=
  if d.pinnedCount ≤ d.pinLimit then d
  else
    let rest := { d with wins := d.wins.erase w }
    match shrinkWin rest d.pinLimit (d.segs.length + 1) w with
    | some v =>
      ({ d with wins := d.wins.map (fun x => if x = w then v else x) }.headerWrite.raise F.FOLIO_EVENT_PIN_TRUNCATED).record
        { code := 0x0B05, sev := 3, a0 := v.id, a1 := v.start % 2 ^ 32 }
    | none => (rest.headerWrite.raise F.FOLIO_EVENT_PIN_REFUSED).record { code := 0x0B06, sev := 5, a0 := w.binding }

/-- Bytes 0 to 63 of a segment's header (R282); FIRST_PT and LAST_PT as bytes 0 to 11 of its first and last record. -/
def Dev.segHeader (d : Dev) (g : Seg) : List Byte :=
  let pt (r : Option FolRec) : List Byte := match r with | some r => r.bytes.take 12 | none => leBytes 12 0
  let h := leBytes 4 0x464F4C31 ++ leBytes 1 (if g.isClosed then 2 else 1) ++ leBytes 1 g.drive ++ leBytes 2 1 ++ leBytes 8 d.folioId ++
    leBytes 8 g.seq ++ pt g.recs.head? ++ pt g.recs.getLast? ++ leBytes 4 g.records ++ leBytes 4 g.used ++ leBytes 4 g.shedMap
  h ++ leBytes 4 (crc32c h)

/-- The header of the segment at a ring position is written. -/
def Dev.writeSegHeader (d : Dev) (p : Nat) : Dev :=
  let g := d.segs.get p
  (d.nvme g.drive 3 p 4096).emit (.segHead g.drive p (d.segHeader g))

/-- The open segment closes: its header is rewritten, and the windows over it pin it. -/
def Dev.closeSeg (d : Dev) : Dev :=
  if d.wrOpen then
    let g := { d.segs.get d.wrPos with isClosed := true }
    let d := ({ d with wrOpen := false, segs := d.segs.put d.wrPos g }.writeSegHeader d.wrPos).count 0x40 4
    (d.wins.filter (fun w => decide (w.start ≤ g.lastPt ∧ g.firstPt ≤ w.stop))).foldl Dev.trimWin d
  else d

/-- The writer's next position: lost drives are passed over, pinned segments skipped and counted. -/
def Dev.findPos : Nat → Dev → Nat → Dev × Option Nat
  | 0, d, _ => (d, none)
  | n + 1, d, p =>
    let size := d.ringDrives.length * d.perDrive
    if size = 0 then (d, none)
    else
      let p := p % size
      let g := d.segs.get p
      if !d.inRing (d.ringDrives.getD (p % d.ringDrives.length) 0) then Dev.findPos n d (p + 1)
      else if g.isClosed && d.segPinned g then Dev.findPos n (d.count 0x40 5) (p + 1)
      else (d, some p)

/-- The writer opens its next segment over whatever the ring holds there; the header is written with its first data. -/
def Dev.openSeg (d : Dev) : Dev :=
  match Dev.findPos (4 * d.segs.length + 8) d (if d.segSeq = 0 then 0 else d.wrPos + 1) with
  | (d, none) => d
  | (d, some p) =>
    let old := d.segs.get p
    let drive := d.ringDrives.getD (p % d.ringDrives.length) 0
    let seq := d.segSeq + 1
    let g : Seg := { (default : Seg) with seq := seq, drive := drive }
    { d with segs := d.segs.put p g
             lostPt := if old.seq = 0 then d.lostPt else max d.lostPt old.lastPt
             wrPos := p
             wrOpen := true
             segSeq := seq }

/-- A record begins in the open segment. -/
def Seg.add (g : Seg) (r : FolRec) : Seg :=
  { g with firstPt := if g.records = 0 then r.pt else g.firstPt
           lastPt := r.pt
           records := g.records + 1
           used := g.used + r.bytes.length
           recs := g.recs ++ [r] }

/-- Fills a drive write of at most `left` bytes from the buffer's complete records; a segment without room for the next record is
padded and closed, which ends the write; with its first record its header is written, OPEN. Answers the bytes written. -/
def Dev.fillWrite : Nat → Dev → Nat → Nat → Dev × Nat
  | 0, d, _, done => (d, done)
  | n + 1, d, left, done =>
    match d.asm with
    | [] => (d, done)
    | r :: rest =>
      if r.fmt ≠ 0 then (d, done)
      else
      let d := if d.wrOpen then d else d.openSeg
      let g := d.segs.get d.wrPos
      let size := r.bytes.length
      if !d.wrOpen then (d, done)
      else if d.asmPart = 0 ∧ segRoom < g.used + size then (d.closeSeg, done + (segRoom - g.used))
      else
        let d := if d.asmPart ≠ 0 then d
          else
            let d := { d with segs := d.segs.put d.wrPos (g.add r) }
            if g.records = 0 then d.writeSegHeader d.wrPos else d
        let todo := size - d.asmPart
        if todo ≤ left then
          let d := { d with asm := rest, asmPart := 0, asmFill := d.asmFill - todo }.count 0x40 0
          Dev.fillWrite n d (left - todo) (done + todo)
        else ({ d with asmPart := d.asmPart + left, asmFill := d.asmFill - left }, done + left)

/-- One drive write. -/
def Dev.drainWrite (d : Dev) : Dev :=
  let x := Dev.fillWrite (d.asm.length + 1) d drainSize 0
  if x.2 = 0 then x.1
  else ((x.1.nvme (x.1.segs.get x.1.wrPos).drive 2 x.1.wrPos x.2).count 0x40 1 x.2).markLow

/-- Bytes of the buffer that FOLIO_FORMAT has completed, up to the first record it has not. -/
def Dev.readyBytes (d : Dev) : Nat := (d.asm.takeWhile (fun r => r.fmt == 0)).foldl (fun n r => n + r.bytes.length) 0 - d.asmPart

/-- The drive's I/O queue has room (R280: depth 256). -/
def Dev.nvmeRoom (d : Dev) (n : Nat) : Bool := decide ((d.nvmeOut.get n).length < 256)

/-- A write of 128 KiB, where the buffer holds as much and the drive's queue takes it. -/
def Dev.assemblyDrain (d : Dev) : Dev :=
  if d.folioRuns && decide (drainSize ≤ d.readyBytes) && d.nvmeRoom (d.segs.get d.wrPos).drive then d.drainWrite else d

def execAssemblyDrainWrite (s : State) : Out := s.later 11 0 (·.assemblyDrain)

/-- The buffer is emptied, with at most the writes its size asks for; records at FOLIO_FORMAT are completed first (log entry 26). -/
def Dev.flushAsm (d : Dev) : Dev :=
  (List.range 32).foldl (fun d _ => if d.asm.isEmpty then d else d.drainWrite)
    { d with asm := d.asm.map (fun r => { r with fmt := 0 }) }

/-! ## Drives (R280, R289) -/

/-- A segment of drive `n` that a window pinned. -/
def Dev.winOn (d : Dev) (n : Nat) (w : Win) : Bool :=
  d.segs.any (fun e => e.2.isClosed && e.2.drive == n && decide (w.start ≤ e.2.lastPt ∧ e.2.firstPt ≤ w.stop))

/-- The Promptbook's slots on a lost drive leave the book (R386). -/
def Dev.loseSlots (d : Dev) (n : Nat) : Dev :=
  match d.ringDrives.findIdx? (· == n) with
  | some k =>
    if d.on F.BOOK_STATUS_MODE_ACTIVE = false ∨ d.bookSegs = 0 then d
    else
      let cnt := 1024 / d.ringDrives.length * 65536
      let gone (r : Rec) : Bool := !d.staged.contains r.seq && (r.seq % 67108864 / 65536 % d.ringDrives.length == k)
      { d with book := d.book.filter (fun r => !gone r), slotsLost := d.slotsLost + cnt }.record
        { code := 0x0F06, sev := 5, a0 := cnt }
  | none => d

/-- A drive is LOST: it leaves the ring, the writer goes on with the others. -/
def Dev.driveLost (d : Dev) (n : Nat) : Dev :=
  if d.get F.DRIVE_STATUS_DSTATE n ≠ 1 then d
  else
    let hit := d.wins.filter (d.winOn n)
    let open' := d.wrOpen && (d.segs.get d.wrPos).drive == n
    let d := ({ d with nvmeOut := d.nvmeOut.put n [] }.set F.DRIVE_STATUS_DSTATE n 2).setBit F.FOLIO_STATUS_DRIVES 0 n false
    let d := if d.folioRuns then d.set F.FOLIO_STATUS_STATE 0 3 else d
    let d := if open' then { d with wrOpen := false, asmFill := d.asmFill + d.asmPart, asmPart := 0 } else d
    let d := (d.raise F.FOLIO_EVENT_DRIVE_LOST).record { code := 0x0B08, sev := 5, a0 := n, obj := .drive n }
    (hit.foldl (fun d w => (d.raise F.FOLIO_EVENT_PIN_DAMAGED).record
      { code := 0x0B09, sev := 5, a0 := w.id, a1 := n, obj := .drive n }) d).loseSlots n

def execFolioLinkDown (n : Fin 4) (s : State) : Out := s.later 11 0 (·.driveLost n)

/-- The operations of the log that write. -/
def nvmeWrites (op : Nat) : Bool := decide (1 ≤ op ∧ op ≤ 3)

/-- An NVMe command completes: the oldest of its direction that is open; `fatal` is a controller fatal status. -/
def Dev.nvmeDone (d : Dev) (n : Nat) (write err fatal : Bool) : Dev :=
  match (d.nvmeOut.get n).findIdx? (fun x => nvmeWrites x.1 == write) with
  | none => if fatal then d.driveLost n else d
  | some k =>
  let d := { d with nvmeOut := d.nvmeOut.put n ((d.nvmeOut.get n).eraseIdx k) }
  let d := if err then d.count 0x40 7 else d
  let d := if err && write then (d.raise F.FOLIO_EVENT_WRITE_ERROR).record { code := 0x0B0A, sev := 5, a0 := n, obj := .drive n }
    else d
  if fatal then d.driveLost n else d

def execNvmeCompletion (n : Fin 4) (write err fatal : Bool) (s : State) : Out := s.later 11 0 (·.nvmeDone n write err fatal)

/-- The oldest command of a drive has been open for 100 ms: it is aborted; the second timeout within 1 s marks the drive LOST. -/
def Dev.nvmeTimeout (d : Dev) (n : Nat) : Dev :=
  match d.nvmeOut.get n with
  | [] => d
  | x :: r =>
    if d.cycle < x.2 + 100 * msCycles then d
    else
      let last := d.nvmeTo.get n
      let d := ({ d with nvmeOut := d.nvmeOut.put n r, nvmeTo := d.nvmeTo.put n (d.cycle + 1) }.emit (.nvme n 5 0 0)).count 0x40 7
      if last ≠ 0 ∧ d.cycle + 1 < last + secCycles then d.driveLost n else d

def execNvmeTimeout (n : Fin 4) (s : State) : Out := s.later 11 0 (·.nvmeTimeout n)

/-- The SMART log of each drive is read, every 10 s: percentage used, by drive. -/
def Dev.smart (d : Dev) (wear : List Nat) : Dev :=
  if d.cycle < d.smartAt + 10 * secCycles then d
  else
    (List.range 4).foldl (fun d n =>
      if d.get F.DRIVE_STATUS_DSTATE n = 1 then
        (d.nvme n 4 0 512).set F.DRIVE_STATUS_MEDIA_WEAR n (min 255 (wear.getD n 0))
      else d) { d with smartAt := d.cycle }

def execSmartPoll (wear : List Nat) (s : State) : Out := s.later 11 0 (·.smart wear)

/-- The drive headers are written every 1 s (R288). -/
def Dev.headerTick (d : Dev) : Dev :=
  if d.folioRuns && decide (d.hdrAt + secCycles ≤ d.cycle) then { d with hdrAt := d.cycle }.headerWrite else d

def execFolioHeaderWrite (s : State) : Out := s.later 11 0 (·.headerTick)

/-! ## Start and stop (R281, R288) -/

/-- The root-port links `0` to `n - 1` are powered and out of reset (R465, R478). -/
def Dev.folioLinks (d : Dev) (n : Nat) : Dev :=
  (List.range 4).foldl (fun d k => d.emit (.pin 6 k (b2n (decide (k < n))))) (d.set F.GATE_STATUS_1_FOLIO_LINK_ON 0 (2 ^ n - 1))

/-- The drives' links and formats are read: the drives that enter the ring. -/
def Dev.identify (d : Dev) (ds : List DriveArgs) : Dev :=
  (List.range 4).foldl (fun d n =>
    match ds.find? (fun x => x.drive == n && decide (n < 2 ^ d.get F.FOLIO_CTRL_BIFURCATION)) with
    | none => d.set F.DRIVE_STATUS_DSTATE n 0
    | some x =>
      let d := ((d.set F.DRIVE_STATUS_LINK_WIDTH n x.width).set F.DRIVE_STATUS_LINK_SPEED n x.speed).nvme n 7 0 0
      if x.lba then d.set F.DRIVE_STATUS_DSTATE n 1
      else (d.set F.DRIVE_STATUS_DSTATE n 3).record { code := 0x0B0B, sev := 4, a0 := n, obj := .drive n }) d

/-- The ring over the drives that are online (R281). -/
def Dev.ringUp (d : Dev) (ds : List DriveArgs) : Dev :=
  let on := (List.range 4).filter (fun n => d.get F.DRIVE_STATUS_DSTATE n == 1)
  let size (n : Nat) : Nat := match ds.find? (fun x => x.drive == n) with | some x => x.segs | none => 0
  let d := d.set F.GATE_STATUS_1_FOLIO_LINK_ON 0
    ((List.range 4).foldl (fun w n => if d.on F.DRIVE_STATUS_DSTATE n then w + 2 ^ n else w) 0)
  { d with ringDrives := on
           segsPerDrive := on.foldl (fun m n => min m (size n)) (2 ^ 24 / max 1 on.length)
           bookSegs := if d.on F.BOOK_STATUS_MODE_ACTIVE then 1024 else 0
           wrOpen := false
           asmPart := 0
           asm := []
           asmFill := 0
           lowSince := none }.set F.FOLIO_STATUS_DRIVES 0 (on.foldl (fun w n => w + 2 ^ n) 0)

/-- FOLIO_ID, SEG_SEQ, ring and windows start anew. -/
def Dev.folioFormat (d : Dev) : Dev :=
  let x := d.draw 12
  { x.2 with folioId := x.1 % 2 ^ 64, segs := [], wrPos := 0, segSeq := 0, lostPt := 0, wins := [] }

/-- The ring as the agreeing headers leave it (id, SEG_SEQ, position): the device's own store continues, its OPEN segment
closed at its last whole record; of another's only the writer's place is known (log entry 27). -/
def Dev.folioResume (d : Dev) (h : Nat × Nat × Nat) : Dev :=
  if h.1 = d.folioId then
    let g := d.segs.get d.wrPos
    if g.seq ≠ 0 ∧ g.isClosed = false then { d with wrOpen := true }.closeSeg else d
  else { d with folioId := h.1, segs := [], wins := [], segSeq := h.2.1, wrPos := h.2.2, lostPt := 0 }

/-- A format brings the Promptbook's MODE into force (R387): from small to large every record stays; from large to small those in staging. -/
def Dev.bookMode (d : Dev) : Dev :=
  let new := d.get F.BOOK_CFG_MODE
  if new = d.get F.BOOK_STATUS_MODE_ACTIVE then d
  else
    let d := { d with book := if new = 1 then d.book else d.book.filter (fun (r : Rec) => d.staged.contains r.seq)
                      staged := if new = 1 then d.book.map (fun (r : Rec) => r.seq) else []
                      slotsLost := 0 }
    (d.set F.BOOK_STATUS_MODE_ACTIVE 0 new).record { code := 0x0F05, sev := 2, a0 := new }

/-- The FOLIO_START that waits asks for a format. -/
def Dev.formatAsked (d : Dev) : Bool := d.jobs.any (fun j => j.op == 0x701 && j.data == [1])

/-- A record whose bytes did not all reach the drive when the Folio stopped ends the segment before it (R288). -/
def Dev.cutPart (d : Dev) : Dev :=
  if d.asmPart = 0 then d
  else
    let g := d.segs.get d.wrPos
    let rs := g.recs.dropLast
    let r := g.recs.getLastD default
    { d with segs := d.segs.put d.wrPos { g with recs := rs, records := g.records - 1, used := g.used - r.bytes.length
                                                 lastPt := match rs.getLast? with | some x => x.pt | none => g.lastPt }
             asmPart := 0 }

/-- The drives are identified, a format brings the Promptbook's mode into force, the ring is laid over the drives. -/
def Dev.folioRing (d : Dev) (format : Bool) (ds : List DriveArgs) : Dev :=
  let d := d.cutPart.identify ds
  let d := if format && (List.range 4).any (fun n => d.get F.DRIVE_STATUS_DSTATE n == 1) then d.bookMode else d
  d.ringUp ds

/-- The Folio stands in a state without drives. -/
def Dev.folioOff (d : Dev) : Dev :=
  ((d.set F.FOLIO_STATUS_STATE 0 0).set F.FOLIO_STATUS_DRIVES 0 0).set F.GATE_STATUS_1_FOLIO_LINK_ON 0 0

/-- FOLIO_START ends: it resumes, formats, or fails. -/
def Dev.folioStarted (d : Dev) (ds : List DriveArgs) (hdr : Option (Nat × Nat × Nat)) : Dev :=
  if d.get F.FOLIO_STATUS_STATE ≠ 1 then d
  else
    let format := d.formatAsked
    let d := d.folioRing format ds
    if d.ringDrives.isEmpty || (hdr.isNone && !format) then d.folioOff.finishOp 0x701 .invalid
    else
      let d := if format then d.folioFormat else match hdr with | some h => d.folioResume h | none => d
      ((d.set F.FOLIO_STATUS_STATE 0 2).headerWrite).finishOp 0x701 (.okW [2])

def execFolioStartDone (ds : List DriveArgs) (hdr : Option (Nat × Nat × Nat)) (s : State) : Out :=
  s.later 11 0 (·.folioStarted ds hdr)

/-! ## SFI commands (R293) -/

/-- The parameters that need the Folio not RUNNING change. -/
def Dev.folioFixed (d : Dev) (links hi lo : Nat) (capDup : Bool) : Bool :=
  d.get F.FOLIO_CTRL_BIFURCATION == links && d.get F.FOLIO_CTRL_SHED_HI == hi && d.get F.FOLIO_STATUS_SHED_LO == lo &&
    d.on F.FOLIO_CTRL_CAP_DUP == capDup

def execFolioConfig (rq : Sfi) (links pinLimit hi lo : Nat) (capDup : Bool) (rb : Nat) (s : State) : Out :=
  s.sfi rq 0x700 2 (fun d _ =>
    if ¬ (links < 3 ∧ 1 ≤ pinLimit ∧ pinLimit ≤ 50 ∧ lo < hi ∧ hi ≤ 100 ∧ 1 ≤ rb ∧ rb ≤ 31) then (d, .invalid)
    else if d.get F.FOLIO_STATUS_STATE ≠ 0 ∧ d.folioFixed links hi lo capDup = false then (d, .busy 9)
    else
      ((d.cfg .FOLIO_CTRL 0 (links + 4 * b2n capDup + 256 * pinLimit + 65536 * hi + 2 ^ 24 * rb)).set F.FOLIO_STATUS_SHED_LO 0 lo, .ok))

def execFolioStart (rq : Sfi) (format : Bool) (s : State) : Out :=
  s.sfi rq 0x701 2 (fun d _ =>
    if d.get F.FOLIO_STATUS_STATE ≠ 0 then (d, .invalid)
    else ((d.set F.FOLIO_STATUS_STATE 0 1).folioLinks (2 ^ d.get F.FOLIO_CTRL_BIFURCATION), .pending [b2n format]))

/-- FOLIO_STOP: what the buffer holds is written, the open segment closes, then the headers. -/
def execFolioStop (rq : Sfi) (s : State) : Out :=
  s.sfi rq 0x702 2 (fun d _ =>
    if d.folioRuns = false then (d, .invalid)
    else (d.flushAsm.closeSeg.headerWrite.folioOff, .ok))

/-- FOLIO_QUERY's rows: status, ring, SEG_SEQ, the class counts, the counters, the windows, a word each. -/
def Dev.folioRows (d : Dev) : List (Nat × List Nat) :=
  let w := [d.view .FOLIO_CTRL, d.view .FOLIO_STATUS, d.view .DRIVE_STATUS 0, d.view .DRIVE_STATUS 1, d.view .DRIVE_STATUS 2,
      d.view .DRIVE_STATUS 3, d.view .RING_SEGMENTS, d.view .PINNED, d.view .SEG_SEQ 0, d.view .SEG_SEQ 1] ++
    (List.range 7).flatMap (fun k => [d.reg .SHED (k + 1), d.reg .OVERRUN (k + 1)]) ++
    (List.range 8).map (fun k => d.perf.get (8 * 0x40 + k) % 2 ^ 32) ++
    d.wins.flatMap (fun x => [x.id + 256 * x.binding, x.start % 2 ^ 32, x.start / 2 ^ 32, x.stop % 2 ^ 32, x.stop / 2 ^ 32])
  w.zipIdx.map (fun x => (x.2, [x.1]))

def execFolioQuery (rq : Sfi) (start : Nat) (s : State) : Out :=
  s.sfi rq 0x703 0 (fun d _ => (d, d.listing rq 0x703 1 (d.folioRows.filter (fun e => decide (start ≤ e.1)))))

def execCaptureClassSet (rq : Sfi) (cls snap : Nat) (s : State) : Out :=
  s.sfi rq 0x704 2 (fun d _ => okIf (decide (1 ≤ cls ∧ cls < 8) && F.CLASS_CFG_SNAP_LEN.ok snap) d (d.cfg .CLASS_CFG cls snap))

def execPortCaptureSet (rq : Sfi) (port ing mask : Nat) (s : State) : Out :=
  s.sfi rq 0x705 2 (fun d _ => okIf (decide (port < 256 ∧ ing < 8 ∧ mask < 256)) d (d.cfg .FOLIO_PORT_CAP port (ing + 8 * mask)))

/-- The longest PRE or POST, in ns (R286). -/
def pinMax : Nat := 600000000000

def execPinBindingSet (rq : Sfi) (k code mask sev pre post : Nat) (s : State) : Out :=
  s.sfi rq 0x706 2 (fun d _ =>
    if ¬ (k < 16 ∧ code < 65536 ∧ mask < 65536 ∧ sev < 8 ∧ pre ≤ pinMax ∧ post ≤ pinMax) then (d, .invalid)
    else
      let d := { d with bindPre := d.bindPre.put k pre, bindPost := d.bindPost.put k post }
      (((d.cfgF F.TRIG_MATCH_CODE k code).cfgF F.TRIG_MATCH_MASK k mask).cfgF F.TRIG_CTRL_MIN_SEV k sev, .ok))

/-- PIN_NOW opens a window under a binding of its own (16). -/
def execPinNow (rq : Sfi) (t pre post : Nat) (s : State) : Out :=
  s.sfi rq 0x707 1 (fun d _ =>
    if ¬ (t < 2 ^ 64 ∧ pre ≤ pinMax ∧ post ≤ pinMax) then (d, .invalid)
    else
      let x := openWin d 16 t pre post
      let d := x.2.2.foldl Dev.record x.1
      match x.2.1 with
      | some w => (d, .okW [w])
      | none => (d, .noResource))

def execPinRelease (rq : Sfi) (id : Nat) (s : State) : Out :=
  s.sfi rq 0x708 1 (fun d _ =>
    match d.wins.find? (fun w => w.id == id) with
    | none => (d, .invalid)
    | some w => ({ d with wins := d.wins.erase w }.headerWrite.record { code := 0x0B07, sev := 1, a0 := rq.ch.val }, .ok))

/-! ## Read-back (R290) -/

/-- The record is one that the read asks for. -/
def FolRec.matches (r : FolRec) (lo hi port cls stream : Nat) : Bool :=
  decide (lo ≤ r.pt ∧ r.pt ≤ hi) && (port == 0 || r.port + 1 == port) && (cls == 0 || r.cls == cls) &&
    (stream == 0 || match r.stream with | some s => s + 1 == stream | none => false)

/-- The segments a FOLIO_READ covers. -/
def Dev.readHits (d : Dev) (x : FolioReadArgs) : List (Nat × Seg) :=
  d.segs.filter (fun e => d.inRing e.2.drive && decide (0 < e.2.records ∧ x.lo ≤ e.2.lastPt ∧ e.2.firstPt ≤ x.hi))

/-- What a FOLIO_READ's job keeps of its request; an operand that was not given is 0, another one more than its value. -/
def readData (x : FolioReadArgs) (fn : Nat) : List Nat :=
  let opt (o : Option Nat) : Nat := match o with | some v => v + 1 | none => 0
  [x.lo, x.hi, opt x.port, x.cls.getD 0, opt x.stream, x.addr, x.len, fn]

/-- A read-back takes a buffer, the largest that is free, charged to account 2,050; answers it, + 1, 0 for none (log entry 121). -/
def Dev.readBuf (d : Dev) : Dev × Nat :=
  match (List.range 4).reverse.findSome? (d.findBuf 0) with
  | some b => (d.takeBuf 0 b none 2051, b + 1)
  | none => (d, 0)

/-- Its buffer is freed. -/
def Dev.readFree (d : Dev) (b : Nat) : Dev :=
  if b = 0 then d else (d.giveBuf (b - 1)).credit_ 2050 (poolCells (bufKind (b - 1)))

/-- FOLIO_READ: the job keeps the request and the segments of the range with their SEG_SEQ. -/
def execFolioRead (rq : Sfi) (x : FolioReadArgs) (s : State) : Out :=
  s.sfi rq 0x709 1 (fun d _ =>
    let fn := d.sender rq.ch.val
    let bad := match x.cls with | some k => decide (k = 0 ∨ 8 ≤ k) | none => false
    if x.hi < x.lo ∨ x.len < 64 ∨ bad = true ∨ d.folioRuns = false then (d, .invalid)
    else if 8 ≤ fn ∨ d.dmaOk fn x.addr x.len true = false then (d, .denied)
    else
      let b := d.readBuf
      ((d.readHits x).foldl (fun d e => d.nvme e.2.drive 8 e.1 4194304) b.1,
       .pending (readData x fn ++ [d.cycle, b.2] ++ (d.readHits x).flatMap (fun e => [e.1, e.2.seq]))))

/-- Pairs of a flat list. -/
def pairsOf : List Nat → List (Nat × Nat)
  | a :: b :: r => (a, b) :: pairsOf r
  | _ => []

/-- The records that fit in a buffer, whole. -/
def fitRecs : List FolRec → Nat → List FolRec
  | [], _ => []
  | r :: rs, room => if r.bytes.length ≤ room then r :: fitRecs rs (room - r.bytes.length) else []

/-- The read ends: header and records are in the host buffer, the completion carries the counts. The 64-byte header's
layout is the model's (log entry 28). -/
def Dev.readDone (d : Dev) (j : Job) : Dev :=
  let v (k : Nat) : Nat := j.data.getD k 0
  let pairs := pairsOf (j.data.drop 10)
  let same := pairs.filter (fun e => (d.segs.get e.1).seq == e.2)
  let good := same.filter (fun e => d.inRing (d.segs.get e.1).drive)
  let ovr := pairs.length - same.length
  let all := good.flatMap (fun e => (d.segs.get e.1).recs.filter (fun r => r.matches (v 0) (v 1) (v 2) (v 3) (v 4)))
  let recs := fitRecs all (v 6 - 64)
  let body := recs.flatMap (fun r => r.bytes)
  let first := match recs.head? with | some r => r.pt | none => 0
  let last := match recs.getLast? with | some r => r.pt | none => 0
  let hdr := leBytes 8 recs.length ++ leBytes 8 body.length ++ leBytes 8 first ++ leBytes 8 last ++ leBytes 8 ovr ++
    List.replicate 24 0
  let d := if ovr = 0 then d else d.raise F.FOLIO_EVENT_READ_OVERWRITTEN
  let d := ((d.readFree (v 9)).devWrite (v 7) (v 5) (hdr ++ body)).count 0x40 6 body.length
  d.finishJob j (.okW [recs.length, body.length % 2 ^ 32, body.length / 2 ^ 32, ovr])

/-- The drives have been read, at RB_RATE or slower (R290): its units are 100 MB/s. -/
def Dev.readDue (d : Dev) (j : Job) : Bool :=
  decide ((j.data.drop 10).length / 2 * 4194304 * 15 ≤ (d.cycle - j.data.getD 8 0) * d.get F.FOLIO_CTRL_RB_RATE)

/-- The oldest FOLIO_READ ends, when its drives have been read. -/
def Dev.folioReadEnd (d : Dev) : Dev :=
  match d.jobs.find? (fun j => j.op == 0x709) with
  | some j => if d.readDue j then d.readDone j else d
  | none => d

def execFolioReadDone (s : State) : Out := s.later 11 0 (·.folioReadEnd)

/-- FOLIO_ERASE releases every window, deallocates the ring and restarts SEG_SEQ. -/
def Dev.folioErase (d : Dev) : Dev :=
  let d := { d with wins := [], segs := [], segSeq := 0, wrPos := 0, wrOpen := false, lostPt := 0
                    asmFill := d.asmFill + d.asmPart
                    asmPart := 0 }
  (d.ringDrives.filter d.inRing).foldl (fun d n => d.nvme n 6 0 0) d

def execFolioErase (rq : Sfi) (s : State) : Out :=
  s.sfiKey rq 0x70A 3 (fun d _ => (d.folioErase.headerWrite.record { code := 0x0B0C, sev := 6, a0 := rq.ch.val }, .ok))

end Sys2Proof.Machine
end

