-- ==== Sys2Proof/Machine/Session.lean ====
section
/-! DEFINITION. Sessions as they end (R354), the roles of the opcodes (R362 to R365 and the chapters' tables), and how a
request is taken from a channel or a command ring (R351). -/

namespace Sys2Proof.Machine

/-! ## The end of a session (R354) -/

/-- A session ends: 1 SESSION_CLOSE, 2 its channel's epoch, 3 idle, 4 a Prompter restart (the numbers are the model's, log
entry 30). A shadow it owns is aborted unless a timed commit is armed. -/
def Dev.endSession (d : Dev) (c cause : Nat) : Dev :=
  let x := d.sess.get c
  let d := { d with sess := d.sess.put c { x with isOpen := false, role := 0, nonce := none, lastUse := 0, prevUse := 0 } }
  if !x.isOpen then d
  else
    let d := d.record { code := 0x0E09, sev := 1, a0 := cause, ints := [c], fw := true }
    let d := match d.curtain with | some (o, _) => if o = c then d.lowerCurtain 1 else d | none => d
    if d.owner = c + 1 ∧ d.on F.PLATE_STATUS_COMMIT_ARMED = false then d.plateAbort else d

/-- A reset of a channel's sender (R320): epoch, STALE marks, the end of its session. -/
def Dev.chanReset (d : Dev) (c : Nat) : Dev := (d.senderReset c).endSession c 2

/-! ## Opcodes (R361) -/

/-- The opcodes of a group by the role they need: 0 OBSERVER to 3 SECURITY_ADMIN. -/
def opRoles : List (Nat × List Nat) :=
  [(0, [0x002, 0x003, 0x00D, 0x100, 0x200, 0x310, 0x402, 0x5C4, 0x502, 0x514, 0x521, 0x600, 0x606, 0x703]),
   (0, [0xC15, 0xC16, 0xC00, 0xC01, 0xC02, 0xC03, 0x800, 0x801, 0x807, 0x900, 0x904, 0xA00, 0xB00, 0xB04, 0xB0B]),
   (1, [0x207, 0x313, 0x31B, 0x403, 0x603, 0x707, 0x708, 0x709, 0x802, 0x901, 0x902, 0xA02, 0xA04, 0xB06, 0xB0A]),
   (2, [0x004, 0x00A, 0x00E, 0x00F, 0x101, 0x102, 0x103, 0x104, 0x105, 0x106, 0x107, 0x108, 0x109]),
   (2, [0x201, 0x202, 0x203, 0x204, 0x205, 0x206, 0x208, 0x209, 0x20A]),
   (2, [0x300, 0x301, 0x302, 0x303, 0x304, 0x305, 0x306, 0x307, 0x308]),
   (2, [0x311, 0x312, 0x314, 0x315, 0x316, 0x317, 0x318, 0x319, 0x31A, 0x400, 0x401, 0x404, 0x405, 0x406]),
   (2, [0x5C0, 0x5C1, 0x5C2, 0x5C3, 0x5C5, 0x500, 0x501, 0x510, 0x511, 0x512, 0x513, 0x520, 0x530, 0x540]),
   (2, [0x601, 0x602, 0x604, 0x605, 0x607, 0x700, 0x701, 0x702, 0x704, 0x705, 0x706, 0xC13]),
   (2, [0x804, 0x805, 0x806, 0x903, 0x905, 0xA01, 0xA03, 0xB02, 0xB05, 0xB07, 0xB08, 0xB09]),
   (3, [0x005, 0x006, 0x007, 0x008, 0x009, 0x00C, 0x70A, 0xC10, 0xC11, 0xC12, 0xC14, 0xC04, 0xC20, 0xC21]),
   (3, [0x803, 0x906, 0xB01, 0xB03])]

/-- The commands with the unlock key (R353). -/
def keyOps : List Nat := [0x005, 0x008, 0x70A, 0xC04, 0xC20, 0x803, 0xB01]

/-- The role an opcode needs; none where it is not implemented. -/
def opNeed (op : Nat) : Option Nat :=
  if 0x6F0 ≤ op ∧ op ≤ 0x6FF ∨ 0xA80 ≤ op ∧ op ≤ 0xAFF then some 0 else (opRoles.find? (fun x => x.2.contains op)).map Prod.fst

/-- A request is settled (R351 steps 2 to 5): refused at once, or queued under the role its channel has now. A program
report of a cluster (R352) and a peer message (R432) ask for nothing more and are answered. -/
def Dev.admitReq (d : Dev) (c op tag echo : Nat) (words : List Nat) (ring : Bool) : Dev :=
  match (if c < 24 ∧ 0x6F0 ≤ op ∧ op ≤ 0x6FF then none else opNeed op) with
  | none =>
    let a := if d.isFrozen (d.sender c) then Ans.frozen
      else if 24 ≤ c ∧ ¬ (0x6F0 ≤ op ∧ op ≤ 0x6FF) then Ans.invalid else Ans.unsupported
    (d.refuseReq c 0 a).reply c tag op echo ring a
  | some need =>
    match d.settle c op need (if keyOps.contains op then some (words.headD 0) else none) with
    | .error a => (d.refuseReq c need a).reply c tag op echo ring a
    | .ok role =>
      if 0xA80 ≤ op ∧ op ≤ 0xAFF ∧ ¬ (16 ≤ c ∧ c < 20) then (d.countAns .invalid role).reply c tag op echo ring .invalid
      else if 0x6F0 ≤ op ∧ op ≤ 0x6FF ∨ 0xA80 ≤ op ∧ op ≤ 0xAFF then ((d.count 0x4C 0 1 { role := some role }).reply c tag op echo ring (if tag = 0 then .invalid else .ok))
      else d.enqueueReq { core := d.rxCore c, ch := c, tag := tag, op := op, role := role, echo := echo, ring := ring }

/-- The recovery state serves channel 0, and there two commands (R342). -/
def Dev.admitRecovery (d : Dev) (c op tag echo : Nat) : Dev :=
  if c = 0 ∧ (op = 0x0F0 ∨ op = 0x0F1) then
    { d with pendQ := d.pendQ ++ [{ core := 0, ch := c, tag := tag, op := op, role := 0, echo := echo, ring := false }] }
  else d.reply c tag op echo false .unsupported

/-- A request on a channel of the domain agent runs under the role it was sent with (R352, R439). -/
def Dev.domRole (d : Dev) (c : Nat) : Dev :=
  match d.domRoles.get c with
  | [] => d
  | r :: rest => { d with domRoles := d.domRoles.put c rest
                          sess := d.sess.put c { (d.sess.get c).use d.cycle with isOpen := true, role := r } }

/-- SFI_REQUEST_TAKE: the head request of a channel is popped and settled; a STALE one is discarded (R322). -/
def Dev.takeRequest (d : Dev) (c : Nat) : Dev :=
  match (d.chans.get c).req with
  | [] => d
  | m :: _ =>
    let op := m.hdr % 4096
    let tag := m.hdr / 2 ^ 16 % 256
    let echo := m.hdr / 2 ^ 24 % 16
    let rec_ := decide (d.get F.PROMPTER_STATUS_BOOT_STATE = 3)
    let n := if rec_ then 0 else d.rxCore c
    if !(d.sfiUp || (rec_ && c == 0)) || !d.bit F.PROMPTER_STATUS_CORE_UP 0 n || !d.bit F.GATE_STATUS_1_CORE_CLK_ON 0 n then d
    else
      let d := (d.popReq c).domRole c
      if m.stale then
        (d.count 0x48 4).record { code := 0x0D03, sev := 2, a0 := c, a1 := op, obj := .chan c }
      else if rec_ then d.admitRecovery c op tag echo
      else d.admitReq c op tag echo m.words false

def execSfiRequestTake (c : Fin 32) (s : State) : Out := s.actAt (fun _ => atTake) (·.takeRequest c)

end Sys2Proof.Machine
end

