-- ==== Sys2Proof/Machine/Book.lean ====
section
/-! DEFINITION. The Promptbook's commands (R382 to R395, R404): curtain, clear, staging, reading, notifications; and the
statistics and performance commands (R396 to R402, R405). -/

namespace Sys2Proof.Machine

/-! ## The curtain and the clear (R389, R390, R392) -/

/-- The curtain goes up, after the records of this cycle; with one up, nothing changes. `owner` is a channel, or 32 for the
register. -/
def Dev.raiseCurtain (d : Dev) (owner : Nat) : Dev :=
  let d := d.writeEvents
  if d.curtain.isSome then d else { d with curtain := some (owner, d.cycle), held := [], heldDropped := 0 }

/-- The clear: the book is emptied; BOOK_CLEARED, then with the curtain up the held records and CURTAIN_LIFTED; the records of
this cycle follow them (R403). The highest SEQ erased of an empty book is not stated (a free value). -/
def Dev.bookClear (d : Dev) (chan role : Nat) : Dev :=
  let top := match d.book.getLast? with
    | some r => (r.seq, d)
    | none => d.draw 8
  let d := { top.2 with book := [], staged := [], wasFull := false }.raise F.BOOK_EVENT_CLEARED
  let cleared : Evt := { code := 0x0F02, sev := 6, a0 := chan % 256 + 256 * (role % 4), a1 := top.1 }
  if d.curtain.isSome then
    let q := d.held
    let drop := d.heldDropped
    let d := { d with curtain := none, held := [], heldDropped := 0 }.recordNow cleared
    Dev.liftRecs { d with held := q, heldDropped := drop } id 2
  else d.recordNow cleared

/-- What a BOOK_CMD word does, its bits in ascending order (R375). -/
def Dev.bookCmd (d : Dev) (w : Nat) : Dev :=
  let d := if bitsOf w 0 0 = 1 then d.raiseCurtain 32 else d
  let d := if bitsOf w 1 1 = 1 then d.lowerCurtain 0 else d
  if bitsOf w 2 2 = 1 then d.bookClear (bitsOf w 15 8) (bitsOf w 17 16) else d

def execCurtainUp (m : Fin 32) (s : State) : Out := s.writeAt atCurtain m .BOOK_CMD 0 1 Dev.bookCmd

def execCurtainDown (m : Fin 32) (s : State) : Out := s.writeAt atCurtain m .BOOK_CMD 0 2 Dev.bookCmd

def execBookCmdClear (m : Fin 32) (chan : Fin 256) (role : Fin 4) (s : State) : Out :=
  s.writeAt atCurtain m .BOOK_CMD 0 (4 + 256 * chan + 65536 * role) Dev.bookCmd

/-- CURTAIN_LIMIT seconds have passed. -/
def Dev.curtainLimit (d : Dev) : Dev :=
  match d.curtain with
  | some (_, t) => if t + d.get F.BOOK_CFG_CURTAIN_LIMIT * secCycles ≤ d.cycle then d.lowerCurtain 3 else d
  | none => d

def execCurtainLimitExpire (s : State) : Out := s.actAt (fun _ => atCurtain) (·.curtainLimit)

/-! ## The large configuration (R386) -/

/-- The drive of a book slot: that of its book segment, or the next of the ring where that drive is lost. -/
def Dev.bookDrive (d : Dev) (slot : Nat) : Option Nat :=
  let n := d.ringDrives.length
  ((List.range n).map (fun j => d.ringDrives.getD ((slot / 65536 + j) % n) 0)).find? d.inRing

/-- One 4 KiB unit of staged records goes to its drive (R386); a record's slot is the model's (log entry 32). -/
def Dev.stagingWrite (d : Dev) : Dev :=
  if d.on F.BOOK_STATUS_MODE_ACTIVE = false ∨ d.get F.FOLIO_STATUS_STATE < 2 then d
  else
    match d.staged with
    | [] => d
    | q :: _ =>
      match d.bookDrive (q % 67108864) with
      | none => d
      | some n =>
        { d with staged := d.staged.dropWhile (fun x => x / 64 == q / 64) }.nvme n 2 (q % 67108864 / 64 * 4096) 4096

def execBookStagingWrite (s : State) : Out := s.later 15 0 (·.stagingWrite)

/-! ## Notifications (R395) -/

/-- The nine payload words of BOOK_EVENT. -/
def noteWords (r : Rec) (missed trigs : Nat) : List Nat :=
  [0, r.pt % 2 ^ 32, r.pt / 2 ^ 32 % 2 ^ 32, r.pt / 2 ^ 64 % 2 ^ 16 + 2 ^ 16 * (r.timeFlags % 2 ^ 16),
   r.code + 2 ^ 16 * (r.sev + 8 * b2n r.held + 16 * b2n r.fw) + 2 ^ 24 * r.snaps.length, r.seq, r.arg0, r.arg1,
   min missed 65535 + 2 ^ 16 * trigs]

/-- The oldest notification due on a channel: sent when the channel had none in this 1 ms and its response queue has room
for it, else counted in MISSED. -/
def Dev.bookEvent (d : Dev) (c : Nat) : Dev :=
  match (if d.sfiUp then d.notes.find? (fun n => n.1 == c) else none) with
  | none => d
  | some n =>
    let d := { d with notes := d.notes.erase n }
    let u := d.subs.get c
    let q := d.chans.get c
    if u.lastMs = d.cycle / msCycles + 1 ∨ ¬ (msgWords q.rsp + 10 ≤ 16 ∧ q.wait.isEmpty = true) then
      { d with subs := d.subs.put c { u with missed := u.missed + 1 } }
    else
      ({ d with subs := d.subs.put c { u with missed := 0, lastMs := d.cycle / msCycles + 1 } }.notify c 0x808
        (noteWords n.2.1 u.missed n.2.2)).count 0x50 7

def execBookEvent (c : Fin 24) (s : State) : Out := s.later 15 0 (·.bookEvent c)

/-! ## Reading (R382, R384, R391) -/

/-- The 64 bytes of a record as stored; snapshot words not filled are not stated (free values). -/
def Dev.recBytes (d : Dev) (r : Rec) : List Byte :=
  let head := leBytes 2 r.pt ++ leBytes 8 (r.pt / 65536) ++ leBytes 2 r.timeFlags ++ leBytes 2 r.code ++
    leBytes 1 (r.sev + 8 * b2n r.held + 16 * b2n r.fw) ++ leBytes 1 r.snaps.length ++ leBytes 4 r.seq ++ leBytes 4 r.arg0 ++
    leBytes 4 r.arg1 ++ (List.range 8).flatMap (fun k => leBytes 4 (r.snaps.getD k (Config.free 14 (8 * r.seq + k))))
  head ++ leBytes 4 (if d.on F.BOOK_STATUS_MODE_ACTIVE then crc32c head else 2 ^ 32 - 1 - r.seq)

/-- A record lies in a SEQ range, counted upwards modulo 2^32. -/
def inSeqs (lo hi seq : Nat) : Bool := decide ((seq + 2 ^ 32 - lo) % 2 ^ 32 ≤ (hi + 2 ^ 32 - lo) % 2 ^ 32)

/-- BOOK_READ is taken: the work passes to core 3. -/
def Dev.bookRead (d : Dev) (ch : Nat) (x : BookReadArgs) : Dev × Ans :=
  let fn := d.sender ch
  if ¬ (x.lo < 2 ^ 32 ∧ x.hi < 2 ^ 32 ∧ x.minSev < 8 ∧ x.code < 65536 ∧ x.mask < 65536) then (d, .invalid)
  else if 8 ≤ fn ∨ d.dmaOk fn x.addr x.len true = false then (d, .denied)
  else (d, .pending [x.lo, x.hi, x.minSev, x.code, x.mask, x.addr, x.len, fn])

/-- The read ends: the matching records, as many as the buffer holds whole; the completion carries the first and last SEQ
copied (free values when none was), the count, MISSING. -/
def Dev.bookReadDone (d : Dev) (j : Job) : Dev :=
  let v (k : Nat) : Nat := j.data.getD k 0
  let inRange := d.book.filter (fun r => inSeqs (v 0) (v 1) r.seq)
  let hits := (inRange.filter (fun r => decide (v 2 ≤ r.sev) && ((r.code ^^^ v 3) &&& v 4) == 0)).take (v 6 / 64)
  let missing := (v 1 + 2 ^ 32 - v 0) % 2 ^ 32 + 1 - inRange.length
  let d := if hits.isEmpty then d else d.devWrite (v 7) (v 5) (hits.flatMap d.recBytes)
  match hits.head?, hits.getLast? with
  | some a, some b => d.finishJob j (.okW [a.seq, b.seq, hits.length, missing % 2 ^ 32])
  | _, _ =>
    let x := d.draw 8
    let y := x.2.draw 8
    y.2.finishJob j (.okW [x.1 % 2 ^ 32, y.1 % 2 ^ 32, 0, missing % 2 ^ 32])

/-! ## SFI commands of the Promptbook (R404) -/

/-- The words of BOOK_QUERY. -/
def Dev.bookWords (d : Dev) : List Nat :=
  [d.view .BOOK_STATUS, d.view .BOOK_NEXT_SEQ, d.view .BOOK_OLDEST_SEQ, d.view .BOOK_COUNT, d.reg .FILTERED] ++
    (List.range 8).map (fun k => d.reg .DROPPED k) ++ (List.range 8).map (fun k => d.reg .OVERWRITTEN k) ++
    (List.range 8).map (fun k => d.reg .HOLD_DROPPED k)

/-- Words as reply entries of one word, from `start`. -/
def wordRows (ws : List Nat) (start : Nat) : List (Nat × List Nat) :=
  (ws.zipIdx.map (fun x => (x.2, [x.1]))).filter (fun e => decide (start ≤ e.1))

/-- BOOK_QUERY, a word an entry. -/
def execBookQuery (rq : Sfi) (start : Nat) (s : State) : Out :=
  s.sfi rq 0x800 0 (fun d _ => (d, d.listing rq 0x800 1 (wordRows d.bookWords start)))

def execBookRead (rq : Sfi) (x : BookReadArgs) (s : State) : Out := s.sfi rq 0x801 0 (fun d _ => d.bookRead rq.ch x)

/-- BOOK_CURTAIN: BUSY 9 while another session's curtain is up; UP of the own curtain changes nothing. -/
def Dev.bookCurtain (d : Dev) (c : Nat) (up : Bool) : Dev × Ans :=
  match d.curtain with
  | some (o, _) => if o ≠ c then (d, .busy 9) else if up then (d, .ok) else (d.lowerCurtain 0, .ok)
  | none => if up then (d.raiseCurtain c, .ok) else (d, .invalid)

def execBookCurtain (rq : Sfi) (up : Bool) (s : State) : Out := s.sfi rq 0x802 1 (fun d _ => d.bookCurtain rq.ch up)

def execBookClear (rq : Sfi) (s : State) : Out := s.sfiKey rq 0x803 3 (fun d role => (d.bookClear rq.ch role, .ok))

def execBookConfig (rq : Sfi) (mode : Bool) (minSev limit : Nat) (s : State) : Out :=
  s.sfi rq 0x804 2 (fun d _ => okIf (F.BOOK_CFG_RECORD_MIN_SEV.ok minSev && F.BOOK_CFG_CURTAIN_LIMIT.ok limit) d
    (d.cfg .BOOK_CFG 0 (b2n mode + 2 * minSev + 65536 * limit)))

/-- A source ID, and an address inside a present block (R404). -/
def isSource (src : Nat) : Bool := blockList.any (fun b => b.2.1 == src)
def inBlock (addr : Nat) : Bool := (blockAt (ownerSlot addr)).isSome

def execBookSnapSet (rq : Sfi) (src entry addr : Nat) (rel internal en : Bool) (s : State) : Out :=
  s.sfi rq 0x805 2 (fun d _ =>
    okIf (isSource src && decide (entry < 8 ∧ addr < 2 ^ 24) &&
        (if internal then decide (addr < 16) else decide (addr % 4 = 0) && inBlock addr)) d
      (d.cfg .SNAP_ENTRY (8 * src + entry) (addr + 2 ^ 24 * b2n rel + 2 ^ 25 * b2n internal + 2 ^ 26 * b2n en)))

def Dev.triggerSet (d : Dev) (k : Nat) (x : TriggerArgs) : Dev × Ans :=
  okIf (decide (k < 16 ∧ x.code < 65536 ∧ x.mask < 65536 ∧ x.minSev < 8) && F.TRIG_CTRL_NOTIFY_CHAN.ok x.chan) d
    ((d.cfg .TRIG_MATCH k (x.code + 65536 * x.mask)).cfg .TRIG_CTRL k
      (x.minSev + 8 * b2n x.en + 16 * b2n x.pin + 32 * b2n x.notify + 64 * b2n x.dump + 256 * x.chan))

def execBookTriggerSet (rq : Sfi) (k : Nat) (x : TriggerArgs) (s : State) : Out :=
  s.sfi rq 0x806 2 (fun d _ => d.triggerSet k x)

def execBookSubscribe (rq : Sfi) (minSev code mask : Nat) (en : Bool) (s : State) : Out :=
  s.sfi rq 0x807 0 (fun d _ => okIf (decide (rq.ch.val < 24 ∧ minSev < 8 ∧ code < 65536 ∧ mask < 65536)) d
    { d with subs := d.subs.put rq.ch { d.subs.get rq.ch with on := en, minSev := minSev, code := code, mask := mask } })

/-! ## Statistics (R396 to R398) -/

/-- Ports with class statistics in a dump's order (R398). -/
def classPorts : List Nat := List.range 256 ++ [256, 257, 259, 260]

/-- The stream blocks a mask selects. -/
def streamBlocks (mask : Nat) : List Nat := (List.range 16).filter (fun b => mask / 2 ^ b % 2 == 1)

/-- Bytes of a dump image, header included. -/
def imageLen (sets mask : Nat) : Nat :=
  64 + (if sets % 2 = 1 then 81920 else 0) + (if sets / 2 % 2 = 1 then 133120 else 0) +
    (if sets / 4 % 2 = 1 then 65536 * (streamBlocks mask).length else 0) + (if sets / 8 % 2 = 1 then 2176 else 0)

/-- A dump's sections in order. -/
def DumpRec.body (x : DumpRec) : List Byte :=
  (if x.sets % 2 = 1 then (List.range 10240).flatMap (fun k => leBytes 8 (x.port.get k)) else []) ++
  (if x.sets / 2 % 2 = 1 then classPorts.flatMap (fun p => (List.range 64).flatMap (fun k => leBytes 8 (x.cls.get (64 * p + k))))
   else []) ++
  (if x.sets / 4 % 2 = 1 then (streamBlocks x.mask).flatMap (fun b =>
      (List.range 8192).flatMap (fun k => leBytes 8 (x.stream.get (8192 * b + k)))) else []) ++
  (if x.sets / 8 % 2 = 1 then x.perf.flatMap (leBytes 8) else [])

/-- A dump's header (R398). -/
def DumpRec.header (x : DumpRec) : List Byte :=
  let h := leBytes 4 0x44554D31 ++ leBytes 4 x.seq ++ leBytes 8 x.cycle ++ leBytes 2 x.pt ++ leBytes 8 (x.pt / 65536) ++
    leBytes 2 x.flags ++ leBytes 4 x.sets ++ leBytes 4 (x.mask % 65536 + 65536 * x.cause) ++
    leBytes 4 (imageLen x.sets x.mask) ++ leBytes 4 x.skips ++ leBytes 4 x.firstPt ++ leBytes 4 x.lastPt ++ leBytes 4 x.opId ++
    leBytes 4 0
  h ++ leBytes 4 (crc32c h)

/-- The buffer of a dump. -/
def Dev.dumpBuf (d : Dev) (seq : Nat) : Nat := d.reg .DUMP_BASE (seq % 2 * 2) + 2 ^ 32 * d.reg .DUMP_BASE (seq % 2 * 2 + 1)

/-- A latch with its record of a skip (R397). -/
def Dev.latch (d : Dev) (cause opId : Nat) : Dev :=
  let x := latchDump d cause opId
  if x.2 then x.1.recordOnce secCycles { code := 0x1001, sev := 3 } else x.1

/-- A periodic latch is due (R397). -/
def Dev.latchDue (d : Dev) : Bool :=
  let p := d.get F.DUMP_CFG_DUMP_PERIOD
  d.on F.DUMP_CFG_DUMP_EN && p != 0 &&
    (if d.on F.TIME_STATUS_PT_VALID then decide (d.dumpPt / (p * 1000000) < d.ptNs / (p * 1000000))
     else decide (d.dumpMark + p * msCycles ≤ d.cycle))

/-- The periodic latch, and the marks of the next; where PT has gone back, the next whole multiple after it. -/
def Dev.statsLatch (d : Dev) : Dev :=
  if !d.latchDue then { d with dumpPt := min d.dumpPt d.ptNs }
  else
    let p := d.get F.DUMP_CFG_DUMP_PERIOD * msCycles
    { d with dumpMark := d.dumpMark + (d.cycle - d.dumpMark) / p * p, dumpPt := d.ptNs }.latch 1 0

def execStatsLatch (s : State) : Out := s.actAt (fun _ => atLatch) (·.statsLatch)

/-- DUMP_CFG takes a value: DUMP_EN starts the period. -/
def Dev.dumpCfg (d : Dev) (w : Nat) : Dev :=
  let was := d.on F.DUMP_CFG_DUMP_EN
  let d := d.store .DUMP_CFG 0 w
  if !was && d.on F.DUMP_CFG_DUMP_EN then { d with dumpMark := d.cycle, dumpPt := d.ptNs } else d

/-- The image is written, its header last; one that would leave the windows is not, and freezes DUMP_FN (R301, log entry 65). -/
def Dev.dumpDone (d : Dev) : Dev :=
  match d.dump with
  | none => d
  | some x =>
    let a := d.dumpBuf x.seq
    let d := { d with dump := none }.set F.PERF_STATUS_DUMP_BUSY 0 0
    let y := if d.isFrozen x.fn then (d, true) else d.dmaCheck x.fn a (imageLen x.sets x.mask) true
    if !y.2 then y.1
    else
      let d := ((y.1.devWrite x.fn (a + 64) x.body).devWrite x.fn a x.header).count 0x54 4 (imageLen x.sets x.mask / 64)
      (d.set F.PERF_STATUS_LAST_BUF 0 (x.seq % 2)).raise F.PERF_EVENT_DUMP_DONE

def execDumpWriteDone (s : State) : Out := s.later 16 0 (·.dumpDone)

/-! ## Performance counters (R399 to R402) -/

/-- A function may see performance counters (R402); what is no function may. -/
def Dev.perfAllowed (d : Dev) (m : Nat) : Bool := decide (8 ≤ m) || d.bit F.PERF_ALLOW_ALLOW 0 m

/-- What a PERF_CMD word does. -/
def Dev.perfCmd (d : Dev) (w : Nat) : Dev :=
  let d := if bitsOf w 0 0 = 1 ∧ d.perfAllowed (d.get F.DUMP_FN_DUMP_FN) = true then takeSnap d else d
  if bitsOf w 1 1 = 1 then d.latch 2 0 else d

def execPerfCmdSnap (m : Fin 32) (s : State) : Out := s.write m .PERF_CMD 0 1 Dev.perfCmd

def execPerfCmdDumpNow (m : Fin 32) (s : State) : Out := s.writeAt atLatch m .PERF_CMD 0 2 Dev.perfCmd

/-- The snapshot is complete: PERF_SNAP is answered. -/
def Dev.snapDone (d : Dev) : Dev :=
  if d.on F.PERF_STATUS_SNAP_BUSY then
    ((d.set F.PERF_STATUS_SNAP_BUSY 0 0).raise F.PERF_EVENT_SNAP_DONE).finishOp 0x904
      (.okW [d.reg .SNAP_FIRST_PT, d.reg .SNAP_LAST_PT])
  else d

def execPerfSnapDone (s : State) : Out := s.later 16 30 (·.snapDone)

/-- Counters of a block go to 0 with their OVF bits. -/
def Dev.pcClear (d : Dev) (slot mask : Nat) : Dev :=
  (List.range 8).foldl (fun d i =>
    if mask / 2 ^ i % 2 = 1 then { d with perf := d.perf.put (8 * slot + i) 0, perfOvf := d.perfOvf.put (8 * slot + i) 0 } else d) d

def execPcClear (m : Fin 32) (slot : Fin 97) (w : Word) (s : State) : Out :=
  s.actAt (fun d => d.wrPlace m .PC_CLEAR slot w.toNat atPcClear) (fun d => if (blockAt slot).isNone then d else d.gated m .PC_CLEAR slot w.toNat (fun d w => d.pcClear slot (w % 256)))

/-! ## SFI commands of the counters (R405) -/

/-- Counters of a table as reply entries of two words, from `start`. -/
def statRows (t : Tbl Nat) (n base start : Nat) : List (Nat × List Nat) :=
  ((List.range n).map (fun i => (i, [t.get (base + i) % 2 ^ 32, t.get (base + i) / 2 ^ 32]))).filter (fun e => decide (start ≤ e.1))

/-- STATS_QUERY: 0 a port's 40 counters, 1 a class's 8, 2 a stream's 8, two words each. -/
def Dev.statsQuery (d : Dev) (rq : Sfi) (kind idx cls start : Nat) : Dev × Ans :=
  if kind = 0 ∧ idx < 256 then (d, d.listing rq 0x900 2 (statRows d.portStats 40 (40 * idx) start))
  else if kind = 1 ∧ idx ∈ classPorts ∧ cls < 8 then (d, d.listing rq 0x900 2 (statRows d.classStats 8 (8 * (8 * idx + cls)) start))
  else if kind = 2 ∧ idx < 16384 then (d, d.listing rq 0x900 2 (statRows d.streamStats 8 (8 * idx) start))
  else (d, .invalid)

def execStatsQuery (rq : Sfi) (kind idx cls start : Nat) (s : State) : Out :=
  s.sfi rq 0x900 0 (fun d _ => d.statsQuery rq kind idx cls start)

/-- STATS_DUMP_SET makes the channel's function DUMP_FN. -/
def Dev.dumpSet (d : Dev) (c sets period mask buf0 buf1 : Nat) (en : Bool) : Dev × Ans :=
  let fn := d.sender c
  if 16 ≤ c ∨ 8 ≤ fn ∨ ¬ (sets < 16 ∧ mask < 65536 ∧ buf0 < 2 ^ 64 ∧ buf1 < 2 ^ 64 ∧ buf0 % 64 = 0 ∧ buf1 % 64 = 0) ∨
      F.DUMP_CFG_DUMP_PERIOD.ok period = false then (d, .invalid)
  else if d.dmaOk fn buf0 (imageLen sets mask) true = false ∨ d.dmaOk fn buf1 (imageLen sets mask) true = false then (d, .denied)
  else
    let d := (((d.cfg .DUMP_FN 0 fn).setReg .DUMP_STREAM_MASK 0 mask).setReg .DUMP_BASE 0 (buf0 % 2 ^ 32)).setReg .DUMP_BASE 1
      (buf0 / 2 ^ 32)
    (((d.setReg .DUMP_BASE 2 (buf1 % 2 ^ 32)).setReg .DUMP_BASE 3 (buf1 / 2 ^ 32)).dumpCfg (b2n en + 2 * sets + 32 * period), .ok)

def execStatsDumpSet (rq : Sfi) (sets period mask buf0 buf1 : Nat) (en : Bool) (s : State) : Out :=
  s.sfi rq 0x901 1 (fun d _ => d.dumpSet rq.ch sets period mask buf0 buf1 en)

def execStatsDumpNow (rq : Sfi) (s : State) : Out :=
  s.sfi rq 0x902 1 (fun d _ => if d.dump.isSome then (d, .busy 9) else (d.latch 2 0, .ok))

def Dev.perfConfig (d : Dev) (x : PerfArgs) : Dev × Ans :=
  okIf ((blockAt x.slot).isSome && decide (x.index < 8 ∧ x.tcMask < 256 ∧ x.roleMask < 16 ∧ x.master < 32 ∧ x.lo < 2 ^ 32 ∧
      x.hi < 2 ^ 32)) d
    (((d.cfg .PC_CFG (8 * x.slot + x.index)
      (x.tcMask + 256 * x.roleMask + 4096 * x.master + 2 ^ 17 * b2n x.addrEn + 2 ^ 18 * b2n x.ovfMode)).cfg .ADDR_LO x.slot x.lo).cfg
      .ADDR_HI x.slot x.hi)

/-- A command that returns or controls performance counters is DENIED to a function without PERF_ALLOW (R402). -/
def Dev.ifPerf (d : Dev) (rq : Sfi) (x : Dev × Ans) : Dev × Ans := if d.perfAllowed (d.sender rq.ch) then x else (d, .denied)

def execPerfConfig (rq : Sfi) (x : PerfArgs) (s : State) : Out := s.sfi rq 0x903 2 (fun d _ => d.ifPerf rq (d.perfConfig x))

def execPerfSnap (rq : Sfi) (s : State) : Out := s.sfi rq 0x904 0 (fun d _ => d.ifPerf rq (takeSnap d, .pending))

def execPerfClear (rq : Sfi) (slot mask : Nat) (s : State) : Out :=
  s.sfi rq 0x905 2 (fun d _ => d.ifPerf rq (okIf ((blockAt slot).isSome && decide (mask < 256)) d (d.pcClear slot mask)))

def execPerfAllowSet (rq : Sfi) (mask : Nat) (s : State) : Out :=
  s.sfi rq 0x906 3 (fun d _ => okIf (decide (mask < 256)) d (d.cfg .PERF_ALLOW 0 mask))

end Sys2Proof.Machine
end

