-- ==== Sys2Proof/Machine/Stage.lean ====
section
/-! DEFINITION. The stagehand array (R262 to R278, R292): engines, verdicts and their merge, clusters, samples,
supervision frames, profiling, and the SFI commands of the stagehand group. -/

namespace Sys2Proof.Machine

/-! ## Samples and supervision frames (R275, R277) -/

/-- A frame that a stagehand program creates, in packet memory on the STAGE account: none where no buffer is found. -/
def Dev.stageFrame (d : Dev) (bytes : List Byte) (copies : Nat) : Dev × Option Nat :=
  let f : FrameRec := { (default : FrameRec) with
    live := true, inPort := 258, port := 258, bytes := bytes, len := bytes.length + 4, icrc := crc32c bytes, ended := true
    decided := true, plate := d.activePlate, tc := 6, pt := d.pt, tb0 := d.tbLt 0, tb1 := d.tbLt 1, stamp := d.cycle
    account := 2050, refs := copies, copies := copies }
  match d.headBuf 0 0 2050 false with
  | (d, none) => (d, none)
  | (d, some b) =>
    match Dev.fillChain 64 d { f with bufs := [b] } none true with
    | (d, g, true) =>
      let id := d.nextFrame + 1
      (({ d with nextFrame := id }.frameSet id g).flightUp g.plate copies, some id)
    | (d, g, false) => (d.giveChain g, none)

/-- The 160 bytes of a sample export (R277). -/
def sampleBytes (f : FrameRec) (w : List Nat) : List Byte :=
  let data := f.bytes.take 128
  leBytes 2 f.pt ++ leBytes 8 (f.pt / 65536) ++ leBytes 2 (f.port % 512 + 512 * f.tc + 4096 * f.colour) ++ leBytes 2 f.len ++
    leBytes 2 (w.getD 0 0) ++ leBytes 4 (w.getD 1 0) ++ leBytes 4 (w.getD 2 0) ++ leBytes 4 (w.getD 3 0) ++
    leBytes 4 (b2n f.fcsBad + 2 * b2n f.oversize + 4 * b2n f.express + 8 * b2n f.mark) ++
    data ++ List.replicate (128 - data.length) 0

/-- SAMPLE_EXPORT has built its buffer: it goes to port 256 on SAMPLE_TC, and the sample copy is consumed. -/
def Dev.sampleRun (d : Dev) (x : EngItem) : Dev :=
  let f := d.frames.get x.frame
  let r := d.stageFrame (sampleBytes f x.info) 1
  let d := match r.2 with
    | some id =>
      r.1.enqueue { (default : Copy) with frame := id, port := 256, tc := d.get F.STAGE_CTRL_SAMPLE_TC, kind := 3, cls := f.port } false
    | none => r.1.sampleLost f.port
  d.consume x.frame

/-- A PRP or HSR supervision frame without its trailer or tag; the layout is IEC 62439-3's (PRESUMED, log entry 10). -/
def supvBytes (last mode seq mac : Nat) : List Byte :=
  beBytes 6 (0x01154E000100 + last) ++ beBytes 6 Config.deviceAddr ++ beBytes 2 0x88FB ++ beBytes 2 1 ++ beBytes 2 seq ++
    beBytes 1 (if mode = 1 then 20 else 23) ++ beBytes 1 6 ++ beBytes 6 mac ++ beBytes 2 0

/-- SUPV_GEN sends one frame for a source on each port of its pair (R275). -/
def Dev.supvRun (d : Dev) (pair src : Nat) : Dev :=
  let r := d.rpairs.get pair
  let seq := d.ownTx
  let mac := if src = 0 then Config.deviceAddr else (d.dd.get (src - 1)).key % 2 ^ 48
  let d := { d with ownTx := (seq + 1) % 65536 }
  let x := d.stageFrame (supvBytes (d.get F.STAGE_CTRL_SUPV_LAST_BYTE) r.mode seq mac) 2
  match x.2 with
  | none => x.1
  | some id =>
    [r.a, r.b].foldl (fun d q => d.enqueue { (default : Copy) with
      frame := id, port := q, tc := 6,
      pair := { (default : PairEdit) with ins := r.mode, seq := seq, lan := (if r.mode = 1 then 10 else 0) + b2n (q == r.b) } } true) x.1

/-! ## Engines (R267 to R269) -/

/-- The item runs on an engine from now. -/
def Dev.runItem (d : Dev) (e : Nat) (x : EngItem) : Dev := { d with engRun := d.engRun.put e (some { x with began := d.cycle }) }

/-- Engine `e` takes the next frame of its input queue, else a supervision frame that waits for it. -/
def Dev.progStart (d : Dev) (e : Nat) : Dev :=
  if (d.engRun.get e).isSome || d.on F.ENG_STATUS_STOPPED e || d.clFreq (e / 8) == 0 then d
  else
    match d.engQ.get e with
    | x :: r => { d with engQ := d.engQ.put e r }.runItem e x
    | [] =>
      match d.supvJobs.find? (fun j => j.1 == e) with
      | some j => { d with supvJobs := d.supvJobs.erase j }.runItem e { frame := 0, prog := 4, pin := 0, info := [j.2.1, j.2.2] }
      | none => d

def execProgramStart (e : Fin 128) (s : State) : Out := s.later 10 0 (·.progStart e)

/-! ## Verdicts (R270, R271) -/

/-- The parked copies are discarded. -/
def Dev.dropParked (d : Dev) (id : Nat) : Dev :=
  let f := d.frames.get id
  f.parked.foldl (fun d _ => d.consume id) (d.frameSet id { f with parked := [] })

/-- The parked copies are released to enqueue, in the colour the steps left (R270). -/
def Dev.releaseParked (d : Dev) (id : Nat) : Dev :=
  let f := d.frames.get id
  f.parked.foldl (fun d c => d.enqueue { c with colour := f.colour } (decide (1 < f.copies))) (d.frameSet id { f with parked := [] })

/-- RECIRCULATE (R271, R14): the frame re-enters through port 258 with the program's reference. -/
def Dev.recirculate (d : Dev) (id : Nat) : Dev :=
  let f := d.frames.get id
  if d.get F.STAGE_CTRL_RECIRC_MAX ≤ f.recirc then
    let d := (d.raise F.STAGE_EVENT_RECIRC_LOOP).record { code := 0x0A05, sev := 4 }
    ((d.count 0x3C 2).dropParked id).consume id
  else
    let d := (d.count 0x3C 3).dropParked id
    (d.frameSet id { d.frames.get id with recirc := f.recirc + 1, inPort := 258, decided := false }).joinHold 258 id

/-- TO_HOST and TO_PROMPTER (R270): one copy to an internal port in place of the parked ones. -/
def Dev.divert (d : Dev) (id port : Nat) : Dev :=
  let d := d.dropParked id
  let f := d.frames.get id
  let d := (d.frameSet id { f with refs := f.refs + 1 }).flightUp f.plate 1
  (d.enqueue { (default : Copy) with frame := id, port := port, tc := f.tc, colour := f.colour } false).consume id

/-- The stream steps that waited for a verdict go on (R172, R268): the GMAC result, or the extracted fields. -/
def Dec.resumeSteps (c : Dec) (phase code : Nat) (res : List Nat) (isDefault : Bool) : Dec :=
  let c := { c with f := { c.f with mark := c.f.mark || code == 1 } }
  match c.f.stream with
  | none => c
  | some st =>
    if phase = 1 then
      let c := if code = 2 then { c with d := c.d.count 0x3C 2 } else c
      if isDefault then { c with d := c.d.count 0x28 7 }.dropStream st 4
      else if res.headD 1 = 0 ∧ code ≤ 1 ∧ c.keyValid st = true then c.dupStep else c.gmacFail st
    else if code = 2 then { c with gone := 8 }
    else if isDefault ∨ res.getD 5 2 ≠ 0 then c.unsupervised
    else
      let s := c.d.streams.get st
      c.superviseStep st (if s.type = 2 ∨ s.type = 4 then (res.getD 3 0, 0, res.getD 4 0) else (res.getD 0 0, res.getD 1 0, res.getD 2 0))

/-- A verdict reaches the merge (R268, R270): `code` as R270 numbers it, `res` the program's results. -/
def Dev.mergeVerdict (d : Dev) (id code : Nat) (res : List Nat) (isDefault : Bool) : Dev :=
  let f := d.frames.get id
  let phase := f.phase
  let d := d.frameSet id { f with phase := 0, prog := 0 }
  if f.bad || f.dead then (d.dropParked id).consume id
  else if phase = 9 then
    if code = 2 then ((d.count 0x3C 2).dropParked id).consume id
    else if code = 3 then d.recirculate id
    else if code = 4 then d.divert id 256
    else if code = 5 then d.divert id 257
    else ((d.frameSet id { d.frames.get id with mark := f.mark || code == 1 }).releaseParked id).consume id
  else if code = 3 then d.recirculate id
  else if code = 4 then d.divert id 256
  else if code = 5 then d.divert id 257
  else
    let c := (Dec.of d id).resumeSteps phase code res isDefault
    let d := c.d.frameSet id c.f
    if c.gone ≠ 0 then ((if c.gone = 8 then d.count 0x3C 2 else d).dropParked id).consume id
    else
      match c.go with
      | some (e, x) => d.pushItem e x
      | none => (d.releaseParked id).consume id

/-- A sample copy, a supervision frame or a Folio record, which no frame waits for; not a frame's own program. -/
def EngItem.aside (x : EngItem) : Bool := !x.info.isEmpty

/-- What becomes of a program's work at its end (R273, R277, R285): the sample is written, or dropped by its verdict, the
supervision frames are sent, the record is complete, or the verdict reaches the merge. -/
def Dev.itemDone (d : Dev) (x : EngItem) (code : Nat) (res : List Nat) : Dev :=
  if !x.aside then d.mergeVerdict x.frame code res false
  else if x.prog = 3 then (if code = 2 then (d.sampleLost (d.frames.get x.frame).port).consume x.frame else d.sampleRun x)
  else if x.prog = 4 then d.supvRun (x.info.getD 0 0) (x.info.getD 1 0)
  else d.formatDone (x.info.headD 0)

/-- What becomes of it by its program's default verdict: the sample is lost, no supervision frame is sent, the record is lost as
OVERRUN (R273). -/
def Dev.itemDefault (d : Dev) (x : EngItem) : Dev :=
  if !x.aside then d.mergeVerdict x.frame (defVerdict x.prog) [] true
  else if x.prog = 3 then (d.sampleLost (d.frames.get x.frame).port).consume x.frame
  else if x.prog = 4 then d
  else d.loseRec (x.info.headD 0)

/-- The frame dispatched through a pin entry returns; a supervision frame was not dispatched. -/
def Dev.itemReturn (d : Dev) (x : EngItem) : Dev := if x.prog = 4 ∧ x.aside = true then d else d.pinReturn x.pin

/-- A program that reads its frame to the end runs at least until it has ended (R273, R277). -/
def Dev.itemRuns (d : Dev) (x : EngItem) : Bool := (x.prog == 2 || x.prog == 3) && !(d.frames.get x.frame).ended

/-- The instance on an engine ends with its verdict. GMAC_VERIFY has put ⌈L/16⌉ blocks through the cluster's AES unit (R262, R273;
DEDUCED, log entry 37). -/
def Dev.endInstance (d : Dev) (e code : Nat) (res : List Nat) : Dev :=
  match d.engRun.get e with
  | none => d
  | some x =>
    if d.itemRuns x then d
    else
      let d := { d with engRun := d.engRun.put e none }
      let d := if x.prog = 2 then d.count 0x3C 6 (((d.frames.get x.frame).len + 15) / 16) else d
      (d.itemDone x code res).itemReturn x

def execVerdictMerge (e : Fin 128) (code : Fin 6) (res : List Nat) (s : State) : Out :=
  s.actAt (fun _ => atMerge) (·.endInstance e code res)

/-- The instance on an engine has run for more than twice its program's maximum budget, in engine cycles (R272). -/
def Dev.overCeiling (d : Dev) (e : Nat) (x : EngItem) : Bool :=
  decide (2 * d.progMax x.prog * 15 < (d.cycle - x.began) * d.clFreq (e / 8))

/-- An instance exceeds its ceiling (R272): it ends with its program's default verdict. The AES blocks of a GMAC_VERIFY that is cut
off are free (log entry 37). -/
def Dev.progOverrun (d : Dev) (e : Nat) : Dev :=
  match d.engRun.get e with
  | none => d
  | some x =>
    if !d.overCeiling e x then d
    else
      let d := (((d.count 0x3C 5).raise F.STAGE_EVENT_PROG_OVERRUN).stageRec 0x0A02 4 e).count 0x3C 1
      let d := { d with engRun := d.engRun.put e none }
      let d := if x.prog = 2 then (let a := d.draw 16; a.2.count 0x3C 6 a.1) else d
      (d.itemDefault x).itemReturn x

def execProgOverrun (e : Fin 128) (s : State) : Out := s.later 10 0 (·.progOverrun e)

/-- An item that will not run takes its default verdict. -/
def Dev.defaultItem (d : Dev) (x : EngItem) : Dev := ((d.count 0x3C 1).itemDefault x).itemReturn x

/-- An engine is stopped by a fault: its flags, its cluster's, the record (R272). -/
def Dev.engineStop (d : Dev) (e : Nat) : Dev :=
  (((d.set F.ENG_STATUS_STOPPED e 1).setBit F.STAGE_STATUS_FAULTED 0 (e / 8) true).raise F.STAGE_EVENT_ENGINE_FAULT).stageRec
    0x0A03 5 e

/-- The items an engine has, the running one first. -/
def Dev.engineItems (d : Dev) (e : Nat) : List EngItem := (d.engRun.get e).toList ++ d.engQ.get e

/-- An uncorrectable error stops an engine (R272): its frames take their default verdicts, its flows are to be pinned anew. -/
def Dev.engineFault (d : Dev) (e : Nat) : Dev :=
  let d := d.engineStop e
  let items := d.engineItems e
  let d := { d with engRun := d.engRun.put e none, engQ := d.engQ.put e [], supvJobs := d.supvJobs.filter (fun j => j.1 != e) }
  items.foldl Dev.defaultItem { d with repin := true }

def execEngineFault (e : Fin 128) (s : State) : Out := s.later 10 0 (·.engineFault e)

/-- The loaded programs, number and image version. -/
def Dev.loadedProgs (d : Dev) : List (Nat × Nat) :=
  ((List.range 64).filter (fun n => d.on F.PROG_CFG_LOADED n)).map (fun n => (n, d.get F.PROG_CFG_VERSION n))

/-- A cluster's reload is verified: its instruction memory holds every loaded program, its engines return to service; it resets
the senders of its channels (R320). -/
def Dev.engineReload (d : Dev) (c : Nat) : Dev :=
  let d := { d with imem := d.imem.put c d.loadedProgs }
  let d := (List.range 8).foldl (fun d k => d.set F.ENG_STATUS_STOPPED (8 * c + k) 0) d
  ((List.range 8).filter (fun k => d.sender (24 + k) == 8 + c)).foldl (fun d k => d.senderReset (24 + k)) (d.setBit F.STAGE_STATUS_FAULTED 0 c false)

def execEngineReloadDone (c : Fin 16) (s : State) : Out := s.later 10 0 (·.engineReload c)

/-! ## Clusters (R263) -/

/-- An engine of the cluster has work queued or running. -/
def Dev.clBusy (d : Dev) (c : Nat) : Bool :=
  (List.range 8).any (fun k => !(d.engQ.get (8 * c + k)).isEmpty || (d.engRun.get (8 * c + k)).isSome)

/-- What a change of step brings: step 0 stops dispatch and keeps the old step until the queued frames have completed. -/
def Dev.clChanged (d : Dev) (c old new : Nat) : Dev :=
  if old = new then d
  else
    let d := d.record { code := 0x0A07, sev := 1, obj := .cluster c }
    let d := if new = 0 then { d with clStopping := d.clStopping.put c (some old), repin := true }
      else
        let d := if old = 0 ∧ (d.clStopping.get c).isNone then d.count 0x60 7 else d
        { d with clStopping := d.clStopping.put c none }.setBit F.STAGE_STATUS_RUNNING 0 c (!d.isFrozen (8 + c))
    d.checkAllBounds

def execClCfgWrite (m : Fin 32) (c : Fin 16) (w : Word) (s : State) : Out :=
  s.write m .CL_CFG c w.toNat (fun d w =>
    let d' := d.store .CL_CFG c w
    d'.clChanged c (d.get F.CL_CFG_STEP c) (d'.get F.CL_CFG_STEP c))

/-- The queued frames have completed and the clock stops: CLUSTER_STEP_SET is answered. -/
def Dev.clockStop (d : Dev) (c : Nat) : Dev :=
  if (d.clStopping.get c).isNone || d.clBusy c then d
  else
    let d := ({ d with clStopping := d.clStopping.put c none }.setBit F.STAGE_STATUS_RUNNING 0 c false).count 0x60 7
    (d.jobs.filter (fun j => j.op == 0x601 && j.data == [c])).foldl (fun d j => d.finishJob j .ok) d

def execClusterClockStop (c : Fin 16) (s : State) : Out := s.later 10 0 (·.clockStop c)

/-! ## Supervision frames (R275) -/

/-- The supervision frames of a pass: engine, pair and source of each. -/
def Dev.supvWork (d : Dev) : List (Nat × Nat × Nat) :=
  d.rpairs.flatMap (fun r =>
    if r.2.mode = 0 ∨ bitAt (d.reg .SUPV_EN (r.1 / 32)) (r.1 % 32) = false then []
    else
      let e := (d.pins.get (256 * 4 + r.1)).1
      let prox := (d.dd.filter (fun x => d.ddUsed x.1 && x.2.proxy && !x.2.cb && x.2.key / 2 ^ 48 == r.1)).map (fun x => x.1 + 1)
      if e = 0 then [] else (0 :: prox).map (fun k => (e - 1, r.1, k)))

/-- A pass still runs: a frame of it waits or is being made. -/
def Dev.supvBusy (d : Dev) : Bool :=
  !d.supvJobs.isEmpty || d.engRun.any (fun e => match e.2 with | some x => x.prog == 4 && x.aside | none => false)

/-- A generation pass, every LIFE_CHECK ms: the frames of every enabled pair and of the sources its interlink gave it; while the last
pass still runs, the one that is due is skipped. -/
def Dev.supvPass (d : Dev) : Dev :=
  if d.cycle < d.supvAt + d.get F.STAGE_CTRL_LIFE_CHECK * msCycles then d
  else
  let d := { d with supvAt := d.cycle }
  if d.supvBusy then (d.raise F.STAGE_EVENT_SUPV_LATE).record { code := 0x0A08, sev := 3 }
  else if d.on F.PROG_CFG_LOADED 4 = false then d
  else { d with supvJobs := d.supvWork }

def execSupvGenPass (s : State) : Out := s.later 10 0 (·.supvPass)

/-! ## Profiling (R278) -/

/-- The Pth event on an engine: a sample of its program and instruction offset. -/
def Dev.profSample (d : Dev) (e offset : Nat) : Dev :=
  match d.profEvent, d.engRun.get e with
  | some _, some x =>
    if d.profFull then d
    else
      let d := { d with profBuf := d.profBuf ++ [[x.prog, e, offset, d.ptNs % 2 ^ 32]] }
      if d.profBuf.length < 4096 then d else { d with profFull := true }.raise F.STAGE_EVENT_PROFILE_FULL
  | _, _ => d

def execProfileSample (e : Fin 128) (offset : Nat) (s : State) : Out := s.later 10 0 (·.profSample e offset)

/-! ## SFI commands (R292) -/

/-- STAGE_QUERY's rows: steps, loaded programs, engines, counters, one word each. -/
def Dev.stageRows (d : Dev) : List (Nat × List Nat) :=
  (List.range 16).map (fun c => (c, [d.reg .CL_CFG c])) ++
    ((List.range 63).map (fun n => (16 + n, [d.reg .PROG_CFG (n + 1)]))) ++
    ((List.range 128).map (fun e => (79 + e, [d.view .ENG_STATUS e]))) ++
    ((List.range 8).map (fun k => (207 + k, [d.perf.get (8 * 0x3C + k) % 2 ^ 32])))

def execStageQuery (rq : Sfi) (start : Nat) (s : State) : Out :=
  s.sfi rq 0x600 0 (fun d _ => (d, d.listing rq 0x600 1 (d.stageRows.filter (fun e => decide (start ≤ e.1)))))

def Dev.clusterStepSet (d : Dev) (c step : Nat) (force : Bool) : Dev × Ans :=
  if ¬ (c < 16 ∧ step ≤ 4) then (d, .invalid)
  else
    let d' := (d.cfgF F.CL_CFG_STEP c step).clChanged c (d.get F.CL_CFG_STEP c) step
    if !force && d'.lapsed.any (fun e => e.2 && !d.lapsed.get e.1) then (d, .denied)
    else if (d'.clStopping.get c).isSome && d'.clBusy c then (d', { st := 8, job := some [c] })
    else (d', .ok)

def execClusterStepSet (rq : Sfi) (cluster step : Nat) (force : Bool) (s : State) : Out :=
  s.sfi rq 0x601 2 (fun d _ => d.clusterStepSet cluster step force)

def execProgramAssign (rq : Sfi) (prog mask : Nat) (s : State) : Out :=
  s.sfi rq 0x602 2 (fun d _ =>
    if ¬ (1 ≤ prog ∧ prog < 64 ∧ mask < 65536) then (d, .invalid)
    else if d.on F.PROG_CFG_LOADED prog = false then (d, .unsupported)
    else (((d.cfgF F.PROG_CFG_CL_MASK prog mask).refillPins prog).checkAllBounds, .ok))

/-- PIN_REBALANCE: where no entry has to wait, its completion follows at once. -/
def execPinRebalance (rq : Sfi) (prog : Nat) (s : State) : Out :=
  s.actAt (fun _ => sfiPlace 0x603) (fun d => (d.sfiRun rq 0x603 1 false (fun d _ =>
    if ¬ (1 ≤ prog ∧ prog < 64) then (d, .invalid)
    else if d.on F.PROG_CFG_LOADED prog = false then (d, .unsupported)
    else (d.refillPins prog, .pending [prog]))).pinsApplied prog)

def execSamplerSet (rq : Sfi) (port n : Nat) (random en : Bool) (ring : Nat) (s : State) : Out :=
  s.sfi rq 0x604 2 (fun d _ => okIf (decide (port < 256 ∧ ring < 64) && F.SAMPLER_CFG_N.ok n) d
    (d.cfg .SAMPLER_CFG port (n + 2 ^ 24 * b2n random + 2 ^ 25 * b2n en + 2 ^ 26 * ring)))

/-- PROFILE_START: an event and a period, or stop. -/
def execProfileStart (rq : Sfi) (x : Option (Nat × Nat)) (s : State) : Out :=
  s.sfi rq 0x605 2 (fun d _ => okIf (match x with | some (e, p) => decide (e ≤ 2 ∧ 1000 ≤ p ∧ p < 2 ^ 32) | none => true) d
    { d with profEvent := x })

/-- PROFILE_READ: up to 64 samples, or as many as the reply holds; they leave the buffer. -/
def execProfileRead (rq : Sfi) (s : State) : Out :=
  s.sfi rq 0x606 0 (fun d _ =>
    let n := min 64 (d.replyRoom rq 0x606 / 3)
    let out := d.profBuf.take n
    let rest := d.profBuf.drop n
    ({ d with profBuf := rest, profFull := d.profFull && !rest.isEmpty },
     .okW (out.flatMap (fun x => [x.getD 0 0 + 256 * x.getD 1 0, x.getD 2 0 % 2 ^ 32, x.getD 3 0]))))

def execSupvGenSet (rq : Sfi) (pair : Nat) (en : Bool) (life last : Nat) (s : State) : Out :=
  s.sfi rq 0x607 2 (fun d _ => okIf (decide (pair < 128 ∧ last < 256) && F.STAGE_CTRL_LIFE_CHECK.ok life) d
    (let w := d.reg .SUPV_EN (pair / 32)
     let w' := if en then w ||| 2 ^ (pair % 32) else dropBit w (pair % 32)
     ((d.cfg .SUPV_EN (pair / 32) w').cfgF F.STAGE_CTRL_LIFE_CHECK 0 life).cfgF F.STAGE_CTRL_SUPV_LAST_BYTE 0 last))

end Sys2Proof.Machine
end

