-- ==== Sys2Proof/Machine/Host.lean ====
section
/-! DEFINITION. The host link (R298 to R316, R323 to R328): descriptor rings, TX, RX and command jobs, completion rings,
function-level reset, the release of a frozen master, and the SFI commands that grant rings, windows and channels. -/

namespace Sys2Proof.Machine

/-! ## What a ring does (R302 to R308) -/

/-- An event of a ring, recorded at most once a second for each ring (R332). -/
def Dev.ringRec (d : Dev) (code sev s : Nat) : Dev :=
  d.recordLim secCycles { code := code, sev := sev, a0 := s, obj := .ring s }

/-- CHAIN_ERR (R308). -/
def Dev.chainErr (d : Dev) (s : Nat) : Dev := ((d.count 0x44 7).raise F.HOST_EVENT_CHAIN_ERR).ringRec 0x0C02 4 s

/-- CFG_REFUSED (R302, R304). -/
def Dev.cfgRefused (d : Dev) (a0 : Nat) (o : Obj) : Dev :=
  (d.raise F.HOST_EVENT_CFG_REFUSED).record { code := 0x0C05, sev := 4, a0 := a0, obj := o }

/-- The ring's job is whole: its last entry carries LAST. -/
def Ring.whole (r : Ring) : Bool := match r.job.getLast? with | some e => e.last | none => false

/-- The ring fetches: enabled, or with a job to finish (R304); its owner not frozen, its link up, nothing waiting to start,
credit for a job; an RX ring holds at most 16 buffers. -/
def Dev.canFetch (d : Dev) (s : Nat) : Bool :=
  let r := d.rings.get s
  let rx := decide (64 ≤ s ∧ s < 128)
  d.on F.HOST_STATUS_LINK_WIDTH && !d.isFrozen (d.get F.RING_OWNER_FUNC s) &&
    (d.on F.RING_CFG_EN s || (!rx && !r.job.isEmpty)) &&
    (if rx then decide (r.fetched.length < 16) else !r.whole && d.cqCredit (d.get F.RING_CFG_CQ s))

/-- The completion of a ring's open job, with a status. -/
def Ring.compl (r : Ring) (s status len : Nat) : Compl :=
  { (default : Compl) with
    tag := (match r.job.head? with | some e => e.tag | none => 0), index := r.jobIndex, ring := s, status := status
    bufs := r.job.length - 1, len := len }

/-- The open job ends with a status and nothing is sent. -/
def Dev.endJob (d : Dev) (s status : Nat) : Dev :=
  let r := d.rings.get s
  let d := { d with rings := d.rings.put s { r with job := [], started := if s < 64 then r.started ++ [r.jobIndex] else r.started } }
  (d.cqReserve (d.get F.RING_CFG_CQ s)).complete s (r.compl s status 0)

/-- A fetched entry joins its ring (R308). -/
def Dev.arrive (d : Dev) (s : Nat) (e : Desc) : Dev :=
  let c := d.reg .RING_CONS s
  let d := d.setReg .RING_CONS s ((c + 1) % 65536)
  let r := d.rings.get s
  if 64 ≤ s ∧ s < 128 then { d with rings := d.rings.put s { r with fetched := r.fetched ++ [(c, e)] } }
  else if e.first then
    let d := if r.job.isEmpty then d else (d.endJob s 2).chainErr s
    { d with rings := d.rings.put s { d.rings.get s with job := [e], jobIndex := c, skip := false } }
  else if r.job.isEmpty then (if r.skip then d else d.chainErr s)
  else
    let d := { d with rings := d.rings.put s { r with job := r.job ++ [e] } }
    if e.last ∨ r.job.length + 1 < 16 then d
    else
      let d := (d.endJob s 2).chainErr s
      { d with rings := d.rings.put s { d.rings.get s with skip := true } }

/-- The entry's buffer as the device reads it: LEN bytes. -/
def Desc.data (e : Desc) : List Byte := (e.bytes ++ List.replicate e.len 0).take e.len

/-- The buffers of a job are read: each inside a window, or the owner is frozen at the first that is not (R301). -/
def Dev.readBufs (d : Dev) (fn : Nat) (es : List Desc) : Dev × Bool :=
  es.foldl (fun x e => if x.2 then x.1.dmaCheck fn e.addr e.len false else x) (d, true)

/-- The job leaves the ring; a DMA_ERR completion waits for the owner's release. -/
def Dev.dmaFail (d : Dev) (s : Nat) (c : Compl) : Dev :=
  { d with dmaFails := d.dmaFails ++ [(s, { c with status := 3 })] }

/-- A TX job starts (R310): refused by its length or DIRECT_EN, or its frame enters a pipe as port 256. -/
def Dev.startTx (d : Dev) (s : Nat) : Dev :=
  let r := d.rings.get s
  let fn := d.get F.RING_OWNER_FUNC s
  match r.job.head? with
  | none => d
  | some e0 =>
    let n := r.job.foldl (fun n e => n + e.len) 0
    if 10236 < n then d.endJob s 1
    else if e0.direct ∧ d.on F.FUNC_PERM_DIRECT_EN fn = false then d.endJob s 2
    else
      let d := { d with rings := d.rings.put s { r with job := [], started := r.started ++ [r.jobIndex] } }
      let x := (d.cqReserve (d.get F.RING_CFG_CQ s)).readBufs fn r.job
      if x.2 = false then x.1.dmaFail s (r.compl s 3 0)
      else
        let data := r.job.flatMap Desc.data
        let bytes := data ++ List.replicate (60 - data.length) 0
        let y := (x.1.count 0x44 0).newFrame 256 (if s < 32 then 0 else 1)
        let f := { y.2.2 with
          bytes := bytes, len := bytes.length + 4, icrc := crc32c bytes, ended := true
          txJob := some (s, e0.tag, r.jobIndex, r.job.length - 1, e0.tsReq && e0.direct)
          direct := if e0.direct then some (e0.port, e0.tc) else none }
        (y.1.frameSet y.2.1 f).hold16 256 y.2.1

/-- The words of a request's bytes. -/
def wordsOf : List Byte → List Nat
  | a :: b :: c :: e :: r => (a.toNat + 256 * b.toNat + 65536 * c.toNat + 2 ^ 24 * e.toNat) :: wordsOf r
  | _ => []

/-- A command job starts (R313): its bytes are one SFI message on the owner's channel; without a header it is INVALID. -/
def Dev.startCmd (d : Dev) (s : Nat) : Dev :=
  let r := d.rings.get s
  let fn := d.get F.RING_OWNER_FUNC s
  match r.job.head? with
  | none => d
  | some e0 =>
    let d := { d with rings := d.rings.put s { r with job := [] } }
    let x := (d.cqReserve (d.get F.RING_CFG_CQ s)).readBufs fn r.job
    if x.2 = false then x.1.dmaFail s (r.compl s 3 0)
    else
      match wordsOf (r.job.flatMap Desc.data) with
      | [] => x.1.complete s (r.compl s 2 0)
      | h :: ws =>
        let ch := 2 * fn + x.1.get F.RING_CFG_CMD_CHAN s
        let op := h % 4096
        let tag := h / 65536 % 256
        let j : CmdJob := { ring := s, tag := e0.tag, index := r.jobIndex, bufs := r.job.length - 1, rspAddr := e0.rspAddr,
                            rspLen := e0.rspLen, ch := ch, sfiTag := tag, op := op }
        { x.1 with cmdJobs := x.1.cmdJobs ++ [j] }.admitReq ch op tag (x.1.chans.get ch).epochS ws true

/-- A whole job starts when its completion ring has credit (R315), port 256 can hold its header, the Prompter runs. -/
def Dev.startJob (d : Dev) (s : Nat) : Dev :=
  if !(d.rings.get s).whole || !d.cqCredit (d.get F.RING_CFG_CQ s) || d.isFrozen (d.get F.RING_OWNER_FUNC s) then d
  else if s < 64 then (if (d.hold.get 256).length < 16 then d.startTx s else d)
  else if 128 ≤ s then (if d.sfiUp then d.startCmd s else d)
  else d

/-- Reads the next entry of a ring from host memory (R301). -/
def Dev.readEntry (d : Dev) (s : Nat) (e : Desc) : Dev :=
  let x := d.dmaCheck (d.get F.RING_OWNER_FUNC s) (d.ringBase s + 32 * ringSlot (d.reg .RING_CONS s) (d.ringSize s)) 32 false
  if x.2 then (x.1.arrive s e).startJob s else x.1

/-- Entries up to the doorbell are fetched, in order, while the ring may fetch. -/
def Dev.fetchAll (d : Dev) (s : Nat) (es : List Desc) : Dev :=
  es.foldl (fun d e =>
    if d.canFetch s && (d.on F.RING_CFG_MODE s || decide (d.reg .RING_CONS s ≠ d.reg .RING_DB s)) then d.readEntry s e else d)
    (d.startJob s)

def execDescriptorFetch (s : Fin 136) (es : List Desc) (st : State) : Out :=
  st.later 12 0 (fun d => if d.on F.RING_CFG_MODE s then d else d.fetchAll s es)

/-- A ring in poll mode waits POLL_INTERVAL, in units of 100 ns (R306). -/
def Dev.pollWaits (d : Dev) (s : Nat) : Bool :=
  let t := (d.rings.get s).pollWait
  decide (t ≠ 0 ∧ d.cycle + 1 < t + d.get F.RING_CFG_POLL_INTERVAL s * 150)

/-- POLL_READ (R306): the entry at C, with its PHASE; a new one is consumed, else the ring waits POLL_INTERVAL. -/
def Dev.pollRead (d : Dev) (s : Nat) (phase : Bool) (e : Desc) : Dev :=
  if d.on F.RING_CFG_MODE s = false then d
  else
    let d := d.startJob s
    if d.canFetch s = false ∨ d.pollWaits s = true then d
    else
      let new := b2n phase == ringPhase (d.reg .RING_CONS s) (d.get F.RING_CFG_LOG2SIZE s)
      let d := { d with rings := d.rings.put s { d.rings.get s with pollWait := if new then 0 else d.cycle + 1 } }
      if new then d.readEntry s e else d

def execPollRead (s : Fin 136) (phase : Bool) (e : Desc) (st : State) : Out := st.later 12 0 (·.pollRead s phase e)

/-- A function-level reset of the function met this core cycle (R327). -/
def Dev.flrNow (d : Dev) (m : Nat) : Bool := d.flrAt.get m == d.cycle + 1

/-- RING_DB (R305, R306). -/
def Dev.ringDb (d : Dev) (s w : Nat) : Dev :=
  let n := w % 65536
  if d.flrNow (d.get F.RING_OWNER_FUNC s) then d
  else if d.on F.RING_CFG_MODE s then { d with rings := d.rings.put s { d.rings.get s with pollWait := 0 } }
  else if ringUsed n (d.reg .RING_CONS s) ≤ d.ringSize s ∧ ringUsed n (d.reg .RING_DB s) ≤ d.ringSize s then d.setReg .RING_DB s n
  else ((d.count 0x44 6).raise F.HOST_EVENT_DB_INVALID).ringRec 0x0C01 4 s

def execRingDb (m : Fin 32) (s : Fin 136) (w : Word) (st : State) : Out :=
  st.write m .RING_DB s w.toNat (fun d w => d.ringDb s w)

/-- A write of RING_CFG (R302, R304). -/
def Dev.ringCfg (d : Dev) (s w : Nat) : Dev :=
  let was := d.on F.RING_CFG_EN s
  let d := d.store .RING_CFG s w
  if was ∨ d.on F.RING_CFG_EN s = false then d
  else
    let fn := d.get F.RING_OWNER_FUNC s
    if d.get F.CQ_OWNER_FUNC (d.get F.RING_CFG_CQ s) ≠ fn ∨ d.dmaOk fn (d.ringBase s) (32 * d.ringSize s) false = false then
      (d.set F.RING_CFG_EN s 0).cfgRefused s (.ring s)
    else
      let d := { d with rings := d.rings.put s { (default : Ring) with drop := (d.rings.get s).drop } }
      (d.setReg .RING_DB s 0).setReg .RING_CONS s 0

def execRingEnable (m : Fin 32) (s : Fin 136) (w : Word) (st : State) : Out :=
  st.write m .RING_CFG s w.toNat (fun d w => d.ringCfg s w)

/-- A write of CQ_CFG (R304): it cannot be disabled under an enabled submission ring. -/
def Dev.cqCfg (d : Dev) (k w : Nat) : Dev :=
  let was := d.on F.CQ_CFG_EN k
  if was ∧ w % 2 = 0 ∧ (List.range 136).any (fun s => d.on F.RING_CFG_EN s && d.get F.RING_CFG_CQ s == k) = true then
    d.cfgRefused k (.cq k)
  else
    let d := d.store .CQ_CFG k w
    if !was && d.on F.CQ_CFG_EN k then ((d.setReg .CQ_PROD k 0).setReg .CQ_CONS k 0).cqSettle k else d

def execCqEnable (m : Fin 32) (k : Fin 8) (w : Word) (st : State) : Out :=
  st.write m .CQ_CFG k w.toNat (fun d w => d.cqCfg k w)

/-! ## Completions (R312, R315, R316) -/

/-- CQ_CONS: the stash drains first; jobs that waited for credit start. -/
def Dev.cqCons (d : Dev) (k w : Nat) : Dev :=
  let d := (Dev.drainStash 8 (d.setReg .CQ_CONS k (w % 65536)) k).rxConsumed
  (List.range 136).foldl (fun d s => if d.get F.RING_CFG_CQ s = k then d.startJob s else d) d

def execCqConsWrite (m : Fin 32) (k : Fin 8) (w : Word) (st : State) : Out :=
  st.writeAt atRelease m .CQ_CONS k w.toNat (fun d w => d.cqCons k w)

/-- INT_TIME µs have passed since the first unsignalled completion (R316). -/
def Dev.intTime (d : Dev) (k : Nat) : Dev :=
  let q := d.cqs.get k
  let t := d.get F.CQ_CFG_INT_TIME k
  if t ≠ 0 ∧ q.sinceInt ≠ 0 ∧ q.firstAt + t * 1500 ≤ d.cycle + 1 then d.cqInterrupt k else d

def execIntTimeExpire (k : Fin 8) (s : State) : Out := s.later 12 0 (·.intTime k)

/-! ## RX delivery (R311, R312) -/

/-- The RX ring of a copy: that of its sampler, or HOST_RX_MAP's; none where the entry is off (R311, R329). -/
def Dev.rxRing (d : Dev) (c : Copy) : Nat × Bool :=
  if c.kind = 3 then (64 + d.get F.SAMPLER_CFG_SAMPLE_RING c.cls, true)
  else
    let f := d.frames.get c.frame
    let g := if f.port < 256 then d.get F.PARSER_PORT_CFG_PORT_GRP f.port else 0
    let b := d.reg .HOST_RX_MAP (2 * g + c.tc / 4) / 2 ^ (8 * (c.tc % 4)) % 256
    (64 + b % 64, decide (128 ≤ b))

/-- A copy for a ring is discarded (R311). -/
def Dev.rxDrop (d : Dev) (s : Nat) (c : Copy) : Dev :=
  let r := d.rings.get s
  let d := { d with rings := d.rings.put s { r with drop := min (r.drop + 1) 0xFFFFFFFF } }.count 0x44 2 1 { tc := some c.tc }
  let d := (d.raiseFirst F.HOST_EVENT_RX_RING_DROP 0 0 secCycles).ringRec 0x0C04 2 s
  (if c.kind = 3 then d.sampleLost c.cls else d).consume c.frame

/-- Consecutive posted buffers for `n` bytes: how many, none where they are too few. -/
def bufsFor : List (Nat × Desc) → Nat → Option Nat
  | [], n => if n = 0 then some 0 else none
  | b :: r, n => if n ≤ b.2.len then some 1 else (bufsFor r (n - b.2.len)).map (· + 1)

/-- The 32 bytes of metadata (R312). -/
def metaBytes (f : FrameRec) (c : Copy) : List Byte :=
  leBytes 2 f.pt ++ leBytes 8 (f.pt / 65536) ++ leBytes 2 (f.port % 512 + 512 * c.tc + 4096 * c.colour + 16384 * f.pipe) ++
    leBytes 2 f.len ++ leBytes 2 f.plate ++ leBytes 4 (match f.stream with | some s => s % 16384 + 16384 | none => 0) ++
    leBytes 4 (recFlags f c f.readBytes.length false) ++ leBytes 4 (f.tb0 / 65536) ++ leBytes 4 (f.tb1 / 65536)

/-- Writes bytes into posted buffers, in order. -/
def Dev.writeBufs (d : Dev) (fn : Nat) (bs : List (Nat × Desc)) (bytes : List Byte) : Dev × Bool :=
  (bs.foldl (fun (x : (Dev × Bool) × List Byte) b =>
    if x.1.2 = false then x
    else
      let part := x.2.take b.2.len
      let y := x.1.1.dmaCheck fn b.2.addr part.length true
      ((if y.2 then y.1.emit (.dma fn b.2.addr part) else y.1, y.2), x.2.drop b.2.len)) ((d, true), bytes)).1

/-- A copy is written to an RX ring and completed. -/
def Dev.rxWrite (d : Dev) (s : Nat) (c : Copy) (n : Nat) (bytes : List Byte) : Dev :=
  let f := d.frames.get c.frame
  let r := d.rings.get s
  let bs := r.fetched.take n
  let d := { d with rings := d.rings.put s { r with fetched := r.fetched.drop n } }
  let h : Nat × Desc := bs.headD (0, default)
  let done : Compl :=
    { tag := h.2.tag, index := h.1, ring := s, status := 0, bufs := n - 1, len := bytes.length, port := f.port, tc := c.tc
      marks := b2n c.integ + 2 * b2n f.fcsBad + 4 * b2n f.mark + 8 * b2n f.oversize, ts := f.pt / 65536 % 2 ^ 32, frame := c.frame }
  let x := (d.cqReserve (d.get F.RING_CFG_CQ s)).writeBufs (d.get F.RING_OWNER_FUNC s) bs bytes
  if x.2 then ((x.1.count 0x44 1 1 { tc := some c.tc }).delivered c).complete s done else x.1.dmaFail s done

/-- RX_DELIVER: the next copy of port 256 leaves its queue; its ring may fetch the buffers `es` for it. -/
def Dev.rxDeliver (d : Dev) (es : List Desc) (us : List Upset) : Dev :=
  match d.takeHead 256 255 us with
  | (d, none) => d
  | (d, some c) =>
    let x := d.rxRing c
    let s := x.1
    let fn := d.get F.RING_OWNER_FUNC s
    if d.isFrozen fn then ((d.count 0x44 3 1 { tc := some c.tc }).consume c.frame)
    else if !x.2 || d.on F.RING_CFG_EN s = false || !d.cqCredit (d.get F.RING_CFG_CQ s) then d.rxDrop s c
    else
      let d := d.fetchAll s es
      let f := d.frames.get c.frame
      let bytes := (if d.on F.RING_CFG_META_EN s then metaBytes f c else []) ++ f.readBytes
      match bufsFor (d.rings.get s).fetched bytes.length with
      | some n => if d.isFrozen fn then (d.count 0x44 3 1 { tc := some c.tc }).consume c.frame else d.rxWrite s c n bytes
      | none => d.rxDrop s c

def execRxDeliver (es : List Desc) (s : State) (us : List Upset := []) : Out := s.actAt (fun _ => atSend) (·.rxDeliver es us)

/-! ## Function-level reset (R323) -/

/-- A submission ring stops and its configuration returns to reset; its copies and jobs in progress are discarded: a copy whose
completion waited for a frozen function has been consumed (R116). -/
def Dev.ringReset (d : Dev) (s : Nat) : Dev :=
  let regs : List RegName := [.RING_BASE_LO, .RING_BASE_HI, .RING_CFG, .RING_DB, .RING_CONS]
  let d := regs.foldl (fun d r => d.setReg r s (regReset r s)) d
  let frames : Tbl FrameRec := d.frames.map (fun e => match e.2.txJob with
    | some (t, _) => if t = s then (e.1, { e.2 with txJob := none }) else e
    | none => e)
  let ids := (d.dmaFails ++ d.doneQ).filterMap (fun x => if x.1 = s ∧ x.2.frame ≠ 0 then some x.2.frame else none)
  { d with
    rxWritten := d.rxWritten ++ ids
    doneQ := d.doneQ.filter (fun x => x.1 != s)
    rings := d.rings.put s { (default : Ring) with drop := (d.rings.get s).drop }
    cmdJobs := d.cmdJobs.filter (fun j => j.ring != s)
    frames := frames
    dmaFails := d.dmaFails.filter (fun x => x.1 != s) }.rxConsumed

/-- A completion ring returns to reset; the copies whose completions it held are consumed. -/
def Dev.cqReset (d : Dev) (k : Nat) : Dev :=
  let q := d.cqs.get k
  let ids := (q.stash ++ q.heldC).filterMap (fun c => if c.frame = 0 then none else some c.frame)
  let regs : List RegName := [.CQ_BASE_LO, .CQ_BASE_HI, .CQ_CFG, .CQ_CONS, .CQ_PROD, .CQ_STATUS]
  let d := regs.foldl (fun d r => d.setReg r k (regReset r k)) { d with cqs := d.cqs.put k default }
  { d with rxWritten := d.rxWritten ++ ids }.rxConsumed

/-- What R323 does to a function; ownership, windows and grants are kept, and a freeze too. -/
def Dev.funcReset (d : Dev) (f : Nat) : Dev :=
  let d := (List.range 136).foldl (fun d s => if d.get F.RING_OWNER_FUNC s = f then d.ringReset s else d) d
  let d := (List.range 8).foldl (fun d k => if d.get F.CQ_OWNER_FUNC k = f then d.cqReset k else d) d
  let d := { d with heldW := d.heldW.filter (fun w => w.1 != f) }
  ([2 * f, 2 * f + 1] : List Nat).foldl (fun d c => (d.chanReset c).setReg .MB_EVENT c (d.reg .MB_EVENT c / 2 ^ 24 * 2 ^ 24)) d

/-- A function-level reset begins: a write of RING_DB or MB_POST by the function in the same core cycle is discarded (R327). -/
def Dev.flr (d : Dev) (f : Nat) : Dev := ({ d with flrAt := d.flrAt.put f (d.cycle + 1) }.funcReset f).setBit F.HOST_STATUS_FLR_BUSY 0 f true

def execFlr (f : Fin 8) (s : State) : Out := s.actAt (fun _ => atRelease) (·.flr f)

/-- It completes. -/
def Dev.flrDone (d : Dev) (f : Nat) : Dev :=
  if d.bit F.HOST_STATUS_FLR_BUSY 0 f then
    ((d.setBit F.HOST_STATUS_FLR_BUSY 0 f false).raise F.HOST_EVENT_FLR_DONE).record { code := 0x0C06, sev := 2, a0 := f }
  else d

def execFlrDone (f : Fin 8) (s : State) : Out := s.later 12 0 (·.flrDone f)

/-! ## The link (R298, R320, R478) -/

/-- The endpoint is out of reset and may train. -/
def execPciePerstNRelease (s : State) : Out := s.later 12 0 (fun d => { d with linkReset := true })

/-- Training completes. -/
def Dev.pcieUp (d : Dev) (width speed : Nat) : Dev :=
  if d.linkReset ∧ 1 ≤ width ∧ width ≤ 3 ∧ speed < 4 then
    (d.set F.HOST_STATUS_LINK_WIDTH 0 width).set F.HOST_STATUS_LINK_SPEED 0 speed
  else d

def execPcieLinkUp (width speed : Nat) (s : State) : Out := s.later 12 0 (·.pcieUp width speed)

/-- The host link leaves L0: the epochs of the functions' channels advance (R320). -/
def Dev.pcieDown (d : Dev) : Dev :=
  if d.on F.HOST_STATUS_LINK_WIDTH then
    let d := (d.set F.HOST_STATUS_LINK_WIDTH 0 0).set F.HOST_STATUS_LINK_SPEED 0 0
    (List.range 16).foldl Dev.chanReset ((d.raise F.HOST_EVENT_PCIE_LINK_DOWN).record { code := 0x0C07, sev := 5 })
  else d

def execPcieLinkDown (s : State) : Out := s.later 13 60 (·.pcieDown)

def execPcieAerError (s : State) : Out := s.later 12 0 (·.record { code := 0x0C08, sev := 5 })

/-- PCIE_PERST_N low (0), a hot reset (1) or link disable (2): R323 for all eight functions; a link that was up leaves L0. -/
def Dev.hostReset (d : Dev) (kind : Nat) : Dev :=
  let up := d.on F.HOST_STATUS_LINK_WIDTH
  let d := (List.range 8).foldl (fun d f => d.funcReset f)
    ((d.set F.HOST_STATUS_LINK_WIDTH 0 0).set F.HOST_STATUS_LINK_SPEED 0 0)
  let d := { d with linkReset := decide (kind ≠ 0) && d.linkReset }
  if up then (d.raise F.HOST_EVENT_PCIE_LINK_DOWN).record { code := 0x0C07, sev := 5 } else d

def execHostLinkReset (kind : Fin 3) (s : State) : Out := s.later 13 60 (·.hostReset kind)

/-! ## Mailboxes (R317 to R321) -/

/-- MB_POST: the staged words are appended as one message. -/
def Dev.mbPost (d : Dev) (c w : Nat) : Dev :=
  if d.flrNow (d.sender c) then d else d.postReq c w ((List.range (w / 4096 % 16)).map (fun k => (d.chans.get c).stage.get k))

def execMbPost (m : Fin 32) (c : Fin 32) (w : Word) (s : State) : Out :=
  s.write m .MB_POST c w.toNat (fun d w => d.mbPost c w)

/-- The receiving core's clock runs again (R465). -/
def execCoreWake (n : Fin 4) (s : State) : Out :=
  s.later 13 0 (fun d => if d.bit F.PROMPTER_STATUS_CORE_UP 0 n then d.setBit F.GATE_STATUS_1_CORE_CLK_ON 0 n true else d)

/-- MB_RSP_POP: the head response is removed; messages that waited for room follow. -/
def Dev.mbPop (d : Dev) (c : Nat) : Dev :=
  let d := if (d.chans.get c).rsp.isEmpty then d else d.count 0x48 1
  let q := d.chans.get c
  Dev.pushRsp q.wait.length { d with chans := d.chans.put c { q with rsp := q.rsp.tail } } c

def execMbRspPop (m : Fin 32) (c : Fin 32) (s : State) : Out :=
  s.writeAt atPop m .MB_RSP_POP c 1 (fun d _ => d.mbPop c)

/-! ## SFI commands (R328) -/

def execFuncWindowSet (rq : Sfi) (x : WindowArgs) (s : State) : Out :=
  s.sfi rq 0xC10 3 (fun d _ =>
    if ¬ (x.fn < 8 ∧ x.win < 8 ∧ 12 ≤ x.log2 ∧ x.log2 ≤ 48 ∧ x.base < 2 ^ 64 ∧ x.base % 2 ^ x.log2 = 0) then (d, .invalid)
    else
      let k := x.fn * 8 + x.win
      ((d.cfg .WIN_HI k (x.base / 2 ^ 32)).cfg .WIN_LO k
        (b2n x.en + 2 * b2n x.rd + 4 * b2n x.wr + 8 * x.log2 + x.base % 2 ^ 32 / 4096 * 4096), .ok))

def execFuncGrant (rq : Sfi) (fn : Nat) (cfgWrite direct : Bool) (s : State) : Out :=
  s.sfi rq 0xC11 3 (fun d _ => okIf (decide (fn < 8)) d (d.cfg .FUNC_PERM fn (b2n cfgWrite + 2 * b2n direct)))

def execRingAssign (rq : Sfi) (isCq : Bool) (ring fn : Nat) (s : State) : Out :=
  s.sfi rq 0xC12 3 (fun d _ =>
    if ¬ (fn < 8 ∧ ring < (if isCq then 8 else 136)) then (d, .invalid)
    else if (if isCq then d.on F.CQ_CFG_EN ring else d.on F.RING_CFG_EN ring) = true then (d, .busy 9)
    else (d.cfg (if isCq then .CQ_OWNER else .RING_OWNER) ring fn, .ok))

def execRxMapSet (rq : Sfi) (grp tc ring : Nat) (en : Bool) (s : State) : Out :=
  s.sfi rq 0xC13 2 (fun d _ =>
    let i := 2 * grp + tc / 4
    let lo := 8 * (tc % 4)
    okIf (decide (grp < 16 ∧ tc < 8 ∧ ring < 64)) d (d.cfg .HOST_RX_MAP i (withBits (d.reg .HOST_RX_MAP i) (lo + 7) lo (ring + 128 * b2n en))))

/-- MBOX_CHANNEL_SET (R317, R333): SENDER belongs to channels 24 to 31, RX_CORE of 16 to 19 and 24 to 31 stays core 0. -/
def execMboxChannelSet (rq : Sfi) (c : Nat) (sender : Option Nat) (prio core vector : Nat) (s : State) : Out :=
  s.sfi rq 0xC14 3 (fun d _ =>
    let fixed := decide (16 ≤ c ∧ c < 20 ∨ 24 ≤ c)
    let sok := match sender with | none => true | some x => decide (24 ≤ c ∧ (8 ≤ x ∧ x < 24 ∨ x = 31))
    if ¬ (c < 32 ∧ prio < 4 ∧ core < 4 ∧ vector < 16) ∨ sok = false ∨ (if fixed then core ≠ 0 else core = 0) then (d, .invalid)
    else (d.cfg .MB_CFG c (prio + 4 * core + 16 * (sender.getD (d.sender c)) + 512 * vector), .ok))

/-- MASTER_QUERY's words of a master: frozen, KIND and role; the address; the violations. -/
def Dev.masterRow (d : Dev) (m : Nat) : List Nat :=
  match d.frozen.get m with
  | some z => [m + 256 + 2 ^ 9 * z.kind + 2 ^ 12 * z.role, z.addr, d.violCnt.get m]
  | none => [m, 0, d.violCnt.get m]

def execMasterQuery (rq : Sfi) (m : Option Nat) (start : Nat) (s : State) : Out :=
  s.sfi rq 0xC15 0 (fun d _ =>
    match m with
    | some x => if 30 ≤ x then (d, .invalid) else (d, .okW (d.masterRow x))
    | none => (d, d.listing rq 0xC15 3 (((List.range 30).map (fun m => (m, d.masterRow m))).filter (fun e => decide (start ≤ e.1)))))

/-- A frozen master is let go (R326). -/
def Dev.unfreeze (d : Dev) (m : Nat) : Dev :=
  let d := { d with frozen := d.frozen.put m none }.setBit F.FROZEN_MASTERS_FROZEN 0 m false
  if m < 8 then d.setBit F.HOST_STATUS_FROZEN 0 m false
  else if m < 24 then
    (d.setBit F.STAGE_STATUS_RUNNING 0 (m - 8) (d.on F.CL_CFG_STEP (m - 8))).checkAllBounds
  else d

/-- RESUME of a function: held completions and writes leave, in order; failed jobs complete with DMA_ERR; a completion
whose ring is not covered is skipped. -/
def Dev.resumeFn (d : Dev) (m : Nat) : Dev :=
  let d := d.heldW.foldl (fun d w => if w.1 = m ∧ d.dmaOk m w.2.1 w.2.2.1.length true = true then d.dmaOut m w.2.1 w.2.2.1 w.2.2.2 else d)
    { d with heldW := d.heldW.filter (fun w => w.1 != m) }
  let d := (List.range 8).foldl (fun d k =>
    if d.get F.CQ_OWNER_FUNC k = m then
      let q := d.cqs.get k
      q.heldC.foldl (fun d c =>
        if d.dmaOk m (d.cqBase k) (16 * d.cqSize k) true then d.cqComplete c.ring c
        else
          let d := (d.set F.CQ_STATUS_RSV k (d.get F.CQ_STATUS_RSV k - 1)).cqSettle k
          { d with rxWritten := if c.frame = 0 then d.rxWritten else d.rxWritten ++ [c.frame] })
        { d with cqs := d.cqs.put k { q with heldC := [] } }
    else d) d
  let mine := d.dmaFails.filter (fun x => d.get F.RING_OWNER_FUNC x.1 == m)
  (mine.foldl (fun (d : Dev) x => d.complete x.1 x.2) { d with dmaFails := d.dmaFails.filter (fun x => d.get F.RING_OWNER_FUNC x.1 != m) }).rxConsumed

/-- The role of a channel lets it release a master frozen at `role` (R326). -/
def mayRelease (mine role : Nat) : Bool := decide (role < mine ∨ (role = 3 ∧ mine = 3))

/-- A master is let go with RESUME or with RESET. -/
def Dev.released (d : Dev) (m : Nat) (reset : Bool) : Dev :=
  let d := d.unfreeze m
  if reset then (if m < 8 then d.flr m else if m < 24 then d.engineReload (m - 8) else d)
  else if m < 8 then d.resumeFn m else d

/-- MASTER_RELEASE. -/
def Dev.masterRelease (d : Dev) (ch m : Nat) (reset : Bool) (role : Nat) : Dev × Ans :=
  match d.frozen.get m with
  | none => (d, .invalid)
  | some z =>
    if d.sender ch = m ∨ mayRelease role z.role = false then (d, .denied)
    else ((d.released m reset).record { code := 0x0E02, sev := 2, a0 := ch, a1 := b2n reset, obj := .chan ch }, .ok)

def execMasterRelease (rq : Sfi) (m : Nat) (reset : Bool) (s : State) : Out :=
  s.sfi rq 0xC16 0 (fun d role => d.masterRelease rq.ch m reset role)

end Sys2Proof.Machine
end

