-- ==== Sys2Proof/Machine/Sha.lean ====
section
/-! DEFINITION. HMAC-SHA-256, which R354 and R439 name: the hash of FIPS 180-4 and the construction of RFC 2104, standards the
spec does not print (PRESUMED, log entry 43). Words are numbers below 2^32; bytes stand most significant first. -/

namespace Sys2Proof.Machine

/-- Rotation of a 32-bit word to the right. -/
def rotr32 (n x : Nat) : Nat := (x >>> n ||| x <<< (32 - n)) % 2 ^ 32

/-- The round constants: the first 32 bits of the fractional parts of the cube roots of the first 64 primes. -/
def shaK : List Nat :=
  [0x428A2F98, 0x71374491, 0xB5C0FBCF, 0xE9B5DBA5, 0x3956C25B, 0x59F111F1, 0x923F82A4, 0xAB1C5ED5, 0xD807AA98,
   0x12835B01, 0x243185BE, 0x550C7DC3, 0x72BE5D74, 0x80DEB1FE, 0x9BDC06A7, 0xC19BF174, 0xE49B69C1, 0xEFBE4786,
   0x0FC19DC6, 0x240CA1CC, 0x2DE92C6F, 0x4A7484AA, 0x5CB0A9DC, 0x76F988DA, 0x983E5152, 0xA831C66D, 0xB00327C8,
   0xBF597FC7, 0xC6E00BF3, 0xD5A79147, 0x06CA6351, 0x14292967] ++
  [0x27B70A85, 0x2E1B2138, 0x4D2C6DFC, 0x53380D13, 0x650A7354, 0x766A0ABB, 0x81C2C92E, 0x92722C85, 0xA2BFE8A1,
   0xA81A664B, 0xC24B8B70, 0xC76C51A3, 0xD192E819, 0xD6990624, 0xF40E3585, 0x106AA070, 0x19A4C116, 0x1E376C08,
   0x2748774C, 0x34B0BCB5, 0x391C0CB3, 0x4ED8AA4A, 0x5B9CCA4F, 0x682E6FF3, 0x748F82EE, 0x78A5636F, 0x84C87814,
   0x8CC70208, 0x90BEFFFA, 0xA4506CEB, 0xBEF9A3F7, 0xC67178F2]

/-- The initial hash value: likewise of the square roots of the first 8 primes. -/
def shaInit : List Nat :=
  [0x6A09E667, 0xBB67AE85, 0x3C6EF372, 0xA54FF53A, 0x510E527F, 0x9B05688C, 0x1F83D9AB, 0x5BE0CD19]

/-- The message schedule, newest word first, extended `n` times. -/
def shaExtend : Nat → List Nat → List Nat
  | 0, w => w
  | n + 1, w =>
    let a := w.getD 14 0
    let b := w.getD 1 0
    let s0 := rotr32 7 a ^^^ rotr32 18 a ^^^ (a >>> 3)
    let s1 := rotr32 17 b ^^^ rotr32 19 b ^^^ (b >>> 10)
    shaExtend n ((w.getD 15 0 + s0 + w.getD 6 0 + s1) % 2 ^ 32 :: w)

/-- One round on the eight working words, with its constant and schedule word. -/
def shaRound (h : List Nat) (k w : Nat) : List Nat :=
  match h with
  | [a, b, c, d, e, f, g, x] =>
    let t1 := x + (rotr32 6 e ^^^ rotr32 11 e ^^^ rotr32 25 e) + ((e &&& f) ^^^ ((2 ^ 32 - 1 - e) &&& g)) + k + w
    let t2 := (rotr32 2 a ^^^ rotr32 13 a ^^^ rotr32 22 a) + ((a &&& b) ^^^ (a &&& c) ^^^ (b &&& c))
    [(t1 + t2) % 2 ^ 32, a, b, c, (d + t1) % 2 ^ 32, e, f, g]
  | _ => h

/-- The compression of one block of 64 bytes. -/
def shaBlock (h : List Nat) (b : List Byte) : List Nat :=
  let w := (shaExtend 48 ((List.range 16).map (fun k => be b (4 * k) 4)).reverse).reverse
  let r := (shaK.zip w).foldl (fun h x => shaRound h x.1 x.2) h
  (h.zip r).map (fun x => (x.1 + x.2) % 2 ^ 32)

/-- SHA-256 of a string of bytes, as eight words. -/
def sha256 (m : List Byte) : List Nat :=
  let b := m ++ [0x80] ++ List.replicate ((119 - m.length % 64) % 64) 0 ++ beBytes 8 (8 * m.length)
  (List.range (b.length / 64)).foldl (fun h k => shaBlock h ((b.drop (64 * k)).take 64)) shaInit

/-- HMAC-SHA-256 of a message of bytes under a key of up to 64 bytes, as eight words. -/
def hmacSha256 (key msg : List Byte) : List Nat :=
  let k := key ++ List.replicate (64 - key.length) 0
  sha256 (k.map (· ^^^ 0x5C) ++ (sha256 (k.map (· ^^^ 0x36) ++ msg)).flatMap (beBytes 4))

/-- The same with key and message as words. -/
def hmacWords (key msg : List Nat) : List Nat := hmacSha256 (key.flatMap (beBytes 4)) (msg.flatMap (beBytes 4))

end Sys2Proof.Machine
end

