-- ==== Sys2Proof/Machine/Prompter.lean ====
section
/-! DEFINITION. The Prompter (R333 to R347, R354 to R356): boot and recovery, restarts, core resets, held targets, the
startup configuration, frames of port 257, and the SFI commands of the system and session groups. -/

namespace Sys2Proof.Machine

/-- A record of the PROMPTER block (R369). -/
def Dev.fwRec (d : Dev) (code sev a0 a1 : Nat) : Dev := d.record { code := code, sev := sev, a0 := a0, a1 := a1, fw := true }

/-- The Prompter writes flash at an offset (R338). -/
def Dev.flashWrite (d : Dev) (off : Nat) (words : List Nat) : Dev := d.emit (.flash 0 off words)

/-- The directory is written to the copy not last written (R338). -/
def Dev.dirWrite (d : Dev) : Dev :=
  let s := d.dirSeq + 1
  { d with dirSeq := s }.flashWrite (s % 2 * 65536) [s, d.prefSlot, d.trialSlot, d.trialCount]

/-! ## Restart and resets of cores (R335, R346, R347) -/

/-- Command-ring jobs in progress send no completion (R346); the place they held in their completion ring is free. -/
def Dev.dropCmdJobs (d : Dev) : Dev :=
  d.cmdJobs.foldl (fun (d : Dev) j =>
    let k := d.get F.RING_CFG_CQ j.ring
    (d.set F.CQ_STATUS_RSV k (d.get F.CQ_STATUS_RSV k - 1)).cqSettle k) { d with cmdJobs := [] }

/-- The SFI opcode whose target core 0 holds. -/
def heldOp (kind : Nat) : Nat := if kind = 0 then 0x206 else if kind = 1 then 0x511 else if kind = 3 then 0xB07 else 0x305

/-- A held target is lost (R346). -/
def Dev.heldLost (d : Dev) (h : HeldTarget) : Dev := d.fwRec 0x0E13 4 (heldOp h.kind) (h.target / 65536)

/-- A Prompter restart (R346): 1 SYS_RESET, 2 FW_ACTIVATE, 3 the core 0 watchdog, 4 SRAM, 5 PROMPTER_CMD, 6 CONFIRM_TIME
(the numbers are the model's, log entry 30). A plate commit with HOLD waits for READY. 7 is a curtain action. -/
def Dev.promptRestart (d : Dev) (cause : Nat) : Dev :=
  let d := (d.raise F.PROMPTER_EVENT_PROMPTER_RESTART).fwRec 0x0E06 5 cause 0
  let d := if d.on F.PROMPTER_STATUS_DEGRADED then { d.set F.PROMPTER_STATUS_DEGRADED 0 0 with restarts := [] } else d
  let d := (List.range 32).foldl (fun d c => (d.endSession c 4).receiverReset c) d
  let d := { d.dropCmdJobs with pendQ := [], jobs := [] }
  let hold := d.heldT.any (fun h => h.kind == 3)
  let d := (d.heldT.filter (fun h => h.kind != 2)).foldl Dev.heldLost { d with heldT := d.heldT.filter (fun h => h.kind == 2) }
  let d := if hold then { d with action := none } else d
  let d := { d with bootAt := d.cycle, restartBoot := true, resetReq := 0, fwBegun := false, stagedSlot := none, turnCh := [] }
  (((d.set F.PROMPTER_STATUS_BOOT_STATE 0 1).set F.PROMPTER_STATUS_CORE_UP 0 0).set F.GATE_STATUS_1_CORE_CLK_ON 0 0).count 0x4C 7

/-- Core `n` of 1 to 3 is reset: 1 its heartbeat, 2 SRAM (R335, R336). Requests it had taken are gone; sessions stay. -/
def Dev.coreReset (d : Dev) (n cause : Nat) : Dev :=
  let d := ((d.raise F.PROMPTER_EVENT_CORE_RESET).fwRec 0x0E05 5 n cause).count 0x4C 7
  let d := (List.range 32).foldl (fun d c => if d.rxCore c = n then d.receiverReset c else d)
    { d with pendQ := d.pendQ.filter (fun q => q.core != n) }
  (d.setBit F.PROMPTER_STATUS_CORE_UP 0 n false).setBit F.GATE_STATUS_1_CORE_CLK_ON 0 n false

/-- Core 0's check every 10 ms: `beats` names the cores that have shown a heartbeat since the last. -/
def Dev.heartbeats (d : Dev) (beats : Nat) : Dev :=
  if !d.core0Up || !d.past d.beatAt (10 * msCycles) then d
  else ([1, 2, 3] : List Nat).foldl (fun (d : Dev) n =>
    if d.bit F.PROMPTER_STATUS_CORE_UP 0 n = false then d
    else if beats / 2 ^ (n - 1) % 2 = 1 then { d with beat := d.beat.put n d.cycle }
    else if d.beat.get n + 100 * msCycles ≤ d.cycle then d.coreReset n 1 else d) { d with beatAt := d.cycle }

def execCoreHeartbeatCheck (beats : Fin 8) (s : State) : Out := s.later 14 0 (·.heartbeats beats)

/-- A core that was reset comes back up. -/
def Dev.coreBack (d : Dev) (n : Nat) : Dev :=
  if d.core0Up && n != 0 && !d.bit F.PROMPTER_STATUS_CORE_UP 0 n then
    ({ d with beat := d.beat.put n d.cycle }.setBit F.PROMPTER_STATUS_CORE_UP 0 n true).setBit F.GATE_STATUS_1_CORE_CLK_ON 0 n true
  else d

def execCoreResetDone (n : Fin 4) (s : State) : Out := s.later 14 0 (·.coreBack n)

/-- Core 0's watchdog, 50 ms without a heartbeat: a restart, or on the third within 600 s a halt with DEGRADED (R335). -/
def Dev.core0Dog (d : Dev) : Dev :=
  if !d.core0Up || !d.past d.readyAt (50 * msCycles) then d
  else
    let recent := d.restarts.filter (fun t => decide (d.cycle < t + 600 * secCycles)) ++ [d.cycle]
    let d := { d with restarts := recent }
    if recent.length < 3 then d.promptRestart 3
    else
      let d := ((d.set F.PROMPTER_STATUS_DEGRADED 0 1).set F.PROMPTER_STATUS_CORE_UP 0 0).set F.GATE_STATUS_1_CORE_CLK_ON 0 0
      (d.raise F.PROMPTER_EVENT_DEGRADED).fwRec 0x0E07 6 0 0

def execCore0WatchdogExpire (s : State) : Out := s.later 14 0 (·.core0Dog)

/-- An SRAM error (R336). -/
def Dev.sramError (d : Dev) (n : Nat) (corrected image : Bool) : Dev :=
  if corrected then
    ((d.satCount .SRAM_ECC_CORR 0).raiseFirst F.PROMPTER_EVENT_SRAM_ECC_CORR 0 0 secCycles).recordOnce secCycles
      { code := 0x0E0E, sev := 1, a0 := n, fw := true }
  else
    let d := ((d.satCount .SRAM_ECC_UNCORR 0).raise F.PROMPTER_EVENT_SRAM_ECC_UNCORR).fwRec 0x0E0F 5 n 0
    if !d.core0Up then d else if n = 0 ∨ image = true then d.promptRestart 4 else d.coreReset n 2

def execSramEccError (n : Fin 4) (corrected image : Bool) (s : State) : Out := s.later 14 0 (·.sramError n corrected image)

/-- Core 0's load, that has stood above 80 % for 1 s (R337), is told of once while it lasts. -/
def Dev.overload (d : Dev) (load : Nat) : Dev :=
  if load ≤ 80 then { d with loadHigh := none, loadTold := false }
  else
    let t := d.loadHigh.getD d.cycle
    let d := { d with loadHigh := some t }
    if d.past t secCycles && !d.loadTold then ({ d with loadTold := true }.raise F.PROMPTER_EVENT_CORE0_OVERLOAD).fwRec 0x0E0D 5 0 0
    else d

/-- The loads the firmware measured, LOAD in % and SERVICE in µs by core (R337, R358): core 0's as R337 judges it. -/
def Dev.loadCheck (d : Dev) (loads : List (Nat × Nat)) : Dev :=
  let d := (List.range 4).foldl (fun d n =>
    let x := loads.getD n (0, 0)
    (d.set F.CORE_LOAD_LOAD n (min x.1 100)).set F.CORE_LOAD_SERVICE n (if n = 0 then 0 else min x.2 65535)) d
  d.overload (loads.getD 0 (0, 0)).1

def execCore0LoadCheck (loads : List (Nat × Nat)) (s : State) : Out :=
  s.later 14 0 (fun d => if d.core0Up then d.loadCheck loads else d)

/-- RESTART in PROMPTER_CMD (R347). -/
def execPrompterCmdRestart (m : Fin 32) (s : State) : Out :=
  s.write m .PROMPTER_CMD 0 1 (fun d _ => d.promptRestart 5)

/-- No FW_CONFIRM within CONFIRM_TIME of READY (R345). -/
def Dev.confirmExpire (d : Dev) : Dev :=
  if d.on F.PROMPTER_STATUS_TRIAL && d.core0Up && decide (d.readyAt + d.get F.PROMPTER_CTRL_CONFIRM_TIME * secCycles ≤ d.cycle) then
    ((({ d with trialSlot := 0, trialCount := 0 }.dirWrite).raise F.PROMPTER_EVENT_FW_REVERTED).fwRec 0x0E12 5 0 0).promptRestart 6
  else d

def execConfirmTimeExpire (s : State) : Out := s.actAt (fun _ => atExpiry) (·.confirmExpire)

/-! ## Boot (R339 to R343) -/

/-- The cause an image fails for: its own checks, then its SVN against OTP's. -/
def Dev.imageCause (d : Dev) (im : ImageArgs) : Nat := if im.cause ≠ 0 then im.cause else if im.svn < d.otpSvn then 5 else 0

/-- The slot tried first (R340), and whether it is a trial. -/
def Dev.bootSlot (d : Dev) : Dev × Nat × Bool :=
  if d.trialSlot = 0 then (d, d.prefSlot, false)
  else if d.trialCount < 3 then
    let d := { d with trialCount := d.trialCount + 1 }.dirWrite
    (d, d.trialSlot - 1, true)
  else
    let d := ({ d with trialSlot := 0, trialCount := 0 }.dirWrite.raise F.PROMPTER_EVENT_FW_REVERTED).fwRec 0x0E12 5 0 0
    (d, d.prefSlot, false)

/-- The stagehand programs of the image (R264, R273): the loaded ones, and a record for each that fails. A program that was
loaded before a restart keeps its default verdict (R346). -/
def Dev.loadPrograms (d' : Dev) (im : ImageArgs) : Dev :=
  let ps := im.progs.filter (fun x => decide (1 ≤ x.1 ∧ x.1 < 64))
  let d := (List.range 64).foldl (fun (d : Dev) n => (d.set F.PROG_CFG_LOADED n 0).set F.PROG_CFG_VERSION n 0)
    { d' with imem := (List.range 16).map (fun c => (c, ps)) }
  let d := ps.foldl (fun (d : Dev) x =>
    let d := (d.set F.PROG_CFG_LOADED x.1 1).set F.PROG_CFG_VERSION x.1 x.2
    if d'.on F.PROG_CFG_LOADED x.1 then d else d.set F.PROG_CFG_DEFAULT x.1 (defVerdict x.1)) d
  im.bad.foldl (fun (d : Dev) n => d.record { code := 0x0A06, sev := 5, a0 := n, fw := true }) d

/-- READY's words (R343). -/
def Dev.readyWords (d : Dev) : List Nat :=
  [0, d.reg .FW_VERSION, d.get F.PROMPTER_STATUS_SLOT + 2 * d.get F.PROMPTER_STATUS_TRIAL + 4 * d.get F.PROMPTER_STATUS_FALLBACK
    + 8 * b2n d.restartBoot + 16 * d.get F.PROMPTER_STATUS_CFG_STATE, d.get F.FW_SVN_IMAGE, d.reg .BOOT_TIME]

/-- A table's place takes the saved value, or is emptied where none is saved. -/
def Tbl.fromSaved {α : Type} [Inhabited α] [DecidableEq α] (t saved : Tbl α) (k k' : Nat) : Tbl α := t.put k (saved.get k')

/-- A key of a table with two versions, as another version's table of this size holds it. -/
def versionKey {α : Type} (saved : Tbl α) (size i : Nat) : Nat := i % size + size * ((saved.keys.headD 0) / size)

/-- A place whose parity fails takes the startup configuration's value (R346). A dynamic FDB entry goes (R151). -/
def Dev.startPlace (d : Dev) (x : Startup) (c : Nat) : Dev :=
  let i := c % 2 ^ 32
  let m := 2 ^ d.activePlate
  let d := d.mend (c / 2 ^ 32) i
  match c / 2 ^ 32 with
  | 0 => { d with rules := d.rules.fromSaved (x.rules.map (fun e => (e.1, { e.2 with mask := m }))) i i }
  | 1 => { d with fdb := d.fdb.fromSaved (x.statics.map (fun e => (e.1, { e.2 with mask := m }))) i i }
  | 2 => { d with routes := d.routes.fromSaved (x.routes.map (fun e => (e.1, { e.2 with mask := m }))) i i }
  | 3 => { d with nexthops := d.nexthops.fromSaved x.nexthops i (versionKey x.nexthops 8192 i) }
  | 4 => { d with groups := d.groups.fromSaved x.groups i (versionKey x.groups 16384 i) }
  | 5 => { d with streams := d.streams.put i (let y := x.streams.get i; if y.valid then y.anew else y) }
  | 6 => { d with express := d.express.fromSaved x.express i i }
  | 7 => { d with policers := d.policers.put i (let y := x.policers.get i; if y = default then y else y.anew d.cycle) }
  | 8 => { d with edits := d.edits.fromSaved x.edits i (versionKey x.edits 16384 i) }
  | _ => { d with clOper := d.clOper.fromSaved x.cues i i }

/-- After READY of a restart: registers and table entries whose parity fails take the startup configuration's value, and a
plate commit with HOLD is disarmed and its shadow aborted (R346). -/
def Dev.afterRestart (d : Dev) : Dev :=
  let start : Tbl Word := match d.startup with | some x => x.regs | none => []
  let d := d.shadow.foldl (fun (d : Dev) e =>
    match regAt e.1 with
    | some (r, i) => d.setReg r i (start.getD (BitVec.ofNat 32 (regReset r i)) e.1).toNat
    | none => d) { d with shadow := [] }
  let d := d.corrupt.foldl (fun d c => d.startPlace (d.startup.getD default) c) d
  match d.heldT.find? (fun h => h.kind == 2) with
  | some h => ({ d with heldT := [] }.heldLost h).plateAbort
  | none => d

/-- The firmware starts from a slot; its shadow copies are what the registers hold (R341, R346). -/
def Dev.bootRun (d : Dev) (slot : Nat) (trial fallback : Bool) (im : ImageArgs) : Dev :=
  let d := ((d.set F.PROMPTER_STATUS_SLOT 0 slot).set F.PROMPTER_STATUS_TRIAL 0 (b2n trial)).set F.PROMPTER_STATUS_FALLBACK 0 (b2n fallback)
  let d := ((d.set F.PROMPTER_STATUS_BOOT_STATE 0 2).set F.PROMPTER_STATUS_CORE_UP 0 15).set F.GATE_STATUS_1_CORE_CLK_ON 0 15
  let d := (d.setReg .FW_VERSION 0 im.version).setReg .FW_SVN 0 (im.svn % 65536 + 65536 * d.otpSvn)
  let d := d.setReg .BOOT_TIME 0 ((d.cycle - d.bootAt) / msCycles)
  let d := d.loadPrograms im
  let apply := !d.restartBoot && d.on F.PROMPTER_CTRL_AUTO_APPLY && d.startup.isSome
  let d := if d.restartBoot then d else d.set F.PROMPTER_STATUS_CFG_STATE 0 (b2n apply)
  let d := { d with readyAt := d.cycle, beat := [1, 2, 3].foldl (fun b n => b.put n d.cycle) d.beat }
  let d := d.fwRec 0x0E03 1 slot im.version
  let d := (List.range 17).foldl (fun d c => d.notify c 0x000 d.readyWords) d
  { (if d.restartBoot then d.afterRestart else d) with restartBoot := false, shadowLog := [], shadowLost := [] }

/-- Both slots fail: the recovery state (R342). -/
def Dev.bootFailed (d : Dev) (ca cb : Nat) : Dev :=
  let d := ((d.set F.PROMPTER_STATUS_BOOT_STATE 0 3).set F.PROMPTER_STATUS_CORE_UP 0 1).set F.GATE_STATUS_1_CORE_CLK_ON 0 1
  ([0, 1] : List Nat).foldl (fun d c => d.notify c 0x001 [0, ca, cb]) d

/-- What the hardware has done by the time the ROM has an image after a reset (R341): its PLLs have locked, and packet memory
stands. -/
def Dev.bootReady (d : Dev) : Dev :=
  if d.restartBoot then d else (d.setReg .PWR_STATUS 0 (withBits (d.reg .PWR_STATUS) 10 6 31)).resetCarve

/-- BOOT: the ROM tries the slots of R340; `a` and `b` are what the flash holds. After a reset the PLLs of PWR_STATUS have locked
(R341). -/
def Dev.boot (d : Dev) (a b : ImageArgs) : Dev :=
  if 2 ≤ d.get F.PROMPTER_STATUS_BOOT_STATE ∨ d.on F.STRAPS_TEST_EN = true then d
  else
    let x := d.bootReady.bootSlot
    let slot := x.2.1
    let im (n : Nat) : ImageArgs := if n = 0 then a else b
    let c1 := x.1.imageCause (im slot)
    if c1 = 0 then x.1.bootRun slot x.2.2 false (im slot)
    else
      let d := (x.1.raise F.PROMPTER_EVENT_BOOT_FALLBACK).fwRec 0x0E04 5 c1 0
      let c2 := d.imageCause (im (1 - slot))
      if c2 = 0 then d.bootRun (1 - slot) false true (im (1 - slot)) else d.bootFailed (d.imageCause a) (d.imageCause b)

def execBoot (a b : ImageArgs) (s : State) : Out := s.later 14 0 (·.boot a b)

/-! ## The startup configuration (R344) -/

/-- A register that the configuration holds: software's own, not a host's object, a command or an indirect access. -/
def cfgReg (r : RegName) : Bool :=
  let x := regInfo r
  (x.kind == .rw || x.kind == .rwk) && !x.acc.hostOwned && x.acc != .ctx && r != .GUARD_UNLOCK && r != .MB_CFG

/-- The part of the startup configuration a register belongs to: 0 ports, 1 time, 2 tables and plate, 3 streams, 4 queues,
5 stagehands, 6 Folio, and 7 whatever is left. -/
def cfgPart (addr : Nat) : Nat :=
  let s := ownerSlot addr
  if 1 ≤ s ∧ s ≤ 16 ∨ s = 0x20 ∨ s = 0x21 then 0
  else if s = 0x38 then 1
  else if s = 0x24 then 2
  else if s = 0x28 then 3
  else if 0x2C ≤ s ∧ s < 0x38 then 4
  else if s = 0x3C then 5
  else if s = 0x40 then 6
  else 7

/-- The running configuration. -/
def Dev.running (d : Dev) : Startup :=
  let v := d.activePlate % 2
  { regs := d.regs.filter (fun e => match regAt e.1 with | some (r, _) => cfgReg r | none => false)
    rules := d.rules.filter (fun e => bitAt e.2.mask d.activePlate)
    routes := d.routes.filter (fun e => bitAt e.2.mask d.activePlate)
    groups := d.groups.filter (fun e => e.1 / 16384 == v)
    nexthops := d.nexthops.filter (fun e => e.1 / 8192 == v)
    edits := d.edits.filter (fun e => e.1 / 16384 == v)
    statics := d.fdb.filter (fun e => e.2.isStatic && bitAt e.2.mask d.activePlate)
    vlans := d.vlans
    streams := d.streams
    express := d.express
    rpairs := d.rpairs
    cues := d.clAdmin
    policers := d.policers
    lldp := d.lldp
    profile := d.profile
    servoOn := d.servoOn
    eeeOver := d.eeeOver
    bindPre := d.bindPre
    bindPost := d.bindPost }

/-- Keys of one version of a table, moved to another. -/
def moveVersion {α : Type} (size v : Nat) (t : Tbl α) : Tbl α := t.map (fun e => (e.1 % size + size * v, e.2))

/-- A part of the startup configuration takes effect; tables go into the active plate. -/
def Dev.applyPart (d : Dev) (x : Startup) (part : Nat) : Dev :=
  let d := x.regs.foldl (fun (d : Dev) e =>
    if cfgPart e.1 = part then (match regAt e.1 with | some (r, i) => d.cfg r i e.2.toNat | none => d) else d) d
  let v := d.activePlate % 2
  let m := 2 ^ d.activePlate
  if part = 0 then ((List.range 256).foldl Dev.preRefresh { d with lldp := x.lldp, lldpAt := x.lldp.map (fun e => (e.1, d.cycle)), eeeOver := x.eeeOver }).checkAllBounds
  else if part = 1 then { d with profile := x.profile, servoOn := x.servoOn }
  else if part = 2 then
    { d with
      rules := x.rules.map (fun e => (e.1, { e.2 with mask := m }))
      routes := x.routes.map (fun e => (e.1, { e.2 with mask := m }))
      groups := moveVersion 16384 v x.groups
      nexthops := moveVersion 8192 v x.nexthops
      edits := moveVersion 16384 v x.edits
      fdb := x.statics.foldl (fun t e => t.put e.1 { e.2 with mask := m }) d.fdb
      vlans := x.vlans }
  else if part = 3 then (List.range 256).foldl (fun (d : Dev) p => if (d.tripStreams p).isEmpty then d else (d.trip169Set p).tripMarks p)
      { d with streams := x.streams.map (fun e => (e.1, e.2.anew)), express := x.express, rpairs := x.rpairs } |>.checkAllBounds
  else if part = 4 then { d with clAdmin := x.cues, policers := x.policers.map (fun e => (e.1, e.2.anew d.cycle)) }
  else if part = 5 then d.refillAll
  else if part = 6 then { d with bindPre := x.bindPre, bindPost := x.bindPost }
  else d

/-- CONFIG_AUTO_APPLY: the parts in order; `fail` names the part and the opcode of the first command that failed, what comes
before it stays in effect. CONFIG_APPLIED goes to channels 0 to 15. -/
def Dev.autoApply (d : Dev) (fail : Option (Nat × Nat)) : Dev :=
  match d.startup with
  | none => d
  | some x =>
    if d.get F.PROMPTER_STATUS_CFG_STATE ≠ 1 ∨ d.core0Up = false then d
    else
      let parts := (List.range 8).filter (fun k => match fail with | some f => decide (k < f.1) | none => true)
      let d := parts.foldl (fun d k => d.applyPart x k) d
      let d := d.set F.PROMPTER_STATUS_CFG_STATE 0 (if fail.isSome then 3 else 2)
      let op := match fail with | some f => f.2 | none => 0
      let d := if fail.isSome then d.fwRec 0x0E15 5 op 0 else d.fwRec 0x0E14 2 0 0
      (List.range 16).foldl (fun d c => d.notify c 0x00B [0, op]) d

def execConfigAutoApply (fail : Option (Nat × Nat)) (s : State) : Out := s.later 14 0 (·.autoApply fail)

/-! ## Core 0's tick (R333) -/

/-- The hardware compare of an open curtain action is armed (R449, R451): the timed commit, or the takeover of each port. -/
def Dev.domArm (d : Dev) : Dev :=
  match d.action with
  | some a =>
    if a.kind = 1 then d.plateArm a.t
    else if a.kind = 2 then ((List.range 256).filter (fun p => a.ports / 2 ^ p % 2 == 1)).foldl (fun d p =>
      ((d.cfg .CL_ADMIN_BASE_0 p (a.t % 2 ^ 32)).cfg .CL_ADMIN_BASE_1 p (a.t / 2 ^ 32 % 2 ^ 24)).cueArm p a.t) d
    else d
  | none => d

/-- A target of core 0 has come within 512 s: its compare is armed, and a TIO_SET completes. -/
def Dev.armHeld (d : Dev) (h : HeldTarget) : Dev :=
  if d.srcLt h.src + 512000000000 * 65536 < h.target then d
  else
    let d' := { d with heldT := d.heldT.erase h }
    if h.kind = 0 then
      let d := d'.tioTarget h.obj h.target
      match d.jobs.find? (fun j => j.op == 0x206 && j.ch == h.ch && j.tag == h.tag) with
      | some j => d.finishJob j .ok
      | none => d
    else if h.kind = 1 then d'.cueArm h.obj h.target
    else if h.kind = 3 then d'.domArm
    else d.plateUnhold

def execHeldTargetTick (s : State) : Out :=
  s.later 14 0 (fun d => if d.core0Up && d.past d.heldAt secCycles then d.heldT.foldl Dev.armHeld { d with heldAt := d.cycle } else d)

/-! ## Frames of port 257 (R334) -/

/-- The class of the domain agent's queue, as a mask. -/
def Dev.domMask (d : Dev) : Nat := if d.on F.DOM_CFG_DOM_EN then 2 ^ d.get F.DOM_CFG_DOM_TC else 0

/-- The TLVs of an LLDP frame: type and value, as IEEE 802.1AB lays them out (PRESUMED, log entry 31); at most `n`. -/
def lldpTlvs : Nat → List Byte → List (Nat × List Byte)
  | 0, _ => []
  | n + 1, b =>
    let h := be b 0 2
    if b.length < 2 ∨ h / 512 = 0 then [] else (h / 512, slice b 2 (h % 512)) :: lldpTlvs n (b.drop (2 + h % 512))

/-- The partner's EEE TLV resolves TW_TX (R49); its additional Ethernet capabilities give PARTNER_ADD_FRAG (R44). -/
def Dev.lldpTlv (p : Nat) (d : Dev) (t : Nat × List Byte) : Dev :=
  if t.1 ≠ 127 ∨ be t.2 0 3 ≠ 0x00120F then d
  else if be t.2 3 1 = 5 then { d.cfgF F.PORT_EEE_TW_TX p (be t.2 6 2) with eeeRes := d.eeeRes.put p true }
  else if be t.2 3 1 = 7 then d.cfgF F.PORT_PRE_PARTNER_ADD_FRAG p (be t.2 4 2 / 8 % 4)
  else d

/-- What the Prompter learns from a frame of a front-panel port: the partner's LLDP (R44, R49), an ESMC message's quality level
(R88; ITU-T G.8264's layout, PRESUMED, log entry 112). -/
def Dev.agentRead (d : Dev) (f : FrameRec) : Dev :=
  let p := f.parsed
  let b := f.bytes.drop (p.etOff + 2)
  if 256 ≤ f.port then d
  else if p.etype = 0x88CC then (lldpTlvs 256 b).foldl (Dev.lldpTlv f.port) d
  else if p.etype = 0x8809 ∧ be b 0 1 = 0x0A ∧ be b 10 1 = 1 then { d with esmcQl := d.esmcQl.put f.port (be b 13 1 % 16 + 1) }
  else d

/-- A core takes the next frame of its queues: core 0 of Q_6 and Q_7, core 2 of Q_0 to Q_5, the domain agent's queue apart. -/
def Dev.promptRx (d : Dev) (core : Nat) (us : List Upset) : Dev :=
  let set := (if core = 0 then 192 else if core = 2 then 63 else 0) - ((if core = 0 then 192 else 63) &&& d.domMask)
  if set = 0 ∨ core ≠ 0 ∧ core ≠ 2 ∨ d.bit F.PROMPTER_STATUS_CORE_UP 0 core = false then d
  else
    match d.takeHead 257 set us with
    | (d, none) => d
    | (d, some c) => (((d.delivered c).count 0x4C 5).agentRead (d.frames.get c.frame)).consume c.frame

def execPrompterRxFrame (core : Fin 4) (s : State) (us : List Upset := []) : Out := s.actAt (fun _ => atSend) (·.promptRx core us)

/-- A frame the Prompter sends enters pipe A as port 257 (R14), with a port and class of its own where it is not to be
classified. -/
def Dev.promptTx (d : Dev) (bytes : List Byte) (direct : Option (Nat × Nat)) : Dev :=
  let bytes := bytes ++ List.replicate (60 - bytes.length) 0
  let y := d.newFrame 257 0
  let f := { y.2.2 with bytes := bytes, len := bytes.length + 4, icrc := crc32c bytes, ended := true, direct := direct }
  (y.1.frameSet y.2.1 f).joinHold 257 y.2.1

/-- An LLDP frame of a port: chassis, port and TTL of IEEE 802.1AB (PRESUMED, log entry 31). -/
def lldpBytes (p interval : Nat) : List Byte :=
  beBytes 6 0x0180C200000E ++ beBytes 6 Config.deviceAddr ++ beBytes 2 0x88CC ++
    beBytes 2 0x0207 ++ beBytes 1 4 ++ beBytes 6 Config.deviceAddr ++ beBytes 2 0x0403 ++ beBytes 1 7 ++ beBytes 2 p ++
    beBytes 2 0x0602 ++ beBytes 2 (min 65535 (4 * interval)) ++ beBytes 2 0

def Dev.lldpTx (d : Dev) (p : Nat) : Dev :=
  if d.lldp.get p = 0 || !d.core0Up || !d.past (d.lldpAt.get p) (d.lldp.get p * secCycles) then d
  else
    let d := { d with lldpAt := d.lldpAt.put p d.cycle }
    if d.linkState p = 1 then d.promptTx (lldpBytes p (d.lldp.get p)) (some (p, 6)) else d

def execLldpTx (p : Fin 256) (s : State) : Out := s.later 14 0 (·.lldpTx p)

def execLldpSet (rq : Sfi) (port : Nat) (en : Bool) (interval : Nat) (s : State) : Out :=
  s.sfi rq 0x109 2 (fun d _ => okIf (decide (port < 256 ∧ 1 ≤ interval ∧ interval ≤ 3600)) d
    { d with lldp := d.lldp.put port (if en then interval else 0), lldpAt := d.lldpAt.put port d.cycle })

/-! ## System commands (R345, R360, R362) -/

/-- SYS_CAPS: words 1 to 9 of a page. The build number is not stated (a free value). -/
def Dev.capsPage (d : Dev) (page : Nat) : Dev × Ans :=
  if page = 0 then
    let x := d.draw 13
    (x.2, .okW [d.reg .FW_VERSION, d.get F.FW_SVN_IMAGE, d.otpSvn, x.1 % 2 ^ 32,
      d.get F.PROMPTER_STATUS_SLOT + 2 * d.get F.PROMPTER_STATUS_TRIAL, 0, 0, 0, 0])
  else if page ≤ 13 then
    let g := page - 1
    (d, .okW ((List.range 8).map (fun w => (List.range 32).foldl (fun v k =>
      v + 2 ^ k * b2n (opNeed (256 * g + 32 * w + k)).isSome) 0) ++ [0]))
  else if 16 ≤ page ∧ page ≤ 22 then
    (d, .okW ((List.range 9).map (fun i =>
      let n := 9 * (page - 16) + i + 1
      if d.on F.PROG_CFG_LOADED n then 1 + 2 ^ 20 * d.get F.PROG_CFG_VERSION n else 0)))
  else (d, .invalid)

def execSysCaps (rq : Sfi) (page : Nat) (s : State) : Out := s.sfi rq 0x002 0 (fun d _ => d.capsPage page)

/-- Uptime in s since the last boot's begin, and the open sessions. -/
def execSysQuery (rq : Sfi) (s : State) : Out :=
  s.sfi rq 0x003 0 (fun d _ =>
    (d, .okW ([d.reg .PROMPTER_STATUS] ++ (List.range 4).map (fun n => d.view .CORE_LOAD n) ++
      [(d.cycle - d.bootAt) / secCycles % 2 ^ 32, (d.sess.filter (fun e => e.2.isOpen)).length])))

/-- The slot that is not running. -/
def Dev.otherSlot (d : Dev) : Nat := 1 - d.get F.PROMPTER_STATUS_SLOT

def execFwUpdateBegin (rq : Sfi) (len : Nat) (s : State) : Out :=
  s.sfiKey rq 0x005 3 (fun d _ =>
    if 4194304 < len then (d, .invalid)
    else ({ d with fwBegun := true, stagedSlot := none }.flashWrite (0x100000 + 0x400000 * d.otherSlot) [], .pending))

/-- FW_UPDATE_WRITE: a command-ring job of at most 64 KiB inside the slot that FW_UPDATE_BEGIN erased. -/
def execFwUpdateWrite (rq : Sfi) (offset : Nat) (words : List Nat) (s : State) : Out :=
  s.sfi rq 0x006 3 (fun d _ =>
    okIf (rq.ring && d.fwBegun && decide (words.length ≤ 16384 ∧ offset + 4 * words.length ≤ 4194304)) d
      ({ d with stagedSlot := none }.flashWrite (0x100000 + 0x400000 * d.otherSlot + offset) words))

def execFwUpdateEnd (rq : Sfi) (s : State) : Out :=
  s.sfi rq 0x007 3 (fun d _ => if d.fwBegun then (d, .pending) else (d, .invalid))

/-- FW_ACTIVATE: the trial slot is the one written and verified; the restart, if now, follows the reply. -/
def Dev.fwActivate (d : Dev) (now : Bool) : Dev × Ans :=
  if d.stagedSlot.isNone then (d, .invalid)
  else
    let d := { d with trialSlot := d.otherSlot + 1, trialCount := 0 }.dirWrite
    ({ d with resetReq := b2n now }, .ok)

/-- What a command asked for once its reply was posted. -/
def Dev.restartIfAsked (d : Dev) (cause : Nat) : Dev := if d.resetReq = 1 then d.promptRestart cause else d

def execFwActivate (rq : Sfi) (now : Bool) (s : State) : Out :=
  s.actAt (fun _ => sfiPlace 0x008) (fun d => (d.sfiRun rq 0x008 3 true (fun d _ => d.fwActivate now)).restartIfAsked 2)

/-- FW_CONFIRM (R345). -/
def Dev.fwConfirm (d : Dev) : Dev × Ans :=
  if d.on F.PROMPTER_STATUS_TRIAL = false then (d, .invalid)
  else
    let svn := d.get F.FW_SVN_IMAGE
    let d := { d with prefSlot := d.get F.PROMPTER_STATUS_SLOT, trialSlot := 0, trialCount := 0, otpSvn := max d.otpSvn svn }.dirWrite
    let d := (d.set F.PROMPTER_STATUS_TRIAL 0 0).setReg .FW_SVN 0 (svn + 65536 * d.otpSvn)
    (d.fwRec 0x0E11 2 svn 0, .ok)

def execFwConfirm (rq : Sfi) (s : State) : Out := s.sfi rq 0x009 3 (fun d _ => d.fwConfirm)

def execConfigSave (rq : Sfi) (s : State) : Out := s.sfi rq 0x00A 2 (fun d _ => (d, .pending))

def execSysConfig (rq : Sfi) (idle confirm : Nat) (auto : Bool) (s : State) : Out :=
  s.sfi rq 0x00C 3 (fun d _ => okIf (decide (idle < 65536) && F.PROMPTER_CTRL_CONFIRM_TIME.ok confirm) d
    (d.cfg .PROMPTER_CTRL 0 (idle + 65536 * confirm + 2 ^ 26 * b2n auto)))

/-- A job of core 3's list ends (R350): an erase, an image verification with its outcome, a save, a
Promptbook read. -/
def Dev.jobDone (d : Dev) (j : Job) (im : ImageArgs) : Dev :=
  if j.op = 0x007 then
    let c := d.imageCause im
    if c ≠ 0 then d.finishJob j (.invalid c)
    else ({ d with stagedSlot := some (im.svn, im.version) }.fwRec 0x0E10 2 im.version im.svn).finishJob j .ok
  else if j.op = 0x00A then
    let k := 1 - d.startupCopy
    ({ d with startup := some d.running, startupCopy := k }.flashWrite (0x900000 + 0x100000 * k) []).finishJob j .ok
  else if j.op = 0x005 then d.finishJob j .ok
  else if j.op = 0x801 then d.bookReadDone j
  else d

def execSfiJobDone (c : Fin 32) (tag : Fin 256) (im : ImageArgs) (s : State) : Out :=
  s.actAt (fun _ => atSfi) (fun d => match d.jobs.find? (fun j => j.ch == c.val && j.tag == tag.val) with
    | some j => d.jobDone j im
    | none => d)

/-! ## Recovery (R342) -/

/-- The request of a recovery command leaves the queue; the epoch its reply echoes. -/
def Dev.recoveryTake (d : Dev) (rq : Sfi) (op : Nat) : Dev :=
  match d.pendQ.find? (fun q => q.op == op && q.tag == rq.tag.val) with | some q => { d with pendQ := d.pendQ.erase q } | none => d
def Dev.recoveryEcho (d : Dev) (rq : Sfi) (op : Nat) : Nat :=
  match d.pendQ.find? (fun q => q.op == op && q.tag == rq.tag.val) with | some q => q.echo | none => (d.chans.get 0).epochS

/-- A command of the recovery state, on channel 0 without a session; elsewhere it is UNSUPPORTED. -/
def Dev.recoveryRun (d : Dev) (rq : Sfi) (op : Nat) (f : Dev → Dev × Ans) : Dev :=
  if d.get F.PROMPTER_STATUS_BOOT_STATE ≠ 3 then d.sfiRun rq op 0 false (fun d _ => (d, .unsupported))
  else if rq.ch.val ≠ 0 then d
  else
    let echo := d.recoveryEcho rq op
    let d := d.recoveryTake rq op
    let x := if rq.tag.val = 0 then (d, Ans.invalid) else f d
    x.1.reply 0 rq.tag op echo false x.2

def execRecoveryWrite (rq : Sfi) (offset : Nat) (words : List Nat) (s : State) : Out :=
  s.actAt (fun _ => sfiPlace 0x0F0) (·.recoveryRun rq 0x0F0 (fun d =>
    okIf (decide (0x100000 ≤ offset ∧ offset + 4 * words.length ≤ 0x900000 ∧ words.length ≤ 13)) d (d.flashWrite offset words)))

def execRecoveryReboot (rq : Sfi) (s : State) : Out :=
  s.actAt (fun _ => sfiPlace 0x0F1) (·.recoveryRun rq 0x0F1 (fun d =>
    (({ d with bootAt := d.cycle }.set F.PROMPTER_STATUS_BOOT_STATE 0 0).set F.PROMPTER_STATUS_CORE_UP 0 0, .ok)))

/-! ## Sessions (R354 to R356, R365) -/

/-- A session opens with a role. -/
def Dev.openSession (d : Dev) (c role : Nat) : Dev :=
  let d := { d with sess := d.sess.put c { d.sess.get c with isOpen := true, role := role, nonce := none, lastUse := d.cycle, prevUse := d.cycle } }
  if role = 0 then d else d.record { code := 0x0E08, sev := 2, a0 := c, a1 := role, ints := [c], fw := true }

/-- The four words of a nonce, and the device once they are drawn. -/
def Dev.drawNonce (d : Dev) : List Nat × Dev :=
  (List.range 4).foldl (fun (a : List Nat × Dev) _ => let y := a.2.draw 5; (a.1 ++ [y.1 % 2 ^ 32], y.2)) ([], d)

/-- SESSION_OPEN. -/
def Dev.sessionOpen (d : Dev) (c role : Nat) : Dev × Ans :=
  let x := d.sess.get c
  if 4 ≤ role then (d, .invalid)
  else if role = 0 then (d.openSession c 0, .ok)
  else if d.cycle < x.lockUntil then (d, .busy 8 (min 65535 ((x.lockUntil - d.cycle + 14999) / 15000)))
  else if role = 3 ∧ c = 0 ∧ (d.creds.get 3).isEmpty = true then (d.openSession c 3, .ok)
  else
    let w := d.drawNonce
    let d := { w.2 with sess := w.2.sess.put c { x with nonce := some (w.1, role, d.cycle + 10 * secCycles) } }
    (d, { detail := 1, words := w.1 })

def execSessionOpen (rq : Sfi) (role : Nat) (s : State) : Out := s.sfi rq 0xC00 0 (fun d _ => d.sessionOpen rq.ch role)

/-- SESSION_AUTH: the answer over nonce, channel, role and epoch (R354), keyed by the role's credential. -/
def Dev.sessionAuth (d : Dev) (c : Nat) (answer : List Nat) : Dev × Ans :=
  let x := d.sess.get c
  let d := { d with sess := d.sess.put c { x with nonce := none } }
  match x.nonce with
  | none => (d.authFail c, .denied)
  | some (n, role, until_) =>
    let key := d.creds.get role
    if d.cycle < until_ ∧ key.isEmpty = false ∧ answer = hmacWords key (n ++ [c, role, (d.chans.get c).epochS]) then
      (d.openSession c role, .ok)
    else (d.authFail c, .denied)

def execSessionAuth (rq : Sfi) (answer : List Nat) (s : State) : Out := s.sfi rq 0xC01 0 (fun d _ => d.sessionAuth rq.ch answer)

def execSessionClose (rq : Sfi) (s : State) : Out := s.sfi rq 0xC02 0 (fun d _ => (d.endSession rq.ch 1, .ok))

/-- SESSION_QUERY's words of a channel. -/
def Dev.sessRow (d : Dev) (c : Nat) : List Nat :=
  let x := d.sess.get c
  [d.roleOf c + 4 * b2n x.isOpen + 8 * b2n (d.owner == c + 1) + 256 * c,
   if x.isOpen then (d.cycle - x.lastUse) / secCycles else 0, d.inFlight c]

/-- SESSION_QUERY: a channel's role and open session, idle s, shadow ownership, commands in flight. -/
def execSessionQuery (rq : Sfi) (c : Option Nat) (start : Nat) (s : State) : Out :=
  s.sfi rq 0xC03 0 (fun d _ =>
    match c with
    | some c => if 32 ≤ c then (d, .invalid) else (d, .okW (d.sessRow c))
    | none => (d, d.listing rq 0xC03 3 (((List.range 32).map (fun c => (c, d.sessRow c))).filter (fun e => decide (start ≤ e.1)))))

/-- A session has been idle for SESSION_IDLE seconds; a request taken in the same core cycle does not save it (R366). -/
def Dev.sessionIdle (d : Dev) (c : Nat) : Dev :=
  let x := d.sess.get c
  let t := d.get F.PROMPTER_CTRL_SESSION_IDLE
  let last := if x.lastUse = d.cycle then x.prevUse else x.lastUse
  if x.isOpen && t != 0 && d.core0Up && d.past last (t * secCycles) then d.endSession c 3 else d

def execSessionIdleExpire (c : Fin 32) (s : State) : Out := s.actAt (fun _ => atExpiry) (·.sessionIdle c)

def execCredentialSet (rq : Sfi) (role : Nat) (words : List Nat) (s : State) : Out :=
  s.sfiKey rq 0xC04 3 (fun d _ => okIf (decide (1 ≤ role ∧ role < 4 ∧ words.length = 8)) d
    ({ d with creds := d.creds.put role words }.fwRec 0x0E16 2 role 0))

/-- KEY_SLOT_LOAD: carried on a command ring; AES-128 or AES-256. -/
def execKeySlotLoad (rq : Sfi) (x : KeyArgs) (s : State) : Out :=
  s.sfiKey rq 0xC20 3 (fun d _ =>
    okIf (rq.ring && decide (x.slot < 512 ∧ (x.key.length = 4 ∨ x.key.length = 8) ∧ x.start ≤ x.stop)) d
      ({ d with keySlots := d.keySlots.put (2 * x.slot + b2n x.next) ([x.keyId, x.key.length, x.start, x.stop] ++ x.key) }.fwRec
        0x0E17 2 x.slot 0))

/-- KEY_SLOT_CLEAR: 0 the current key, 1 the next, 2 both. -/
def execKeySlotClear (rq : Sfi) (slot which : Nat) (s : State) : Out :=
  s.sfi rq 0xC21 3 (fun d _ => okIf (decide (slot < 512 ∧ which < 3)) d
    (let k := if which = 1 then d.keySlots else d.keySlots.put (2 * slot) []
     { d with keySlots := if which = 0 then k else k.put (2 * slot + 1) [] }))

/-- A cluster posts a program report on a channel of channels 24 to 31 (R352, R317). -/
def Dev.stageReport (d : Dev) (c ch op tag : Nat) (words : List Nat) : Dev :=
  let m := 8 + c
  if d.isFrozen m || decide (ch < 24) then d
  else if d.sender ch ≠ m then d.violate m 5 (regAddr .MB_POST ch) (msgHdr op words.length tag 0 0)
  else
    d.postReq ch (msgHdr op (min words.length 15) tag 0 0) (words.map (· % 2 ^ 32))

def execStageReport (c : Fin 16) (ch : Fin 32) (op tag : Nat) (words : List Nat) (s : State) : Out :=
  s.later 13 20 (·.stageReport c ch op tag words)

end Sys2Proof.Machine
end

