-- ==== Sys2Proof/Machine/StreamCmd.lean ====
section
/-! DEFINITION. The SFI commands of the stream group (R166 to R169, R184, R185, R191): admission, withdrawal, actions,
redundancy pairs. -/

namespace Sys2Proof.Machine

/-! ## Admission -/

/-- The configured speed of a port's mode; 100 Mb/s where the port is absent (R185). -/
def Dev.confSpeed (d : Dev) (p : Nat) : Nat := if d.present p then (modeSpeeds (d.portMode p)).headD 1 else 1

/-- Every value of R167 is in range, MAX_FRAME and the GMAC rule of R168 included. With ING_PORTS = any every present front-panel
port is an ingress port (DEDUCED from R185, log entry 114). -/
def Dev.admitArgsOk (d : Dev) (x : AdmitArgs) : Bool :=
  let sv := x.type == 2 || x.type == 4
  let ports (l : List Nat) (n : Nat) : Bool := decide (l.length ≤ n) && l.all (fun p => decide (p < 256)) && decide l.Nodup
  decide (x.prof < 32 ∧ x.key < 2 ^ 320 ∧ x.type ≤ 4 ∧ x.tc ≤ 7 ∧ 64 ≤ x.fMax ∧ x.fMax ≤ 10240 ∧ 1 ≤ x.burst ∧ x.burst ≤ 16 ∧
      100 ≤ x.interval ∧ x.interval ≤ 1000000 ∧ x.express ≤ 2 ∧ x.offA < 256 ∧ x.offB < 256 ∧ x.offC < 256 ∧ x.rateTol < 256) &&
    (!sv || decide (1 ≤ x.smpRate ∧ x.smpRate ≤ 65535 ∧ 1 ≤ x.smpWrap ∧ x.smpWrap ≤ 65535)) &&
    ports x.egress 64 && ports x.ing 4 && (List.range 7).all (fun k => decide (x.acts / 4 ^ k % 4 < 3)) &&
    decide (x.acts < 2 ^ 14 ∧ x.exprMask < 2 ^ 18 ∧ (x.express = 0 ∨ x.exprKey.length = 18)) &&
    (match x.gmac with | some k => decide (k < 512 ∧ ¬ (x.tc = 7 ∧ x.express = 2)) | none => true) &&
    x.egress.all (fun p => decide (x.fMax ≤ d.maxFrame p)) &&
    (if x.ing.isEmpty then (List.range 256).filter (fun p => d.present p) else x.ing).all (fun p => decide (x.fMax ≤ d.maxFrame p))

/-- The express entries a stream needs (R184): pipe and ING_PORT of each. -/
def exprIngs (ing : List Nat) : List (Nat × Nat) :=
  if ing.isEmpty then [(0, 511), (1, 511)] else ing.map (fun p => (pipeOf p, p))

/-- R185: the conditions of the burin path. A GMAC stream never takes it (R183). -/
def Dev.burinOk (d : Dev) (x : AdmitArgs) : Bool :=
  let n := (exprIngs x.ing).length
  let srcs := ((if x.ing.isEmpty then List.range 256 else x.ing).filter (fun p => d.present p)).map d.confSpeed
  x.gmac.isNone && decide (1 ≤ x.egress.length ∧ x.egress.length ≤ 4) &&
    x.egress.all (fun p =>
      decide (n * x.burst + (d.express.filter (fun e => e.2.valid && !e.2.leaving && e.2.egress.contains p)).foldl
        (fun a e => a + (d.streams.get e.2.stream).burst) 0 ≤ 5) && srcs.all (fun v => decide (d.confSpeed p ≤ v)))

/-- R169 on a port with a new TC_7 stream of `n` bursts. -/
def Dev.admitFits (d : Dev) (p n : Nat) (x : AdmitArgs) : Bool :=
  decide ((d.tripLoad p + n * x.burst * (x.fMax + 20)) * 8 * 1000000 * 100 ≤
    d.get F.STREAM_CTRL_TC7_SHARE * min (d.tripInterval p) x.interval * 1000 * kbps (d.lowSpeed p))

/-- The lowest numbers of a pipe's free express entries. -/
def Dev.exprFree (d : Dev) (pipe n : Nat) : List Nat :=
  (((List.range 64).map (fun k => 64 * pipe + k)).filter (fun k => !(d.express.get k).valid)).take n

/-- The places of the stream's entries, in the order of `ings`; none where a pipe has too few. -/
def Dev.exprPlaces (d : Dev) (ings : List (Nat × Nat)) : Option (List (Nat × Nat)) :=
  let a := ings.filter (fun e => e.1 == 0)
  let b := ings.filter (fun e => e.1 == 1)
  let fa := d.exprFree 0 a.length
  let fb := d.exprFree 1 b.length
  if fa.length < a.length ∨ fb.length < b.length then none
  else some ((fa.zip (a.map Prod.snd)) ++ (fb.zip (b.map Prod.snd)))

/-- The lowest group that is empty in both versions and that no stream holds. -/
def Dev.freeGroup (d : Dev) : Option Nat :=
  (List.range 16384).find? (fun g =>
    d.groups.get g == 0 && d.groups.get (16384 + g) == 0 && !d.streams.any (fun e => e.2.valid && e.2.group == some g))

/-- The shadow is another's, or no plate can open or take a change now (R127, R168). -/
def Dev.admitBusy (d : Dev) (ch : Nat) : Option (Dev × Ans) :=
  if d.owner ≠ 0 ∧ d.owner ≠ ch + 1 then some (d, .busy 3)
  else if d.owner = ch + 1 then
    if d.on F.PLATE_STATUS_COMMIT_ARMED then some (d, .busy 5)
    else if d.sweep ≠ 0 then some (d.sweepBusy 0) else none
  else if d.on F.PLATE_STATUS_RETIRING then some (d, .busy 6)
  else if d.sweep ≠ 0 then some (d.sweepBusy 0)
  else if d.on F.PLATE_STATUS_SHADOW_OPEN then some (d, .busy 3)
  else none

/-- The rule of an admission enters the session's own shadow, or a plate of its own is opened for it (R166). -/
def Dev.admitGo (d : Dev) (a : Admit) : Dev × Ans :=
  if d.owner = a.owner then
    let r := d.stageAdmit a
    if r.2.st = 0 then ({ r.1 with admits := r.1.admits ++ [a] }, .pending [a.stream])
    else (if a.isAdmit then r.1.clearStream a.stream else r.1, r.2)
  else
    ({ d with autoPlate := 1 + a.id, admits := d.admits ++ [a] }.plateOpen 33, .pending [a.stream])

/-- CIR of a stream's policer in kb/s (R176); the spec states no rounding. -/
def Dev.admitCir (d : Dev) (x : AdmitArgs) : Dev × Nat :=
  let r := d.divFree ((x.burst * x.fMax * 8000 : Nat) : Int) x.interval
  (r.2, max 1 r.1.toNat)

/-- Writes a stream's entry, policer, source and express entries (R166, R176, R179, R184). -/
def Dev.admitWrite (d : Dev) (st : Nat) (x : AdmitArgs) (group : Option Nat) (places : List (Nat × Nat)) : Dev :=
  let sv := x.type == 2 || x.type == 4
  let s : Stream := { (default : Stream) with
    valid := true, type := x.type, tc := x.tc, fixedPos := x.fixedPos, gmac := x.gmac.isSome, dd := x.dd, cb := x.cb
    stateRec := x.stateRec, acts := x.acts, fMax := x.fMax, burst := x.burst, interval := x.interval, offA := x.offA
    offB := x.offB, offC := x.offC, smpRate := if sv then x.smpRate else 0, smpWrap := if sv then x.smpWrap else 0
    keySlot := x.gmac.getD 0, rateTol := x.rateTol, first := true, egress := x.egress, group := group, prof := x.prof
    key := x.key, tc7Ok := x.tc == 7, ing := x.ing }
  let s := { s with tProg := if x.gmac.isSome then { d with streams := d.streams.put st s }.tProgOf 2 else 0 }
  let d := if x.cb then
      match d.ddAlloc true st { (default : DdSrc) with pinned := true } with
      | (d, some i) => { d with dd := d.dd.put i { d.dd.get i with pinned := true },
                                streams := d.streams.put st { s with ddSource := i } }.mirrorSac 4 i
      | (d, none) => { d with streams := d.streams.put st s }
    else { d with streams := d.streams.put st s }
  let c := d.admitCir x
  let d := { c.1 with policers := c.1.policers.put st (polOf 1 c.2 0 (x.burst * x.fMax) 64 d.cycle) }.mend 7 st |>.mend 5 st
  let d := places.foldl (fun d e =>
    { d with express := d.express.put e.1 { valid := true, key := x.exprKey, mask := x.exprMask, ing := e.2
                                            slots := x.egress.map (fun p => (p, true)),
                                            stream := st, staged := true, leaving := false, cut := 0, until_ := 0 } }.mend 6 e.1) d
  x.egress.foldl (fun d p => ((if x.tc = 7 then d.trip169Set p else d).tripMarks p).checkBounds p)
    (((d.mirrorSac 0 st).mirrorSac 1 st).mirrorExpr (places.map Prod.fst))

/-- STREAM_ADMIT (R166 to R169, R183 to R185). -/
def Dev.streamAdmit (d : Dev) (rq : Sfi) (x : AdmitArgs) : Dev × Ans :=
  match d.admitBusy rq.ch with
  | some r => r
  | none =>
    if x.hmac then (d, .unsupported)
    else if !d.admitArgsOk x then (d, .invalid)
    else
      let burin := x.express != 0 && d.burinOk x
      let ings := if burin then exprIngs x.ing else []
      match (List.range 16384).find? (fun i => !(d.streams.get i).valid), d.exprPlaces ings,
            (if x.egress.length ≤ 1 then some none else d.freeGroup.map some) with
      | some st, some places, some group =>
        if x.cb && (d.ddAlloc true st default).2.isNone then (d, .noResource)
        else if (x.express == 2 && !burin) || (x.tc == 7 && !x.egress.all (fun p => d.admitFits p (max 1 ings.length) x)) then
          (d, .denied)
        else
          (d.admitWrite st x group places).admitGo
            { id := rq.tag.val, stream := st, isAdmit := true, owner := rq.ch + 1, ch := rq.ch.val, tag := rq.tag.val }
      | _, _, _ => (d, .noResource)

def execStreamAdmit (rq : Sfi) (x : AdmitArgs) (s : State) : Out := s.sfi rq 0x400 2 (fun d _ => d.streamAdmit rq x)

/-- STREAM_WITHDRAW: its express entries leave the matcher with the commit. -/
def Dev.withdraw (d : Dev) (rq : Sfi) (st : Nat) : Dev × Ans :=
  match d.admitBusy rq.ch with
  | some r => r
  | none =>
    if 16384 ≤ st ∨ (d.streams.get st).valid = false ∨ (d.streams.get st).leaving = true ∨
        d.admits.any (fun a => a.stream == st) = true then (d, .invalid)
    else
      let ex : Tbl Expr := d.express.map (fun e => (e.1, if e.2.stream = st then { e.2 with leaving := true } else e.2))
      ({ d with express := ex }.mirrorExpr (((ex.filter (fun (e : Nat × Expr) => e.2.stream == st)).map Prod.fst : List Nat))).admitGo
        { id := rq.tag.val, stream := st, isAdmit := false, owner := rq.ch + 1, ch := rq.ch.val, tag := rq.tag.val }

def execStreamWithdraw (rq : Sfi) (index : Nat) (s : State) : Out := s.sfi rq 0x401 2 (fun d _ => d.withdraw rq index)

/-! ## The other commands -/

/-- STREAM_QUERY: seven entry words, five state words, BOUND_OK as bits by place in EGRESS (two words), the eight counters of 64
bits, low word first. -/
def Dev.streamQuery (d : Dev) (st : Nat) : List Nat :=
  let s := d.streams.get st
  let ok := (List.range s.egress.length).foldl (fun w k =>
    if s.tc = 7 ∧ d.lapsed.get (512 * st + s.egress.getD k 0) = false then w + 2 ^ k else w) 0
  (streamWords s).take 7 ++ (stateWords s).take 5 ++ [ok % 2 ^ 32, ok / 2 ^ 32] ++
    (List.range 8).flatMap (fun i => [wordOf (d.streamStats.get (8 * st + i)) 0, wordOf (d.streamStats.get (8 * st + i)) 1])

/-- The reply begins at word START: as many words as fit, with NEXT where more remain (R350; DESIGN CHOICE, log entry 115). -/
def execStreamQuery (rq : Sfi) (index : Nat) (s : State) (start : Nat := 0) : Out :=
  s.sfi rq 0x402 0 (fun d _ =>
    if index < 16384 ∧ (d.streams.get index).valid then
      (d, d.listing rq 0x402 1 (((d.streamQuery index).zipIdx.map (fun w => (w.2, [w.1]))).drop start))
    else (d, .invalid))

/-- STREAM_ACTIONS: the actions and STATE_REC of an entry, without a plate. -/
def Dev.streamActions (d : Dev) (st acts : Nat) (rec : Bool) : Dev × Ans :=
  okIf (decide (st < 16384 ∧ acts < 2 ^ 14) && (d.streams.get st).valid && (List.range 7).all (fun k => decide (acts / 4 ^ k % 4 < 3))) d
    ({ d with streams := d.streams.put st { d.streams.get st with acts := acts, stateRec := rec } }.mirrorSac 0 st)

def execStreamActions (rq : Sfi) (index acts : Nat) (stateRec : Bool) (s : State) : Out :=
  s.sfi rq 0x403 1 (fun d _ => d.streamActions index acts stateRec)

/-- RPAIR_SET (R178). -/
def Dev.rpairSet (d : Dev) (k : Nat) (r : RPair) : Dev × Ans :=
  if d.rpairOk k r then ((d.rpairPut k r).mirrorSac 5 k, .ok) else (d, .invalid)

def execRpairSet (rq : Sfi) (pair mode a b : Nat) (inter : Option Nat) (quad : Bool) (peer : Nat) (s : State) : Out :=
  s.sfi rq 0x404 2 (fun d _ => d.rpairSet pair { mode := mode, a := a, b := b, inter := inter.getD 511, quad := quad, peer := peer })

def execDdConfig (rq : Sfi) (forget : Nat) (s : State) : Out :=
  s.sfi rq 0x405 2 (fun d _ => okIf (F.STREAM_CTRL_DD_FORGET.ok forget) d (d.cfgF F.STREAM_CTRL_DD_FORGET 0 forget))

/-- STREAM_LIMITS: refused where an admitted stream would fail R169. -/
def Dev.streamLimits (d : Dev) (share : Nat) : Dev × Ans :=
  if !F.STREAM_CTRL_TC7_SHARE.ok share then (d, .invalid)
  else if (List.range 256).any (fun p => !(d.tripStreams p).isEmpty && !d.tripFits p (kbps (d.lowSpeed p)) share) then (d, .denied)
  else ((d.cfgF F.STREAM_CTRL_TC7_SHARE 0 share).checkAllBounds, .ok)

def execStreamLimits (rq : Sfi) (share : Nat) (s : State) : Out := s.sfi rq 0x406 2 (fun d _ => d.streamLimits share)

end Sys2Proof.Machine
end

