-- ==== Sys2Proof/Machine/Tick.lean ====
section
/-! DEFINITION. What a core cycle brings when no command waits (log entry 1): the cycle counter (R18), core 0's reading
of its shadow log (R377), the continuous check of the trip-class bound (R170), the places the flush and reclaim sweeps visit (R149, R220), the refill of the pin tables (R265), the shed level (R285), what is mirrored and the link's reading of the mirror queue (R428), the hold of a revert (R422). -/

namespace Sys2Proof.Machine

/-- Core 0 re-reads the blocks written since the shadow log overflowed: a register that fails parity takes its value from
the startup configuration (R377). -/
def Dev.reRead (d : Dev) : Dev :=
  if d.shadowLost.isEmpty || !d.shadowLog.isEmpty || !d.core0Up then d
  else
    let (hit, rest) := d.shadow.partition (fun e => d.shadowLost.contains (ownerSlot e.1))
    let start : Tbl Word := match d.startup with | some x => x.regs | none => []
    hit.foldl (fun d e =>
      match regAt e.1 with
      | some (r, i) => d.setReg r i (start.getD (BitVec.ofNat 32 (regReset r i)) e.1).toNat
      | none => d) { d with shadow := rest, shadowLost := [] }

/-- Core 0 takes the oldest entry of its shadow log (R377). -/
def Dev.takeShadow (d : Dev) : Dev := if d.core0Up then { d with shadowLog := d.shadowLog.tail } else d

/-- The link takes the oldest mirror message: 84 bytes of a lane each, 41 core cycles. -/
def Dev.mirrorDrain (d : Dev) : Dev :=
  match d.mirQ with
  | m :: r =>
    if d.mirAt ≤ d.cycle then
      ({ d with mirQ := r, mirAt := d.cycle + 41 }.emit (.ulk m)).setReg .MIRROR_TX_SEQ 0 ((d.reg .MIRROR_TX_SEQ + 1) % 2 ^ 32) |>.count 0x58 0
    else d
  | [] => d

/-- A base's mirror message: state, EPOCH, RATE (R428). -/
def Dev.mirrorBase (d : Dev) (n : Nat) : Dev :=
  let rate := if n = 0 then d.rate0 else d.rate1
  let st := d.get F.TB_STATE_STATE n
  let ep := d.get F.TB_STATE_EPOCH n
  { d with mirTb := d.mirTb.put n (st, ep, rate) }.mirror false [4, n, 0, st, ep, (rate.emod (2 ^ 48)).toNat]

/-- Every 1 ms the bases are mirrored, changed or not (R428). -/
def Dev.mirrorTick (d : Dev) : Dev :=
  if d.mirrors && d.past d.mirTbAt msCycles then ({ d with mirTbAt := d.cycle }.mirrorBase 0).mirrorBase 1 else d

/-- A mirroring die reports a base that has changed, and a statistics latch (R428). -/
def Dev.mirrorChanges (d : Dev) : Dev :=
  if !d.mirrors then d
  else
    let d := (List.range 2).foldl (fun (d : Dev) n =>
      if d.mirTb.get n = (d.get F.TB_STATE_STATE n, d.get F.TB_STATE_EPOCH n, if n = 0 then d.rate0 else d.rate1) then d
      else d.mirrorBase n) d
    if d.reg .DUMP_SEQ = d.mirDump then d
    else { d with mirDump := d.reg .DUMP_SEQ }.mirror false [5, d.reg .DUMP_SEQ, d.cycle]

/-- The conditions of a revert, that have to hold without a break (R422). -/
def Dev.revertReady (d : Dev) : Bool :=
  d.get F.PAIR_STATUS_STATE == 4 && d.on F.PAIR_STATUS_EFF_PREFERRED && d.on F.PAIR_STATUS_ARB_GO && d.on F.PAIR_STATUS_HEALTH_OK &&
    d.on F.PAIR_CFG_REVERT_EN && d.on F.PEER_STATUS_PEER_VALID && d.get F.PEER_STATUS_PEER_STATE == 5

/-- Prompter core `n` has nothing to do: no request, no message of its channels, no job (core 3), no frame (core 2). -/
def Dev.coreIdle (d : Dev) (n : Nat) : Bool :=
  !d.pendQ.any (fun q => q.core == n) && (n != 3 || d.jobs.isEmpty) &&
    (n != 2 || (List.range 6).all (fun k => (d.queues.get (8 * 257 + k)).isEmpty)) &&
    (List.range 32).all (fun c => (d.chans.get c).req.isEmpty || d.get F.MB_CFG_RX_CORE c != n)

/-- Idle cores 1 to 3 are clock-gated (R465). -/
def Dev.gateCores (d : Dev) : Dev :=
  if d.get F.GATE_STATUS_1_CORE_CLK_ON / 2 = 0 then d
  else ([1, 2, 3] : List Nat).foldl (fun d n => if d.coreIdle n then d.setBit F.GATE_STATUS_1_CORE_CLK_ON 0 n false else d) d

/-- One core cycle. -/
def Dev.coreCycle (d : Dev) : Dev :=
  let d := (d.sweepTick.reclaimTick.nextCycle.takeShadow.reRead).mirrorChanges.mirrorDrain.gateCores.repinTick.shedTick.checkAllBounds
  { d with revertSince := if d.revertReady then some (d.revertSince.getD d.cycle) else none }

end Sys2Proof.Machine
end

