-- ==== Sys2Proof/Machine/Pair.lean ====
section
/-! DEFINITION. The understudy pair (R410 to R435): claim pins, heartbeat, the state machine, takeover, mirroring as the
standby applies it, revert and switchover, the SFI commands of the understudy group. -/

namespace Sys2Proof.Machine

/-! ## Claims (R411, R414, R415) -/

/-- A record of the PAIR block (R435). -/
def Dev.pairRec (d : Dev) (code sev : Nat) (a0 : Nat := 0) (a1 : Nat := 0) : Dev :=
  d.record { code := code, sev := sev, a0 := a0, a1 := a1 }

/-- STATE (R418). -/
def Dev.pst (d : Dev) : Nat := d.get F.PAIR_STATUS_STATE

/-- The claim of the present state before the gate. ENTERING keeps that of STANDBY_SYNC, YIELDING that of the state it left. -/
def Dev.claimOf (d : Dev) : Nat :=
  let b := 2 * d.get F.PAIR_CFG_CLAIM_LEVEL + d.get F.PAIR_STATUS_UNIT_ID
  let st := if d.pst = 8 then d.leftState else d.pst
  if st = 0 then 0 else if st ≤ 3 then b else if st = 4 ∨ st = 7 then 16 + b else if st = 5 then 32 + b else 48 + b

/-- The exclusive-or of six bits. -/
def parity6 (v : Nat) : Nat := (List.range 6).foldl (fun a k => (a + v / 2 ^ k) % 2) 0

/-- The seven pins: bit 5 gated by ARB_GO, then CLAIM_PAR. -/
def Dev.gatedPins (d : Dev) : Nat :=
  let v := if d.arbGo then d.claimOf else d.claimOf % 32
  v + 64 * parity6 v

/-- The pins take their present values, and read back so. -/
def Dev.driveClaim (d : Dev) : Dev :=
  let new := d.gatedPins
  let old := d.pins7
  let d := (List.range 7).foldl (fun d k =>
    if new / 2 ^ k % 2 = old / 2 ^ k % 2 then d else d.emit (.pin 3 k (new / 2 ^ k % 2))) { d with pins7 := new }
  ((d.set F.PAIR_STATUS_CLAIM 0 d.claimOf).set F.PAIR_STATUS_CLAIM_RB 0 (new % 64)).set F.PAIR_STATUS_PAR_RB 0 (new / 64)

def execArbGoFall (s : State) : Out := s.later 17 0 (fun d => { d with arbGo := false }.driveClaim)

/-- The pins read otherwise than driven. -/
def Dev.claimMismatch (d : Dev) (read : Nat) : Dev :=
  let d := (d.set F.PAIR_STATUS_CLAIM_RB 0 (read % 64)).set F.PAIR_STATUS_PAR_RB 0 (read / 64)
  if read = d.pins7 then d else (d.raise F.PAIR_EVENT_CLAIM_MISMATCH).pairRec 0x110C 5 d.pins7 read

def execClaimMismatch (read : Fin 128) (s : State) : Out := s.later 17 0 (·.claimMismatch read)

/-! ## The heartbeat (R416) -/

/-- HB_HALF in core cycles. -/
def Dev.hbHalf (d : Dev) : Nat := d.get F.PAIR_CFG_HB_HALF * 1500

/-- A frame that enters the pipe has waited for HB_HALF, and the pipe has decided nothing within it (R416; DEDUCED, log entry
127). -/
def Dev.pipeStuck (d : Dev) (pipe : Nat) : Bool :=
  decide (d.slotAt.get pipe + d.hbHalf ≤ d.cycle) &&
    d.hold.any (fun e => e.2.any (fun h => decide (h.2 + d.hbHalf ≤ d.cycle) &&
      (if e.1 < 256 then d.ingressOpen && pipeOf e.1 == pipe else (d.frames.get h.1).pipe == pipe)))

/-- The traffic manager has had an eligible queue and has started no copy within the last HB_HALF. -/
def Dev.tmStalled (d : Dev) (eligible : Bool) : Bool := eligible && decide (d.txAt + d.hbHalf ≤ d.cycle)

/-- The first condition that fails, from 1 in the order of R416; 0 none. -/
def Dev.unhealthy (d : Dev) (tmStuck fwLate : Bool) : Nat :=
  if d.on F.PWR_STATUS_CORE_PLL_LOCK = false then 1
  else if d.get F.PWR_STATUS_RAIL_OK % 8 ≠ 7 then 2
  else if d.pipeStuck 0 || d.pipeStuck 1 then 3
  else if d.tmStalled tmStuck then 4
  else if d.fatalSeen then 5
  else if d.on F.PAIR_CFG_HB_FW && fwLate then 6 else 0

/-- Every HB_HALF ARB_HB toggles; it stops as soon as a condition fails. -/
def Dev.heartbeat (d : Dev) (tmStuck fwLate : Bool) : Dev :=
  let bad := d.unhealthy tmStuck fwLate
  let d := d.set F.PAIR_STATUS_HEALTH_OK 0 (b2n (bad == 0))
  if d.on F.PAIR_STATUS_PAIR_EN = false then d
  else if bad = 0 then
    if d.past d.hbAt d.hbHalf then { d with hbLevel := !d.hbLevel, hbRun := true, hbAt := d.cycle }.emit (.pin 3 7 (b2n !d.hbLevel))
    else d
  else if d.hbRun then ({ d with hbRun := false }.raise F.PAIR_EVENT_HEALTH_FAIL).pairRec 0x110D 5 bad
  else d

def execHbToggle (tmStuck fwLate : Bool) (s : State) : Out := s.later 17 0 (·.heartbeat tmStuck fwLate)

/-! ## States (R418, R419) -/

/-- A die that leaves an active state, or ENTERING, closes ingress and flushes every queue. -/
def Dev.flushAll (d : Dev) : Dev :=
  let ps := (d.queues.map (fun e => e.1 / 8)).eraseDups
  let d := ps.foldl (fun d p => d.flushPort p) d
  (List.range 256).foldl (fun d p =>
    if (d.tx.get (2 * p)).live || (d.tx.get (2 * p + 1)).live || !(d.exprQ.get p).isEmpty then d.txAbort p else d) d

/-- The state machine enters a state. -/
def Dev.pairState (d : Dev) (st : Nat) : Dev :=
  let was := d.pst
  let d := (d.set F.PAIR_STATUS_STATE 0 st).driveClaim
  let d := if 5 ≤ was ∧ st < 5 then { d with handover := none, proposed := none, trOpen := false }.flushAll else d
  if st = 3 then ({ d with rxGaps := [], rxFresh := true }.set F.MIRROR_STATUS_RESYNC_BUSY 0 1).set F.MIRROR_STATUS_RESYNC_PCT 0 0
  else d.set F.MIRROR_STATUS_RESYNC_BUSY 0 0

/-- The peer is active, as last reported on this link-up. -/
def Dev.peerActive (d : Dev) : Bool :=
  d.on F.PEER_STATUS_PEER_VALID && (d.get F.PEER_STATUS_PEER_STATE == 5 || d.get F.PEER_STATUS_PEER_STATE == 6 ||
    d.get F.PEER_STATUS_PEER_STATE == 8)

/-- Both dies are strapped with one UNIT_ID (R413). -/
def Dev.unitClash (d : Dev) : Bool :=
  d.on F.PEER_STATUS_PEER_VALID && d.get F.PEER_STATUS_PEER_UNIT_ID == d.get F.PAIR_STATUS_UNIT_ID

/-- The active state of this die. -/
def Dev.activeState (d : Dev) : Nat := if d.on F.PAIR_STATUS_EFF_PREFERRED then 6 else 5

/-- What follows from the present state by itself: a standby resynchronises while the link is up and the peer active. -/
def Dev.pairSettle (d : Dev) : Dev :=
  if (d.pst = 1 ∨ d.pst = 2) ∧ d.on F.PAIR_STATUS_LINK_UP = true ∧ d.peerActive = true ∧ d.unitClash = false then d.pairState 3 else d

/-- The die becomes active without a takeover: the preferred die finds no active peer (R418). -/
def Dev.becomeActive (d : Dev) : Dev :=
  if d.pst = 1 ∧ d.on F.PAIR_STATUS_EFF_PREFERRED = true ∧ d.on F.PAIR_STATUS_ARB_GO = true ∧ d.peerActive = false then d.pairState 6 else d

/-- Synchronism is lost: 1 link down, 2 gap, 3 overflow, 4 digest mismatch (the numbers are the model's, log entry 33). -/
def Dev.syncLost (d : Dev) (cause : Nat) : Dev :=
  if d.pst = 3 ∨ d.pst = 4 then
    (((d.raise F.PAIR_EVENT_SYNC_LOST).pairRec 0x1106 3 cause).pairState 2).pairSettle
  else d

/-- A revert or switchover ends before T_s (R422, R425): 1 rejected, 2 no answer, 3 ARB_GO, 4 link, 5 cancelled, 6 no
OVERLAP_STARTED (the numbers are the model's, log entry 33). -/
def Dev.abortHandover (d : Dev) (cause : Nat) : Dev :=
  if d.proposed.isNone && d.handover.isNone then d
  else
    let d := { d with proposed := none, handover := none, revertSince := none }
    let d := (d.raise F.PAIR_EVENT_REVERT_ABORTED).pairRec 0x1108 3 cause
    let d := if d.pst = 7 then d.pairState 2 else if d.pst = 8 then d.pairState d.leftState else d
    ({ d with trOpen := false, overlapSeen := false }.finishOp 0xA03 .invalid).pairSettle

/-! ## Takeover (R420, R421) -/

/-- Policer buckets full, WRED averages, credits and deficits 0, queues empty. -/
def Dev.initSchedulers (d : Dev) : Dev :=
  let d := d.flushAll
  { d with
    policers := d.policers.map (fun e => (e.1, { e.2 with tokC := e.2.cbs * 65536, tokE := e.2.ebs * 65536, at_ := d.cycle }))
    avg := []
    credit := []
    creditAt := []
    deficit := []
    drr := []
    drrOn := [] }

/-- Sweeps that run finish (R420, step 3). -/
def Dev.finishSweeps (d : Dev) : Dev :=
  let d := if d.sweep = 1 then d.openDone else if d.sweep = 2 then d.retireDone else d
  if d.flushBusy then d.sweepDone else d

/-- The mirrored statistics bases become the counters' values. -/
def Dev.takeBases (d : Dev) : Dev :=
  if d.baseAt = 0 then d
  else { d with portStats := d.basePort, classStats := d.baseClass, streamStats := d.baseStream }

/-- BASE_AGE in ms. -/
def Dev.baseAge (d : Dev) : Nat := if d.baseAt = 0 then 0 else min 65535 ((d.cycle + 1 - d.baseAt) / msCycles)

/-- The rule of the active plate whose action names a stream. -/
def Dev.streamRule (d : Dev) (st : Nat) : Option Rule :=
  (d.rules.find? (fun e => bitAt e.2.mask d.activePlate && bitsOf e.2.action 27 27 == 1 && bitsOf e.2.action 41 28 == st)).map Prod.snd

/-- What an admitted stream's entry does not show is known from its rule, its group and its express entries: EGRESS, INGRESS ports,
key and group; and its policer is that of R176. -/
def Dev.fillStream (d : Dev) (st : Nat) : Dev :=
  match d.streamRule st with
  | none => d
  | some r =>
    let s := d.streams.get st
    if s.prof = r.prof ∧ s.key = r.key then d
    else
      let target := bitsOf r.action 19 4
      let group := if r.action % 8 = 2 then some target else none
      let egress := if r.action % 8 = 2 then
          let w := d.groups.get (ver 16384 d.activePlate target)
          (List.range 256).filter (fun p => bitAt w p)
        else if r.action % 8 = 3 then [target] else []
      let ing := ((d.express.filter (fun e => e.2.valid && e.2.stream == st)).map (fun e => e.2.ing)).filter (· < 256)
      let s : Stream := { s with prof := r.prof, key := r.key, group := group, egress := egress, ing := ing }
      let d := { d with streams := d.streams.put st { s with tProg := if s.gmac then d.tProgOf 2 else 0 } }
      let c := d.admitCir { (default : AdmitArgs) with burst := s.burst, fMax := s.fMax, interval := s.interval }
      let d := { c.1 with policers := c.1.policers.put st (polOf 1 c.2 0 (s.burst * s.fMax) 64 d.cycle) }
      egress.foldl (fun (d : Dev) p => ((if s.tc = 7 then d.trip169Set p else d).tripMarks p).checkBounds p) d

/-- Mirrored streams are known in full where their rules are active (DEDUCED, log entry 128). -/
def Dev.fillStreams (d : Dev) : Dev := (d.streams.filter (fun e => e.2.valid)).foldl (fun d e => d.fillStream e.1) d

/-- The takeover: running sweeps finish, ingress opens, the claim goes out. FAILOVER_TIME is measured, at most 350 µs (a free
value). -/
def Dev.pairTakeover (d : Dev) : Dev :=
  let synced := d.pst == 4 || d.pst == 7
  let d := d.finishSweeps.initSchedulers.takeBases.fillStreams
  let d := { d with proposed := none, handover := none, trOpen := false, retryAt := none
                    servoAt := (d.servoAt.put 0 d.cycle).put 1 d.cycle }.finishOp 0xA02 .invalid
  let x := d.draw 15
  let time := x.1 % 351
  let d := (x.2.pairState x.2.activeState).setReg .LAST_TAKEOVER_PT 0 (x.2.ptNs % 2 ^ 32)
  let d := (d.setReg .TAKEOVER_INFO 0 (time + 65536 * d.baseAge)).raise F.PAIR_EVENT_TAKEOVER
  (d.pairRec (if synced then 0x1101 else 0x1102) 6 time).count 0x58 6

/-! ## Inputs (R417) -/

/-- START_WAIT has passed in INIT without a HELLO of an active peer. -/
def Dev.startWait (d : Dev) : Dev :=
  if d.initAt + d.get F.PAIR_CFG_START_WAIT * 100 * msCycles ≤ d.cycle then d.becomeActive else d

/-- ARB_GO and ARB_FAULT_IN have been stable for 16 µs. -/
def Dev.arbSettled (d : Dev) (go fault : Bool) : Dev :=
  let wasGo := d.on F.PAIR_STATUS_ARB_GO
  let wasFault := d.on F.PAIR_STATUS_ARB_FAULT_IN
  let d := ((d.set F.PAIR_STATUS_ARB_GO 0 (b2n go)).set F.PAIR_STATUS_ARB_FAULT_IN 0 (b2n fault))
  let d := { d with arbGo := go }.driveClaim
  let d := if fault && !wasFault then d.raise F.PAIR_EVENT_PEER_FAULT else d
  let active := d.pst = 5 ∨ d.pst = 6 ∨ d.pst = 8
  let d := if (fault && !wasFault) ∧ active then d.pairRec 0x1104 5 else d
  if d.pst = 0 then d
  else
    let d := if wasGo && !go then d.abortHandover 3 else d
    if (wasGo && !go) ∧ active then
      (((d.raise F.PAIR_EVENT_GO_LOST).pairRec 0x1103 5).pairState 2).pairSettle
    else if (go && fault) ∧ (d.pst = 1 ∨ d.pst = 2 ∨ d.pst = 3 ∨ d.pst = 4 ∨ d.pst = 7) then d.pairTakeover
    else if d.on F.PEER_STATUS_PEER_VALID then d.becomeActive else d.startWait

def execArbInputSettled (go fault : Bool) (s : State) : Out := s.later 17 0 (·.arbSettled go fault)

def execStartWaitExpire (s : State) : Out := s.later 17 0 (·.startWait)

/-! ## The link (R412, R426) -/

/-- The configuration registers the peer is given as SFI commands: ports, time, queues, gates, stagehands (R428). -/
def isPairCfg (addr : Nat) : Bool :=
  let sl := ownerSlot addr
  (decide (1 ≤ sl ∧ sl ≤ 16) || ([0x20, 0x21, 0x30, 0x38, 0x3C] : List Nat).contains sl) &&
    match regAt addr with
    | some (r, _) => ((regInfo r).kind == .rwk || (regInfo r).kind == .rw) && (regInfo r).acc == .cfg
    | none => false

/-- CFG_DIGEST is taken anew. -/
def Dev.digest (d : Dev) : Dev :=
  d.setReg .CFG_DIGEST 0 (Config.cfgDigest ((d.regs.filter (fun e => isPairCfg e.1)).flatMap (fun e => [e.1, e.2.toNat])) % 2 ^ 32)

/-- A paired die's HELLO goes out. -/
def Dev.sendHello (d : Dev) : Dev :=
  let d := d.digest
  if !d.on F.PAIR_STATUS_PAIR_EN then d
  else d.emit (.ulk [256, d.get F.PAIR_STATUS_UNIT_ID, d.get F.PAIR_STATUS_PREFERRED, d.pst, d.reg .FW_VERSION, d.reg .CFG_DIGEST])

/-- A lane has locked; the first brings the link up. -/
def Dev.ulkUp (d : Dev) (lane : Nat) : Dev :=
  let was := d.on F.PAIR_STATUS_LINK_UP
  let d := (d.setBit F.PAIR_STATUS_ULK_UP 0 lane true).set F.PAIR_STATUS_LINK_UP 0 1
  if was then d else { d with rxFresh := true }.sendHello

def execUlkLinkUp (lane : Fin 2) (s : State) : Out := s.later 17 0 (·.ulkUp lane)

def execUlkLaneUp (lane : Fin 2) (s : State) : Out :=
  s.later 17 0 (fun d => if d.on F.PAIR_STATUS_LINK_UP then d.ulkUp lane else d)

/-- A lane has lost lock. -/
def Dev.laneLost (d : Dev) (lane : Nat) : Dev :=
  if d.bit F.PAIR_STATUS_ULK_UP 0 lane then
    ((d.setBit F.PAIR_STATUS_ULK_UP 0 lane false).raise F.PAIR_EVENT_ULK_LANE_DOWN).pairRec 0x110A 3 lane
  else d

def execUlkLaneDown (lane : Fin 2) (s : State) : Out :=
  s.later 17 0 (fun d => if d.bit F.PAIR_STATUS_ULK_UP 0 (1 - lane.val) then d.laneLost lane else d)

/-- Both lanes are down: the peer's state is unknown, its channels' binding ends. -/
def Dev.ulkDown (d : Dev) : Dev :=
  if d.on F.PAIR_STATUS_LINK_UP = false then d
  else
    let d := (((d.laneLost 0).laneLost 1).set F.PAIR_STATUS_LINK_UP 0 0).set F.PEER_STATUS_PEER_VALID 0 0
    let d := (List.range 4).foldl (fun d k => d.chanReset (16 + k)) d
    ((if d.handover.isSome || d.proposed.isSome then d.abortHandover 4 else d)).syncLost 1

def execUlkLinkDown (s : State) : Out := s.later 17 0 (·.ulkDown)

/-- The peer reports its state. -/
def Dev.peerState (d : Dev) (st : Nat) : Dev :=
  let d := d.set F.PEER_STATUS_PEER_STATE 0 st
  let d := if st = 3 then { d with mirStop := false } else if st = 4 then d.set F.MIRROR_STATUS_OVERFLOWED 0 0 else d
  if d.pst = 5 ∧ st = 6 then
    (((d.raise F.PAIR_EVENT_DUAL_ACTIVE).pairRec 0x1109 5).pairState 2).pairSettle
  else d

/-- The straps of both dies (R413): EFF_PREFERRED, STRAP_CONFLICT. -/
def Dev.straps (d : Dev) : Dev :=
  let same := d.get F.PEER_STATUS_PEER_PREFERRED == d.get F.PAIR_STATUS_PREFERRED
  let eff := if same then b2n (d.get F.PAIR_STATUS_UNIT_ID == 0) else d.get F.PAIR_STATUS_PREFERRED
  let d := d.set F.PAIR_STATUS_EFF_PREFERRED 0 eff
  let d := if same || d.unitClash then (d.raise F.PAIR_EVENT_STRAP_CONFLICT).pairRec 0x110E 5 else d
  if d.unitClash && (d.pst == 1 || d.pst == 3 || d.pst == 4) then d.pairState 2 else d

/-- HELLO (R426): channels 16 to 19 are bound to the peer's Prompter at role ENGINEER. -/
def Dev.hello (d : Dev) (x : HelloArgs) : Dev :=
  if d.on F.PAIR_STATUS_PAIR_EN = false ∨ d.on F.PAIR_STATUS_LINK_UP = false then d
  else
    let d := (d.setReg .PEER_STATUS 0 (x.state + 16 * x.claim + 1024 * b2n x.preferred + 2048 * b2n x.unit + 4096)).setReg
      .PEER_CFG_DIGEST 0 x.digest
    let d := (List.range 4).foldl (fun d k =>
      { d with sess := d.sess.put (16 + k) { (d.sess.get (16 + k)).use d.cycle with isOpen := true, role := 2 } }) d
    let d := (d.straps.peerState x.state).digest
    let d := if d.pst = 4 ∧ d.reg .CFG_DIGEST ≠ d.reg .PEER_CFG_DIGEST then d.syncLost 4 else d
    d.becomeActive.pairSettle

def execHelloRx (x : HelloArgs) (s : State) : Out := s.later 17 0 (·.hello x)

/-! ## Mirroring at the standby (R427, R428) -/

/-- An FDB change is applied; no report leaves. -/
def Dev.applyFdb (d : Dev) (reason mac fid newP stamp : Nat) : Dev :=
  if reason = 1 ∨ reason = 2 then
    let e : Fdb := { (default : Fdb) with valid := true, mac := mac, fid := fid, dest := newP, lstamp := stamp }
    match d.fdbLearned mac fid with
    | some i => d.fdbPut i e
    | none => (d.fdbInsert e newP).1
  else if reason = 3 ∨ reason = 4 ∨ reason = 7 ∨ reason = 8 ∨ reason = 9 then
    match d.fdbLearned mac fid with
    | some i => d.fdbPut i default
    | none => d
  else d

/-- A TABLES entry from its words: in the shadow's version, or the active one's of the bulk copy where no shadow is open (log entry
69); `id` 32 is a profile. -/
def Dev.tblPut (d : Dev) (id i : Nat) (ws : List Nat) : Dev :=
  let w (k : Nat) : Nat := ws.getD k 0
  let n (size : Nat) : Nat := ver size (if d.on F.PLATE_STATUS_SHADOW_OPEN then d.shadowPlate else d.activePlate) i
  if id = 0 then d.fdbPut i { fdbOfWords ws with mask := if bitsOf (w 1) 29 29 = 1 then bitsOf (w 2) 24 17 else 0 }
  else if id ≤ 8 then
    let r : Rule := { prof := w 10 % 32, key := ofWords (ws.take 10), mask := bitsOf (w 10) 15 8, action := ofWords (ws.drop 12) }
    { d with rules := d.rules.put (8192 * (id - 1) + i) (if r.mask = 0 then default else r) }.mend 0 (8192 * (id - 1) + i)
  else if id = 9 then
    { d with edits := d.edits.put (n 16384) (if ws.all (· == 0) then [] else ws.take 7) }.mend 8 (n 16384)
  else if id = 10 ∨ id = 11 then
    let k := if id = 11 then 65536 + i else i
    let a := if id = 11 then 4 else 1
    let r : Route := { pfx := ofWords (ws.take a), len := w a % 256, mask := bitsOf (w a) 15 8, nh := w (a + 1) % 8192 }
    { d with routes := d.routes.put k (if r.mask = 0 then default else r) }.mend 2 k
  else if id = 12 then { d with nexthops := d.nexthops.put (n 8192) (w 0) }.mend 3 (n 8192)
  else if id = 13 then { d with groups := d.groups.put (n 16384) (ofWords (ws.take 9)) }.mend 4 (n 16384)
  else if id = 14 then { d with vlans := d.vlans.put i (vlanOfWords ws) }
  else if id = 32 then
    let k := if d.on F.PLATE_STATUS_SHADOW_OPEN then (RegName.PROF_CFG, RegName.PROF_GRP, RegName.PROF_SLOT)
      else (RegName.ACT_PROF_CFG, RegName.ACT_PROF_GRP, RegName.ACT_PROF_SLOT)
    (List.range 10).foldl (fun d j => d.setReg k.2.2 (10 * i + j) (w (2 + j))) ((d.setReg k.1 i (w 0)).setReg k.2.1 i (w 1))
  else d

/-- A STREAM entry from its words. What a withdrawn stream held is gone; an express entry waits for the commit as the peer's does. -/
def Dev.sacMirrored (d : Dev) (t i : Nat) (ws : List Nat) : Dev :=
  let d := d.sacPut t i ws
  if t = 0 then (if (d.streams.get i).valid then d else { d with streams := d.streams.put i default, policers := d.policers.put i default })
  else if t = 2 ∨ t = 3 then
    let k := 64 * (t - 2) + i
    { d with express := d.express.put k { d.express.get k with staged := bitsOf (ws.getD 8 0) 0 0 == 1, leaving := bitsOf (ws.getD 8 0) 1 1 == 1 } }
  else d

/-- A plate command is executed on the same plate number; another plate, or another shadow, is a gap. A commit that this die's own
compare has made at the same target is there already. -/
def Dev.applyPlate (d : Dev) (op plate target : Nat) (ok : Bool) : Dev :=
  if op = 1 ∧ d.on F.PLATE_STATUS_SHADOW_OPEN = false ∧ d.activePlate = plate then d
  else if !ok || d.shadowPlate != plate then d.syncLost 2
  else if op = 0 then (if d.on F.PLATE_STATUS_SHADOW_OPEN then d else d.plateOpen 33)
  else if d.on F.PLATE_STATUS_SHADOW_OPEN = false then d
  else if op = 1 then d.plateCommit.fillStreams
  else if op = 2 then d.plateArm target
  else if op = 3 then d.plateDisarm 32
  else d.plateAbort

/-- A base is steered to the peer's: a LOCK step per epoch, rate changes afterwards. Its servo timer restarts (R65, R428). -/
def Dev.applyTime (d : Dev) (n state epoch rate offset : Nat) : Dev :=
  let d := if d.get F.TB_STATE_EPOCH n = epoch then d else ((d.tbEpochEnd n).tbStart n).set F.TB_STATE_EPOCH n epoch
  let d := if state = 0 then d.tbEpochEnd n else d
  let d := if 2 ≤ state ∧ d.get F.TB_STATE_STATE n = 1 then
      ((List.range 3).foldl (fun d k => d.setReg .TB_STEP (3 * n + k) (ltWord (offset % 2 ^ 80) k)) d).tbLock n false
    else if state = 3 ∧ d.get F.TB_STATE_STATE n = 2 then d.enterHoldover n
    else if state = 2 then d.tbRelock n else d
  let d := { d with servoAt := d.servoAt.put n d.cycle }
  let r := signed 48 (rate % 2 ^ 48)
  if r < -rateLimit ∨ rateLimit < r then d else if n = 0 then { d with pend0 := some r } else { d with pend1 := some r }

/-- Statistics bases are stored. -/
def Dev.applyStats (d : Dev) (port cls stream : List (Nat × Nat)) : Dev :=
  { d with basePort := port.foldl (fun t e => t.put e.1 e.2) d.basePort
           baseClass := cls.foldl (fun t e => t.put e.1 e.2) d.baseClass
           baseStream := stream.foldl (fun t e => t.put e.1 e.2) d.baseStream
           baseAt := d.cycle + 1 }

/-- The answer to a proposal (R422, R424): accepted, the proposer enters the handover. -/
def Dev.answered (d : Dev) (accept : Bool) : Dev :=
  match d.proposed with
  | none => d
  | some t =>
    if !accept then d.abortHandover 1
    else
      let d := { d with proposed := none, handover := some t, trOpen := false, overlapSeen := false }
      if d.pst = 4 then d.pairState 7
      else if d.pst = 5 ∨ d.pst = 6 then { d with leftState := d.pst }.pairState 8 else d

/-- A message is applied where the die is a standby and it is not stamped at or after T_r (R423); what concerns the handover
is taken in every state. -/
def Dev.applyMir (d : Dev) (x : MirArgs) : Dev :=
  match x.msg with
  | .answer a => d.answered a
  | .cancel => d.abortHandover 5
  | m =>
    let late := match d.handover with | some t => d.pst == 7 && decide (t ≤ x.stamp) | none => false
    if ¬ (d.pst = 3 ∨ d.pst = 4 ∨ d.pst = 7) ∨ late = true then d
    else
      let d := d.count 0x58 2
      match m with
      | .fdb r mac fid newP _ stamp => d.applyFdb r mac fid newP stamp
      | .tbl id i ws => if i < tblSize id ∨ (id = 32 ∧ i < 32) then d.tblPut id i ws else d
      | .sac t i ws => if i < sacSize t then d.sacMirrored t i ws else d
      | .plate op p t ok => d.applyPlate op p t ok
      | .time n st ep r o => d.applyTime n st ep r o
      | .stats p c t => d.applyStats p c t
      | _ => d

/-- Removes a sequence number from the ranges still missing. -/
def closeGap (gs : List (Nat × Nat × Nat)) (q : Nat) : List (Nat × Nat × Nat) :=
  gs.flatMap (fun g =>
    if g.1 ≤ q ∧ q ≤ g.2.1 then (if g.1 < q then [(g.1, q - 1, g.2.2)] else []) ++ (if q < g.2.1 then [(q + 1, g.2.1, g.2.2)] else [])
    else [g])

/-- The sequence numbers after `last` and before `q`, as ranges that do not wrap. -/
def missedSeqs (last q now : Nat) : List (Nat × Nat × Nat) :=
  let a := (last + 1) % 2 ^ 32
  let b := (q + 2 ^ 32 - 1) % 2 ^ 32
  if q = a then [] else if a ≤ b then [(a, b, now)] else [(a, 2 ^ 32 - 1, now), (0, b, now)]

/-- A lane delivers a message: the first message sets the sequence, the first copy whose CRC holds is taken, the second discarded. -/
def Dev.mirrorRx (d : Dev) (x : MirArgs) : Dev :=
  if d.bit F.PAIR_STATUS_ULK_UP 0 x.lane = false ∨ d.on F.PAIR_STATUS_PAIR_EN = false then d
  else
    let d := d.count 0x58 1
    if !x.crcOk then d.count 0x58 4
    else
      let q := x.seq % 2 ^ 32
      let last := d.reg .MIRROR_RX_SEQ
      if d.rxFresh then ({ d with rxFresh := false }.setReg .MIRROR_RX_SEQ 0 q |>.peerState x.state).applyMir x
      else if d.rxGaps.any (fun g => decide (g.1 ≤ q ∧ q ≤ g.2.1)) then
        ({ d with rxGaps := closeGap d.rxGaps q }.peerState x.state).applyMir x
      else if seqAfter q last then
        (({ d with rxGaps := d.rxGaps ++ missedSeqs last q d.cycle }.setReg .MIRROR_RX_SEQ 0 q).peerState x.state).applyMir x
      else d.count 0x58 3

def execMirrorMessageRx (x : MirArgs) (s : State) : Out := s.later 17 0 (·.mirrorRx x)

/-- A gap has lasted for 2 µs: a mirror gap. -/
def Dev.mirrorGap (d : Dev) : Dev :=
  if d.rxGaps.any (fun g => decide (g.2.2 + 3000 ≤ d.cycle)) then { d with rxGaps := [] }.syncLost 2 else d

def execMirrorGap (s : State) : Out := s.later 17 0 (·.mirrorGap)

def execTimeMirrorTick (s : State) : Out := s.later 17 0 (·.mirrorTick)

/-! ## Resynchronisation (R429) -/

/-- The bulk copy ends. -/
def Dev.resyncDone (d : Dev) : Dev :=
  if d.pst ≠ 3 ∨ d.on F.MIRROR_STATUS_RESYNC_BUSY = false then d
  else
    let d := (((d.set F.MIRROR_STATUS_RESYNC_BUSY 0 0).set F.MIRROR_STATUS_RESYNC_PCT 0 100).set F.MIRROR_STATUS_OVERFLOWED 0 0).digest
    let d := d.count 0x58 5
    if d.reg .CFG_DIGEST = d.reg .PEER_CFG_DIGEST then
      (((d.fillStreams.pairState 4).raise F.PAIR_EVENT_SYNCED).pairRec 0x1105 1).finishOp 0xA02 .ok
    else ({ d with retryAt := some (d.cycle + secCycles) }.raise F.PAIR_EVENT_CFG_DIVERGED).pairRec 0x110F 3

def execResyncCopyDone (s : State) : Out := s.later 17 0 (·.resyncDone)

/-- 1 s after CFG_DIVERGED the copy is repeated. -/
def Dev.resyncRetry (d : Dev) : Dev :=
  match d.retryAt with
  | some t => if t ≤ d.cycle ∧ d.pst = 3 then { d with retryAt := none }.pairState 3 else d
  | none => d

def execResyncRetry (s : State) : Out := s.later 17 0 (·.resyncRetry)

/-! ## Revert and switchover (R422 to R425) -/

/-- 1 ms and µs as an LT. -/
def msLt : Nat := 1000000 * 65536
def usLt : Nat := 1000 * 65536

/-- A proposal with T_r = PT + 1 ms goes out. -/
def Dev.propose (d : Dev) : Dev :=
  { d with proposed := some (d.pt + msLt), proposedAt := d.cycle }.emit (.ulk ([257] ++ (List.range 3).map (ltWord (d.pt + msLt))))

/-- REVERT_HOLD has passed. -/
def Dev.revertHold (d : Dev) : Dev :=
  match d.revertSince with
  | some t =>
    if d.revertReady && d.proposed.isNone && d.handover.isNone &&
        decide (t + d.get F.PAIR_TIMERS_REVERT_HOLD * 100 * msCycles ≤ d.cycle) then d.propose else d
  | none => d

def execRevertHoldMet (s : State) : Out := s.later 17 0 (·.revertHold)

/-- The answer goes out. -/
def Dev.answer (d : Dev) (accept : Bool) : Dev := d.emit (.ulk [258, b2n accept])

/-- A proposal arrives: an ACTIVE die accepts a revert with no switchover pending, a synchronised standby a switchover. -/
def Dev.proposalRx (d : Dev) (tr : Nat) : Dev :=
  let free := d.proposed.isNone && d.handover.isNone
  if free && (d.pst == 5 || d.pst == 4) then
    let d : Dev := { d.answer true with handover := some tr, trOpen := false, overlapSeen := false }
    if d.pst = 5 then { d with leftState := 5 }.pairState 8 else d.pairState 7
  else d.answer false

def execRevertProposalRx (tr : Nat) (s : State) : Out := s.later 17 0 (·.proposalRx tr)

/-- No answer has come within 100 µs. -/
def Dev.noAnswer (d : Dev) : Dev :=
  if d.proposed.isSome && d.past d.proposedAt 150000 then d.abortHandover 2 else d

def execRevertNoAnswer (s : State) : Out := s.later 17 0 (·.noAnswer)

/-- T_r: the incoming die opens ingress and says so, the outgoing one stops mirroring. -/
def Dev.handoverTr (d : Dev) : Dev :=
  match d.handover with
  | some t =>
    if t ≤ d.pt ∧ d.trOpen = false then
      let d := { d with trOpen := true }
      if d.pst = 7 then d.emit (.ulk [259]) else d
    else d
  | none => d

def execHandoverTr (s : State) : Out := s.later 17 0 (·.handoverTr)

def execOverlapStartedRx (s : State) : Out := s.later 17 0 (fun (d : Dev) => if d.pst = 8 then { d with overlapSeen := true } else d)

/-- REVERT_DONE with T_s; a switchover that leaves the non-preferred die active clears REVERT_EN (R424). -/
def Dev.handoverDone (d : Dev) (ts : Nat) (st : Nat) (toPreferred : Bool) : Dev :=
  let d := { d with handover := none, trOpen := false, overlapSeen := false }.pairState st
  let d := if toPreferred then d else d.cfgF F.PAIR_CFG_REVERT_EN 0 0
  (d.raise F.PAIR_EVENT_REVERT_DONE).pairRec 0x1107 2 (ts / 65536 % 2 ^ 32) (ts / 65536 / 2 ^ 32 % 2 ^ 32)

/-- T_s. -/
def Dev.handoverTs (d : Dev) : Dev :=
  match d.handover with
  | some t =>
    let ts := t + d.get F.PAIR_TIMERS_OVERLAP * usLt
    if d.pt < ts then d
    else if d.pst = 7 then d.handoverDone ts d.activeState (d.on F.PAIR_STATUS_EFF_PREFERRED)
    else if d.pst = 8 then
      if d.overlapSeen && d.on F.PAIR_STATUS_LINK_UP then
        (d.handoverDone ts 3 (!d.on F.PAIR_STATUS_EFF_PREFERRED)).finishOp 0xA03 .ok
      else d.abortHandover 6
    else d
  | none => d

def execHandoverTs (s : State) : Out := s.later 17 0 (·.handoverTs)

/-! ## SFI commands (R432) -/

def execPairQuery (rq : Sfi) (s : State) : Out :=
  s.sfi rq 0xA00 0 (fun d _ =>
    (d, .okW [d.view .PAIR_STATUS, d.view .PEER_STATUS, d.view .MIRROR_STATUS, d.view .LAST_TAKEOVER_PT, d.view .TAKEOVER_INFO]))

/-- PAIR_CONFIG; a paired die passes it on (`Dev.carry`). -/
def Dev.pairConfig (d : Dev) (x : PairArgs) : Dev × Ans :=
  let w0 := x.level + 16 * x.hbHalf + 4096 * b2n x.hbFw + 8192 * b2n x.revertEn + 65536 * x.startWait
  let w1 := x.revertHold + 65536 * x.overlap
  okIf (F.PAIR_CFG_CLAIM_LEVEL.ok x.level && F.PAIR_CFG_HB_HALF.ok x.hbHalf && F.PAIR_CFG_START_WAIT.ok x.startWait &&
      F.PAIR_TIMERS_REVERT_HOLD.ok x.revertHold && F.PAIR_TIMERS_OVERLAP.ok x.overlap) d
    (let d := ((d.cfg .PAIR_CFG 0 w0).cfg .PAIR_TIMERS 0 w1).driveClaim
     d)

def execPairConfig (rq : Sfi) (x : PairArgs) (s : State) : Out := s.sfi rq 0xA01 2 (fun d _ => d.pairConfig x)

/-- PAIR_RESYNC: INVALID on an active die, and on one that is in no standby state. -/
def execPairResync (rq : Sfi) (s : State) : Out :=
  s.sfi rq 0xA02 1 (fun d _ =>
    if d.pst == 0 || decide (5 ≤ d.pst) then (d, .invalid)
    else (if d.on F.PAIR_STATUS_LINK_UP && d.peerActive && !d.unitClash then { d with retryAt := none }.pairState 3 else d, .pending))

def Dev.switchover (d : Dev) : Dev × Ans :=
  if d.proposed.isSome || d.handover.isSome then (d, .busy 9)
  else if (d.pst != 5 && d.pst != 6) || !d.on F.PEER_STATUS_PEER_VALID || d.get F.PEER_STATUS_PEER_STATE != 4 then (d, .invalid)
  else (d.propose, { Ans.pending with words := (List.range 3).map (ltWord (d.pt + msLt)) })

def execPairSwitchover (rq : Sfi) (s : State) : Out := s.sfi rq 0xA03 2 (fun d _ => d.switchover)

def execPairRevertCancel (rq : Sfi) (s : State) : Out :=
  s.sfi rq 0xA04 1 (fun d _ =>
    let t := match d.proposed with | some t => some t | none => d.handover
    match t with
    | some t => if d.pt < t then ((d.emit (.ulk [261])).abortHandover 5, .ok) else (d, .invalid)
    | none => (d, .invalid))

/-- The understudy agent posts a message of the peer's Prompter on a channel of 16 to 19 (R317, R426). -/
def Dev.peerMessage (d : Dev) (c op tag : Nat) (words : List Nat) : Dev :=
  if d.on F.PAIR_STATUS_LINK_UP = false ∨ d.isFrozen 29 = true then d
  else d.postReq (16 + c) (msgHdr op (min words.length 15) tag 0 0) (words.map (· % 2 ^ 32))

def execPeerMessage (c : Fin 4) (op tag : Nat) (words : List Nat) (s : State) : Out := s.later 13 20 (·.peerMessage c op tag words)

end Sys2Proof.Machine
end

