-- ==== Sys2Proof/Machine/Power.lean ====
section
/-! DEFINITION. Power, clocks, reset and low-speed pins (R460 to R494): the rail and temperature monitors, the thermal
trip, life hours, the resets of R476, the straps, and the SFI commands of R490. -/

namespace Sys2Proof.Machine

/-! ## Rails (R462) -/

/-- Nominal voltage in mV and window in % of rail `r`: VDD, VDDM, VDDAO, AVDD09, AVDD12, VDDIO18 (R459, R462, R492). -/
def railSpec (r : Nat) : Nat × Nat :=
  ([(750, 5), (850, 5), (800, 5), (900, 5), (1200, 5), (1800, 8)] : List (Nat × Nat)).getD r (0, 0)

/-- A reading in mV lies within the rail's window. -/
def railInside (r mv : Nat) : Bool :=
  let x := railSpec r
  decide (x.1 * (100 - x.2) ≤ 100 * mv ∧ 100 * mv ≤ x.1 * (100 + x.2))

/-- The excursion counter of a rail (R493). -/
def railCounter (r : Nat) : Nat := ([0, 1, 3, 2, 2, 3] : List Nat).getD r 3

/-- The two highest readings of TEMP_n as register words, for the snapshot of R494. -/
def Dev.hottestTwo (d : Dev) : List Nat :=
  let t := (List.range 8).map (fun n => (signed 16 (d.get F.TEMP_T16 n), d.reg .TEMP n))
  let top (l : List (Int × Nat)) : Option (Int × Nat) :=
    l.foldl (fun m x => match m with | none => some x | some y => if y.1 < x.1 then some x else some y) none
  match top t with
  | none => []
  | some a => match top (t.erase a) with | none => [a.2] | some b => [a.2, b.2]

/-- A record of the PWRCLK block (R494). -/
def Dev.pwrRec (d : Dev) (e : Evt) : Dev := d.record { e with ints := d.hottestTwo }

/-- One rail is sampled: the second sample in a row outside the window clears RAIL_OK and raises SUPPLY_FAULT, the second
inside sets RAIL_OK. -/
def Dev.railSample (d : Dev) (r mv : Nat) : Dev :=
  let d := d.setReg .VMON r (mv % 4096)
  if railInside r mv then
    let n := min 2 (d.railIn.get r + 1)
    let d := { d with railIn := d.railIn.put r n, railOut := d.railOut.put r 0 }
    if n = 2 then d.setBit F.PWR_STATUS_RAIL_OK 0 r true else d
  else
    let n := d.railOut.get r + 1
    let d := { d with railOut := d.railOut.put r (min 2 n), railIn := d.railIn.put r 0 }
    if n = 2 then
      (((d.setBit F.PWR_STATUS_RAIL_OK 0 r false).raise F.PWR_EVENT_SUPPLY_FAULT 0 r).count 0x60 (railCounter r)).pwrRec
        { code := 0x1301, sev := 5, a0 := r, a1 := mv, obj := .rail r }
    else d

/-- RAIL_MONITOR_SAMPLE: the six readings in mV, in rail order. -/
def Dev.railsSample (d : Dev) (mv : List Nat) : Dev := (List.range 6).foldl (fun d r => d.railSample r (mv.getD r 0)) d

def execRailMonitorSample (mv : List Nat) (s : State) : Out := s.later 19 0 (·.railsSample mv)

/-! ## Temperature (R467, R468, R470) -/

/-- The threshold in 1/16 °C: 0 WARN_C, 1 CRIT_C. -/
def Dev.thermLimit (d : Dev) (k : Nat) : Int := 16 * (if k = 0 then d.get F.PWR_CTRL_WARN_C else d.get F.PWR_CTRL_CRIT_C : Nat)

/-- One threshold is judged at a sample: its flag and record while it is armed; since when all sensors are 5 °C below. -/
def Dev.thermJudge (d : Dev) (k : Nat) (temps : List Int) : Dev :=
  let lim := d.thermLimit k
  let cool := temps.all (fun t => decide (t + 80 ≤ lim))
  let d := { d with coolSince := d.coolSince.put k (if cool then some ((d.coolSince.get k).getD d.cycle) else none) }
  match temps.findIdx? (fun t => decide (lim ≤ t)) with
  | none => d
  | some n =>
    if d.thermOff.get k then d
    else
      let d := { d with thermOff := d.thermOff.put k true }
      let d := if k = 0 then d.raise F.PWR_EVENT_THERM_WARN else d.raise F.PWR_EVENT_THERM_CRIT
      d.pwrRec { code := 0x1302 + k, sev := if k = 0 then 3 else 6, a0 := n, a1 := ((temps.getD n 0).emod 65536).toNat }

/-- THERMAL_SAMPLE: the eight readings in 1/16 °C. -/
def Dev.thermSample (d : Dev) (temps : List Int) : Dev :=
  let temps := (List.range 8).map (fun n => temps.getD n 0)
  let top := temps.foldl max (temps.headD 0)
  let d := temps.zipIdx.foldl (fun d x => d.setReg .TEMP x.2 (x.1.emod 65536).toNat) d
  let d := if d.tempSeen && decide (top ≤ signed 16 (d.reg .TEMP_MAX)) then d else d.setReg .TEMP_MAX 0 (top.emod 65536).toNat
  let hot := decide (d.thermLimit 0 ≤ top)
  let crit := decide (d.thermLimit 1 ≤ top)
  let d := ({ d with tempSeen := true }.set F.PWR_STATUS_HOT 0 (b2n hot)).set F.PWR_STATUS_CRIT 0 (b2n crit)
  let d := if hot then d.count 0x60 4 else d
  let d := if crit then d.count 0x60 5 else d
  (d.thermJudge 0 temps).thermJudge 1 temps

def execThermalSample (temps : List Int) (s : State) : Out := s.later 19 0 (·.thermSample temps)

/-- An event whose sensors have been 5 °C below its threshold for 1 s is armed again, and recorded. -/
def Dev.thermRearm (d : Dev) (k : Nat) : Dev :=
  match d.coolSince.get k with
  | some t =>
    if d.thermOff.get k && decide (t + secCycles ≤ d.cycle) then
      { d with thermOff := d.thermOff.put k false }.pwrRec { code := 0x1306, sev := 1 }
    else d
  | none => d

def execThermClear (s : State) : Out := s.later 19 0 (fun d => (d.thermRearm 0).thermRearm 1)

/-- Every output of R484 is released (level 2); FOLIO_PERST_N is low. -/
def Dev.releaseOutputs (d : Dev) : Dev :=
  let pins : List (Nat × Nat) := (List.range 8).map (fun n => (0, n)) ++ [(1, 0), (2, 0), (2, 1)] ++
    (List.range 8).map (fun n => (3, n)) ++ (List.range 8).map (fun n => (5, n))
  (List.range 4).foldl (fun d n => d.emit (.pin 6 n 0)) (pins.foldl (fun d x => d.emit (.pin x.1 x.2 2)) d)

/-- THERMAL_TRIP: the record, the outputs released, every clock but the oscillator stopped, THERM_TRIP_N asserted. -/
def Dev.thermalTrip (d : Dev) : Dev :=
  if d.tripped then d
  else
    let d := (d.pwrRec { code := 0x1304, sev := 7 }).writeEvents
    { d.releaseOutputs.emit (.pin 4 0 0) with tripped := true }

def execThermalTrip (s : State) : Out := s.actAo (·.thermalTrip)

/-- e^x in units of 2^-48, for x ≥ 0 in the same units, by its series. -/
def expQ (x : Nat) : Nat :=
  ((List.range 80).foldl (fun (a : Nat × Nat) k => (a.1 + a.2, a.2 * x / ((k + 1) * 2 ^ 48))) (0, 2 ^ 48)).1

/-- AF of R470 in units of 2^-32, for a temperature in 1/16 °C: e to the power 8,123 · (T − 95) / (368.15 · (T + 273.15)). -/
def lifeRate (t : Int) : Nat :=
  let num := 81230000 * (t - 1520)
  let den := 36815 * (100 * t + 437040)
  if den ≤ 0 then 0
  else if 0 ≤ num then expQ (num * 2 ^ 48 / den).toNat / 2 ^ 16
  else 2 ^ 80 / expQ (-num * 2 ^ 48 / den).toNat

/-- One second at the hottest sensor's temperature is added to LIFE_HOURS. -/
def execLifeHoursUpdate (hottest : Int) (s : State) : Out :=
  s.actAo (fun d => { d with lifeAcc := d.lifeAcc + lifeRate hottest })

/-- A PLL of PWR_STATUS [10:6] loses lock: 0 core, 1 Prompter, 2 PCIe host, 3 PCIe storage, 4 ULK (R492, R494). -/
def Dev.pllUnlock (d : Dev) (pll : Nat) : Dev :=
  let w := d.reg .PWR_STATUS
  if bitsOf w (6 + pll) (6 + pll) = 0 then d
  else ((d.setReg .PWR_STATUS 0 (withBits w (6 + pll) (6 + pll) 0)).raise F.PWR_EVENT_PLL_UNLOCK).pwrRec { code := 0x1305, sev := 5, a0 := pll }

def execCorePllUnlock (pll : Fin 5) (s : State) : Out := s.later 19 0 (·.pllUnlock pll)

/-! ## Resets (R476 to R481, R489) -/

/-- The mailbox channels through a device reset: every sender and receiver is reset, so epochs advance and messages are
marked; what waited in the Prompter and in staging is gone (R320, R321, R476). -/
def Dev.keptChans (d : Dev) : Tbl Chan :=
  let x := (List.range 32).foldl (fun (d : Dev) c => (d.senderReset c).receiverReset c) d
  x.chans.map (fun e => (e.1, { e.2 with wait := [], stage := [], prevW := 0, prevAt := 0 }))

/-- A device reset: everything at its reset value but the always-on domain (mailbox queues, on-die book, trip latch,
LIFE_HOURS), and what stands outside the device (flash, OTP, the drives' content, PCIE_PERST_N) (R476, R288, R338). The records
generated before it in its core cycle are in the book. -/
def Dev.deviceReset (d : Dev) : Dev :=
  let d := d.writeEvents
  let c := Dev.cold
  let book := if d.on F.BOOK_STATUS_MODE_ACTIVE then d.book.filter (fun (r : Rec) => d.staged.contains r.seq) else d.book
  { c with
    chans := d.keptChans
    book := book
    nextSeq := d.nextSeq
    wasFull := d.wasFull
    tripped := d.tripped
    lifeAcc := d.lifeAcc
    creds := d.creds
    domKey := d.domKey
    keySlots := d.keySlots
    prefSlot := d.prefSlot
    trialSlot := d.trialSlot
    trialCount := d.trialCount
    dirSeq := d.dirSeq
    otpSvn := d.otpSvn
    startup := d.startup
    startupCopy := d.startupCopy
    ringDrives := d.ringDrives
    segsPerDrive := d.segsPerDrive
    bookSegs := d.bookSegs
    folioId := d.folioId
    segs := d.segs
    wrPos := d.wrPos
    wrOpen := d.wrOpen
    segSeq := d.segSeq
    lostPt := d.lostPt
    wins := d.wins
    nextWin := d.nextWin
    linkReset := d.linkReset
    inReset := d.inReset
    intReset := d.intReset
    powerOn := d.powerOn
    out := d.out
    freeCtr := d.freeCtr }.releaseOutputs

/-- RESET_N goes low. -/
def Dev.resetAssert (d : Dev) : Dev := if d.inReset then d else { d.deviceReset with inReset := true, intReset := false }

def execResetNAssert (s : State) : Out := s.actAo (·.resetAssert)

/-- Power-on: everything resets, the always-on domain included; what stands outside the device stays. The device waits for
RESET_N's release (R461). -/
def Dev.powerOnReset (d : Dev) : Dev :=
  let x := d.deviceReset
  { x with chans := [], book := [], nextSeq := 0, wasFull := false, tripped := false, lifeAcc := 0
           inReset := true, intReset := false, powerOn := true }

def execPowerOnReset (s : State) : Out := s.actAo (·.powerOnReset)

/-- The straps are sampled and the device runs: RESET_CAUSE, the pair's straps and state (R413, R418, R479), the timing
outputs low, the claim driven where paired (R484), and BOOK_START (R385). -/
def Dev.startUp (d : Dev) (straps cause : Nat) : Dev :=
  let en := straps % 2
  let unit := straps / 2 % 2
  let pref := straps / 4 % 2
  let d := { d with inReset := false, intReset := false, powerOn := false }
  let d := d.emit (.pin 1 0 0) |>.emit (.pin 2 0 0) |>.emit (.pin 2 1 0)
  let d := (d.setReg .STRAPS 0 straps).setReg .RESET_CAUSE 0 cause
  let d := (((d.set F.PAIR_STATUS_UNIT_ID 0 unit).set F.PAIR_STATUS_PREFERRED 0 pref).set F.PAIR_STATUS_PAIR_EN 0 en).set
    F.PAIR_STATUS_EFF_PREFERRED 0 pref
  let d := d.set F.PAIR_STATUS_STATE 0 en
  let d := if en = 1 then ((List.range 8).foldl (fun (d : Dev) k => d.emit (.pin 3 k 0)) d).driveClaim else d
  (d.record { code := 0x0F01, sev := 1, a0 := cause }).writeEvents

/-- RESET_N is released. A tripped device stays tripped unless every sensor reads below 100 °C (R468). -/
def Dev.resetRelease (d : Dev) (straps : Nat) (temps : List Int) : Dev :=
  if d.inReset = false then d
  else if d.tripped && temps.any (fun t => decide (1600 ≤ t)) then { d with inReset := false }
  else
    let cause := if d.powerOn then 1 else if d.tripped then 4 else 2
    let d := if d.tripped then { d with tripped := false }.emit (.pin 4 0 2) else d
    d.startUp straps cause

def execResetNRelease (straps : Fin 32) (temps : List Int) (s : State) : Out := s.actAo (·.resetRelease straps temps)

/-- An internal device reset begins. -/
def Dev.internalReset (d : Dev) : Dev := { d.deviceReset with intReset := true }

/-- DEVICE_RESET in RESET_CTRL (R491). -/
def execResetCtrlDeviceReset (m : Fin 32) (s : State) : Out :=
  s.write m .RESET_CTRL 0 1 (fun d _ => d.internalReset)

/-- The internal reset ends after 1 ms. -/
def execInternalResetEnd (straps : Fin 32) (s : State) : Out :=
  s.actAo (fun d => if d.intReset && !d.inReset then d.startUp straps 3 else d)

/-- SYS_RESET (R362): KIND 1 needs SECURITY_ADMIN and the unlock key; either follows its reply. -/
def Dev.sysReset (d : Dev) (rq : Sfi) (role kind : Nat) : Dev × Ans :=
  if kind = 0 then ({ d with resetReq := 1 }, .ok)
  else if kind ≠ 1 then (d, .invalid)
  else if role < 3 then (d, .denied)
  else if rq.key.toNat ≠ unlockKey then (d.authFail rq.ch, .denied)
  else ({ d with resetReq := 2 }, .ok)

def execSysReset (rq : Sfi) (kind : Nat) (s : State) : Out :=
  s.actAt (fun _ => sfiPlace 0x004) (fun d =>
    let d := d.sfiRun rq 0x004 2 false (fun d role => d.sysReset rq role kind)
    if d.resetReq = 2 then d.internalReset else d.restartIfAsked 1)

/-! ## SFI commands (R490) -/

/-- The words of POWER_QUERY, in the order of R490. -/
def Dev.powerWords (d : Dev) : List Nat :=
  [d.view .PWR_STATUS] ++ (List.range 8).map (fun n => d.view .TEMP n) ++ [d.view .TEMP_MAX] ++
    (List.range 6).map (fun r => d.view .VMON r) ++
    [d.view .LIFE_HOURS, d.view .GATE_STATUS_0, d.view .GATE_STATUS_1, d.view .RESET_CAUSE]

/-- POWER_QUERY, from `start` where a mailbox reply cannot hold all its words (R350). -/
def execPowerQuery (rq : Sfi) (start : Nat) (s : State) : Out :=
  s.sfi rq 0x00D 0 (fun d _ => (d, d.listing rq 0x00D 1 (wordRows d.powerWords start)))

def execThermalSet (rq : Sfi) (warn crit : Nat) (s : State) : Out :=
  s.sfi rq 0x00E 2 (fun d _ => okIf (decide (60 ≤ warn ∧ warn < crit ∧ crit ≤ 120)) d (d.cfg .PWR_CTRL 0 (warn + 256 * crit)))

/-- The level of GPIO_n: what GPIO_OE drives, else released (2). -/
def gpioLevel (w n : Nat) : Nat := if w / 2 ^ n % 2 = 1 then w / 2 ^ (8 + n) % 2 else 2

/-- The GPIO pins follow GPIO_CFG (R491). -/
def Dev.gpioDrive (d : Dev) (old : Nat) : Dev :=
  let w := d.reg .GPIO_CFG
  (List.range 8).foldl (fun d n => if gpioLevel w n = gpioLevel old n then d else d.emit (.pin 5 n (gpioLevel w n))) d

def execGpioSet (rq : Sfi) (oe out : Fin 256) (s : State) : Out :=
  s.sfi rq 0x00F 2 (fun d _ =>
    let w := d.reg .GPIO_CFG
    (((d.cfg .GPIO_CFG 0 (withBits w 15 0 (oe.val + 256 * out.val))).gpioDrive w), .ok))

end Sys2Proof.Machine
end

