-- ==== Sys2Proof/Machine/Domain.lean ====
section
/-! DEFINITION. The domain agent (R436 to R457): management frames, the tree, proofs, curtain actions, barriers, and the SFI
commands of the domain group. The payload words of a frame are the model's (log entry 34). -/

namespace Sys2Proof.Machine

/-! ## Identity and frames (R436, R438, R440) -/

/-- The device is a member with a key. -/
def Dev.domEn (d : Dev) : Bool := d.on F.DOM_CFG_DOM_EN && !d.domKey.isEmpty

def Dev.domIndex (d : Dev) : Nat := d.get F.DOM_ID_INDEX
def Dev.domParent (d : Dev) : Nat := d.get F.DOM_ID_PARENT_INDEX
def Dev.domRoot (d : Dev) : Bool := d.on F.DOM_CFG_ROOT
def Dev.domMac (d : Dev) : Nat := d.get F.DOM_MAC_1_ADDR * 2 ^ 32 + d.reg .DOM_MAC_0
def Dev.domGroup (d : Dev) : Nat := d.get F.DOM_GROUP_DA_1_ADDR * 2 ^ 32 + d.reg .DOM_GROUP_DA_0
def Dev.domParentMac (d : Dev) : Nat := d.get F.DOM_PARENT_MAC_1_ADDR * 2 ^ 32 + d.reg .DOM_PARENT_MAC_0

/-- HOP_WAIT and ARM_MIN as LT, HELLO_PERIOD in core cycles (R456). -/
def Dev.hopWait (d : Dev) : Nat := d.get F.DOM_TIMERS_HOP_WAIT * msLt
def Dev.armMin (d : Dev) : Nat := d.get F.DOM_TIMERS_ARM_MIN * 10 * usLt
def Dev.helloPeriod (d : Dev) : Nat := d.get F.DOM_TIMERS_HELLO_PERIOD * 100 * msCycles

/-- The count of 65.536 µs that MSEQ follows. -/
def Dev.ptCount (d : Dev) : Nat := d.ptNs / 2 ^ 16 % 2 ^ 32

/-- A record of the DOMAIN block (R458). -/
def Dev.domRec (d : Dev) (code sev : Nat) (a0 : Nat := 0) (a1 : Nat := 0) : Dev :=
  d.record { code := code, sev := sev, a0 := a0, a1 := a1 }

/-- The tag of a frame: 16 bytes of HMAC-SHA-256 over header and payload (R439). -/
def domTag (key : List Nat) (body : List Byte) : List Byte :=
  let h := hmacSha256 (key.flatMap (beBytes 4)) body
  (List.range 4).flatMap (fun k => beBytes 4 (h.getD k 0))

/-- Words as payload bytes. -/
def wordBytes (ws : List Nat) : List Byte := ws.flatMap (beBytes 4)

/-- Payload bytes as words. -/
def payloadWords (b : List Byte) : List Nat := (List.range (b.length / 4)).map (fun k => be b (4 * k) 4)

/-- A frame's domain header and payload at the time of sending. -/
def Dev.domBody (d : Dev) (m : DomMsg) : List Byte :=
  beBytes 1 1 ++ beBytes 1 m.typ ++ beBytes 2 (d.get F.DOM_CFG_DOMAIN_ID) ++ beBytes 2 (d.domIndex + 16384 * m.role) ++
    beBytes 2 (m.target % 16384 + 16384 * b2n m.all) ++ beBytes 4 m.mseq ++ beBytes 8 (d.ptNs % 2 ^ 64) ++ beBytes 4 m.opId ++
    beBytes 2 m.payload.length ++ beBytes 6 0 ++ m.payload

/-- The ports of a port set of 256 bits. -/
def portsOf (w : Nat) : List Nat := (List.range 256).filter (fun p => w / 2 ^ p % 2 == 1)

/-- The ports of DOMAIN_PORTS. -/
def Dev.domPorts (d : Dev) : List Nat := (List.range 256).filter (fun p => d.bit F.DOMAIN_PORTS_PORTS (p / 32) (p % 32))

/-- A body goes out to an address: bridged from port 257, or flooded on DOMAIN_PORTS but one (R441, R442). -/
def Dev.domOut (d : Dev) (da : Nat) (flood : Bool) (skip : Nat) (body : List Byte) : Dev :=
  let frame := beBytes 6 da ++ beBytes 6 d.domMac ++ beBytes 2 0x88B5 ++ body ++ domTag d.domKey body
  if flood then
    (d.domPorts.filter (· != skip)).foldl (fun d p => (d.promptTx frame (some (p, d.get F.DOM_CFG_DOM_TC))).count 0x5C 1) d
  else (d.promptTx frame none).count 0x5C 1

/-- PT stands within 4,096 counts of a frame's MSEQ. -/
def Dev.mseqDue (d : Dev) (mseq : Nat) : Bool :=
  let ahead := (mseq + 2 ^ 32 - d.ptCount) % 2 ^ 32
  decide (ahead ≤ 4096 ∨ 2 ^ 31 ≤ ahead)

/-- Sends a frame under its own MSEQ, or holds it until PT catches up; before it is allowed to send, nothing goes out (R440).
The device's own broadcasts count as seen. -/
def Dev.domSend (d : Dev) (m : DomMsg) : Dev :=
  if !d.domTx then d
  else
    let now := d.ptCount
    let q := match d.mseq with
      | none => now
      | some p => if seqAfter now ((p + 1) % 2 ^ 32) then now else (p + 1) % 2 ^ 32
    let d := { d with mseq := some q, domSeen := d.domSeen.put d.domIndex (q + 1, now) }
    let m := { m with mseq := q }
    if d.domHeld.isEmpty && d.mseqDue q then d.domOut m.da m.flood 256 (d.domBody m)
    else { d with domHeld := d.domHeld ++ [m] }

/-- Held frames go out in order as PT catches up. -/
def Dev.domRelease (d : Dev) : Dev :=
  let due := d.domHeld.takeWhile (fun m => d.mseqDue m.mseq)
  due.foldl (fun d m => d.domOut m.da m.flood 256 (d.domBody m)) { d with domHeld := d.domHeld.drop due.length }

def execMgmtFrameHoldRelease (s : State) : Out := s.later 18 0 (·.domRelease)

/-- 300 ms after PT_VALID has set, frames may be sent. -/
def Dev.domTxOn (d : Dev) : Dev :=
  match d.validSince with
  | some t => if d.domEn && decide (t + 300 * msCycles ≤ d.cycle) then { d with domTx := true } else d
  | none => d

def execDomainTxEnable (s : State) : Out := s.later 18 0 (·.domTxOn)

/-- An entry of the last-accepted table not updated for 2^30 counts is emptied. -/
def Dev.mseqAge (d : Dev) (index : Nat) : Dev :=
  let e := d.domSeen.get index
  if e.1 ≠ 0 ∧ 2 ^ 30 ≤ (d.ptCount + 2 ^ 32 - e.2) % 2 ^ 32 then { d with domSeen := d.domSeen.put index (0, 0) } else d

def execMseqEntryAge (index : Fin 16384) (s : State) : Out := s.later 18 0 (·.mseqAge index)

/-- A frame to a tree neighbour. -/
def Dev.domTo (d : Dev) (da typ target opId role : Nat) (payload : List Byte) : Dev :=
  d.domSend { (default : DomMsg) with da := da, typ := typ, target := target, opId := opId, role := role, payload := payload }

/-- A frame to the parent. -/
def Dev.domUp (d : Dev) (typ opId : Nat) (payload : List Byte) : Dev := d.domTo d.domParentMac typ d.domParent opId 0 payload

/-- A broadcast. -/
def Dev.domCast (d : Dev) (opId role : Nat) (payload : List Byte) : Dev :=
  d.domSend { (default : DomMsg) with da := d.domGroup, flood := true, typ := 4, all := true, opId := opId, role := role, payload := payload }

/-- The addresses a frame for a member is sent to in the tree: the member itself where it is a neighbour, else every
neighbour but the one it came from (log entry 35). -/
def Dev.domHops (d : Dev) (target : Nat) (src : Nat) : List Nat :=
  let near := (if d.domRoot then [] else [(d.domParent, d.domParentMac)]) ++
    (d.children.filter (fun e => e.2.live)).map (fun e => (e.2.index, e.2.mac))
  match near.find? (fun x => x.1 == target) with
  | some x => [x.2]
  | none => (near.map Prod.snd).filter (· != src)

/-- An SFI message or reply for a member. -/
def Dev.domUnicast (d : Dev) (typ target opId role : Nat) (payload : List Byte) : Dev :=
  (d.domHops target 0).foldl (fun d da => d.domTo da typ target opId role payload) d

/-! ## The tree (R437) -/

/-- The live children. -/
def Dev.liveKids (d : Dev) : List DomChild := (d.children.map Prod.snd).filter (fun c => c.live)

/-- HELLO to the parent every HELLO_PERIOD; the echo stamp is the parent's, advanced by the time it was kept. -/
def Dev.helloTick (d : Dev) : Dev :=
  let due := match d.helloAt with | some t => decide (t + d.helloPeriod ≤ d.cycle) | none => true
  if !d.domEn || d.domRoot || !d.domTx || !due then d
  else
    let echo := if d.parentStamp = 0 then 0 else d.parentStamp + (d.ptNs - d.parentPt)
    { d with helloAt := some d.cycle }.domUp 1 0 (wordBytes [d.domIndex, d.get F.DOM_CFG_DEPTH] ++ beBytes 8 echo)

def execDomainHelloTick (s : State) : Out := s.later 18 0 (·.helloTick)

/-- The place of a child: its own, a free one, one no longer live. -/
def Dev.childPlace (d : Dev) (index mac : Nat) : Option Nat :=
  match (List.range 64).find? (fun n => (d.children.get n).used && (d.children.get n).index == index && (d.children.get n).mac == mac) with
  | some n => some n
  | none =>
    match (List.range 64).find? (fun n => !(d.children.get n).used) with
    | some n => some n
    | none => (List.range 64).find? (fun n => !(d.children.get n).live)

/-- A child's HELLO: admitted, refreshed, or refused; the answer carries no stamp of its own but SEND_PT. -/
def Dev.helloChild (d : Dev) (sa : Nat) (payload : List Byte) : Dev :=
  let index := be payload 0 4 % 16384
  let echo := be payload 8 8
  if d.liveKids.any (fun c => c.index == index && c.mac != sa) then (d.raise F.DOM_EVENT_DUP_INDEX).domRec 0x1205 5 index
  else
    match d.childPlace index sa with
    | none => (d.raise F.DOM_EVENT_CHILD_REFUSED).domRec 0x1204 4 index
    | some n =>
      let old := d.children.get n
      let same := old.used && old.index == index && old.mac == sa
      let delay := if echo = 0 then (if same then old.delay else 0) else (d.ptNs - echo) / 2000
      let c : DomChild := { used := true, index := index, mac := sa, live := true, delay := delay,
                            reported := same && old.reported, hello := d.cycle }
      { d with children := d.children.put n c }.domTo sa 1 index 0 0 (wordBytes [d.domIndex, d.get F.DOM_CFG_DEPTH] ++ beBytes 8 0)

/-- The parent's reply. -/
def Dev.helloParent (d : Dev) (sendPt : Nat) : Dev :=
  { d with parentAt := d.cycle, parentLost := false, parentStamp := sendPt, parentPt := d.ptNs }.set F.DOM_STATUS_PARENT_LIVE 0 1

/-- Three periods without a child's HELLO. -/
def Dev.childLost (d : Dev) (n : Nat) : Dev :=
  let c := d.children.get n
  if c.live && decide (c.hello + 3 * d.helloPeriod ≤ d.cycle) then
    ({ d with children := d.children.put n { c with live := false } }.raise F.DOM_EVENT_CHILD_LOST).domRec 0x1203 4 c.index
  else d

def execChildLost (n : Fin 64) (s : State) : Out := s.later 18 0 (·.childLost n)

/-- Three periods without the parent's reply. -/
def Dev.parentGone (d : Dev) : Dev :=
  if d.domEn && !d.domRoot && !d.parentLost && decide (d.parentAt + 3 * d.helloPeriod ≤ d.cycle) then
    (({ d with parentLost := true }.set F.DOM_STATUS_PARENT_LIVE 0 0).raise F.DOM_EVENT_PARENT_LOST).domRec 0x1206 5
  else d

def execParentLost (s : State) : Out := s.later 18 0 (·.parentGone)

/-- A live child's place by its address. -/
def Dev.kidAt (d : Dev) (sa : Nat) : Option Nat :=
  (List.range 64).find? (fun n => (d.children.get n).live && (d.children.get n).mac == sa)

/-- A child has reported. -/
def Dev.kidReported (d : Dev) (n : Nat) : Dev :=
  { d with children := d.children.put n { d.children.get n with reported := true } }

/-- An operation begins: its OP_ID and target show, and no child has reported. -/
def Dev.opBegin (d : Dev) (opId t : Nat) : Dev :=
  let d := { d with children := d.children.map (fun (e : Nat × DomChild) => (e.1, { e.2 with reported := false })) }
  ((d.setReg .OP_ID 0 opId).setReg .OP_TARGET_0 0 (t % 2 ^ 32)).setReg .OP_TARGET_1 0 (t / 2 ^ 32 % 2 ^ 24)

/-- The completion of the operation's command. -/
def Dev.opFinish (d : Dev) (opId : Nat) (a : Ans) : Dev :=
  match d.jobs.find? (fun j => (j.op == 0xB06 || j.op == 0xB07 || j.op == 0xB09) && j.data.head? == some opId) with
  | some j => d.finishJob j a
  | none => d

/-! ## Proofs (R444 to R447) -/

/-- A proof record (R446): status, index, its other words, its check. -/
def proofBytes (index status flags opId ns seq crc word : Nat) (snaps : List Nat) : List Byte :=
  let b := beBytes 2 (index + 16384 * status) ++ beBytes 2 flags ++ beBytes 4 opId ++ beBytes 8 ns ++ beBytes 4 seq ++ beBytes 4 crc ++
    beBytes 4 word ++ (List.range 8).flatMap (fun k => beBytes 4 (snaps.getD k 0))
  b ++ beBytes 4 (crc32c b)

/-- The records go up, or at the root to the host (R447): a child that has not reported stands as NOT_REPORTED. The last frame of a
report holds fewer than 22 records, or none, so that the parent knows it (DESIGN CHOICE, log entry 34). -/
def Dev.proofForward (d : Dev) (p : DomProof) : Dev :=
  let late := d.liveKids.filter (fun c => !c.reported)
  let recs := p.recs ++ late.map (fun c => proofBytes c.index 3 0 p.opId 0 0 0 (2 ^ 11) [])
  let d := { d with proof := none }
  if d.domRoot then
    let bytes := (recs.take (p.len / 64)).flatten
    let d := if bytes.isEmpty then d else d.devWrite p.fn p.addr bytes
    let n (k : Nat) : Nat := (recs.filter (fun r => be r 0 2 / 16384 == k)).length
    d.opFinish p.opId (.okW [n 0, n 1, n 2, n 3])
  else
    (List.range (recs.length / 22 + 1)).foldl (fun d k =>
      (d.domUp 5 p.opId ((recs.drop (22 * k)).take 22).flatten).count 0x5C 6) d

/-- The records go when the member has latched and every live child has reported. -/
def Dev.proofCheck (d : Dev) : Dev :=
  match d.proof with
  | some p => if p.latched && d.liveKids.all (fun c => c.reported) then d.proofForward p else d
  | none => d

/-- The latch at T (R445): statistics and dump, performance snapshot, PROOF_SNAP words, record. -/
def Dev.proofTake (d : Dev) (p : DomProof) : Dev :=
  let holds := (List.range 4).any (fun k => d.reg .DUMP_BASE k != 0)
  let free := holds && d.dump.isNone
  let pt := d.ptNs
  let flags := d.timeFlags
  let d := takeSnap (if holds then d.latch 8 p.opId else d)
  let img := if free then d.dump else none
  let e : Evt := { code := 0x1207, sev := 2 }
  let snaps := (List.range 8).map (fun k => (snapWord d e (d.reg .PROOF_SNAP k &&& 0x4FFFFFF)).getD 0)
  let word := d.get F.PLATE_STATUS_ACTIVE + 8 * d.get F.PAIR_STATUS_STATE + 2 ^ 7 * d.get F.TB_STATE_STATE 0 + 2 ^ 9 * d.get F.TB_STATE_STATE 1
  let r := proofBytes d.domIndex p.status flags p.opId pt (match img with | some x => x.seq | none => 0)
    (match img with | some x => crc32c (x.header ++ x.body) | none => 0) word snaps
  let d := { d with proof := some { p with latched := true, recs := r :: p.recs } }
  (d.raise F.DOM_EVENT_PROOF_LATCHED).domRec 0x1207 2 p.opId

/-- PROOF_ARM (R444): armed, or latched at once, LATE or NO_TIME; while one proof is open it is ignored. -/
def Dev.proofArm (d : Dev) (opId t : Nat) (host : Nat × Nat × Nat) : Dev :=
  if d.proof.isSome then d
  else
    let p : DomProof := { (default : DomProof) with opId := opId, t := t, fn := host.1, addr := host.2.1, len := host.2.2 }
    if d.on F.TIME_STATUS_PT_VALID = false then
      let d := d.opBegin opId t
      d.proofTake { p with status := 2 }
    else if d.pt + d.armMin ≤ t then { d.opBegin opId t with proof := some p }
    else if d.pt < t + d.hopWait then
      let d := d.opBegin opId t
      let d := (d.raise F.DOM_EVENT_PROOF_LATE).domRec 0x1208 4 opId ((d.pt - t) / 65536)
      d.proofTake { p with status := 1 }
    else d

/-- PROOF_LATCH: the compare of an armed proof fires. -/
def Dev.proofLatch (d : Dev) : Dev :=
  match d.proof with
  | some p => if !p.latched && decide (p.t ≤ d.pt) then d.proofTake p else d
  | none => d

def execProofLatch (s : State) : Out := s.actAt (fun _ => atLatch) (·.proofLatch)

/-- Levels below this member. -/
def Dev.levels (d : Dev) : Nat := d.get F.DOM_CFG_DEPTH_LIMIT - d.get F.DOM_CFG_DEPTH

/-- PROOF_REPORT_DEADLINE. -/
def Dev.proofDeadline (d : Dev) : Dev :=
  match d.proof with
  | some p => if p.latched && decide (p.t + d.levels * d.hopWait ≤ d.pt) then d.proofForward p else d
  | none => d

def execProofReportDeadline (s : State) : Out := s.later 18 0 (·.proofDeadline)

/-- A child's PROOF_RPT; with fewer than 22 records it is the child's last. -/
def Dev.proofReport (d : Dev) (n opId : Nat) (payload : List Byte) : Dev :=
  match d.proof with
  | some p =>
    if p.opId ≠ opId ∨ (d.children.get n).reported = true then d
    else
      let k := payload.length / 64
      let recs := (List.range k).map (fun i => (payload.drop (64 * i)).take 64)
      let d := { d with proof := some { p with recs := p.recs ++ recs } }
      if k < 22 then d.kidReported n else d
  | none => d

/-! ## Curtain actions (R449 to R452) -/

/-- The role a KIND needs. -/
def actionRole (kind : Nat) : Nat := if kind = 4 then 3 else 2

/-- The report of an action goes up, or at the root completes its command. -/
def Dev.actionReport (d : Dev) (a : DomAction) : Dev :=
  let d := { d with action := none }
  let ids := a.notDone.take 16
  if d.domRoot then d.opFinish a.opId (.okW (a.counts ++ ids))
  else (d.domUp 6 a.opId (wordBytes ([1] ++ a.counts ++ [ids.length] ++ ids))).count 0x5C 6

/-- It goes when the member's outcome and every live child's report are in. -/
def Dev.actionCheck (d : Dev) : Dev :=
  match d.action with
  | some a => if a.settled && d.liveKids.all (fun c => a.got.contains c.index) then d.actionReport a else d
  | none => d

/-- The member's outcome: 0 DONE, 1 REFUSED, 2 LATE, 3 NO_TIME, 4 CANCELLED. -/
def Dev.actionSettle (d : Dev) (k : Nat) : Dev :=
  match d.action with
  | some a =>
    { d with action := some { a with armed := false, settled := true, counts := a.counts.set k (a.counts.getD k 0 + 1),
                                     notDone := if k = 0 then a.notDone else a.notDone ++ [d.domIndex] } }
  | none => d

/-- A shadow is open and its owner is the session of the channel that serves a member's messages (R439, R449, R453). -/
def Dev.domOwns (d : Dev) (origin : Nat) : Bool := d.on F.PLATE_STATUS_SHADOW_OPEN && d.owner == 21 + origin % 4

/-- The target block accepts an arming: the commit's check with the shadow owned by the domain channel's session; for every
port an administrative list and no takeover armed. -/
def Dev.actionFits (d : Dev) (kind t ports origin : Nat) : Bool :=
  if kind = 1 then d.domOwns origin && d.plateReason .commitAt (cmpDiff t d.pt) true == 0
  else if kind = 2 then (portsOf ports).all (fun p =>
    !d.on F.TM_PORT_STATUS_ARMED p && d.adminLen p != 0 && d.adminCycle p != 0 && !d.heldT.any (fun h => h.kind == 1 && h.obj == p))
  else kind == 3 || kind == 4

/-- ACTION_ARM (R450): the first condition that fails is the cause (1 role, 2 lead, 3 time, 4 another action, 5 the block;
the numbers are the model's, log entry 36). While another action is open its REFUSED is reported at once. -/
def Dev.actionArm (d : Dev) (opId kind t ports role origin : Nat) : Dev :=
  let time := d.on F.TIME_STATUS_PT_VALID && decide (2 ≤ d.get F.TB_STATE_STATE (d.get F.TIME_STATUS_PT_TB))
  let cause := if min role (d.get F.DOM_CFG_MAX_ROLE) < actionRole kind then 1 else if t < d.pt + d.armMin then 2
    else if !time then 3 else if d.action.isSome then 4 else if !d.actionFits kind t ports origin then 5 else 0
  let refuse (d : Dev) : Dev := (d.raise F.DOM_EVENT_ACTION_REFUSED).domRec 0x120B 5 opId cause
  if d.action.isSome then
    if d.domRoot then refuse d else ((refuse d).domUp 6 opId (wordBytes [1, 0, 1, 0, 0, 0, 1, d.domIndex])).count 0x5C 6
  else
    let b := match d.barrier with | some b => if b.opId = opId then none else some b | none => none
    let a : DomAction := { opId := opId, kind := kind, t := t, ports := ports, armed := cause == 0, counts := [0, 0, 0, 0, 0],
                           notDone := [], got := [], settled := false }
    let d : Dev := { d.opBegin opId t with action := some a, barrier := b }
    if cause ≠ 0 then (refuse d).actionSettle (if cause = 2 then 2 else if cause = 3 then 3 else 1)
    else
      let d := (d.raise F.DOM_EVENT_ACTION_ARMED).domRec 0x1209 2 opId kind
      if d.pt + 512000000000 * 65536 < t then
        { d with heldT := d.heldT ++ [{ kind := 3, obj := 0, src := 0, target := t, ch := 0, tag := 0 }] }
      else d.domArm

/-- ACTION_TAKE: at T the action takes effect (R451); a restart or reset follows the member's report. -/
def Dev.actionTake (d : Dev) : Dev :=
  match d.action with
  | some a =>
    if a.armed = false ∨ d.pt < a.t ∨ d.heldT.any (fun h => h.kind == 3) = true then d
    else
      let d := if a.kind = 1 then d.timedCommit else if a.kind = 2 then (portsOf a.ports).foldl (fun d p => d.takeover p) d else d
      let d := ((d.raise F.DOM_EVENT_ACTION_DONE).domRec 0x120A 2 a.opId a.kind).actionSettle 0
      if a.kind = 3 then d.actionCheck.promptRestart 7 else if a.kind = 4 then d.actionCheck.internalReset else d
  | none => d

def execActionTake (s : State) : Out := s.later 18 0 (·.actionTake)

/-- The root completes an action at its deadline; a member's own deadline is that of R447 (DEDUCED, log entry 36). -/
def Dev.actionDeadline (d : Dev) : Dev :=
  let d := d.actionTake
  match d.action with
  | some a =>
    let n := if d.domRoot then d.get F.DOM_CFG_DEPTH_LIMIT + 1 else d.levels
    if a.t + n * d.hopWait ≤ d.pt then d.actionReport a else d
  | none => d

def execActionCompletionDeadline (s : State) : Out := s.later 18 0 (·.actionDeadline)

/-- The hardware compare of an action is disarmed; a shadow or an administrative list stays. -/
def Dev.actionDisarm (d : Dev) (a : DomAction) : Dev :=
  let d := { d with heldT := d.heldT.filter (fun h => h.kind != 3) }
  if a.kind = 1 then (if d.on F.PLATE_STATUS_COMMIT_ARMED then d.plateDisarm 0 else d)
  else if a.kind = 2 then (portsOf a.ports).foldl (fun d p => d.cueDisarm p .invalid) d
  else d

/-- ACTION_CANCEL (R452): at least 1 µs before T the member disarms. -/
def Dev.actionCancel (d : Dev) (opId : Nat) : Dev :=
  match d.action with
  | some a =>
    if a.opId = opId ∧ a.armed = true ∧ d.pt + usLt ≤ a.t then
      (((d.actionDisarm a).raise F.DOM_EVENT_ACTION_CANCELLED).domRec 0x120C 2 opId).actionSettle 4
    else d
  | none => d

/-- A child's counts are added. -/
def Dev.actionAgg (d : Dev) (n opId : Nat) (ws : List Nat) : Dev :=
  match d.action with
  | some a =>
    let idx := (d.children.get n).index
    if a.opId ≠ opId ∨ a.got.contains idx = true then d
    else
      let a := { a with counts := (List.range 5).map (fun k => a.counts.getD k 0 + ws.getD k 0),
                        notDone := a.notDone ++ (ws.drop 6).take (ws.getD 5 0), got := a.got ++ [idx] }
      { d with action := some a }.kidReported n
  | none => d

/-- A curtain action is started at the root: broadcast, and taken by the root as a member. -/
def Dev.actionStart (d : Dev) (opId kind t ports role : Nat) : Dev :=
  let ws := [2, kind] ++ (List.range 3).map (ltWord t) ++ (List.range 8).map (fun k => ports / 2 ^ (32 * k) % 2 ^ 32)
  (d.domCast opId role (wordBytes ws)).actionArm opId kind t ports role d.domIndex

/-! ## Barriers (R453) -/

/-- The member's own condition. -/
def Dev.barrierOwn (d : Dev) (b : DomBarrier) : Bool :=
  if b.cond = 0 then b.host
  else if b.cond = 1 then
    d.domOwns b.origin && d.shadowDigest == b.arg
  else if b.cond = 2 then (let s := d.get F.PAIR_STATUS_STATE; s == 0 || s == 4 || s == 5 || s == 6)
  else d.on F.TIME_STATUS_PT_VALID && d.get F.TB_STATE_STATE (d.get F.TIME_STATUS_PT_TB) == 2

/-- A child's subtree is ready: it is live and has reported. -/
def Dev.kidReady (d : Dev) (b : DomBarrier) (i : Nat) : Bool := b.got.contains i && d.liveKids.any (fun c => c.index == i)

/-- The member and the subtree of every child are ready. -/
def Dev.barrierReady (d : Dev) (b : DomBarrier) : Bool :=
  d.barrierOwn b && (b.need ++ d.liveKids.map (fun c => c.index)).all (d.kidReady b)

/-- BARRIER_ARM. -/
def Dev.barrierArm (d : Dev) (opId cond arg timeout role origin : Nat) (action : Option (Nat × Nat)) : Dev :=
  if d.barrier.isSome then d
  else
    let b : DomBarrier := { opId := opId, cond := cond, arg := arg, until_ := d.ptNs + timeout * 1000000, action := action, host := false,
                            need := d.liveKids.map (fun c => c.index), got := [], sent := false, role := role, origin := origin }
    { d.opBegin opId 0 with barrier := some b }

/-- Readiness is acted on once: a member reports upward; the root sets T = t_done + DOM_LEAD and arms the action. -/
def Dev.barrierPoll (d : Dev) : Dev :=
  match d.barrier with
  | some b =>
    if b.sent || !d.barrierReady b then d
    else if !d.domRoot then ({ d with barrier := some { b with sent := true } }.domUp 6 b.opId (wordBytes [0])).count 0x5C 6
    else
      let d := { d with barrier := none }
      match b.action with
      | none => d.opFinish b.opId .ok
      | some (kind, ports) =>
        if d.action.isSome then d.opFinish b.opId (.busy 9)
        else d.actionStart b.opId kind (d.pt + d.get F.DOM_LEAD_LEAD * msLt) ports b.role
  | none => d

/-- TIMEOUT: the root completes with BUSY, CAUSE 9 and the indices not ready. -/
def Dev.barrierTimeout (d : Dev) : Dev :=
  match d.barrier with
  | some b =>
    if d.ptNs < b.until_ then d
    else
      let d := { d with barrier := none }
      if !d.domRoot then d
      else
        let ids := (if d.barrierOwn b then [] else [d.domIndex]) ++
          ((b.need ++ d.liveKids.map (fun c => c.index)).eraseDups.filter (fun i => !d.kidReady b i))
        ((d.raise F.DOM_EVENT_BARRIER_TIMEOUT).domRec 0x120D 3 b.opId).opFinish b.opId { Ans.busy 9 with words := ids }
  | none => d

def execBarrierTimeout (s : State) : Out := s.later 18 0 (·.barrierTimeout)

/-- A child's subtree is ready. -/
def Dev.barrierAgg (d : Dev) (n opId : Nat) : Dev :=
  match d.barrier with
  | some b => if b.opId = opId then
      { d with barrier := some { b with got := b.got ++ [(d.children.get n).index] } }.kidReported n else d
  | none => d

/-! ## SFI messages of members (R439, R455) -/

/-- An SFI message runs here on channel 20 + (ORIGIN mod 4), under min(ROLE, MAX_ROLE). -/
def Dev.domSfi (d : Dev) (origin role opId : Nat) (msg : List Nat) : Dev :=
  match msg with
  | [] => d
  | hdr :: ws =>
    let c := 20 + origin % 4
    let n := (d.chans.get c).req.length
    let tag := hdr / 2 ^ 16 % 256
    if d.isFrozen 30 then d
    else
      let d := d.postReq c (msgHdr (hdr % 4096) (min ws.length 15) tag 0 0) ws
      if (d.chans.get c).req.length = n then d
      else { d with domRoles := d.domRoles.put c (d.domRoles.get c ++ [min role (d.get F.DOM_CFG_MAX_ROLE)])
                    domServed := d.domServed ++ [(c, tag, origin, opId)] }.count 0x5C 7

/-- A member's reply reaches the command that asked for it, or the counts of a broadcast. -/
def Dev.domReply (d : Dev) (opId : Nat) (words : List Nat) : Dev :=
  match d.jobs.find? (fun j => j.op == 0xB04 && j.data.head? == some opId) with
  | some j => d.finishJob j (.okW words)
  | none =>
    { d with domCasts := d.domCasts.map (fun x =>
        if x.1 ≠ opId then x else if words.headD 0 % 8 = 0 then (x.1, x.2.1 + 1, x.2.2) else (x.1, x.2.1, x.2.2 + 1)) }

/-- The agent takes the responses of channels 20 to 23; a PENDING one is followed by its completion. -/
def Dev.domDrain (d : Dev) : Dev :=
  ([20, 21, 22, 23] : List Nat).foldl (fun d c =>
    match (d.chans.get c).rsp.head? with
    | none => d
    | some m =>
      let d := d.mbPop c
      match d.domServed.find? (fun x => x.1 == c && x.2.1 == m.hdr / 2 ^ 16 % 256) with
      | none => d
      | some x =>
        if m.words.headD 0 % 8 = 5 then d
        else
          let d := { d with domServed := d.domServed.erase x }
          if x.2.2.1 = d.domIndex then d.domReply x.2.2.2 m.words
          else d.domUnicast 3 x.2.2.1 x.2.2.2 0 (wordBytes (m.hdr :: m.words))) d

/-- No reply within 1 s: BUSY, CAUSE 9; an open broadcast completes with its counts. -/
def Dev.domTimeouts (d : Dev) : Dev :=
  (d.jobs.filter (fun j => (j.op == 0xB04 || j.op == 0xB05) && decide (j.data.getD 1 0 ≤ d.cycle))).foldl (fun d j =>
    if j.op = 0xB04 then d.finishJob j (.busy 9)
    else
      let x := (d.domCasts.find? (fun x => j.data.head? == some x.1)).getD (0, 0, 0)
      { d with domCasts := d.domCasts.filter (fun y => y.1 != x.1) }.finishJob j (.okW [x.2.1, x.2.2])) d

def execDomainSendTimeout (s : State) : Out := s.later 18 0 (·.domTimeouts)

/-! ## Frames received (R439, R442) -/

/-- A frame that fails its check. -/
def Dev.domAuthFail (d : Dev) (origin : Nat) : Dev :=
  ((d.count 0x5C 4).raiseFirst F.DOM_EVENT_AUTH_FAIL 0 0 secCycles).recordOnce secCycles { code := 0x1201, sev := 3, a0 := origin }

/-- A frame out of time or sequence. -/
def Dev.domReplay (d : Dev) (origin : Nat) : Dev :=
  ((d.count 0x5C 5).raiseFirst F.DOM_EVENT_REPLAY 0 0 secCycles).recordOnce secCycles { code := 0x1202, sev := 3, a0 := origin }

/-- What a broadcast asks of a member, by the first word of its payload. -/
def Dev.domDeliver (d : Dev) (origin role opId : Nat) (ws : List Nat) : Dev :=
  let w (k : Nat) : Nat := ws.getD k 0
  let lt (k : Nat) : Nat := w k + 2 ^ 32 * w (k + 1) + 2 ^ 64 * (w (k + 2) % 65536)
  if w 0 = 0 then d.domSfi origin role opId (ws.drop 1)
  else if w 0 = 1 then d.proofArm opId (lt 1) (0, 0, 0)
  else if w 0 = 2 then d.actionArm opId (w 1) (lt 2) ((List.range 8).foldl (fun v k => v + w (5 + k) * 2 ^ (32 * k)) 0) role origin
  else if w 0 = 3 then d.actionCancel opId
  else if w 0 = 4 then d.barrierArm opId (w 1) (w 2) (w 3) role origin none
  else d

/-- An accepted frame is handled by its TYPE; before the agent may send, it relays none (R440). -/
def Dev.domHandle (d : Dev) (port sa : Nat) (body : List Byte) : Dev :=
  let typ := be body 1 1
  let origin := be body 4 2 % 16384
  let role := be body 4 2 / 16384
  let target := be body 6 2 % 16384
  let opId := be body 20 4
  let payload := body.drop 32
  let ws := payloadWords payload
  if typ = 1 then (if !d.domRoot && origin == d.domParent then d.helloParent (be body 12 8) else d.helloChild sa payload)
  else if typ = 4 then
    (if d.domTx then (d.domOut d.domGroup true port body).count 0x5C 2 else d).domDeliver origin role opId ws
  else if typ = 2 ∨ typ = 3 then
    if target ≠ d.domIndex then (if d.domTx then d.domHops target sa else []).foldl (fun d da => d.domOut da false 256 body) d
    else if typ = 2 then d.domSfi origin role opId ws
    else d.domReply opId (ws.drop 1)
  else
    match d.kidAt sa with
    | none => d
    | some n => if typ = 5 then d.proofReport n opId payload
      else if ws.headD 0 = 1 then d.actionAgg n opId (ws.drop 1) else d.barrierAgg n opId

/-- The checks of R439 in their order. -/
def Dev.domAccept (d : Dev) (port sa : Nat) (b : List Byte) : Dev :=
  let len := be b 24 2
  let body := b.take (32 + len)
  let typ := be b 1 1
  let origin := be b 4 2 % 16384
  let mseq := be b 8 4
  let send := be b 12 8
  let skew := d.get F.DOM_TIMERS_SKEW_MAX * 100000000
  let last := (d.domSeen.get origin).1
  if d.domKey.isEmpty = true ∨ 1452 < len ∨ b.length < 48 + len ∨ (b.drop (32 + len)).take 16 ≠ domTag d.domKey body ∨ be b 0 1 ≠ 1 ∨ typ = 0 ∨ 7 ≤ typ ∨
      be b 2 2 ≠ d.get F.DOM_CFG_DOMAIN_ID then d.domAuthFail origin
  else if d.on F.TIME_STATUS_PT_VALID ∧ skew ≠ 0 ∧ skew < max send d.ptNs - min send d.ptNs then d.domReplay origin
  else if last ≠ 0 ∧ seqAfter mseq (last - 1) = false then
    if typ = 4 ∧ mseq = last - 1 then d.count 0x5C 3 else d.domReplay origin
  else { d with domSeen := d.domSeen.put origin (mseq + 1, d.ptCount) }.domHandle port sa body

/-- MGMT_FRAME_RX: the agent takes the next frame of its queue; what is no management frame goes to core 2 (R334, R441). -/
def Dev.mgmtRx (d : Dev) (us : List Upset) : Dev :=
  match d.takeHead 257 d.domMask us with
  | (d, none) => d
  | (d, some c) =>
    let d := d.delivered c
    let f := d.frames.get c.frame
    let p := f.parsed
    if p.etype ≠ 0x88B5 ∨ (p.da ≠ d.domMac ∧ p.da ≠ d.domGroup) then
      ((d.count 0x4C 5).agentRead f).consume c.frame
    else ((d.count 0x5C 0).consume c.frame).domAccept f.port p.sa (f.bytes.drop (p.etOff + 2))

def execMgmtFrameRx (s : State) (us : List Upset := []) : Out := s.actAt (fun _ => atSend) (·.mgmtRx us)

/-! ## SFI commands (R455) -/

def execDomainQuery (rq : Sfi) (s : State) : Out :=
  s.sfi rq 0xB00 0 (fun d _ =>
    (d, .okW [d.view .DOM_CFG, d.view .DOM_ID, d.view .DOM_STATUS, d.view .OP_ID, d.view .OP_TARGET_0, d.view .OP_TARGET_1]))

/-- The agent's queue is shaped to DOM_RATE with TBS_BURST at its reset value (R441). -/
def Dev.domShape (d : Dev) : Dev :=
  let q := 8 * 257 + d.get F.DOM_CFG_DOM_TC
  let d := d.shapeSync q
  ((d.cfg .Q_TBS_RATE q (d.reg .DOM_RATE)).cfg .Q_TBS_BURST q (regReset .Q_TBS_BURST q)).cfgF F.Q_CFG_TBS_EN q 1

/-- The agent forgets its operations, tree and sequence numbers. -/
def Dev.domForget (d : Dev) : Dev :=
  let d := match d.action with | some a => if a.armed then d.actionDisarm a else d | none => d
  { d with mseq := none, domTx := false, domSeen := [], domHeld := [], children := [], parentAt := d.cycle, helloAt := none
           parentLost := false, parentStamp := 0, parentPt := 0, proof := none, action := none, barrier := none, domServed := []
           domCasts := [] }.set F.DOM_STATUS_PARENT_LIVE 0 0

/-- DOMAIN_JOIN: the identity in one step. -/
def Dev.domJoin (d : Dev) (rq : Sfi) (x : DomJoinArgs) : Dev × Ans :=
  okIf (rq.ring && decide (x.domainId < 65536 ∧ x.index < 16384 ∧ x.depth < 16 ∧ x.depthLimit < 16 ∧ x.parentIndex < 16384 ∧
      x.parentMac < 2 ^ 48 ∧ x.mac < 2 ^ 48 ∧ x.groupDa < 2 ^ 48 ∧ x.key.length = 8) && x.key.all (fun k => decide (k < 2 ^ 32)) &&
      x.root == decide (x.depth = 0)) d
    (let w := withBits (withBits (withBits (d.reg .DOM_CFG) 9 0 (1 + 2 * b2n x.root + 4 * x.depth + 64 * x.depthLimit)) 31 16 x.domainId) 15 15 0
     let d := ({ d.domForget with domKey := x.key }.cfg .DOM_CFG 0 w).cfg .DOM_ID 0 (x.index + 65536 * x.parentIndex)
     let d := (d.cfg .DOM_MAC_0 0 (x.mac % 2 ^ 32)).cfg .DOM_MAC_1 0 (x.mac / 2 ^ 32)
     let d := (d.cfg .DOM_PARENT_MAC_0 0 (x.parentMac % 2 ^ 32)).cfg .DOM_PARENT_MAC_1 0 (x.parentMac / 2 ^ 32)
     ((d.cfg .DOM_GROUP_DA_0 0 (x.groupDa % 2 ^ 32)).cfg .DOM_GROUP_DA_1 0 (x.groupDa / 2 ^ 32)).domShape)

def execDomainJoin (rq : Sfi) (x : DomJoinArgs) (s : State) : Out := s.sfiKey rq 0xB01 3 (fun d _ => d.domJoin rq x)

/-- DOMAIN_CONFIG; MAX_ROLE needs SECURITY_ADMIN. -/
def Dev.domConfig (d : Dev) (role : Nat) (x : DomCfgArgs) : Dev × Ans :=
  if role < 3 ∧ x.maxRole ≠ d.get F.DOM_CFG_MAX_ROLE then (d, .denied)
  else
    okIf (decide (x.ports < 2 ^ 256 ∧ x.tc < 6 ∧ x.maxRole < 4) && F.DOM_RATE_RATE.ok x.rate && F.DOM_TIMERS_HOP_WAIT.ok x.hopWait &&
        F.DOM_TIMERS_ARM_MIN.ok x.armMin && F.DOM_TIMERS_SKEW_MAX.ok x.skewMax && F.DOM_TIMERS_HELLO_PERIOD.ok x.helloPeriod &&
        F.DOM_LEAD_LEAD.ok x.lead) d
      (let d := (d.cfgF F.DOM_CFG_MAX_ROLE 0 x.maxRole).cfgF F.DOM_CFG_DOM_TC 0 x.tc
       let d := (d.cfg .DOM_RATE 0 x.rate).cfg .DOM_LEAD 0 x.lead
       let d := d.cfg .DOM_TIMERS 0 (x.hopWait + 2 ^ 8 * x.armMin + 2 ^ 16 * x.skewMax + 2 ^ 24 * x.helloPeriod)
       ((List.range 8).foldl (fun d w => d.cfg .DOMAIN_PORTS w (x.ports / 2 ^ (32 * w) % 2 ^ 32)) d).domShape)

def execDomainConfig (rq : Sfi) (x : DomCfgArgs) (s : State) : Out := s.sfi rq 0xB02 2 (fun d role => d.domConfig role x)

/-- DOMAIN_LEAVE: open domain commands end INVALID. -/
def Dev.domLeave (d : Dev) : Dev × Ans :=
  let d := { d.domForget with domKey := [] }.cfgF F.DOM_CFG_DOM_EN 0 0
  (([0xB04, 0xB05, 0xB06, 0xB07, 0xB09] : List Nat).foldl (fun d op => d.finishOp op .invalid) d, .ok)

def execDomainLeave (rq : Sfi) (s : State) : Out := s.sfi rq 0xB03 3 (fun d _ => d.domLeave)

/-- A new OP_ID. -/
def Dev.newOp (d : Dev) : Nat × Dev := let n := (d.domOps + 1) % 2 ^ 32; (n, { d with domOps := n })

/-- DOMAIN_SEND: an SFI message of at most 16 words to a member, under the sender's role. -/
def Dev.domSendSfi (d : Dev) (role target : Nat) (msg : List Nat) : Dev × Ans :=
  if !d.domEn || decide (16384 ≤ target ∨ 16 < msg.length) || msg.isEmpty then (d, .invalid)
  else
    let y := d.newOp
    let d := y.2
    let d := if target = d.domIndex then d.domSfi target role y.1 msg else d.domUnicast 2 target y.1 role (wordBytes msg)
    (d, .pending [y.1, d.cycle + secCycles])

def execDomainSend (rq : Sfi) (target : Nat) (msg : List Nat) (s : State) : Out :=
  s.sfi rq 0xB04 0 (fun d role => d.domSendSfi role target msg)

/-- DOMAIN_BROADCAST: every member runs the message, the sender among them. -/
def Dev.domBroadcast (d : Dev) (role : Nat) (msg : List Nat) : Dev × Ans :=
  if !d.domEn || decide (16 < msg.length) || msg.isEmpty then (d, .invalid)
  else
    let y := d.newOp
    let d := { y.2 with domCasts := y.2.domCasts ++ [(y.1, 0, 0)] }.domCast y.1 role (wordBytes (0 :: msg))
    (d.domSfi d.domIndex role y.1 msg, .pending [y.1, d.cycle + secCycles])

def execDomainBroadcast (rq : Sfi) (msg : List Nat) (s : State) : Out := s.sfi rq 0xB05 2 (fun d role => d.domBroadcast role msg)

/-- PROOF_START: the host buffer lies in the requesting function's windows. -/
def Dev.proofStart (d : Dev) (rq : Sfi) (role t addr len : Nat) : Dev × Ans :=
  let fn := d.sender rq.ch
  if !d.domEn || !d.domRoot || decide (2 ^ 80 ≤ t) then (d, .invalid)
  else if d.proof.isSome then (d, .busy 9)
  else if 8 ≤ fn ∨ d.dmaOk fn addr len true = false then (d, .denied)
  else
    let y := d.newOp
    let d := y.2.domCast y.1 role (wordBytes ([1] ++ (List.range 3).map (ltWord t)))
    (d.proofArm y.1 t (fn, addr, len), { Ans.pending [y.1] with words := [y.1] })

def execProofStart (rq : Sfi) (t addr len : Nat) (s : State) : Out :=
  s.sfi rq 0xB06 1 (fun d role => d.proofStart rq role t addr len)

/-- CURTAIN_ARM: T at least DOM_LEAD and at most 3,600 s after PT. -/
def Dev.curtainArm (d : Dev) (role kind t ports : Nat) : Dev × Ans :=
  if !d.domEn || !d.domRoot || decide (kind = 0 ∨ 4 < kind ∨ 2 ^ 256 ≤ ports) then (d, .invalid)
  else if role < actionRole kind then (d, .denied)
  else if d.action.isSome then (d, .busy 9)
  else if t < d.pt + d.get F.DOM_LEAD_LEAD * msLt ∨ d.pt + 3600000 * msLt < t then (d, .invalid)
  else
    let y := d.newOp
    (y.2.actionStart y.1 kind t ports role, { Ans.pending [y.1] with words := [y.1] })

def execCurtainArm (rq : Sfi) (kind t ports : Nat) (s : State) : Out :=
  s.sfi rq 0xB07 2 (fun d role => d.curtainArm role kind t ports)

/-- CURTAIN_CANCEL of the open action. -/
def Dev.curtainCancel (d : Dev) (role opId : Nat) : Dev × Ans :=
  match d.action with
  | some a =>
    if d.domRoot && a.opId == opId then ((d.domCast opId role (wordBytes [3])).actionCancel opId, .ok) else (d, .invalid)
  | none => (d, .invalid)

def execCurtainCancel (rq : Sfi) (opId : Nat) (s : State) : Out := s.sfi rq 0xB08 2 (fun d role => d.curtainCancel role opId)

/-- BARRIER_START: TIMEOUT in ms. -/
def Dev.barrierStart (d : Dev) (role cond arg timeout : Nat) (action : Option (Nat × Nat)) : Dev × Ans :=
  let kind := match action with | some a => a.1 | none => 3
  if !d.domEn || !d.domRoot || decide (4 ≤ cond ∨ 2 ^ 32 ≤ arg ∨ 2 ^ 32 ≤ timeout ∨ kind = 0 ∨ 4 < kind) then (d, .invalid)
  else if action.isSome ∧ role < actionRole kind then (d, .denied)
  else if d.barrier.isSome then (d, .busy 9)
  else
    let y := d.newOp
    let d := y.2.domCast y.1 role (wordBytes [4, cond, arg, timeout])
    (d.barrierArm y.1 cond arg timeout role d.domIndex action, .pending [y.1])

def execBarrierStart (rq : Sfi) (cond arg timeout : Nat) (action : Option (Nat × Nat)) (s : State) : Out :=
  s.sfi rq 0xB09 2 (fun d role => d.barrierStart role cond arg timeout action)

/-- BARRIER_READY: the host is ready for the open barrier. -/
def Dev.hostReady (d : Dev) (opId : Nat) : Dev × Ans :=
  match d.barrier with
  | some b => if b.opId = opId then ({ d with barrier := some { b with host := true } }, .ok) else (d, .invalid)
  | none => (d, .invalid)

def execBarrierReady (rq : Sfi) (opId : Nat) (s : State) : Out := s.sfi rq 0xB0A 1 (fun d _ => d.hostReady opId)

def execDomainTreeQuery (rq : Sfi) (start : Nat) (s : State) : Out :=
  s.sfi rq 0xB0B 0 (fun d _ =>
    let es := ((List.range 64).filter (fun n => decide (start ≤ n) && (d.children.get n).used)).map
      (fun n => (n, [d.view .CHILD_0 n, d.view .CHILD_1 n]))
    (d, d.listing rq 0xB0B 2 es))

/-! ## A core cycle -/

/-- What the agent does by itself: responses, readiness, reports that are complete (R439, R440, R447, R450, R453). -/
def Dev.domCycle (d : Dev) : Dev :=
  let d := { d with validSince := if d.on F.TIME_STATUS_PT_VALID then some (d.validSince.getD d.cycle) else none }
  d.domDrain.barrierPoll.proofCheck.actionCheck

end Sys2Proof.Machine
end

