-- ==== Sys2Proof/Machine/RegWrite.lean ====
section
/-! DEFINITION. The common register commands (R370 to R379): a write by address, carried out by the register it names,
the unlock key, the clear of an RSQ register; the parity checker and core 0's restores (R376, R377). -/

namespace Sys2Proof.Machine

/-- Bits of a W1P register act in ascending order (R375). -/
def Dev.bitsDo (d : Dev) (w : Nat) (fs : List (Dev → Dev)) : Dev :=
  (fs.zipIdx).foldl (fun d x => if w / 2 ^ x.2 % 2 = 1 then x.1 d else d) d

/-- A write of Q_CFG or of a shaper's registers: credit and tokens are brought up to date first (R237, R238). -/
def Dev.queueStore (d : Dev) (r : RegName) (q w : Nat) : Dev := (d.shapeSync q).store r q w

/-- The registers of the TIME block that act when written. -/
def Dev.timeWrite (d : Dev) (r : RegName) (i w : Nat) : Dev :=
  match r with
  | .TIME_CTRL => d.timeCtrl w
  | .TIME_CMD => d.bitsDo w [Dev.timeSnap, Dev.ptJam]
  | .TB_RATE_1 => d.tbRate1 i w
  | .TB_CMD =>
    d.bitsDo w [(·.tbStart i), (·.tbLock i (decide (bitsOf w 2 2 = 1))), id, (·.tbRelock i), (·.tbEpochEnd i)]
  | .TIO_CFG => d.tioCfg i w
  | .TIO_START_1 => if i = 8 then d.store r i w else d.tioStart1 i w
  | .TIO_CAP_POP => d.bitsDo w [(·.capPop i)]
  | .SYNCE_CFG => ((d.store r i w).synceDrive 0).synceDrive 1
  | _ => d.store r i w

/-- The registers of the ports that act when written. -/
def Dev.portWrite (d : Dev) (r : RegName) (i w : Nat) : Dev :=
  match r with
  | .QUAD_MODE => (d.quadMode i (w % 4)).1
  | .LANE_CFG => (d.laneCfg i w).1
  | .PORT_CFG => d.portCfg i w
  | .PORT_PRE => d.portPre i w
  | .PORT_EEE => { d.store r i w with eeeOver := d.eeeOver.put i false }
  | _ => d.store r i w

/-- A used slot keeps its WIDTH where the word's is outside 1 to 128 (R8, R98). -/
def profSlotFix (old w : Nat) : Nat :=
  let width := bitsOf w 22 15
  if w % 256 ≠ 0 ∧ (width = 0 ∨ 128 < width) then withBits w 22 15 (bitsOf old 22 15) else w

/-- The registers of TABLES and STREAM that act when written. -/
def Dev.tableWrite (d : Dev) (r : RegName) (i w : Nat) : Dev :=
  match r with
  | .PLATE_CMD =>
    d.bitsDo w [(·.plateReg .open_), (·.plateReg .commit), (·.plateReg .commitAt), (·.plateReg .disarm), (·.plateReg .abort)]
  | .PLATE_AT_1 => d.plateAt1 w
  | .PLATE_AT_0 => if d.on F.PLATE_STATUS_COMMIT_ARMED then d else d.store r i w
  | .PROF_SLOT => if d.canStage.isNone then d.store r i (profSlotFix (d.reg r i) w) else d
  | .PROF_CFG | .PROF_GRP => if d.canStage.isNone then d.store r i w else d
  | .FDB_CMD => d.bitsDo w [fun d => (d.flushStart (d.reg .FDB_FLUSH_SPEC) false).1]
  | .LR_CFG => (d.store r i w).lrSettle
  | .LR_CONS => d.lrCons w
  | .TBL_CMD => if w % 32 = 0 then d else d.tblCmd i (w % 32)
  | .SAC_CMD => d.bitsDo w [(·.sacCmd i false), (·.sacCmd i true)]
  | .STREAM_CTRL => (d.store r i w).checkAllBounds
  | _ => d.store r i w

/-- The registers of BPM and TM that act when written. -/
def Dev.queueWrite (d : Dev) (r : RegName) (i w : Nat) : Dev :=
  match r with
  | .CARVE_CMD => d.bitsDo w [Dev.carveApply]
  | .ACCT_BIND => d.store r i (if classSeven i then withBits w 4 4 0 else w)
  | .Q_CFG => d.queueStore r i (qCfgFix i w)
  | .Q_TBS_RATE | .Q_TBS_BURST | .Q_CBS_IDLE | .Q_CBS_CREDIT => d.queueStore r i w
  | .TM_PORT_CFG => (d.store r i (withBits w 23 23 1))
  | .WRED_MIN => if wredOk (bitsOf w 18 0) (d.get F.WRED_MAX_MAX_TH i) then d.store r i w else d
  | .WRED_MAX => d.store r i (if wredOk (d.get F.WRED_MIN_MIN_TH i) (bitsOf w 18 0) then w else withBits w 18 0 (d.get F.WRED_MAX_MAX_TH i))
  | .TM_PORT_GATE => d.portGate i w
  | .CL_ADMIN_BASE_0 | .CL_ADMIN_BASE_1 | .CL_ADMIN_CYCLE_0 | .CL_ADMIN_CYCLE_1 | .CL_ADMIN_LEN =>
    if d.on F.TM_PORT_STATUS_ARMED i then d else d.store r i w
  | .CL_CMD => d.bitsDo w [(·.cueArmReg i), (·.cueDisarm i .invalid)]
  | .TM_CMD => d.bitsDo w [(·.tmCmd i false), (·.tmCmd i true)]
  | _ => d.store r i w

/-- The registers of STAGE and FOLIO that act when written. -/
def Dev.stageWrite (d : Dev) (r : RegName) (i w : Nat) : Dev :=
  match r with
  | .PIN_DATA => d.pinWrite (d.get F.PIN_SEL_PROGRAM) (d.get F.PIN_SEL_ENTRY) (w % 128)
  | .CL_CFG =>
    let d' := d.store r i w
    d'.clChanged i (d.get F.CL_CFG_STEP i) (d'.get F.CL_CFG_STEP i)
  | .PROG_CFG => ((d.store r i w).refillPins i).checkAllBounds
  | .FOLIO_CTRL =>
    d.store r i (if bitsOf w 22 16 ≤ d.get F.FOLIO_STATUS_SHED_LO then withBits w 22 16 (d.get F.FOLIO_CTRL_SHED_HI) else w)
  | _ => d.store r i w

/-- The registers of HOST and MBOX that act when written. -/
def Dev.hostWrite (d : Dev) (r : RegName) (i w : Nat) : Dev :=
  match r with
  | .RING_CFG => d.ringCfg i w
  | .RING_DB => d.ringDb i w
  | .CQ_CFG => d.cqCfg i w
  | .CQ_CONS => d.cqCons i w
  | .MB_STAGE =>
    let q := d.chans.get (i / 15)
    { d with chans := d.chans.put (i / 15) { q with stage := q.stage.put (i % 15) w } }
  | .MB_POST => d.mbPost i w
  | .MB_RSP_POP => d.bitsDo w [(·.mbPop i)]
  | _ => d.store r i w

/-- The registers of the PROMPTER, PBOOK, PERF, PAIR, DOMAIN and GLOBAL blocks that act when written. -/
def Dev.promptWrite (d : Dev) (r : RegName) (i w : Nat) : Dev :=
  match r with
  | .PROMPTER_CMD => d.bitsDo w [(·.promptRestart 5)]
  | .RESET_CTRL => d.bitsDo w [Dev.internalReset]
  | .GPIO_CFG => (d.store r i w).gpioDrive (d.reg .GPIO_CFG)
  | .BOOK_CMD => d.bookCmd w
  | .PERF_CMD => d.perfCmd w
  | .DUMP_CFG => d.dumpCfg w
  | .PC_CLEAR => d.pcClear i (w % 256)
  | .PAIR_CFG => (d.store r i w).driveClaim
  | .DOM_CFG | .DOM_RATE =>
    let d := d.store r i w
    if d.domEn then d.domShape else d
  | _ => d.store r i w

/-- What the word of a permitted write does to the register it is written to (R370). -/
def Dev.regEffect (d : Dev) (r : RegName) (i w : Nat) : Dev :=
  let x := regInfo r
  if x.kind = .rsq then d.rsqClear r i w
  else
    let sl := ownerSlot (regAddr r i)
    let d :=
      if sl = 0 ∨ 0x4C ≤ sl then d.promptWrite r i w
      else if sl ≤ 16 then d.portWrite r i w
      else if sl = 0x38 then d.timeWrite r i w
      else if sl ≤ 0x28 then d.tableWrite r i w
      else if sl ≤ 0x37 then d.queueWrite r i w
      else if sl ≤ 0x40 then d.stageWrite r i w
      else d.hostWrite r i w
    if x.acc.hostOwned then { d with shadow := d.shadow.del (regAddr r i) } else d

/-- An offset that the maps name, but where the layout begins at index 1, or that no block fills (R131, R295, R258). -/
def regUnused (r : RegName) (i : Nat) : Bool :=
  match r with
  | .CLASS_CFG | .SHED | .OVERRUN | .PROG_CFG => i == 0
  | .PC_CLEAR | .ADDR_LO | .ADDR_HI => (blockAt i).isNone
  | .PC_CFG | .PC_LO | .PC_HI => (blockAt (i / 8)).isNone
  | _ => false

/-- A write to an unused offset: it is counted and locks the block again, and has no effect (R7, R371, R379). -/
def Dev.unusedWrite (d : Dev) (m addr : Nat) : Dev :=
  if d.isFrozen m then d
  else
    { d with unlock := d.unlock.put (ownerSlot addr * 32 + m) false }.count 0 1 1
      { master := some m, role := some (d.masterRole m), addr := some addr }

/-- A write of the word at an address, by master `m`, with byte enables (R300, R370 to R375). -/
def Dev.regWrite (d : Dev) (m addr w be : Nat) : Dev :=
  let a := addr % 2 ^ 24 / 4 * 4
  match regAt a with
  | none => d.unusedWrite m a
  | some (r, i) =>
    if regUnused r i then d.unusedWrite m a
    else match d.gateBe m r i w be with
      | (d, some w) => if inBank 0x241000 a then (d.regEffect r i w).mirrorProf ((a - 0x241000) / 64) else d.regEffect r i w
      | (d, none) => d

/-- The place of a write of a register that a same-moment table settles, whatever command brings it: clears of events and of
counters (R403), BOOK_CMD (R403), TIME_CTRL (R78). -/
def ownPlace (addr p : Nat) : Nat :=
  match regAt (addr % 2 ^ 24 / 4 * 4) with
  | some (r, _) =>
    if (regInfo r).kind = .rsq then atClear
    else match r with
      | .PC_CLEAR => atPcClear
      | .BOOK_CMD => atCurtain
      | .TIME_CTRL => atSelect
      | _ => p
  | none => p

def execRegisterWrite (m : Fin 32) (addr : Nat) (w : Word) (be : Fin 16) (s : State) : Out :=
  s.actAt (fun d => d.addrPlace m addr w.toNat (ownPlace addr (untied (addrBlock addr) (8 + masterOrder m)))) (·.regWrite m addr w.toNat be)

/-- The key, or another word, to GUARD_UNLOCK of the block in a slot; a slot without a block has no such register. -/
def execGuardUnlock (m : Fin 32) (slot : Fin 97) (w : Word) (s : State) : Out :=
  s.actAt (fun d => d.regPlace m .GUARD_UNLOCK slot w.toNat) (fun d => d.regWrite m (slot * 0x10000 + 8) w.toNat 15)

/-- The clear of an event register (R373); an address that holds none is another register's write. -/
def execRsqClear (m : Fin 32) (addr : Nat) (w : Word) (s : State) : Out :=
  s.actAt (fun d => d.addrPlace m addr w.toNat atClear) (fun d => d.regWrite m addr w.toNat 15)

/-! ## Parity (R376, R377) -/

/-- The register carries a parity bit: it is RW, RWK or Prompter only, and holds what is written to it. -/
def hasParity (r : RegName) (i : Nat) : Bool :=
  let k := (regInfo r).kind
  (k == .rw || k == .rwk) && r != .PIN_DATA && !regUnused r i

/-- The parity of a word. -/
def parity32 (v : Nat) : Nat := (List.range 32).foldl (fun a k => (a + v / 2 ^ k) % 2) 0

/-- The fields that software writes, of `w`, over the others of `old`. -/
def softMerge (r : RegName) (old w : Nat) : Nat :=
  (regFields r).foldl (fun v f => if f.soft then withBits v f.hi f.lo (bitsOf w f.hi f.lo) else v) old

/-- Bits of a register have flipped: it acts on what it now holds, and its good value is core 0's shadow copy. -/
def Dev.regUpset (d : Dev) (r : RegName) (i w : Nat) : Dev :=
  let a := regAddr r i
  let good := if d.shadow.any (fun e => e.1 == a) then d.shadow.get a else d.reg r i
  let v := softMerge r (d.reg r i) w
  { d.setReg r i v with shadow := if v = good then d.shadow.del a else d.shadow.ins a good }

/-- The stored value and the good one differ in an odd number of bits, which one parity bit shows. -/
def Dev.parityBad (d : Dev) (r : RegName) (i : Nat) : Bool :=
  let a := regAddr r i
  d.shadow.any (fun e => e.1 == a) && parity32 (d.shadow.get a) != parity32 (d.reg r i)

/-- The checker reads a register. -/
def Dev.parityRead (d : Dev) (r : RegName) (i : Nat) : Dev :=
  let d := d.count 0 6
  if d.parityBad r i then
    let a := regAddr r i
    let off := a % 65536
    let sl := a / 65536
    let d := ((d.raise F.GLOBAL_EVENT_CFG_PARITY).setReg .PARITY_LAST 0 (off + 65536 * sl)).satCount .PARITY_COUNT 0
    let cap := match blockAt (ownerSlot a) with | some b => b.2.1 | none => 0
    (d.count 0 7).record { code := 256 * cap, sev := 6, a0 := off + 65536 * sl, a1 := d.reg r i }
  else d

/-- The sweep comes to a register: one written in this core cycle is checked at the next sweep (R403). -/
def Dev.paritySweep (d : Dev) (addr : Nat) (upset : Option Word) : Dev :=
  match regAt addr with
  | some (r, i) =>
    if hasParity r i && !d.regWrote.contains addr then
      (match upset with | some w => d.regUpset r i w.toNat | none => d).parityRead r i
    else d
  | none => d

def execParitySweep (addr : Nat) (upset : Option Word) (s : State) : Out := s.actAt (fun _ => untied (addrBlock addr) 40) (·.paritySweep addr upset)

/-- Core 0 rewrites a register from its shadow copy, by a guarded write under its own unlock (R376). A host-owned one is
its owner's to rewrite; a block whose shadow log overflowed is re-read instead (R377). -/
def Dev.regRestore (d : Dev) (addr : Nat) : Dev :=
  match regAt addr with
  | some (r, i) =>
    if d.parityBad r i && !(regInfo r).acc.hostOwned && !d.shadowLost.contains (ownerSlot addr) then
      let good := d.shadow.get addr
      let d := if (regInfo r).kind = .rwk then (d.gateReg 24 .GUARD_UNLOCK (ownerSlot addr) unlockKey).1 else d
      d.gated 24 r i good (fun d w => (d.cfg r i w).count 0x4C 6)
    else d
  | none => d

/-- Core 0 rewrites a table's place from its shadow copy (R108, R151, R156, R158, R194, R223, R248, R252); a stream's
supervision starts anew (R194). -/
def Dev.placeRestore (d : Dev) (c : Nat) : Dev :=
  if !d.corrupt.contains c then d
  else
    let kind := c / 2 ^ 32
    let i := c % 2 ^ 32
    let d := (d.mend kind i).count 0x4C 6
    let d := if kind = 7 then
        { d with policers := d.policers.put i ((d.policers.get i).anew d.cycle) }
      else d
    let st := if kind = 5 then some i else if kind = 6 then some (d.express.get i).stream else none
    match st with
    | some st =>
      let x := d.streams.get st
      if x.valid then
        { d with streams := d.streams.put st x.anew }
      else d
    | none => d

def execShadowRestore (table : Bool) (place : Nat) (s : State) : Out :=
  s.actAt (fun _ => atSfi) (fun d => if !d.core0Up then d else if table then d.placeRestore place else d.regRestore place)

/-! ## A core cycle -/

/-- The block with no command waiting: one core cycle (log entry 1), unless it is stopped (R468, R476). -/
def Dev.idle (d : Dev) : Dev := if d.stopped then d else d.coreCycle.domCycle

end Sys2Proof.Machine
end

