-- ==== Sys2Proof/Machine/Dispatch.lean ====
section
/-! DEFINITION. One arm per command: each calls the command's meaning. -/

namespace Sys2Proof.Machine

def exec (i : Instr) (s : State) : Host.Outcome State Fault Refusal :=
  match i with
  | .headerComplete p mac bytes => Sys2Proof.Machine.execHeaderComplete p mac bytes s
  | .decisionSlotGrant pipe us => Sys2Proof.Machine.execDecisionSlotGrant pipe us s
  | .frameRxEnd p mac bytes pcsErr frags assyErr us => Sys2Proof.Machine.execFrameRxEnd p mac bytes pcsErr frags assyErr us s
  | .nextBufferAlloc p mac bytes us => Sys2Proof.Machine.execNextBufferAlloc p mac bytes us s
  | .expressMatch p mac bytes us => Sys2Proof.Machine.execExpressMatch p mac bytes us s
  | .preemptableYield p => Sys2Proof.Machine.execPreemptableYield p s
  | .egressSelect p us => Sys2Proof.Machine.execEgressSelect p us s
  | .copyTxEnd p mac us => Sys2Proof.Machine.execCopyTxEnd p mac us s
  | .pauseExpire p c => Sys2Proof.Machine.execPauseExpire p c s
  | .pauseRepeat p => Sys2Proof.Machine.execPauseRepeat p s
  | .learnRequestProcess => Sys2Proof.Machine.execLearnRequestProcess s
  | .agerVisit n us => Sys2Proof.Machine.execAgerVisit n us s
  | .flushStart m => Sys2Proof.Machine.execFlushStart m s
  | .downFlushSweepStart => Sys2Proof.Machine.execDownFlushSweepStart s
  | .flushSweepDone => Sys2Proof.Machine.execFlushSweepDone s
  | .lrConsWrite m w => Sys2Proof.Machine.execLrConsWrite m w s
  | .tblRead m c => Sys2Proof.Machine.execTblRead m c s
  | .tblWrite m c => Sys2Proof.Machine.execTblWrite m c s
  | .tblLookup m c => Sys2Proof.Machine.execTblLookup m c s
  | .tblInsert m c => Sys2Proof.Machine.execTblInsert m c s
  | .tblDelete m c => Sys2Proof.Machine.execTblDelete m c s
  | .indirectAccessDone blk c => Sys2Proof.Machine.execIndirectAccessDone blk c s
  | .sacRead m c => Sys2Proof.Machine.execSacRead m c s
  | .sacWrite m c => Sys2Proof.Machine.execSacWrite m c s
  | .tmRead m c => Sys2Proof.Machine.execTmRead m c s
  | .tmWrite m c => Sys2Proof.Machine.execTmWrite m c s
  | .pcsDown p => Sys2Proof.Machine.execPcsDown p s
  | .pcsUp p => Sys2Proof.Machine.execPcsUp p s
  | .linkUpTimeExpire p => Sys2Proof.Machine.execLinkUpTimeExpire p s
  | .linkHoldExpire p => Sys2Proof.Machine.execLinkHoldExpire p s
  | .anWordRx p speed link => Sys2Proof.Machine.execAnWordRx p speed link s
  | .quadPllUnlock q pll => Sys2Proof.Machine.execQuadPllUnlock q pll s
  | .fecUncorrCodeword l corr uncorr => Sys2Proof.Machine.execFecUncorrCodeword l s corr uncorr
  | .quadModeWrite m q w => Sys2Proof.Machine.execQuadModeWrite m q w s
  | .laneCfgWrite m l w => Sys2Proof.Machine.execLaneCfgWrite m l w s
  | .portCfgWrite m p w => Sys2Proof.Machine.execPortCfgWrite m p w s
  | .verifyTimeout p => Sys2Proof.Machine.execVerifyTimeout p s
  | .verifyMpacketRx p => Sys2Proof.Machine.execVerifyMpacketRx p s
  | .respondMpacketRx p => Sys2Proof.Machine.execRespondMpacketRx p s
  | .eeeIdleExpire p partner => Sys2Proof.Machine.execEeeIdleExpire p s partner
  | .twTxExpire p partner => Sys2Proof.Machine.execTwTxExpire p s partner
  | .tbTick n => Sys2Proof.Machine.execTbTick n s
  | .tbRate1Write m n w => Sys2Proof.Machine.execTbRate1Write m n w s
  | .tbStart m n => Sys2Proof.Machine.execTbStart m n s
  | .tbLock m n abs => Sys2Proof.Machine.execTbLock m n abs s
  | .tbRelock m n => Sys2Proof.Machine.execTbRelock m n s
  | .tbEpochEnd m n => Sys2Proof.Machine.execTbEpochEnd m n s
  | .servoTimeout n => Sys2Proof.Machine.execServoTimeout n s
  | .holdoverLimit n => Sys2Proof.Machine.execHoldoverLimit n s
  | .tpllLock n => Sys2Proof.Machine.execTpllLock n s
  | .tpllUnlock n => Sys2Proof.Machine.execTpllUnlock n s
  | .tpllRefLoss n => Sys2Proof.Machine.execTpllRefLoss n s
  | .activeTbWrite m w => Sys2Proof.Machine.execActiveTbWrite m w s
  | .ptAligned => Sys2Proof.Machine.execPtAligned s
  | .timeSnap m => Sys2Proof.Machine.execTimeSnap m s
  | .timeCmdPtJam m => Sys2Proof.Machine.execTimeCmdPtJam m s
  | .tioStart1Write m n w => Sys2Proof.Machine.execTioStart1Write m n w s
  | .tioModeWrite m n w => Sys2Proof.Machine.execTioModeWrite m n w s
  | .compareFire n => Sys2Proof.Machine.execCompareFire n s
  | .tioPulseEnd n => Sys2Proof.Machine.execTioPulseEnd n s
  | .tioInputEdge n rising => Sys2Proof.Machine.execTioInputEdge n rising s
  | .ppsInEdge rising => Sys2Proof.Machine.execPpsInEdge rising s
  | .tioCapPop m n => Sys2Proof.Machine.execTioCapPop m n s
  | .ppsOutSecond => Sys2Proof.Machine.execPpsOutSecond s
  | .synceSquelch n => Sys2Proof.Machine.execSynceSquelch n s
  | .synceResume n => Sys2Proof.Machine.execSynceResume n s
  | .fuEntryExpire n => Sys2Proof.Machine.execFuEntryExpire n s
  | .heldTargetTick => Sys2Proof.Machine.execHeldTargetTick s
  | .plateCmdOpen m => Sys2Proof.Machine.execPlateCmdOpen m s
  | .plateCmdCommit m => Sys2Proof.Machine.execPlateCmdCommit m s
  | .plateCmdCommitAt m => Sys2Proof.Machine.execPlateCmdCommitAt m s
  | .plateCmdDisarm m => Sys2Proof.Machine.execPlateCmdDisarm m s
  | .plateCmdAbort m => Sys2Proof.Machine.execPlateCmdAbort m s
  | .plateAt1Write m w => Sys2Proof.Machine.execPlateAt1Write m w s
  | .openSweepDone => Sys2Proof.Machine.execOpenSweepDone s
  | .timedCommitFire => Sys2Proof.Machine.execTimedCommitFire s
  | .plateRetire => Sys2Proof.Machine.execPlateRetire s
  | .retireSweepDone => Sys2Proof.Machine.execRetireSweepDone s
  | .abortSweepDone => Sys2Proof.Machine.execAbortSweepDone s
  | .retireLimitExpire => Sys2Proof.Machine.execRetireLimitExpire s
  | .fragEntryExpire n => Sys2Proof.Machine.execFragEntryExpire n s
  | .silenceDeadline st => Sys2Proof.Machine.execSilenceDeadline st s
  | .smpRateCheck st => Sys2Proof.Machine.execSmpRateCheck st s
  | .ddSourceForget n => Sys2Proof.Machine.execDdSourceForget n s
  | .carveApply m => Sys2Proof.Machine.execCarveApply m s
  | .carveDone => Sys2Proof.Machine.execCarveDone s
  | .reclaimSweep us => Sys2Proof.Machine.execReclaimSweep us s
  | .clCmdArm m p => Sys2Proof.Machine.execClCmdArm m p s
  | .clCmdDisarm m p => Sys2Proof.Machine.execClCmdDisarm m p s
  | .cueTakeover p => Sys2Proof.Machine.execCueTakeover p s
  | .gateEntryChange p us => Sys2Proof.Machine.execGateEntryChange p us s
  | .holdAssert p => Sys2Proof.Machine.execHoldAssert p s
  | .programStart e => Sys2Proof.Machine.execProgramStart e s
  | .progOverrun e => Sys2Proof.Machine.execProgOverrun e s
  | .verdictMerge e code res => Sys2Proof.Machine.execVerdictMerge e code res s
  | .engineFault e => Sys2Proof.Machine.execEngineFault e s
  | .engineReloadDone c => Sys2Proof.Machine.execEngineReloadDone c s
  | .clCfgWrite m c w => Sys2Proof.Machine.execClCfgWrite m c w s
  | .clusterClockStop c => Sys2Proof.Machine.execClusterClockStop c s
  | .supvGenPass => Sys2Proof.Machine.execSupvGenPass s
  | .profileSample e offset => Sys2Proof.Machine.execProfileSample e offset s
  | .folioFormatterTake us => Sys2Proof.Machine.execFolioFormatterTake s us
  | .shedDown => Sys2Proof.Machine.execShedDown s
  | .assemblyDrainWrite => Sys2Proof.Machine.execAssemblyDrainWrite s
  | .nvmeCompletion n write err fatal => Sys2Proof.Machine.execNvmeCompletion n write err fatal s
  | .nvmeTimeout n => Sys2Proof.Machine.execNvmeTimeout n s
  | .smartPoll wear => Sys2Proof.Machine.execSmartPoll wear s
  | .folioHeaderWrite => Sys2Proof.Machine.execFolioHeaderWrite s
  | .folioStartDone ds hdr => Sys2Proof.Machine.execFolioStartDone ds hdr s
  | .folioReadDone => Sys2Proof.Machine.execFolioReadDone s
  | .ringDb m n w => Sys2Proof.Machine.execRingDb m n w s
  | .descriptorFetch n es => Sys2Proof.Machine.execDescriptorFetch n es s
  | .pollRead n phase e => Sys2Proof.Machine.execPollRead n phase e s
  | .rxDeliver es us => Sys2Proof.Machine.execRxDeliver es s us
  | .cqConsWrite m k w => Sys2Proof.Machine.execCqConsWrite m k w s
  | .intTimeExpire k => Sys2Proof.Machine.execIntTimeExpire k s
  | .ringEnable m n w => Sys2Proof.Machine.execRingEnable m n w s
  | .cqEnable m k w => Sys2Proof.Machine.execCqEnable m k w s
  | .flr f => Sys2Proof.Machine.execFlr f s
  | .flrDone f => Sys2Proof.Machine.execFlrDone f s
  | .mbPost m c w => Sys2Proof.Machine.execMbPost m c w s
  | .coreWake n => Sys2Proof.Machine.execCoreWake n s
  | .mbRspPop m c => Sys2Proof.Machine.execMbRspPop m c s
  | .sfiRequestTake c => Sys2Proof.Machine.execSfiRequestTake c s
  | .sfiJobDone c tag im => Sys2Proof.Machine.execSfiJobDone c tag im s
  | .pcieLinkDown => Sys2Proof.Machine.execPcieLinkDown s
  | .pcieAerError => Sys2Proof.Machine.execPcieAerError s
  | .hostLinkReset kind => Sys2Proof.Machine.execHostLinkReset kind s
  | .registerWrite m addr w be => Sys2Proof.Machine.execRegisterWrite m addr w be s
  | .guardUnlock m slot w => Sys2Proof.Machine.execGuardUnlock m slot w s
  | .rsqClear m addr w => Sys2Proof.Machine.execRsqClear m addr w s
  | .paritySweep addr upset => Sys2Proof.Machine.execParitySweep addr upset s
  | .shadowRestore table place => Sys2Proof.Machine.execShadowRestore table place s
  | .curtainUp m => Sys2Proof.Machine.execCurtainUp m s
  | .curtainDown m => Sys2Proof.Machine.execCurtainDown m s
  | .bookCmdClear m chan role => Sys2Proof.Machine.execBookCmdClear m chan role s
  | .curtainLimitExpire => Sys2Proof.Machine.execCurtainLimitExpire s
  | .bookStagingWrite => Sys2Proof.Machine.execBookStagingWrite s
  | .bookEvent c => Sys2Proof.Machine.execBookEvent c s
  | .statsLatch => Sys2Proof.Machine.execStatsLatch s
  | .dumpWriteDone => Sys2Proof.Machine.execDumpWriteDone s
  | .perfCmdSnap m => Sys2Proof.Machine.execPerfCmdSnap m s
  | .perfCmdDumpNow m => Sys2Proof.Machine.execPerfCmdDumpNow m s
  | .perfSnapDone => Sys2Proof.Machine.execPerfSnapDone s
  | .pcClear m slot w => Sys2Proof.Machine.execPcClear m slot w s
  | .boot a b => Sys2Proof.Machine.execBoot a b s
  | .configAutoApply fail => Sys2Proof.Machine.execConfigAutoApply fail s
  | .coreHeartbeatCheck beats => Sys2Proof.Machine.execCoreHeartbeatCheck beats s
  | .core0WatchdogExpire => Sys2Proof.Machine.execCore0WatchdogExpire s
  | .sramEccError n corrected image => Sys2Proof.Machine.execSramEccError n corrected image s
  | .core0LoadCheck loads => Sys2Proof.Machine.execCore0LoadCheck loads s
  | .confirmTimeExpire => Sys2Proof.Machine.execConfirmTimeExpire s
  | .prompterCmdRestart m => Sys2Proof.Machine.execPrompterCmdRestart m s
  | .sessionIdleExpire c => Sys2Proof.Machine.execSessionIdleExpire c s
  | .prompterRxFrame core us => Sys2Proof.Machine.execPrompterRxFrame core s us
  | .lldpTx p => Sys2Proof.Machine.execLldpTx p s
  | .arbGoFall => Sys2Proof.Machine.execArbGoFall s
  | .arbInputSettled go fault => Sys2Proof.Machine.execArbInputSettled go fault s
  | .hbToggle tmStuck fwLate => Sys2Proof.Machine.execHbToggle tmStuck fwLate s
  | .claimMismatch read => Sys2Proof.Machine.execClaimMismatch read s
  | .ulkLinkUp lane => Sys2Proof.Machine.execUlkLinkUp lane s
  | .ulkLinkDown => Sys2Proof.Machine.execUlkLinkDown s
  | .helloRx x => Sys2Proof.Machine.execHelloRx x s
  | .startWaitExpire => Sys2Proof.Machine.execStartWaitExpire s
  | .mirrorMessageRx x => Sys2Proof.Machine.execMirrorMessageRx x s
  | .mirrorGap => Sys2Proof.Machine.execMirrorGap s
  | .timeMirrorTick => Sys2Proof.Machine.execTimeMirrorTick s
  | .resyncCopyDone => Sys2Proof.Machine.execResyncCopyDone s
  | .resyncRetry => Sys2Proof.Machine.execResyncRetry s
  | .revertHoldMet => Sys2Proof.Machine.execRevertHoldMet s
  | .revertProposalRx tr => Sys2Proof.Machine.execRevertProposalRx tr s
  | .revertNoAnswer => Sys2Proof.Machine.execRevertNoAnswer s
  | .handoverTr => Sys2Proof.Machine.execHandoverTr s
  | .overlapStartedRx => Sys2Proof.Machine.execOverlapStartedRx s
  | .handoverTs => Sys2Proof.Machine.execHandoverTs s
  | .domainHelloTick => Sys2Proof.Machine.execDomainHelloTick s
  | .childLost n => Sys2Proof.Machine.execChildLost n s
  | .parentLost => Sys2Proof.Machine.execParentLost s
  | .mgmtFrameRx us => Sys2Proof.Machine.execMgmtFrameRx s us
  | .domainTxEnable => Sys2Proof.Machine.execDomainTxEnable s
  | .mgmtFrameHoldRelease => Sys2Proof.Machine.execMgmtFrameHoldRelease s
  | .mseqEntryAge index => Sys2Proof.Machine.execMseqEntryAge index s
  | .proofLatch => Sys2Proof.Machine.execProofLatch s
  | .proofReportDeadline => Sys2Proof.Machine.execProofReportDeadline s
  | .actionTake => Sys2Proof.Machine.execActionTake s
  | .actionCompletionDeadline => Sys2Proof.Machine.execActionCompletionDeadline s
  | .barrierTimeout => Sys2Proof.Machine.execBarrierTimeout s
  | .railMonitorSample mv => Sys2Proof.Machine.execRailMonitorSample mv s
  | .thermalSample temps => Sys2Proof.Machine.execThermalSample temps s
  | .thermClear => Sys2Proof.Machine.execThermClear s
  | .thermalTrip => Sys2Proof.Machine.execThermalTrip s
  | .lifeHoursUpdate hottest => Sys2Proof.Machine.execLifeHoursUpdate hottest s
  | .corePllUnlock pll => Sys2Proof.Machine.execCorePllUnlock pll s
  | .powerOnReset => Sys2Proof.Machine.execPowerOnReset s
  | .resetNAssert => Sys2Proof.Machine.execResetNAssert s
  | .resetNRelease straps temps => Sys2Proof.Machine.execResetNRelease straps temps s
  | .resetCtrlDeviceReset m => Sys2Proof.Machine.execResetCtrlDeviceReset m s
  | .internalResetEnd straps => Sys2Proof.Machine.execInternalResetEnd straps s
  | .sysCaps rq page => Sys2Proof.Machine.execSysCaps rq page s
  | .sysQuery rq => Sys2Proof.Machine.execSysQuery rq s
  | .sysReset rq kind => Sys2Proof.Machine.execSysReset rq kind s
  | .fwUpdateBegin rq len => Sys2Proof.Machine.execFwUpdateBegin rq len s
  | .fwUpdateWrite rq offset words => Sys2Proof.Machine.execFwUpdateWrite rq offset words s
  | .fwUpdateEnd rq => Sys2Proof.Machine.execFwUpdateEnd rq s
  | .fwActivate rq now => Sys2Proof.Machine.execFwActivate rq now s
  | .fwConfirm rq => Sys2Proof.Machine.execFwConfirm rq s
  | .configSave rq => Sys2Proof.Machine.execConfigSave rq s
  | .sysConfig rq idle confirm auto => Sys2Proof.Machine.execSysConfig rq idle confirm auto s
  | .recoveryWrite rq offset words => Sys2Proof.Machine.execRecoveryWrite rq offset words s
  | .recoveryReboot rq => Sys2Proof.Machine.execRecoveryReboot rq s
  | .powerQuery rq start => Sys2Proof.Machine.execPowerQuery rq start s
  | .thermalSet rq warn crit => Sys2Proof.Machine.execThermalSet rq warn crit s
  | .gpioSet rq oe out => Sys2Proof.Machine.execGpioSet rq oe out s
  | .portQuery rq port => Sys2Proof.Machine.execPortQuery rq port s
  | .laneModeSet rq quad qmode lanes => Sys2Proof.Machine.execLaneModeSet rq quad qmode lanes s
  | .laneEnable rq mask en => Sys2Proof.Machine.execLaneEnable rq mask en s
  | .portConfigSet rq port en maxFrame hold upTime => Sys2Proof.Machine.execPortConfigSet rq port en maxFrame hold upTime s
  | .portPreSet rq port en verify time addFrag expressTc => Sys2Proof.Machine.execPortPreSet rq port en verify time addFrag expressTc s
  | .portEeeSet rq port en idle ovr => Sys2Proof.Machine.execPortEeeSet rq port en idle ovr s
  | .portParseSet rq port prpLan slowFrag grp pcp pvid fwd => Sys2Proof.Machine.execPortParseSet rq port prpLan slowFrag grp pcp pvid fwd s
  | .portTsTrimSet rq port ing egr => Sys2Proof.Machine.execPortTsTrimSet rq port ing egr s
  | .pcpMapSet rq pipe map => Sys2Proof.Machine.execPcpMapSet rq pipe map s
  | .lldpSet rq port en interval => Sys2Proof.Machine.execLldpSet rq port en interval s
  | .timeQuery rq => Sys2Proof.Machine.execTimeQuery rq s
  | .tbProfileSet rq base profile domain transports refSel lane => Sys2Proof.Machine.execTbProfileSet rq base profile domain transports refSel lane s
  | .ptpPortRoleSet rq port base role => Sys2Proof.Machine.execPtpPortRoleSet rq port base role s
  | .tbControl rq base start epochEnd servo timeout limit => Sys2Proof.Machine.execTbControl rq base start epochEnd servo timeout limit s
  | .ptSelect rq base auto hold slew freeRun => Sys2Proof.Machine.execPtSelect rq base auto hold slew freeRun s
  | .ptJam rq => Sys2Proof.Machine.execPtJam rq s
  | .tioSet rq x => Sys2Proof.Machine.execTioSet rq x s
  | .tioCapturePop rq pin => Sys2Proof.Machine.execTioCapturePop rq pin s
  | .ppsSet rq outEn width trim inEn inEdge => Sys2Proof.Machine.execPpsSet rq outEn width trim inEn inEdge s
  | .synceSet rq o lane div en => Sys2Proof.Machine.execSynceSet rq o lane div en s
  | .timeOfDaySet rq base secs => Sys2Proof.Machine.execTimeOfDaySet rq base secs s
  | .plateQuery rq => Sys2Proof.Machine.execPlateQuery rq s
  | .plateOpen rq => Sys2Proof.Machine.execPlateOpen rq s
  | .profileSet rq prof en table types groups slots => Sys2Proof.Machine.execProfileSet rq prof en table types groups slots s
  | .ruleAdd rq prof key action => Sys2Proof.Machine.execRuleAdd rq prof key action s
  | .ruleDelete rq prof key => Sys2Proof.Machine.execRuleDelete rq prof key s
  | .plateCommit rq target => Sys2Proof.Machine.execPlateCommit rq target s
  | .plateAbort rq => Sys2Proof.Machine.execPlateAbort rq s
  | .fragConfig rq life => Sys2Proof.Machine.execFragConfig rq life s
  | .plateDisarm rq => Sys2Proof.Machine.execPlateDisarm rq s
  | .fdbQuery rq key start count filter => Sys2Proof.Machine.execFdbQuery rq key start count filter s
  | .fdbStaticAdd rq mac fid dtype dest => Sys2Proof.Machine.execFdbStaticAdd rq mac fid dtype dest s
  | .fdbStaticDelete rq mac fid => Sys2Proof.Machine.execFdbStaticDelete rq mac fid s
  | .fdbFlush rq port fid report => Sys2Proof.Machine.execFdbFlush rq port fid report s
  | .fdbConfig rq age hold evict miss => Sys2Proof.Machine.execFdbConfig rq age hold evict miss s
  | .portLearnSet rq port learn flush as => Sys2Proof.Machine.execPortLearnSet rq port learn flush as s
  | .vlanSet rq vid mask x => Sys2Proof.Machine.execVlanSet rq vid mask x s
  | .groupSet rq group bitmap => Sys2Proof.Machine.execGroupSet rq group bitmap s
  | .routeAdd rq v6 pfx len nh => Sys2Proof.Machine.execRouteAdd rq v6 pfx len nh s
  | .routeDelete rq v6 pfx len => Sys2Proof.Machine.execRouteDelete rq v6 pfx len s
  | .nexthopSet rq index dtype dest edit => Sys2Proof.Machine.execNexthopSet rq index dtype dest edit s
  | .learnRingSet rq fn base size mask en => Sys2Proof.Machine.execLearnRingSet rq fn base size mask en s
  | .streamAdmit rq x => Sys2Proof.Machine.execStreamAdmit rq x s
  | .streamWithdraw rq index => Sys2Proof.Machine.execStreamWithdraw rq index s
  | .streamQuery rq index start => Sys2Proof.Machine.execStreamQuery rq index s start
  | .streamActions rq index acts stateRec => Sys2Proof.Machine.execStreamActions rq index acts stateRec s
  | .rpairSet rq pair mode a b inter quad peer => Sys2Proof.Machine.execRpairSet rq pair mode a b inter quad peer s
  | .ddConfig rq forget => Sys2Proof.Machine.execDdConfig rq forget s
  | .streamLimits rq share => Sys2Proof.Machine.execStreamLimits rq share s
  | .queueSet rq port queue x => Sys2Proof.Machine.execQueueSet rq port queue x s
  | .portSchedSet rq port sp overhead exempt => Sys2Proof.Machine.execPortSchedSet rq port sp overhead exempt s
  | .queueQuery rq port queue start => Sys2Proof.Machine.execQueueQuery rq port queue start s
  | .cueListLoad rq port entries cycle => Sys2Proof.Machine.execCueListLoad rq port entries cycle s
  | .cueListArm rq port base => Sys2Proof.Machine.execCueListArm rq port base s
  | .cueListDisarm rq port => Sys2Proof.Machine.execCueListDisarm rq port s
  | .gateConfig rq port en la guard hold => Sys2Proof.Machine.execGateConfig rq port en la guard hold s
  | .cueListQuery rq port start => Sys2Proof.Machine.execCueListQuery rq port start s
  | .policerSet rq n x => Sys2Proof.Machine.execPolicerSet rq n x s
  | .policerQuery rq n => Sys2Proof.Machine.execPolicerQuery rq n s
  | .wredProfileSet rq prof weight curves => Sys2Proof.Machine.execWredProfileSet rq prof weight curves s
  | .mirrorSet rq session dest tc en => Sys2Proof.Machine.execMirrorSet rq session dest tc en s
  | .bpmCarve rq mib => Sys2Proof.Machine.execBpmCarve rq mib s
  | .quotaProfileSet rq prof min alpha max headroom hyst warn => Sys2Proof.Machine.execQuotaProfileSet rq prof min alpha max headroom hyst warn s
  | .quotaBind rq lo hi prof lossless => Sys2Proof.Machine.execQuotaBind rq lo hi prof lossless s
  | .portFlowSet rq port mode quanta => Sys2Proof.Machine.execPortFlowSet rq port mode quanta s
  | .bpmQuery rq range start => Sys2Proof.Machine.execBpmQuery rq range start s
  | .editSet rq index words => Sys2Proof.Machine.execEditSet rq index words s
  | .stageQuery rq start => Sys2Proof.Machine.execStageQuery rq start s
  | .clusterStepSet rq cluster step force => Sys2Proof.Machine.execClusterStepSet rq cluster step force s
  | .programAssign rq prog mask => Sys2Proof.Machine.execProgramAssign rq prog mask s
  | .pinRebalance rq prog => Sys2Proof.Machine.execPinRebalance rq prog s
  | .samplerSet rq port n random en ring => Sys2Proof.Machine.execSamplerSet rq port n random en ring s
  | .profileStart rq x => Sys2Proof.Machine.execProfileStart rq x s
  | .profileRead rq => Sys2Proof.Machine.execProfileRead rq s
  | .supvGenSet rq pair en life last => Sys2Proof.Machine.execSupvGenSet rq pair en life last s
  | .stageReport c ch op tag words => Sys2Proof.Machine.execStageReport c ch op tag words s
  | .folioConfig rq links pinLimit hi lo capDup rb => Sys2Proof.Machine.execFolioConfig rq links pinLimit hi lo capDup rb s
  | .folioStart rq format => Sys2Proof.Machine.execFolioStart rq format s
  | .folioStop rq => Sys2Proof.Machine.execFolioStop rq s
  | .folioQuery rq start => Sys2Proof.Machine.execFolioQuery rq start s
  | .captureClassSet rq cls snap => Sys2Proof.Machine.execCaptureClassSet rq cls snap s
  | .portCaptureSet rq port ing mask => Sys2Proof.Machine.execPortCaptureSet rq port ing mask s
  | .pinBindingSet rq k code mask sev pre post => Sys2Proof.Machine.execPinBindingSet rq k code mask sev pre post s
  | .pinNow rq t pre post => Sys2Proof.Machine.execPinNow rq t pre post s
  | .pinRelease rq id => Sys2Proof.Machine.execPinRelease rq id s
  | .folioRead rq x => Sys2Proof.Machine.execFolioRead rq x s
  | .folioErase rq => Sys2Proof.Machine.execFolioErase rq s
  | .bookQuery rq start => Sys2Proof.Machine.execBookQuery rq start s
  | .bookRead rq x => Sys2Proof.Machine.execBookRead rq x s
  | .bookCurtain rq up => Sys2Proof.Machine.execBookCurtain rq up s
  | .bookClear rq => Sys2Proof.Machine.execBookClear rq s
  | .bookConfig rq mode minSev limit => Sys2Proof.Machine.execBookConfig rq mode minSev limit s
  | .bookSnapSet rq src entry addr rel internal en => Sys2Proof.Machine.execBookSnapSet rq src entry addr rel internal en s
  | .bookTriggerSet rq k x => Sys2Proof.Machine.execBookTriggerSet rq k x s
  | .bookSubscribe rq minSev code mask en => Sys2Proof.Machine.execBookSubscribe rq minSev code mask en s
  | .statsQuery rq kind idx cls start => Sys2Proof.Machine.execStatsQuery rq kind idx cls start s
  | .statsDumpSet rq sets period mask buf0 buf1 en => Sys2Proof.Machine.execStatsDumpSet rq sets period mask buf0 buf1 en s
  | .statsDumpNow rq => Sys2Proof.Machine.execStatsDumpNow rq s
  | .perfConfig rq x => Sys2Proof.Machine.execPerfConfig rq x s
  | .perfSnap rq => Sys2Proof.Machine.execPerfSnap rq s
  | .perfClear rq slot mask => Sys2Proof.Machine.execPerfClear rq slot mask s
  | .perfAllowSet rq mask => Sys2Proof.Machine.execPerfAllowSet rq mask s
  | .pairQuery rq => Sys2Proof.Machine.execPairQuery rq s
  | .pairConfig rq x => Sys2Proof.Machine.execPairConfig rq x s
  | .pairResync rq => Sys2Proof.Machine.execPairResync rq s
  | .pairSwitchover rq => Sys2Proof.Machine.execPairSwitchover rq s
  | .pairRevertCancel rq => Sys2Proof.Machine.execPairRevertCancel rq s
  | .peerMessage c op tag words => Sys2Proof.Machine.execPeerMessage c op tag words s
  | .domainQuery rq => Sys2Proof.Machine.execDomainQuery rq s
  | .domainJoin rq x => Sys2Proof.Machine.execDomainJoin rq x s
  | .domainConfig rq x => Sys2Proof.Machine.execDomainConfig rq x s
  | .domainLeave rq => Sys2Proof.Machine.execDomainLeave rq s
  | .domainSend rq target msg => Sys2Proof.Machine.execDomainSend rq target msg s
  | .domainBroadcast rq msg => Sys2Proof.Machine.execDomainBroadcast rq msg s
  | .proofStart rq t addr len => Sys2Proof.Machine.execProofStart rq t addr len s
  | .curtainArm rq kind t ports => Sys2Proof.Machine.execCurtainArm rq kind t ports s
  | .curtainCancel rq opId => Sys2Proof.Machine.execCurtainCancel rq opId s
  | .barrierStart rq cond arg timeout action => Sys2Proof.Machine.execBarrierStart rq cond arg timeout action s
  | .barrierReady rq opId => Sys2Proof.Machine.execBarrierReady rq opId s
  | .domainTreeQuery rq start => Sys2Proof.Machine.execDomainTreeQuery rq start s
  | .funcWindowSet rq x => Sys2Proof.Machine.execFuncWindowSet rq x s
  | .funcGrant rq fn cfgWrite direct => Sys2Proof.Machine.execFuncGrant rq fn cfgWrite direct s
  | .ringAssign rq isCq ring fn => Sys2Proof.Machine.execRingAssign rq isCq ring fn s
  | .rxMapSet rq grp tc ring en => Sys2Proof.Machine.execRxMapSet rq grp tc ring en s
  | .mboxChannelSet rq c sender prio core vector => Sys2Proof.Machine.execMboxChannelSet rq c sender prio core vector s
  | .masterQuery rq m start => Sys2Proof.Machine.execMasterQuery rq m start s
  | .masterRelease rq m reset => Sys2Proof.Machine.execMasterRelease rq m reset s
  | .sessionOpen rq role => Sys2Proof.Machine.execSessionOpen rq role s
  | .sessionAuth rq answer => Sys2Proof.Machine.execSessionAuth rq answer s
  | .sessionClose rq => Sys2Proof.Machine.execSessionClose rq s
  | .sessionQuery rq c start => Sys2Proof.Machine.execSessionQuery rq c start s
  | .credentialSet rq role words => Sys2Proof.Machine.execCredentialSet rq role words s
  | .keySlotLoad rq x => Sys2Proof.Machine.execKeySlotLoad rq x s
  | .keySlotClear rq slot which => Sys2Proof.Machine.execKeySlotClear rq slot which s
  | .tpllRefReturn n => Sys2Proof.Machine.execTpllRefReturn n s
  | .quadPllLock q pll => Sys2Proof.Machine.execQuadPllLock q pll s
  | .folioLinkDown n => Sys2Proof.Machine.execFolioLinkDown n s
  | .pciePerstNRelease => Sys2Proof.Machine.execPciePerstNRelease s
  | .pcieLinkUp width speed => Sys2Proof.Machine.execPcieLinkUp width speed s
  | .ulkLaneDown lane => Sys2Proof.Machine.execUlkLaneDown lane s
  | .ulkLaneUp lane => Sys2Proof.Machine.execUlkLaneUp lane s
  | .domainSendTimeout => Sys2Proof.Machine.execDomainSendTimeout s
  | .coreResetDone n => Sys2Proof.Machine.execCoreResetDone n s

end Sys2Proof.Machine
end

