-- ==== Sys2Proof/WellFormed.lean ====
section
/-! DEFINITION. Which commands the outside can send: every operand fits the words it travels in, and a list of operands
has the length the command's row gives it. What a command does with a value out of range is its meaning's matter. -/

namespace Sys2Proof

/-- A number fits `k` bits. -/
def fit (k n : Nat) : Bool := decide (n < 2 ^ k)

/-- Every number of a list fits `k` bits. -/
def fitAll (k : Nat) (l : List Nat) : Bool := l.all (fun n => decide (n < 2 ^ k))

/-- Both numbers of every pair of a list fit `k` bits. -/
def fitAll2 (k : Nat) (l : List (Nat × Nat)) : Bool := l.all (fun x => decide (x.1 < 2 ^ k ∧ x.2 < 2 ^ k))

/-- The numbers of TioArgs fit the words they travel in. -/
def TioArgs.fits (x : TioArgs) : Bool :=
  decide (x.target < 2 ^ 80 ∧ x.periodNs < 2 ^ 32 ∧ x.periodFrac < 2 ^ 16 ∧ x.width < 2 ^ 32 ∧ x.count < 2 ^ 32 ∧ x.trim < 2 ^ 32)

/-- The numbers of VlanArgs fit the words they travel in. -/
def VlanArgs.fits (x : VlanArgs) : Bool :=
  decide (x.fid < 2 ^ 12 ∧ x.group < 2 ^ 14 ∧ x.unkUc < 4 ∧ x.unkMc < 4)

/-- The numbers of AdmitArgs fit the words they travel in. -/
def AdmitArgs.fits (x : AdmitArgs) : Bool :=
  decide (x.key < 2 ^ 320 ∧ x.fMax < 2 ^ 32 ∧ x.interval < 2 ^ 32 ∧ x.acts < 2 ^ 14 ∧ x.exprKey.length ≤ 18 ∧ x.exprMask < 2 ^ 18)

/-- The numbers of QueueArgs fit the words they travel in. -/
def QueueArgs.fits (x : QueueArgs) : Bool :=
  decide (x.quantum < 2 ^ 32 ∧ x.limit < 2 ^ 32 ∧ x.idle < 2 ^ 32 ∧ x.hi < 2 ^ 32 ∧ x.lo < 2 ^ 32 ∧ x.tbsRate < 2 ^ 32 ∧ x.tbsBurst < 2 ^ 32)

/-- The numbers of PolicerArgs fit the words they travel in. -/
def PolicerArgs.fits (x : PolicerArgs) : Bool :=
  decide (x.cir < 2 ^ 32 ∧ x.pir < 2 ^ 32 ∧ x.cbs < 2 ^ 32 ∧ x.ebs < 2 ^ 32)

/-- The numbers of FolioReadArgs fit the words they travel in. -/
def FolioReadArgs.fits (x : FolioReadArgs) : Bool :=
  decide (x.lo < 2 ^ 64 ∧ x.hi < 2 ^ 64 ∧ x.addr < 2 ^ 64 ∧ x.len < 2 ^ 32)

/-- The numbers of WindowArgs fit the words they travel in. -/
def WindowArgs.fits (x : WindowArgs) : Bool :=
  decide (x.base < 2 ^ 64 ∧ x.log2 < 2 ^ 8)

/-- The numbers of KeyArgs fit the words they travel in. -/
def KeyArgs.fits (x : KeyArgs) : Bool :=
  decide (x.key.all (fun k => decide (k < 2 ^ 32)) = true ∧ x.start < 2 ^ 64 ∧ x.stop < 2 ^ 64)

/-- The numbers of BookReadArgs fit the words they travel in. -/
def BookReadArgs.fits (x : BookReadArgs) : Bool :=
  decide (x.lo < 2 ^ 32 ∧ x.hi < 2 ^ 32 ∧ x.addr < 2 ^ 64 ∧ x.len < 2 ^ 32)

/-- The numbers of TriggerArgs fit the words they travel in. -/
def TriggerArgs.fits (x : TriggerArgs) : Bool :=
  decide (x.code < 2 ^ 16 ∧ x.mask < 2 ^ 16)

/-- The numbers of PerfArgs fit the words they travel in. -/
def PerfArgs.fits (x : PerfArgs) : Bool :=
  decide (x.lo < 2 ^ 32 ∧ x.hi < 2 ^ 32)

/-- The numbers of HelloArgs fit the words they travel in. -/
def HelloArgs.fits (x : HelloArgs) : Bool :=
  decide (x.version < 2 ^ 32 ∧ x.digest < 2 ^ 32)

/-- The numbers of MirArgs fit the words they travel in. -/
def MirArgs.fits (x : MirArgs) : Bool :=
  decide (x.seq < 2 ^ 32 ∧ x.stamp < 2 ^ 80)

/-- The numbers of PairArgs fit the words they travel in. -/
def PairArgs.fits (x : PairArgs) : Bool :=
  decide (x.level < 2 ^ 8 ∧ x.hbHalf < 2 ^ 16 ∧ x.revertHold < 2 ^ 32 ∧ x.overlap < 2 ^ 16 ∧ x.startWait < 2 ^ 16)

/-- The numbers of DomJoinArgs fit the words they travel in. -/
def DomJoinArgs.fits (x : DomJoinArgs) : Bool :=
  decide (x.domainId < 2 ^ 16 ∧ x.index < 2 ^ 16 ∧ x.parentMac < 2 ^ 48 ∧ x.mac < 2 ^ 48 ∧ x.groupDa < 2 ^ 48 ∧ x.key.length = 8)

/-- The numbers of DomCfgArgs fit the words they travel in. -/
def DomCfgArgs.fits (x : DomCfgArgs) : Bool :=
  decide (x.ports < 2 ^ 256 ∧ x.rate < 2 ^ 32 ∧ x.lead < 2 ^ 16)

/-- The command can be sent. -/
def Instr.wellFormed (i : Instr) : Bool :=
  match i with
  | .headerComplete _ _ bytes => decide (1 ≤ bytes.length)
  | .decisionSlotGrant _ _ => true
  | .frameRxEnd _ _ _ _ frags _ _ => fit 16 frags
  | .nextBufferAlloc _ _ _ _ => true
  | .expressMatch _ _ _ _ => true
  | .preemptableYield _ => true
  | .egressSelect _ _ => true
  | .copyTxEnd _ _ _ => true
  | .pauseExpire _ _ => true
  | .pauseRepeat _ => true
  | .learnRequestProcess => true
  | .agerVisit _ _ => true
  | .flushStart _ => true
  | .downFlushSweepStart => true
  | .flushSweepDone => true
  | .lrConsWrite _ _ => true
  | .tblRead _ _ => true
  | .tblWrite _ _ => true
  | .tblLookup _ _ => true
  | .tblInsert _ _ => true
  | .tblDelete _ _ => true
  | .indirectAccessDone _ _ => true
  | .sacRead _ _ => true
  | .sacWrite _ _ => true
  | .tmRead _ _ => true
  | .tmWrite _ _ => true
  | .pcsDown _ => true
  | .pcsUp _ => true
  | .linkUpTimeExpire _ => true
  | .linkHoldExpire _ => true
  | .anWordRx _ _ _ => true
  | .quadPllUnlock _ _ => true
  | .fecUncorrCodeword _ _ _ => true
  | .quadModeWrite _ _ _ => true
  | .laneCfgWrite _ _ _ => true
  | .portCfgWrite _ _ _ => true
  | .verifyTimeout _ => true
  | .verifyMpacketRx _ => true
  | .respondMpacketRx _ => true
  | .eeeIdleExpire _ _ => true
  | .twTxExpire _ _ => true
  | .tbTick _ => true
  | .tbRate1Write _ _ _ => true
  | .tbStart _ _ => true
  | .tbLock _ _ _ => true
  | .tbRelock _ _ => true
  | .tbEpochEnd _ _ => true
  | .servoTimeout _ => true
  | .holdoverLimit _ => true
  | .tpllLock _ => true
  | .tpllUnlock _ => true
  | .tpllRefLoss _ => true
  | .activeTbWrite _ _ => true
  | .ptAligned => true
  | .timeSnap _ => true
  | .timeCmdPtJam _ => true
  | .tioStart1Write _ _ _ => true
  | .tioModeWrite _ _ _ => true
  | .compareFire _ => true
  | .tioPulseEnd _ => true
  | .tioInputEdge _ _ => true
  | .ppsInEdge _ => true
  | .tioCapPop _ _ => true
  | .ppsOutSecond => true
  | .synceSquelch _ => true
  | .synceResume _ => true
  | .fuEntryExpire n => fit 32 n
  | .heldTargetTick => true
  | .plateCmdOpen _ => true
  | .plateCmdCommit _ => true
  | .plateCmdCommitAt _ => true
  | .plateCmdDisarm _ => true
  | .plateCmdAbort _ => true
  | .plateAt1Write _ _ => true
  | .openSweepDone => true
  | .timedCommitFire => true
  | .plateRetire => true
  | .retireSweepDone => true
  | .abortSweepDone => true
  | .retireLimitExpire => true
  | .fragEntryExpire _ => true
  | .silenceDeadline _ => true
  | .smpRateCheck _ => true
  | .ddSourceForget _ => true
  | .carveApply _ => true
  | .carveDone => true
  | .reclaimSweep _ => true
  | .clCmdArm _ _ => true
  | .clCmdDisarm _ _ => true
  | .cueTakeover _ => true
  | .gateEntryChange _ _ => true
  | .holdAssert _ => true
  | .programStart _ => true
  | .progOverrun _ => true
  | .verdictMerge _ _ res => fitAll 32 res
  | .engineFault _ => true
  | .engineReloadDone _ => true
  | .clCfgWrite _ _ _ => true
  | .clusterClockStop _ => true
  | .supvGenPass => true
  | .profileSample _ offset => fit 16 offset
  | .folioFormatterTake _ => true
  | .shedDown => true
  | .assemblyDrainWrite => true
  | .nvmeCompletion _ _ _ _ => true
  | .nvmeTimeout _ => true
  | .smartPoll wear => fitAll 32 wear && decide (wear.length = 4)
  | .folioHeaderWrite => true
  | .folioStartDone _ _ => true
  | .folioReadDone => true
  | .ringDb _ _ _ => true
  | .descriptorFetch _ es => decide (es.length ≤ 64)
  | .pollRead _ _ _ => true
  | .rxDeliver _ _ => true
  | .cqConsWrite _ _ _ => true
  | .intTimeExpire _ => true
  | .ringEnable _ _ _ => true
  | .cqEnable _ _ _ => true
  | .flr _ => true
  | .flrDone _ => true
  | .mbPost _ _ _ => true
  | .coreWake _ => true
  | .mbRspPop _ _ => true
  | .sfiRequestTake _ => true
  | .sfiJobDone _ _ _ => true
  | .pcieLinkDown => true
  | .pcieAerError => true
  | .hostLinkReset _ => true
  | .registerWrite _ addr _ _ => fit 24 addr && decide (addr % 4 = 0)
  | .guardUnlock _ _ _ => true
  | .rsqClear _ addr _ => fit 24 addr && decide (addr % 4 = 0)
  | .paritySweep addr _ => fit 24 addr && decide (addr % 4 = 0)
  | .shadowRestore table place => fit 36 place && decide (table = false → place < 2 ^ 24)
  | .curtainUp _ => true
  | .curtainDown _ => true
  | .bookCmdClear _ _ _ => true
  | .curtainLimitExpire => true
  | .bookStagingWrite => true
  | .bookEvent _ => true
  | .statsLatch => true
  | .dumpWriteDone => true
  | .perfCmdSnap _ => true
  | .perfCmdDumpNow _ => true
  | .perfSnapDone => true
  | .pcClear _ _ _ => true
  | .boot _ _ => true
  | .configAutoApply fail => fitAll2 64 fail.toList
  | .coreHeartbeatCheck _ => true
  | .core0WatchdogExpire => true
  | .sramEccError _ _ _ => true
  | .core0LoadCheck loads => fitAll2 56 loads && decide (loads.length = 4)
  | .confirmTimeExpire => true
  | .prompterCmdRestart _ => true
  | .sessionIdleExpire _ => true
  | .prompterRxFrame _ _ => true
  | .lldpTx _ => true
  | .arbGoFall => true
  | .arbInputSettled _ _ => true
  | .hbToggle _ _ => true
  | .claimMismatch _ => true
  | .ulkLinkUp _ => true
  | .ulkLinkDown => true
  | .helloRx x => x.fits
  | .startWaitExpire => true
  | .mirrorMessageRx x => x.fits
  | .mirrorGap => true
  | .timeMirrorTick => true
  | .resyncCopyDone => true
  | .resyncRetry => true
  | .revertHoldMet => true
  | .revertProposalRx tr => fit 80 tr
  | .revertNoAnswer => true
  | .handoverTr => true
  | .overlapStartedRx => true
  | .handoverTs => true
  | .domainHelloTick => true
  | .childLost _ => true
  | .parentLost => true
  | .mgmtFrameRx _ => true
  | .domainTxEnable => true
  | .mgmtFrameHoldRelease => true
  | .mseqEntryAge _ => true
  | .proofLatch => true
  | .proofReportDeadline => true
  | .actionTake => true
  | .actionCompletionDeadline => true
  | .barrierTimeout => true
  | .railMonitorSample mv => fitAll 32 mv && decide (mv.length = 6)
  | .thermalSample temps => decide (temps.length = 8)
  | .thermClear => true
  | .thermalTrip => true
  | .lifeHoursUpdate _ => true
  | .corePllUnlock _ => true
  | .powerOnReset => true
  | .resetNAssert => true
  | .resetNRelease _ _ => true
  | .resetCtrlDeviceReset _ => true
  | .internalResetEnd _ => true
  | .sysCaps _ page => fit 32 page
  | .sysQuery _ => true
  | .sysReset _ kind => fit 32 kind
  | .fwUpdateBegin _ len => fit 32 len
  | .fwUpdateWrite _ offset words => fit 32 offset && fitAll 32 words
  | .fwUpdateEnd _ => true
  | .fwActivate _ _ => true
  | .fwConfirm _ => true
  | .configSave _ => true
  | .sysConfig _ idle confirm _ => fit 32 idle && fit 32 confirm
  | .recoveryWrite _ offset words => fit 32 offset && fitAll 32 words
  | .recoveryReboot _ => true
  | .powerQuery _ start => fit 32 start
  | .thermalSet _ warn crit => fit 32 warn && fit 32 crit
  | .gpioSet _ _ _ => true
  | .portQuery _ port => fit 32 port
  | .laneModeSet _ quad qmode lanes => fit 32 quad && fit 32 qmode && decide (lanes.length = 4)
  | .laneEnable _ mask _ => fit 64 mask
  | .portConfigSet _ port _ maxFrame hold upTime => fit 32 port && fit 32 maxFrame && fit 32 hold && fit 32 upTime
  | .portPreSet _ port _ _ time addFrag expressTc => fit 32 port && fit 32 time && fit 32 addFrag && fit 32 expressTc
  | .portEeeSet _ port _ idle _ => fit 32 port && fit 32 idle
  | .portParseSet _ port _ _ grp pcp pvid fwd => fit 32 port && fit 32 grp && fit 32 pcp && fit 32 pvid && fit 32 fwd
  | .portTsTrimSet _ port ing egr => fit 32 port && fit 32 ing && fit 32 egr
  | .pcpMapSet _ pipe map => fit 32 pipe && fit 32 map
  | .lldpSet _ port _ interval => fit 32 port && fit 32 interval
  | .timeQuery _ => true
  | .tbProfileSet _ base profile domain transports refSel lane => fit 32 base && fit 32 profile && fit 32 domain && fit 32 transports && fit 32 refSel && fit 32 lane
  | .ptpPortRoleSet _ port base role => fit 32 port && fit 32 base && fit 32 role
  | .tbControl _ base _ _ _ timeout limit => fit 32 base && fit 32 timeout && fit 32 limit
  | .ptSelect _ base _ _ slew _ => fit 32 base && fit 32 slew
  | .ptJam _ => true
  | .tioSet _ x => x.fits
  | .tioCapturePop _ pin => fit 32 pin
  | .ppsSet _ _ width trim _ _ => fit 32 width && fit 32 trim
  | .synceSet _ o lane div _ => fit 32 o && fit 32 lane && fit 32 div
  | .timeOfDaySet _ base secs => fit 32 base && fit 48 secs
  | .plateQuery _ => true
  | .plateOpen _ => true
  | .profileSet _ prof _ table types groups _ => fit 32 prof && fit 32 table && fit 32 types && fit 32 groups
  | .ruleAdd _ prof key action => fit 32 prof && fit 320 key && fit 128 action
  | .ruleDelete _ prof key => fit 32 prof && fit 320 key
  | .plateCommit _ target => fitAll 80 target.toList
  | .plateAbort _ => true
  | .fragConfig _ life => fit 32 life
  | .plateDisarm _ => true
  | .fdbQuery _ key start count filter => fitAll2 64 key.toList && fit 32 start && fit 32 count && fit 32 filter
  | .fdbStaticAdd _ mac fid dtype dest => fit 48 mac && fit 32 fid && fit 32 dtype && fit 32 dest
  | .fdbStaticDelete _ mac fid => fit 48 mac && fit 32 fid
  | .fdbFlush _ port fid _ => fitAll 32 port.toList && fitAll 32 fid.toList
  | .fdbConfig _ age hold evict miss => fit 32 age && fit 32 hold && fit 32 evict && fit 32 miss
  | .portLearnSet _ port _ _ as => fit 32 port && fit 32 as
  | .vlanSet _ vid mask x => fit 32 vid && fit 32 mask && x.fits
  | .groupSet _ group bitmap => fit 32 group && fit 261 bitmap
  | .routeAdd _ _ pfx len nh => fit 128 pfx && fit 32 len && fit 32 nh
  | .routeDelete _ _ pfx len => fit 128 pfx && fit 32 len
  | .nexthopSet _ index dtype dest edit => fit 32 index && fit 32 dtype && fit 32 dest && fitAll 32 edit.toList
  | .learnRingSet _ fn base size mask _ => fit 32 fn && fit 64 base && fit 32 size && fit 32 mask
  | .streamAdmit _ x => x.fits
  | .streamWithdraw _ index => fit 32 index
  | .streamQuery _ index start => fit 32 index && fit 32 start
  | .streamActions _ index acts _ => fit 32 index && fit 32 acts
  | .rpairSet _ pair mode a b inter _ peer => fit 32 pair && fit 32 mode && fit 32 a && fit 32 b && fitAll 32 inter.toList && fit 32 peer
  | .ddConfig _ forget => fit 32 forget
  | .streamLimits _ share => fit 32 share
  | .queueSet _ port queue x => fit 32 port && fit 32 queue && x.fits
  | .portSchedSet _ port sp overhead exempt => fit 32 port && fit 32 sp && fit 32 overhead && fit 32 exempt
  | .queueQuery _ port queue start => fit 32 port && fitAll 32 queue.toList && fit 32 start
  | .cueListLoad _ port entries cycle => fit 32 port && fitAll2 56 entries && fit 56 cycle
  | .cueListArm _ port base => fit 32 port && fit 80 base
  | .cueListDisarm _ port => fit 32 port
  | .gateConfig _ port _ _ _ hold => fit 32 port && fit 32 hold
  | .cueListQuery _ port start => fit 32 port && fit 32 start
  | .policerSet _ n x => fit 32 n && x.fits
  | .policerQuery _ n => fit 32 n
  | .wredProfileSet _ prof weight curves => fit 32 prof && fit 32 weight && decide (curves.length = 3)
  | .mirrorSet _ session dest tc _ => fit 32 session && fit 32 dest && fit 32 tc
  | .bpmCarve _ mib => fitAll 32 mib && decide (mib.length = 4)
  | .quotaProfileSet _ prof min alpha max headroom hyst warn => fit 32 prof && fit 32 min && fit 32 alpha && fit 32 max && fit 32 headroom && fit 32 hyst && fit 32 warn
  | .quotaBind _ lo hi prof _ => fit 32 lo && fit 32 hi && fit 32 prof
  | .portFlowSet _ port mode quanta => fit 32 port && fit 32 mode && fit 32 quanta
  | .bpmQuery _ range start => fitAll2 64 range.toList && fit 32 start
  | .editSet _ index words => fit 32 index && fitAll 32 words && decide (words.length = 8)
  | .stageQuery _ start => fit 32 start
  | .clusterStepSet _ cluster step _ => fit 32 cluster && fit 32 step
  | .programAssign _ prog mask => fit 32 prog && fit 32 mask
  | .pinRebalance _ prog => fit 32 prog
  | .samplerSet _ port n _ _ ring => fit 32 port && fit 32 n && fit 32 ring
  | .profileStart _ x => fitAll2 64 x.toList
  | .profileRead _ => true
  | .supvGenSet _ pair _ life last => fit 32 pair && fit 32 life && fit 32 last
  | .stageReport _ ch op tag words => fit 32 op && fit 32 tag && fitAll 32 words && decide (24 ≤ ch.val ∧ 0x6F0 ≤ op ∧ op ≤ 0x6FF)
  | .folioConfig _ links pinLimit hi lo _ rb => fit 32 links && fit 32 pinLimit && fit 32 hi && fit 32 lo && fit 32 rb
  | .folioStart _ _ => true
  | .folioStop _ => true
  | .folioQuery _ start => fit 32 start
  | .captureClassSet _ cls snap => fit 32 cls && fit 32 snap
  | .portCaptureSet _ port ing mask => fit 32 port && fit 32 ing && fit 32 mask
  | .pinBindingSet _ k code mask sev pre post => fit 32 k && fit 32 code && fit 32 mask && fit 32 sev && fit 64 pre && fit 64 post
  | .pinNow _ t pre post => fit 64 t && fit 64 pre && fit 64 post
  | .pinRelease _ id => fit 32 id
  | .folioRead _ x => x.fits
  | .folioErase _ => true
  | .bookQuery _ start => fit 32 start
  | .bookRead _ x => x.fits
  | .bookCurtain _ _ => true
  | .bookClear _ => true
  | .bookConfig _ _ minSev limit => fit 32 minSev && fit 32 limit
  | .bookSnapSet _ src entry addr _ _ _ => fit 32 src && fit 32 entry && fit 32 addr
  | .bookTriggerSet _ k x => fit 32 k && x.fits
  | .bookSubscribe _ minSev code mask _ => fit 32 minSev && fit 32 code && fit 32 mask
  | .statsQuery _ kind idx cls start => fit 32 kind && fit 32 idx && fit 32 cls && fit 32 start
  | .statsDumpSet _ sets period mask buf0 buf1 _ => fit 32 sets && fit 32 period && fit 32 mask && fit 64 buf0 && fit 64 buf1
  | .statsDumpNow _ => true
  | .perfConfig _ x => x.fits
  | .perfSnap _ => true
  | .perfClear _ slot mask => fit 32 slot && fit 32 mask
  | .perfAllowSet _ mask => fit 32 mask
  | .pairQuery _ => true
  | .pairConfig _ x => x.fits
  | .pairResync _ => true
  | .pairSwitchover _ => true
  | .pairRevertCancel _ => true
  | .peerMessage _ op tag words => fit 32 op && fit 32 tag && fitAll 32 words
  | .domainQuery _ => true
  | .domainJoin _ x => x.fits
  | .domainConfig _ x => x.fits
  | .domainLeave _ => true
  | .domainSend _ target msg => fit 32 target && fitAll 32 msg
  | .domainBroadcast _ msg => fitAll 32 msg
  | .proofStart _ t addr len => fit 80 t && fit 64 addr && fit 32 len
  | .curtainArm _ kind t ports => fit 32 kind && fit 80 t && fit 256 ports
  | .curtainCancel _ opId => fit 32 opId
  | .barrierStart _ cond arg timeout action => fit 32 cond && fit 32 arg && fit 32 timeout && fitAll2 64 action.toList
  | .barrierReady _ opId => fit 32 opId
  | .domainTreeQuery _ start => fit 32 start
  | .funcWindowSet _ x => x.fits
  | .funcGrant _ fn _ _ => fit 32 fn
  | .ringAssign _ _ ring fn => fit 32 ring && fit 32 fn
  | .rxMapSet _ grp tc ring _ => fit 32 grp && fit 32 tc && fit 32 ring
  | .mboxChannelSet _ c sender prio core vector => fit 32 c && fitAll 32 sender.toList && fit 32 prio && fit 32 core && fit 32 vector
  | .masterQuery _ m start => fitAll 32 m.toList && fit 32 start
  | .masterRelease _ m _ => fit 32 m
  | .sessionOpen _ role => fit 32 role
  | .sessionAuth _ answer => fitAll 32 answer && decide (answer.length = 8)
  | .sessionClose _ => true
  | .sessionQuery _ c start => fitAll 32 c.toList && fit 32 start
  | .credentialSet _ role words => fit 32 role && fitAll 32 words && decide (words.length = 8)
  | .keySlotLoad _ x => x.fits
  | .keySlotClear _ slot which => fit 32 slot && fit 32 which
  | .tpllRefReturn _ => true
  | .quadPllLock _ _ => true
  | .folioLinkDown _ => true
  | .pciePerstNRelease => true
  | .pcieLinkUp width speed => fit 6 width && fit 3 speed
  | .ulkLaneDown _ => true
  | .ulkLaneUp _ => true
  | .domainSendTimeout => true
  | .coreResetDone _ => true

end Sys2Proof
end

