-- ==== Sys2Proof/Safety.lean ====
section
/-! DEFINITION. The terms claims are stated in: a device that takes commands, a command that is carried out, an SFI
request that is admitted and answered, a register write that is let through, a queue that is carried out. -/

namespace Sys2Proof.Machine

/-- The device's clocks run: it is not held in reset and has not tripped (R468, R476). -/
def State.live (s : State) : Prop := s.toDev.stopped = false

/-- The state with another device, its queue as it is. -/
def State.withDev (s : State) (d : Dev) : State := { s with toDev := d }

/-- A command is carried out: it answers a next state, with the queue as it was and the device `d`. -/
def Does (c : Instr) (s : State) (d : Dev) : Prop := exec c s = .next (s.withDev d)

/-- The device as a command of place `p` finds it: in the present core cycle, or in the next where its place has passed (R18,
R19). -/
def State.due (s : State) (p : Nat) : Dev := s.toDev.turn (fun _ => p)

/-- The device as an SFI command finds it. -/
def State.sfiDue (s : State) (op : Nat) : Dev := s.due (sfiPlace op)

/-- The device an SFI command starts from: its request off the core's queue (R351, R357). -/
def State.start (s : State) (rq : Sfi) (op : Nat) : Dev := (s.sfiDue op).sfiStart rq op

/-- An SFI request is admitted under `role` (R341, R351): the device runs, the core that serves the channel runs its firmware,
steps 2 to 5 of R351 let the request through, it is the one its core executes next (R357), and it has a tag (R348). -/
structure Granted (s : State) (rq : Sfi) (op need : Nat) (key : Bool) (role : Nat) : Prop where
  live : s.live
  up : (s.sfiDue op).served rq.ch = true
  role : (s.sfiDue op).sfiRole rq op need key = .ok role
  turn : (s.sfiDue op).myTurn rq op = true
  tag : rq.tag.val ≠ 0

/-- A command runs as an SFI request: from the device off the core's queue, `e` gives the device it leaves and its answer,
which is counted, carried to a peer, listed when PENDING, and posted (R348, R350, R368, R428). -/
def Dev.answers (d : Dev) (rq : Sfi) (op role : Nat) (e : Dev → Dev × Ans) : Dev :=
  (e (d.sfiStart rq op)).1.sfiAnswer rq op role (d.sfiBack rq op) (e (d.sfiStart rq op)).2

/-- An SFI command is carried out with effect and answer `e`. -/
def Answers (c : Instr) (s : State) (rq : Sfi) (op role : Nat) (e : Dev → Dev × Ans) : Prop :=
  Does c s ((s.sfiDue op).answers rq op role e)

/-- The device as a register write of place `p` finds it. -/
def State.wrDue (s : State) (p m : Nat) (r : RegName) (i w : Nat) : Dev := s.toDev.turn (fun d => d.wrPlace m r i w p)

/-- A register write of place `p` is let through (R300, R324, R325, R371): the device runs, the master is not frozen, holds the
right, and has given the key where the register asks for one. -/
structure WritesAt (s : State) (p m : Nat) (r : RegName) (i w : Nat) : Prop where
  live : s.live
  may : (s.wrDue p m r i w).mayWrite m r i w = true

/-- The place of a write among those of its block (R20). -/
def blockPlace (m : Nat) (r : RegName) (i : Nat) : Nat := untied (addrBlock (regAddr r i)) (8 + masterOrder m)

/-- A register write that no table puts elsewhere is let through. -/
def Writes (s : State) (m : Nat) (r : RegName) (i w : Nat) : Prop := WritesAt s (blockPlace m r i) m r i w

/-- The device with a write of place `p` counted and past the gate. -/
def State.passedAt (s : State) (p m : Nat) (r : RegName) (i w : Nat) : Dev := (s.wrDue p m r i w).passed m r i

/-- The device with a write counted and past the gate. -/
def State.passed (s : State) (m : Nat) (r : RegName) (i w : Nat) : Dev := s.passedAt (blockPlace m r i) m r i w

/-- The tables are not another session's: no one else holds the shadow plate (R127). -/
def Owns (s : State) (rq : Sfi) (op : Nat) : Prop := (s.start rq op).otherOwns rq.ch = false

/-- The request's session may stage: the shadow is open, swept and not armed, and no other session's (R112, R127). -/
structure Stages (s : State) (rq : Sfi) (op : Nat) : Prop where
  owns : Owns s rq op
  can : (s.start rq op).canStage = none

/-- A plate command of a session is not refused (R113, R114): `target` is its commit's target. -/
def Passes (s : State) (rq : Sfi) (op : Nat) (c : PlateOp) (target : Nat) : Prop :=
  (s.start rq op).plateReason c ((target : Int) - (s.start rq op).pt)
    (decide ((s.start rq op).pt + 512000000000 * 65536 < target)) = 0

/-- Every waiting command is one the outside can send. -/
def State.QueueOk (s : State) : Prop := ∀ c ∈ s.pending, c.wellFormed = true

/-- The commands of the always-on domain (R476): a stopped device takes them. -/
def alwaysOn : Instr → Bool
  | .thermalTrip | .lifeHoursUpdate _ | .powerOnReset | .resetNAssert | .resetNRelease _ _ | .internalResetEnd _ => true
  | _ => false

/-- The commands that end a reset or begin one: only they can end a thermal trip (R468, R476). -/
def resets : Instr → Bool
  | .powerOnReset | .resetNAssert | .resetNRelease _ _ | .internalResetEnd _ => true
  | _ => false

/-- `n` steps; none where one of them answers no next state. -/
def run : Nat → State → Option State
  | 0, s => some s
  | n + 1, s =>
    match step s with
    | .next t => run n t
    | _ => none

/-- What the data plane, time, the stagehands and the domain agent hold beside their registers: plates, forwarding database,
streams, pools, queues, links, frames. -/
def Dev.fabric (d : Dev) :=
  (d.toPlateSt, d.toFdbSt, d.toStreamSt, d.toBpmSt, d.toTmSt, d.toLinkSt, d.toFrameSt, d.toTimeSt, d.toStageSt, d.toDomSt)

/-- Commands of the Promptbook, the counters, the monitors, the credentials, and the queries but
QUEUE_QUERY (which brings the shapers' tokens up to date): the fabric is none of theirs. -/
def observes : Instr → Bool
  | .curtainUp _ | .curtainDown _ | .bookCmdClear _ _ _ | .curtainLimitExpire | .bookStagingWrite | .bookEvent _
  | .statsLatch | .dumpWriteDone | .perfCmdSnap _ | .perfCmdDumpNow _ | .perfSnapDone | .pcClear _ _ _
  | .railMonitorSample _ | .thermalSample _ | .thermClear | .lifeHoursUpdate _ | .corePllUnlock _ | .sysQuery _
  | .powerQuery _ _ | .thermalSet _ _ _ | .portQuery _ _ | .timeQuery _ | .plateQuery _ | .fdbQuery _ _ _ _ _
  | .streamQuery _ _ _ | .cueListQuery _ _ _ | .policerQuery _ _ | .bpmQuery _ _ _ | .stageQuery _ _
  | .folioQuery _ _ | .bookQuery _ _ | .bookRead _ _ | .bookCurtain _ _ | .bookClear _
  | .bookConfig _ _ _ _ | .bookSnapSet _ _ _ _ _ _ _ | .bookTriggerSet _ _ _ | .bookSubscribe _ _ _ _ _
  | .statsQuery _ _ _ _ _ | .statsDumpSet _ _ _ _ _ _ _ | .statsDumpNow _ | .perfConfig _ _ | .perfSnap _
  | .perfClear _ _ _ | .perfAllowSet _ _ | .pairQuery _ | .domainQuery _ | .domainTreeQuery _ _ | .masterQuery _ _ _
  | .sessionQuery _ _ _ | .credentialSet _ _ _ | .keySlotLoad _ _ | .keySlotClear _ _ _ | .configSave _
  | .sysConfig _ _ _ _ => true
  | _ => false

/-- An SFI command's request, opcode, least role, and whether it needs the unlock key (R352, R353). -/
structure SfiCall where
  rq : Sfi
  op : Nat
  need : Nat
  key : Bool

/-- The SFI command an instruction is, by the opcode tables. SYS_RESET, FW_ACTIVATE and PIN_REBALANCE, which act once more
after their reply, and the recovery commands (R342) stand apart. -/
def sfiOf : Instr → Option SfiCall
  | .sysCaps rq _ => some ⟨rq, 0x002, 0, false⟩
  | .sysQuery rq => some ⟨rq, 0x003, 0, false⟩
  | .fwUpdateBegin rq _ => some ⟨rq, 0x005, 3, true⟩
  | .fwUpdateWrite rq _ _ => some ⟨rq, 0x006, 3, false⟩
  | .fwUpdateEnd rq => some ⟨rq, 0x007, 3, false⟩
  | .fwConfirm rq => some ⟨rq, 0x009, 3, false⟩
  | .configSave rq => some ⟨rq, 0x00A, 2, false⟩
  | .sysConfig rq _ _ _ => some ⟨rq, 0x00C, 3, false⟩
  | .powerQuery rq _ => some ⟨rq, 0x00D, 0, false⟩
  | .thermalSet rq _ _ => some ⟨rq, 0x00E, 2, false⟩
  | .gpioSet rq _ _ => some ⟨rq, 0x00F, 2, false⟩
  | .portQuery rq _ => some ⟨rq, 0x100, 0, false⟩
  | .laneModeSet rq _ _ _ => some ⟨rq, 0x101, 2, false⟩
  | .laneEnable rq _ _ => some ⟨rq, 0x102, 2, false⟩
  | .portConfigSet rq _ _ _ _ _ => some ⟨rq, 0x103, 2, false⟩
  | .portPreSet rq _ _ _ _ _ _ => some ⟨rq, 0x104, 2, false⟩
  | .portEeeSet rq _ _ _ _ => some ⟨rq, 0x105, 2, false⟩
  | .portParseSet rq _ _ _ _ _ _ _ => some ⟨rq, 0x106, 2, false⟩
  | .portTsTrimSet rq _ _ _ => some ⟨rq, 0x107, 2, false⟩
  | .pcpMapSet rq _ _ => some ⟨rq, 0x108, 2, false⟩
  | .lldpSet rq _ _ _ => some ⟨rq, 0x109, 2, false⟩
  | .timeQuery rq => some ⟨rq, 0x200, 0, false⟩
  | .tbProfileSet rq _ _ _ _ _ _ => some ⟨rq, 0x201, 2, false⟩
  | .ptpPortRoleSet rq _ _ _ => some ⟨rq, 0x202, 2, false⟩
  | .tbControl rq _ _ _ _ _ _ => some ⟨rq, 0x203, 2, false⟩
  | .ptSelect rq _ _ _ _ _ => some ⟨rq, 0x204, 2, false⟩
  | .ptJam rq => some ⟨rq, 0x205, 2, false⟩
  | .tioSet rq _ => some ⟨rq, 0x206, 2, false⟩
  | .tioCapturePop rq _ => some ⟨rq, 0x207, 1, false⟩
  | .ppsSet rq _ _ _ _ _ => some ⟨rq, 0x208, 2, false⟩
  | .synceSet rq _ _ _ _ => some ⟨rq, 0x209, 2, false⟩
  | .timeOfDaySet rq _ _ => some ⟨rq, 0x20A, 2, false⟩
  | .plateQuery rq => some ⟨rq, 0x300, 2, false⟩
  | .plateOpen rq => some ⟨rq, 0x301, 2, false⟩
  | .profileSet rq _ _ _ _ _ _ => some ⟨rq, 0x302, 2, false⟩
  | .ruleAdd rq _ _ _ => some ⟨rq, 0x303, 2, false⟩
  | .ruleDelete rq _ _ => some ⟨rq, 0x304, 2, false⟩
  | .plateCommit rq _ => some ⟨rq, 0x305, 2, false⟩
  | .plateAbort rq => some ⟨rq, 0x306, 2, false⟩
  | .fragConfig rq _ => some ⟨rq, 0x307, 2, false⟩
  | .plateDisarm rq => some ⟨rq, 0x308, 2, false⟩
  | .fdbQuery rq _ _ _ _ => some ⟨rq, 0x310, 0, false⟩
  | .fdbStaticAdd rq _ _ _ _ => some ⟨rq, 0x311, 2, false⟩
  | .fdbStaticDelete rq _ _ => some ⟨rq, 0x312, 2, false⟩
  | .fdbFlush rq _ _ _ => some ⟨rq, 0x313, 1, false⟩
  | .fdbConfig rq _ _ _ _ => some ⟨rq, 0x314, 2, false⟩
  | .portLearnSet rq _ _ _ _ => some ⟨rq, 0x315, 2, false⟩
  | .vlanSet rq _ _ _ => some ⟨rq, 0x316, 2, false⟩
  | .groupSet rq _ _ => some ⟨rq, 0x317, 2, false⟩
  | .routeAdd rq _ _ _ _ => some ⟨rq, 0x318, 2, false⟩
  | .routeDelete rq _ _ _ => some ⟨rq, 0x319, 2, false⟩
  | .nexthopSet rq _ _ _ _ => some ⟨rq, 0x31A, 2, false⟩
  | .learnRingSet rq _ _ _ _ _ => some ⟨rq, 0x31B, 1, false⟩
  | .streamAdmit rq _ => some ⟨rq, 0x400, 2, false⟩
  | .streamWithdraw rq _ => some ⟨rq, 0x401, 2, false⟩
  | .streamQuery rq _ _ => some ⟨rq, 0x402, 0, false⟩
  | .streamActions rq _ _ _ => some ⟨rq, 0x403, 1, false⟩
  | .rpairSet rq _ _ _ _ _ _ _ => some ⟨rq, 0x404, 2, false⟩
  | .ddConfig rq _ => some ⟨rq, 0x405, 2, false⟩
  | .streamLimits rq _ => some ⟨rq, 0x406, 2, false⟩
  | .queueSet rq _ _ _ => some ⟨rq, 0x500, 2, false⟩
  | .portSchedSet rq _ _ _ _ => some ⟨rq, 0x501, 2, false⟩
  | .queueQuery rq _ _ _ => some ⟨rq, 0x502, 0, false⟩
  | .cueListLoad rq _ _ _ => some ⟨rq, 0x510, 2, false⟩
  | .cueListArm rq _ _ => some ⟨rq, 0x511, 2, false⟩
  | .cueListDisarm rq _ => some ⟨rq, 0x512, 2, false⟩
  | .gateConfig rq _ _ _ _ _ => some ⟨rq, 0x513, 2, false⟩
  | .cueListQuery rq _ _ => some ⟨rq, 0x514, 0, false⟩
  | .policerSet rq _ _ => some ⟨rq, 0x520, 2, false⟩
  | .policerQuery rq _ => some ⟨rq, 0x521, 0, false⟩
  | .wredProfileSet rq _ _ _ => some ⟨rq, 0x530, 2, false⟩
  | .mirrorSet rq _ _ _ _ => some ⟨rq, 0x540, 2, false⟩
  | .bpmCarve rq _ => some ⟨rq, 0x5C0, 2, false⟩
  | .quotaProfileSet rq _ _ _ _ _ _ _ => some ⟨rq, 0x5C1, 2, false⟩
  | .quotaBind rq _ _ _ _ => some ⟨rq, 0x5C2, 2, false⟩
  | .portFlowSet rq _ _ _ => some ⟨rq, 0x5C3, 2, false⟩
  | .bpmQuery rq _ _ => some ⟨rq, 0x5C4, 0, false⟩
  | .editSet rq _ _ => some ⟨rq, 0x5C5, 2, false⟩
  | .stageQuery rq _ => some ⟨rq, 0x600, 0, false⟩
  | .clusterStepSet rq _ _ _ => some ⟨rq, 0x601, 2, false⟩
  | .programAssign rq _ _ => some ⟨rq, 0x602, 2, false⟩
  | .samplerSet rq _ _ _ _ _ => some ⟨rq, 0x604, 2, false⟩
  | .profileStart rq _ => some ⟨rq, 0x605, 2, false⟩
  | .profileRead rq => some ⟨rq, 0x606, 0, false⟩
  | .supvGenSet rq _ _ _ _ => some ⟨rq, 0x607, 2, false⟩
  | .folioConfig rq _ _ _ _ _ _ => some ⟨rq, 0x700, 2, false⟩
  | .folioStart rq _ => some ⟨rq, 0x701, 2, false⟩
  | .folioStop rq => some ⟨rq, 0x702, 2, false⟩
  | .folioQuery rq _ => some ⟨rq, 0x703, 0, false⟩
  | .captureClassSet rq _ _ => some ⟨rq, 0x704, 2, false⟩
  | .portCaptureSet rq _ _ _ => some ⟨rq, 0x705, 2, false⟩
  | .pinBindingSet rq _ _ _ _ _ _ => some ⟨rq, 0x706, 2, false⟩
  | .pinNow rq _ _ _ => some ⟨rq, 0x707, 1, false⟩
  | .pinRelease rq _ => some ⟨rq, 0x708, 1, false⟩
  | .folioRead rq _ => some ⟨rq, 0x709, 1, false⟩
  | .folioErase rq => some ⟨rq, 0x70A, 3, true⟩
  | .bookQuery rq _ => some ⟨rq, 0x800, 0, false⟩
  | .bookRead rq _ => some ⟨rq, 0x801, 0, false⟩
  | .bookCurtain rq _ => some ⟨rq, 0x802, 1, false⟩
  | .bookClear rq => some ⟨rq, 0x803, 3, true⟩
  | .bookConfig rq _ _ _ => some ⟨rq, 0x804, 2, false⟩
  | .bookSnapSet rq _ _ _ _ _ _ => some ⟨rq, 0x805, 2, false⟩
  | .bookTriggerSet rq _ _ => some ⟨rq, 0x806, 2, false⟩
  | .bookSubscribe rq _ _ _ _ => some ⟨rq, 0x807, 0, false⟩
  | .statsQuery rq _ _ _ _ => some ⟨rq, 0x900, 0, false⟩
  | .statsDumpSet rq _ _ _ _ _ _ => some ⟨rq, 0x901, 1, false⟩
  | .statsDumpNow rq => some ⟨rq, 0x902, 1, false⟩
  | .perfConfig rq _ => some ⟨rq, 0x903, 2, false⟩
  | .perfSnap rq => some ⟨rq, 0x904, 0, false⟩
  | .perfClear rq _ _ => some ⟨rq, 0x905, 2, false⟩
  | .perfAllowSet rq _ => some ⟨rq, 0x906, 3, false⟩
  | .pairQuery rq => some ⟨rq, 0xA00, 0, false⟩
  | .pairConfig rq _ => some ⟨rq, 0xA01, 2, false⟩
  | .pairResync rq => some ⟨rq, 0xA02, 1, false⟩
  | .pairSwitchover rq => some ⟨rq, 0xA03, 2, false⟩
  | .pairRevertCancel rq => some ⟨rq, 0xA04, 1, false⟩
  | .domainQuery rq => some ⟨rq, 0xB00, 0, false⟩
  | .domainJoin rq _ => some ⟨rq, 0xB01, 3, true⟩
  | .domainConfig rq _ => some ⟨rq, 0xB02, 2, false⟩
  | .domainLeave rq => some ⟨rq, 0xB03, 3, false⟩
  | .domainSend rq _ _ => some ⟨rq, 0xB04, 0, false⟩
  | .domainBroadcast rq _ => some ⟨rq, 0xB05, 2, false⟩
  | .proofStart rq _ _ _ => some ⟨rq, 0xB06, 1, false⟩
  | .curtainArm rq _ _ _ => some ⟨rq, 0xB07, 2, false⟩
  | .curtainCancel rq _ => some ⟨rq, 0xB08, 2, false⟩
  | .barrierStart rq _ _ _ _ => some ⟨rq, 0xB09, 2, false⟩
  | .barrierReady rq _ => some ⟨rq, 0xB0A, 1, false⟩
  | .domainTreeQuery rq _ => some ⟨rq, 0xB0B, 0, false⟩
  | .funcWindowSet rq _ => some ⟨rq, 0xC10, 3, false⟩
  | .funcGrant rq _ _ _ => some ⟨rq, 0xC11, 3, false⟩
  | .ringAssign rq _ _ _ => some ⟨rq, 0xC12, 3, false⟩
  | .rxMapSet rq _ _ _ _ => some ⟨rq, 0xC13, 2, false⟩
  | .mboxChannelSet rq _ _ _ _ _ => some ⟨rq, 0xC14, 3, false⟩
  | .masterQuery rq _ _ => some ⟨rq, 0xC15, 0, false⟩
  | .masterRelease rq _ _ => some ⟨rq, 0xC16, 0, false⟩
  | .sessionOpen rq _ => some ⟨rq, 0xC00, 0, false⟩
  | .sessionAuth rq _ => some ⟨rq, 0xC01, 0, false⟩
  | .sessionClose rq => some ⟨rq, 0xC02, 0, false⟩
  | .sessionQuery rq _ _ => some ⟨rq, 0xC03, 0, false⟩
  | .credentialSet rq _ _ => some ⟨rq, 0xC04, 3, true⟩
  | .keySlotLoad rq _ => some ⟨rq, 0xC20, 3, true⟩
  | .keySlotClear rq _ _ => some ⟨rq, 0xC21, 3, false⟩
  | _ => none

end Sys2Proof.Machine
end

