-- ==== Sys2Proof/Certificates/Slice0/Obligations.lean ====
section
/-! DEFINITION. The statements for the provers. A statement named after a group of commands says, for every state and
operands that meet hypotheses on them alone, that each command of the group is carried out, and gives the device it
leaves. Where several clauses stand for one command, their hypotheses exclude each other. -/

open Sys2Proof Sys2Proof.Machine

/-! ## Lanes and ports (R26 to R60) -/

/-- A port's PCS and its link state machine (R51, R52): the window that PCS_UP begins, the state that PCS_DOWN,
LINK_UP_TIME and LINK_HOLD lead to. An auto-negotiation word (R29, R51) on a lane with AN_EN whose mode takes its speed
from the word: a speed the mode carries is taken, and on QSGMII and 10G-QXGMII the sub-port's link bit brings its PCS up
or down; any other speed is refused. Preemption verification and EEE (R43, R48): the fourth timeout fails, a respond
mPacket succeeds, a verify mPacket is answered in every state but DISABLED, an idle port with LPI agreed signals it, TW_TX
ends the wake time. -/
def Obligations.LinkEvents : Prop :=
  ((∀ (s : State) (p : Fin 256), s.live →
      (let u := s.due (untied 2 0)
       (u.present p = true → u.lanesOn p = true → u.pcsUp.get p = false → Does (.pcsUp p) s (u.pcsSet p true)) ∧
       (let d := u.pcsSet p false
        u.portMode p ≠ 5 → u.portMode p ≠ 7 →
         (d.linkState p = 1 → d.get F.PORT_LINK_LINK_HOLD p ≠ 0 → Does (.pcsDown p) s (d.leaveUp p 2)) ∧
         (d.linkState p = 1 → d.get F.PORT_LINK_LINK_HOLD p = 0 → Does (.pcsDown p) s ((d.leaveUp p 0).enterDown p)) ∧
         (d.linkState p = 2 → d.holdOver.get p = true →
           Does (.pcsDown p) s (((d.enterDown p).raise F.PORT_EVENT_HOLD_EXPIRED p).portRec 0x0203 3 p)) ∧
         (d.linkState p = 0 → Does (.pcsDown p) s d)) ∧
       (u.portMode p = 5 ∨ u.portMode p = 7 → Does (.pcsDown p) s
         (((List.range 4).map (p.val / 4 * 4 + ·)).foldl (fun d k => if d.pcsUp.get k then d.pcsLost k else d) (u.pcsLost p))) ∧
       ((u.linkState p = 0 ∨ u.linkState p = 2) → u.window.get p = true →
         u.past (u.windowAt.get p) (u.get F.PORT_LINK_LINK_UP_TIME p * usCycles) = true → u.pcsUp.get p = true →
         u.on F.PORT_CFG_PORT_EN p = true → u.portSpeed p ≠ 0 → Does (.linkUpTimeExpire p) s (u.enterUp p)) ∧
       (u.linkState p = 2 → u.past (u.holdAt.get p) (u.get F.PORT_LINK_LINK_HOLD p * usCycles) = true →
         (u.window.get p = true → Does (.linkHoldExpire p) s { u with holdOver := u.holdOver.put p true }) ∧
         (u.window.get p = false →
           Does (.linkHoldExpire p) s (((u.enterDown p).raise F.PORT_EVENT_HOLD_EXPIRED p).portRec 0x0203 3 p))) ∧
       (u.linkState p ≠ 2 → Does (.linkHoldExpire p) s u))) ∧
   (∀ (s : State) (p : Fin 256) (speed : Fin 16), s.live →
      (let u := s.due (untied 2 0)
       u.present p = true → u.on F.LANE_CFG_AN_EN (p / 4) = true →
      (let d := u.set F.LANE_STATUS_AN_DONE (p / 4) 1
       (u.portMode p = 5 ∨ u.portMode p = 7 → speed.val ∈ modeSpeeds (u.portMode p) →
          Does (.anWordRx p speed true) s ((d.speedTaken p speed).pcsUpOp p) ∧
          Does (.anWordRx p speed false) s ((d.speedTaken p speed).pcsLost p)) ∧
       (∀ link, u.portMode p = 2 ∨ u.portMode p = 3 → speed.val ∈ modeSpeeds (u.portMode p) →
          Does (.anWordRx p speed link) s (d.speedTaken p speed)) ∧
       (∀ link, modeAn (u.portMode p) = true → speed.val ∉ modeSpeeds (u.portMode p) →
          Does (.anWordRx p speed link) s (d.speedRefused p speed)))))) ∧
  (∀ (s : State) (p : Fin 256), s.live →
     (let u := s.due (untied 2 0)
      (u.get F.PORT_STATUS_PRE_STATE p = 2 → u.past (u.verAt.get p) (u.verCfg.get p / 16 * msCycles) = true →
        (u.verSent.get p < 3 → Does (.verifyTimeout p) s (u.verifySend p (u.verSent.get p + 1))) ∧
        (3 ≤ u.verSent.get p → Does (.verifyTimeout p) s
          (((u.preSet p 4).raise F.PORT_EVENT_PRE_VERIFY_FAILED p).portRec 0x0204 4 p))) ∧
      (u.get F.PORT_STATUS_PRE_STATE p ≠ 0 → Does (.verifyMpacketRx p) s (u.emit (.mac p 1))) ∧
      (u.get F.PORT_STATUS_PRE_STATE p = 0 → Does (.verifyMpacketRx p) s u) ∧
      (u.get F.PORT_STATUS_PRE_STATE p = 2 →
        Does (.respondMpacketRx p) s ((u.preSet p 3).checkBounds p)) ∧
      (u.linkState p = 1 → modeLpi (u.portMode p) = true → u.on F.PORT_EEE_EEE_EN p = true →
        u.past (u.busyAt.get p) (u.get F.PORT_EEE_EEE_IDLE p * usCycles) = true →
        u.on F.PORT_STATUS_EEE_INHIBIT p = false → u.eeeRes.get p = true ∨ u.eeeOver.get p = true → u.portIdle p = true →
        u.on F.PORT_STATUS_TX_LPI p = false →
        Does (.eeeIdleExpire p false) s ((u.set F.PORT_STATUS_TX_LPI p 1).stat p 23)) ∧
      (u.past (u.wakeAt.get p) (u.get F.PORT_EEE_TW_TX p * usCycles) = true →
        Does (.twTxExpire p false) s { u with wake := u.wake.put p false }) ∧
      (u.linkState p = 1 → modeLpi (u.portMode p) = true →
        Does (.eeeIdleExpire p true) s (u.set F.PORT_STATUS_RX_LPI p 1) ∧
        Does (.twTxExpire p true) s (u.set F.PORT_STATUS_RX_LPI p 0))))

/-- Writes of a quad's mode, a lane and a port (R26, R28, R32, R37), once let through: a new QMODE the lanes' rates allow
takes the quad's ports to DOWN; a lane write that would need a third rate is discarded with MODE_CONFLICT; PORT_CFG is
stored, and clearing PORT_EN takes the port to DOWN. A quad's PLLs and FEC (R58, R60, R465): the lock bit follows, a lock
lost by a PLL that serves a lane is recorded, and an uncorrectable codeword is counted on its lane. -/
def Obligations.QuadCommands : Prop :=
  (∀ (s : State) (m : Fin 32) (q : Fin 16) (l : Fin 64) (p : Fin 256) (w : Word),
     (Writes s m .QUAD_MODE q w.toNat → w.toNat % 4 = 1 ∨ w.toNat % 4 = 2 →
       (let d := s.passed m .QUAD_MODE q w.toNat
        w.toNat % 4 ≠ d.get F.QUAD_MODE_QMODE q → Does (.quadModeWrite m q w) s (d.quadModeTake q (w.toNat % 4)))) ∧
     (Writes s m .LANE_CFG l w.toNat →
       (let d := s.passed m .LANE_CFG l w.toNat
        let lmode := pickField (d.reg .LANE_CFG l) w.toNat F.LANE_CFG_LMODE
        (d.thirdRate l lmode (w.toNat % 2 == 1) = true → Does (.laneCfgWrite m l w) s (d.modeConflict (l.val / 4) (.lane l))) ∧
        (d.thirdRate l lmode (w.toNat % 2 == 1) = false → Does (.laneCfgWrite m l w) s (d.laneTake l w.toNat lmode).1))) ∧
     (Writes s m .PORT_CFG p w.toNat →
       (let d := s.passed m .PORT_CFG p w.toNat
        let d' := d.store .PORT_CFG p w.toNat
        (d.on F.PORT_CFG_PORT_EN p = true → d'.on F.PORT_CFG_PORT_EN p = false →
         Does (.portCfgWrite m p w) s ((d'.forceDown p).checkAllBounds)) ∧
        (d.on F.PORT_CFG_PORT_EN p = d'.on F.PORT_CFG_PORT_EN p →
         Does (.portCfgWrite m p w) s d'.checkAllBounds) ∧
        (d.on F.PORT_CFG_PORT_EN p = false → d'.on F.PORT_CFG_PORT_EN p = true → d'.pcsUp.get p = false →
         Does (.portCfgWrite m p w) s d'.checkAllBounds)))) ∧
  (∀ (s : State) (q : Fin 16) (pll : Fin 2) (l : Fin 64), s.live →
     (let u := s.due (untied 2 0)
      Does (.quadPllLock q pll) s (u.set (pllLock pll) q 1) ∧
      (let d := u.set (pllLock pll) q 0
       (u.on (pllLock pll) q = false → Does (.quadPllUnlock q pll) s d) ∧
       (d.pllServes q pll = false → Does (.quadPllUnlock q pll) s d) ∧
       (u.on (pllLock pll) q = true → d.pllServes q pll = true → Does (.quadPllUnlock q pll) s
         ((d.raise (pllFlag pll) q).record { code := 0x020B, sev := 5, a0 := q, a1 := pll, obj := .quad q }))) ∧
      (∀ corr uncorr, u.get F.QUAD_MODE_QMODE (l / 4) = 0 → uncorr ≠ 0 → Does (.fecUncorrCodeword l corr uncorr) s
        ((((u.satCount .FEC_CORR l corr).satCount .FEC_UNCORR l uncorr).raiseFirst F.QUAD_EVENT_FEC_UNCORR (l / 4) (l % 4) msCycles).recordLim msCycles
          { code := 0x0208, sev := 3, a0 := l, obj := .lane l })) ∧
      (∀ corr, u.get F.QUAD_MODE_QMODE (l / 4) = 0 → Does (.fecUncorrCodeword l corr 0) s (u.satCount .FEC_CORR l corr))))

/-- The SFI commands of the ports group (R363): what each stores and that it answers OK, on operands in range. The SFI
commands of a quad and of a pipe (R363): LANE_MODE_SET that changes no lane but its LOOPBACK, inversion and AN_EN, and
that is refused for a third rate with DETAIL 1; LANE_ENABLE lane by lane; PCP_MAP_SET. -/
def Obligations.PortAndLaneCommands : Prop :=
  (∀ (s : State) (rq : Sfi) (role port : Nat), port < 256 →
     (Granted s rq 0x100 0 false role → Answers (.portQuery rq port) s rq 0x100 role (fun d =>
       (d, .okW [d.view .PORT_STATUS port, d.view .PORT_CFG port, d.view .PORT_LINK port, d.view .PORT_PRE port,
         d.view .PORT_EEE port, d.reg .LANE_STATUS (port / 4)]))) ∧
     (∀ en maxFrame hold up, Granted s rq 0x103 2 false role → F.PORT_CFG_MAX_FRAME.ok maxFrame = true →
       F.PORT_LINK_LINK_HOLD.ok hold = true → F.PORT_LINK_LINK_UP_TIME.ok up = true →
       (s.start rq 0x103).fMaxAbove port maxFrame = false →
       Answers (.portConfigSet rq port en maxFrame hold up) s rq 0x103 role (fun d =>
         ((d.cfg .PORT_LINK port (hold + 65536 * up)).portCfg port (maxFrame + 16384 * b2n en), .ok))) ∧
     (∀ en verify time addFrag tcs, Granted s rq 0x104 2 false role → F.PORT_PRE_VERIFY_TIME.ok time = true → addFrag < 4 →
       tcs < 256 → Answers (.portPreSet rq port en verify time addFrag tcs) s rq 0x104 role (fun d =>
         (d.portPre port (b2n en + 2 * b2n verify + 4 * time + 1024 * addFrag + 4096 * (tcs % 128) +
           2 ^ 20 * d.get F.PORT_PRE_PARTNER_ADD_FRAG port), .ok))) ∧
     (∀ en idle ovr, Granted s rq 0x105 2 false role → F.PORT_EEE_EEE_IDLE.ok idle = true →
       Answers (.portEeeSet rq port en idle ovr) s rq 0x105 role (fun d =>
         (let d := (d.cfgF F.PORT_EEE_EEE_EN port (b2n en)).cfgF F.PORT_EEE_EEE_IDLE port idle
          { d with eeeOver := d.eeeOver.put port (en && ovr) }, .ok))) ∧
     (∀ prp slow grp pcp pvid fwd, Granted s rq 0x106 2 false role → grp < 16 → pcp < 8 → fwd < 4 →
       F.PARSER_PORT_CFG_PVID.ok pvid = true →
       Answers (.portParseSet rq port prp slow grp pcp pvid fwd) s rq 0x106 role (fun d =>
         (d.cfg .PARSER_PORT_CFG port (b2n prp + 2 * b2n slow + 4 * grp + 64 * pcp + 512 * pvid + 2 ^ 22 * fwd), .ok))) ∧
     (∀ ing egr, Granted s rq 0x107 2 false role → ing < 2 ^ 32 → egr < 2 ^ 32 →
       Answers (.portTsTrimSet rq port ing egr) s rq 0x107 role (fun d =>
         ((d.cfg .TS_ING_TRIM port ing).cfg .TS_EGR_TRIM port egr, .ok)))) ∧
  (∀ (s : State) (rq : Sfi) (role : Nat),
     (∀ quad (a b c e : LaneArgs), Granted s rq 0x101 2 false role → quad < 16 →
       (∀ x ∈ [a, b, c, e], x.lmode < 9 ∧ x.fec < 3 ∧ x.loopback < 3) →
       2 < (quadRates (fun k => (s.start rq 0x101).on F.LANE_CFG_LANE_EN (4 * quad + k))
         (laneModes [a, b, c, e])).length →
       Answers (.laneModeSet rq quad 0 [a, b, c, e]) s rq 0x101 role (fun d => (d.modeConflict quad, .invalid 1))) ∧
     (∀ quad qmode (a b c e : LaneArgs), Granted s rq 0x101 2 false role → quad < 16 → qmode = 1 ∨ qmode = 2 →
       (∀ x ∈ [a, b, c, e], x.lmode < 9 ∧ x.fec = 0 ∧ x.loopback < 3) →
       Answers (.laneModeSet rq quad qmode [a, b, c, e]) s rq 0x101 role (fun d =>
         (d.laneModeTake quad qmode [a, b, c, e], .ok))) ∧
     (∀ mask en, Granted s rq 0x102 2 false role → mask < 2 ^ 64 →
       Answers (.laneEnable rq mask en) s rq 0x102 role (fun d =>
         ((List.range 64).foldl (fun d l =>
           if mask / 2 ^ l % 2 = 1 then (d.laneCfg l (d.reg .LANE_CFG l / 2 * 2 + b2n en)).1 else d) d, .ok))) ∧
     (∀ pipe map, Granted s rq 0x108 2 false role → pipe < 2 → map < 2 ^ 24 →
       Answers (.pcpMapSet rq pipe map) s rq 0x108 role (fun d => (d.cfg .PCP_TO_TC pipe map, .ok))))

/-! ## Time (R61 to R91) -/

/-- Ticks and timers of a base (R63, R65, R76): a running base advances and a tick that finds OFF at zero slews nothing;
SERVO_TIMEOUT takes LOCKED to HOLDOVER; HOLDOVER_LIMIT, unless 0, takes HOLDOVER to FREE. The time PLLs, the selection of
the active base, PT_JAM and SNAP (R62, R64, R65, R68, R76, R78, R79). The commands of TB_CMD and the RATE commit (R63,
R65, R66): START from FREE, LOCK from ACQUIRE and refused from any other state, RELOCK from HOLDOVER, EPOCH_END from any
state but FREE; a RATE of at most 500 ppm waits for the next tick, a larger one is discarded. -/
def Obligations.TimeEvents : Prop :=
  ((∀ (s : State) (n : Fin 2), s.live →
      (let u := s.due (untied 9 0)
       ((s.due atTime).ticking.get n = true → ((s.due atTime).tbMove n).off = 0 →
           Does (.tbTick n) s ((s.due atTime).tbMove n)) ∧
       ((s.due atTime).ticking.get n = false → Does (.tbTick n) s (s.due atTime)) ∧
       (let d := ({ u with holdoverAt := u.holdoverAt.put n u.cycle }.set F.TB_STATE_STATE n 3).raise F.TIME_EVENT_TB_HOLDOVER 0 n
        let d' := d.timeRec 0x0902 3 n 0 (d.tbLt n) (.base n)
        u.get F.TB_STATE_STATE n = 2 →
        u.past (u.servoAt.get n) (u.get F.TB_TIMERS_SERVO_TIMEOUT n * msCycles) = true →
        (d'.on F.TIME_CTRL_SEL_ON_HOLDOVER = false → Does (.servoTimeout n) s d') ∧
        (d'.on F.TIME_CTRL_SEL_ON_HOLDOVER = true → Does (.servoTimeout n) s (d'.autoSelect n))) ∧
       (u.get F.TB_STATE_STATE n ≠ 2 → Does (.servoTimeout n) s u) ∧
       (u.get F.TB_STATE_STATE n = 3 → u.on F.TB_TIMERS_HOLDOVER_LIMIT n = true →
         u.past (u.holdoverAt.get n) (u.get F.TB_TIMERS_HOLDOVER_LIMIT n * secCycles) = true →
         Does (.holdoverLimit n) s (u.enterFree n)) ∧
       (u.on F.TB_TIMERS_HOLDOVER_LIMIT n = false → Does (.holdoverLimit n) s u))) ∧
   (∀ (s : State) (m : Fin 32) (n : Fin 2), s.live →
      (let u := s.due (untied 9 0)
       Does (.tpllLock n) s ({ u with ticking := u.ticking.put n true }.setBit F.TIME_STATUS_TPLL_LOCK 0 n true) ∧
       (u.bit F.TIME_STATUS_TPLL_LOCK 0 n = true → Does (.tpllUnlock n) s
         (((u.setBit F.TIME_STATUS_TPLL_LOCK 0 n false).timeRec 0x090C 5 n 0 (u.tbLt n) (.base n)).enterFree n)) ∧
       (u.bit F.TIME_STATUS_TPLL_REF_LOSS 0 n = false → Does (.tpllRefLoss n) s
         ((u.setBit F.TIME_STATUS_TPLL_REF_LOSS 0 n true).timeRec 0x090C 5 n 1 (u.tbLt n) (.base n))) ∧
       Does (.tpllRefReturn n) s (u.setBit F.TIME_STATUS_TPLL_REF_LOSS 0 n false) ∧
       (let v := s.due atTime
        v.on F.TIME_STATUS_PT_VALID = true → v.off ≠ 0 → v.slewEnds = true → Does .ptAligned s v.aligned) ∧
       (Writes s m .TIME_CMD 0 1 → Does (.timeSnap m) s (s.passed m .TIME_CMD 0 1).timeSnap) ∧
       (WritesAt s atTime m .TIME_CMD 0 2 → (let d := s.passedAt atTime m .TIME_CMD 0 2
         (d.ptOutputs = true → Does (.timeCmdPtJam m) s (d.timeRec 0x090E 4 0 0 d.pt .none)) ∧
         (d.ptOutputs = false → Does (.timeCmdPtJam m) s (let j := { d with off := 0 }
           let step := ((-d.off) / 2 ^ 32).emod (2 ^ 64)
           (j.timeRec 0x090D 2 (step % 2 ^ 32).toNat (step / 2 ^ 32).toNat j.pt .none).ptStepped d.pt)))) ∧
       (∀ w : Word, WritesAt s atSelect m .TIME_CTRL 0 w.toNat →
         (let x := (s.passedAt atSelect m .TIME_CTRL 0 w.toNat).store .TIME_CTRL 0 w.toNat
          let d := if x.outputsOn then x else x.outputsOff
          (d.get F.TIME_CTRL_ACTIVE_TB = d.get F.TIME_STATUS_PT_TB → Does (.activeTbWrite m w) s d) ∧
          (d.get F.TIME_CTRL_ACTIVE_TB ≠ d.get F.TIME_STATUS_PT_TB →
            Does (.activeTbWrite m w) s (d.switchPt (d.get F.TIME_CTRL_ACTIVE_TB)))))))) ∧
  (∀ (s : State) (m : Fin 32) (n : Fin 2),
     (Writes s m .TB_CMD n 1 → (let d := s.passed m .TB_CMD n 1
       d.get F.TB_STATE_STATE n = 0 → Does (.tbStart m n) s (((d.set F.TB_STATE_STATE n 1).set F.TB_STATE_STEP_AVAIL n 1).set
         F.TB_STATE_EPOCH n ((d.get F.TB_STATE_EPOCH n + 1) % 256)))) ∧
     (∀ abs, WritesAt s atTime m .TB_CMD n (2 + 4 * b2n abs) → (let d := s.passedAt atTime m .TB_CMD n (2 + 4 * b2n abs)
       (d.get F.TB_STATE_STATE n = 1 → Does (.tbLock m n abs) s
         ((((((d.tbLocked n).lockRecs n (d.lockStep n abs)).tbStep n (d.lockStep n abs)).ptStepped d.pt).steppedOver
           (fun src => d.srcLt src)).checkValid)) ∧
       (d.get F.TB_STATE_STATE n ≠ 1 → Does (.tbLock m n abs) s ((d.raise F.TIME_EVENT_STEP_REFUSED).timeRec 0x0905 4 n 0
         (d.tbLt n) (.base n))))) ∧
     (Writes s m .TB_CMD n 8 → (let d := s.passed m .TB_CMD n 8
       d.get F.TB_STATE_STATE n = 3 → Does (.tbRelock m n) s ({ d with servoAt := d.servoAt.put n d.cycle }.set F.TB_STATE_STATE n 2).checkValid)) ∧
     (Writes s m .TB_CMD n 16 → (let d := s.passed m .TB_CMD n 16
       d.get F.TB_STATE_STATE n ≠ 0 → Does (.tbEpochEnd m n) s (d.enterFree n))) ∧
     (∀ w : Word, Writes s m .TB_RATE_1 n w.toNat → (let d := s.passed m .TB_RATE_1 n w.toNat
       let r := signed 48 (w.toNat % 65536 * 2 ^ 32 + d.reg .TB_RATE_0 n)
       ((-rateLimit ≤ r ∧ r ≤ rateLimit) → n = 0 →
         Does (.tbRate1Write m n w) s { d.store .TB_RATE_1 n w.toNat with pend0 := some r }) ∧
       ((-rateLimit ≤ r ∧ r ≤ rateLimit) → n = 1 →
         Does (.tbRate1Write m n w) s { d.store .TB_RATE_1 n w.toNat with pend1 := some r }) ∧
       (r < -rateLimit ∨ rateLimit < r → Does (.tbRate1Write m n w) s d))))

/-- The time pins (R80, R83, R86, R87): arming, disarming, firing, the end of a pulse, captured edges, their removal, the
PPS output. SyncE outputs and follow-up entries (R72, R88). -/
def Obligations.TimePins : Prop :=
  (∀ (s : State) (m : Fin 32) (n : Fin 8), s.live →
     (let u := s.due (untied 9 0)
      (∀ w : Word, Writes s m .TIO_START_1 n w.toNat → Does (.tioStart1Write m n w) s
        (let d := (s.passed m .TIO_START_1 n w.toNat).store .TIO_START_1 n w.toNat
         d.armTio n (w.toNat % 2 ^ 24 * 2 ^ 32 + (s.passed m .TIO_START_1 n w.toNat).reg .TIO_START_0 n))) ∧
      (∀ w : Word, Writes s m .TIO_CFG n w.toNat → Does (.tioModeWrite m n w) s
        (let d := (s.passed m .TIO_CFG n w.toNat).store .TIO_CFG n w.toNat
         { d with cmp := d.cmp.put n none, pulses := d.pulses.put n 0 }.tioDriver n)) ∧
      (∀ t, u.cmp.get n = some t → cmpDiff t (u.srcLt (u.get F.TIO_CFG_CMP_SRC n)) ≤ 0 →
        Does (.compareFire n) s (u.fire n)) ∧
      (∀ t, u.cmp.get n = some t → 0 < cmpDiff t (u.srcLt (u.get F.TIO_CFG_CMP_SRC n)) →
        Does (.compareFire n) s u) ∧
      (∀ t, u.pulseEnd.get n = some t → cmpDiff t (u.srcLt (u.get F.TIO_CFG_CMP_SRC n)) ≤ 0 →
        Does (.tioPulseEnd n.castSucc) s ({ u with pulseEnd := u.pulseEnd.put n none }.drivePin n false t)) ∧
      (∀ t, u.ppsEnd = some t → t ≤ u.pt → Does (.tioPulseEnd 8) s ({ u with ppsEnd := none }.emit (.pin 1 0 0))) ∧
      (∀ rising, u.get F.TIO_CFG_MODE n = 1 → edgeOk (u.get F.TIO_CFG_EDGE n) rising = true →
        (u.capQ.get n).length < 16 → Does (.tioInputEdge n rising) s
          { u with capQ := u.capQ.put n (u.capQ.get n ++
              [{ pt := u.pt, tb0 := u.tbLt 0, tb1 := u.tbLt 1, rising := rising }]) }) ∧
      (∀ rising, u.on F.PPS_CFG_PPS_IN_EN = true → rising ≠ u.on F.PPS_CFG_PPS_IN_EDGE →
        Does (.ppsInEdge rising) s (((u.ppsSource 0).ppsSource 1).capture 8 rising 4)) ∧
      (∀ k : Fin 9, Writes s m .TIO_CAP_POP k 1 → Does (.tioCapPop m k) s (let d := s.passed m .TIO_CAP_POP k 1
        { d with capQ := d.capQ.put k (d.capQ.get k).tail })) ∧
      (u.on F.PPS_CFG_PPS_OUT_EN = true → u.outputsOn = true → u.ppsDue = true →
        Does .ppsOutSecond s ({ u with ppsSec := u.ppsNow / 65536000000000,
                                       ppsEnd := some (u.pt + u.get F.PPS_CFG_PPS_WIDTH * 65536000) }.emit (.pin 1 0 1))) ∧
      (u.outputsOn = false → Does .ppsOutSecond s u))) ∧
  (∀ (s : State) (n : Fin 2) (i : Nat), s.live →
     (let u := s.due (untied 9 0)
      (u.synceOn n = true → u.squelched.get n = false → u.synceLock n = false → Does (.synceSquelch n) s
        (let d := ({ u with squelched := u.squelched.put n true }.emit (.pin 2 n 0)).raise F.TIME_EVENT_SYNCE_SQUELCH
         d.timeRec 0x090B 3 n 0 d.pt .none)) ∧
      (u.squelched.get n = true → u.synceLock n = true → u.past (u.cdrAt.get (u.synceLane n)) (10 * msCycles) = true →
        Does (.synceResume n) s
        ({ u with squelched := u.squelched.put n false }.emit (.pin 2 n (u.synceDiv n)))) ∧
      (∀ e, u.fu[i]? = some e → u.past e.made (100 * msCycles) = true →
        Does (.fuEntryExpire i) s { u with fu := u.fu.eraseIdx i })))

/-- The SFI commands of the time group that set the bases (R74, R364). The SFI commands of the time group that set the
pins (R364): TIO_SET with a mode that arms and a target within 512 s, the captured edge that TIO_CAPTURE_POP answers and
removes, and its DETAIL 1 on an empty queue. -/
def Obligations.TimeSfi : Prop :=
  (∀ (s : State) (rq : Sfi) (role base : Nat),
     (Granted s rq 0x200 0 false role → Answers (.timeQuery rq) s rq 0x200 role (fun d =>
       (d, .okW [d.view .TIME_STATUS, d.reg .TB_STATE 0, d.reg .TB_STATE 1, d.view .PT_OFF,
         ltWord d.pt 0, ltWord d.pt 1, ltWord d.pt 2]))) ∧
     (∀ profile domain transports refSel lane, Granted s rq 0x201 2 false role → base < 2 → profile < 3 → domain < 256 →
       refSel < 4 → lane < 64 → transports < (if profile = 0 then 4 else 2) →
       (∀ p < 256, roleOk profile ((s.start rq 0x201).ptpRole p base) = true) →
       Answers (.tbProfileSet rq base profile domain transports refSel lane) s rq 0x201 role (fun d =>
         ({ d with profile := d.profile.put base profile }.cfg .TB_CFG base
           (refSel + 4 * lane + 256 * domain + 65536 + 131072 * transports), .ok))) ∧
     (∀ port ptp, Granted s rq 0x202 2 false role → port < 256 → ptp < 4 →
       roleOk ((s.start rq 0x202).profile.get base) ptp = true →
       (base = 0 → Answers (.ptpPortRoleSet rq port base ptp) s rq 0x202 role (fun d =>
         (d.cfgF F.PTP_PORT_CFG_ROLE_0 port ptp, .ok))) ∧
       (base = 1 → Answers (.ptpPortRoleSet rq port base ptp) s rq 0x202 role (fun d =>
         (d.cfgF F.PTP_PORT_CFG_ROLE_1 port ptp, .ok)))) ∧
     (∀ start epochEnd servo timeout limit, Granted s rq 0x203 2 false role → base < 2 → ¬ (start = true ∧ epochEnd = true) →
       F.TB_TIMERS_SERVO_TIMEOUT.ok timeout = true → F.TB_TIMERS_HOLDOVER_LIMIT.ok limit = true →
       Answers (.tbControl rq base start epochEnd servo timeout limit) s rq 0x203 role (fun d =>
         (let d := { d with servoOn := d.servoOn.put base servo }.cfg .TB_TIMERS base (timeout + 65536 * limit)
          if start then d.tbStart base else if epochEnd then d.tbEpochEnd base else d, .ok))) ∧
     (∀ auto hold slew free, Granted s rq 0x204 2 false role → base < 2 → F.TIME_CTRL_PT_SLEW.ok slew = true →
       Answers (.ptSelect rq base auto hold slew free) s rq 0x204 role (fun d =>
         (d.timeCtrl (base + 2 * b2n auto + 4 * b2n hold + 8 * b2n free + 16 * slew), .ok))) ∧
     (Granted s rq 0x205 2 false role → (s.start rq 0x205).ptOutputs = false →
       Answers (.ptJam rq) s rq 0x205 role (fun d => (d.ptJam, .ok))) ∧
     (∀ secs, Granted s rq 0x20A 2 false role → base < 2 → secs < 2 ^ 48 →
       (s.start rq 0x20A).on F.PPS_CFG_PPS_IN_EN = true →
       Answers (.timeOfDaySet rq base secs) s rq 0x20A role (fun d => ({ d with tod := d.tod.put base (some secs) }, .ok)))) ∧
  (∀ (s : State) (rq : Sfi) (role : Nat),
     (∀ x : TioArgs, Granted s rq 0x206 2 false role → tioArgsOk x = true →
       (x.mode < 2 → Answers (.tioSet rq x) s rq 0x206 role (fun d => (d.tioConfig x, .ok))) ∧
       (2 ≤ x.mode → x.target ≤ ((s.start rq 0x206).tioConfig x).srcLt x.src + 512000000000 * 65536 →
         Answers (.tioSet rq x) s rq 0x206 role (fun d => ((d.tioConfig x).tioTarget x.pin x.target, .ok))) ∧
       (2 ≤ x.mode → ((s.start rq 0x206).tioConfig x).srcLt x.src + 512000000000 * 65536 < x.target →
         Answers (.tioSet rq x) s rq 0x206 role (fun d => (let d := d.tioConfig x
           { d with heldT := d.heldT ++ [{ kind := 0, obj := x.pin, src := x.src, target := x.target, ch := rq.ch.val,
                                           tag := rq.tag.val }] }, .pending)))) ∧
     (∀ pin c, Granted s rq 0x207 1 false role → pin < 9 → ((s.start rq 0x207).capQ.get pin).head? = some c →
       Answers (.tioCapturePop rq pin) s rq 0x207 role (fun d =>
         (d.capPop pin, .okW ((List.range 9).map (capWord c) ++ [(d.capQ.get pin).length])))) ∧
     (∀ pin, Granted s rq 0x207 1 false role → pin < 9 → (s.start rq 0x207).capQ.get pin = [] →
       Answers (.tioCapturePop rq pin) s rq 0x207 role (fun d => (d, { detail := 1 }))) ∧
     (∀ out width trim inEn edge, Granted s rq 0x208 2 false role → F.PPS_CFG_PPS_WIDTH.ok width = true → trim < 2 ^ 32 →
       Answers (.ppsSet rq out width trim inEn edge) s rq 0x208 role (fun d =>
         ((d.cfg .PPS_CFG 0 (b2n out + 2 * width + 2 ^ 20 * b2n inEn + 2 ^ 21 * b2n edge)).cfg .PPS_OUT_TRIM 0 trim, .ok))) ∧
     (∀ lane div en, Granted s rq 0x209 2 false role → lane < 64 → 1 ≤ div → div ≤ 256 →
       Answers (.synceSet rq 0 lane div en) s rq 0x209 role (fun d =>
         ((((d.cfgF F.SYNCE_CFG_SYNCE_0_LANE 0 lane).cfgF F.SYNCE_CFG_SYNCE_0_DIV 0 (div - 1)).cfgF F.SYNCE_CFG_SYNCE_0_EN 0 (b2n en)).synceDrive 0, .ok)) ∧
       Answers (.synceSet rq 1 lane div en) s rq 0x209 role (fun d =>
         ((((d.cfgF F.SYNCE_CFG_SYNCE_1_LANE 0 lane).cfgF F.SYNCE_CFG_SYNCE_1_DIV 0 (div - 1)).cfgF F.SYNCE_CFG_SYNCE_1_EN 0 (b2n en)).synceDrive 1, .ok))))

/-! ## Plates and tables (R92 to R165) -/

/-- PLATE_CMD and PLATE_AT_1 (R111, R113, R115, R119): a command that no cause refuses has its effect. What a plate lives
through (R111, R115, R117, R118, R119, R123): the ends of its sweeps, a timed commit's target, its retirement,
RETIRE_LIMIT, the end of a fragment entry. -/
def Obligations.PlateEvents : Prop :=
  (∀ (s : State) (m : Fin 32),
     (Writes s m .PLATE_CMD 0 1 → (let d := s.passed m .PLATE_CMD 0 1
       d.plateReason .open_ (cmpDiff d.plateAt d.pt) (d.on F.PLATE_AT_1_HOLD) = 0 →
           Does (.plateCmdOpen m) s (d.plateOpen 33))) ∧
     (Writes s m .PLATE_CMD 0 2 → (let d := s.passed m .PLATE_CMD 0 2
       d.plateReason .commit (cmpDiff d.plateAt d.pt) (d.on F.PLATE_AT_1_HOLD) = 0 →
           Does (.plateCmdCommit m) s d.plateCommit)) ∧
     (Writes s m .PLATE_CMD 0 4 → (let d := s.passed m .PLATE_CMD 0 4
       d.plateReason .commitAt (cmpDiff d.plateAt d.pt) (d.on F.PLATE_AT_1_HOLD) = 0 →
         Does (.plateCmdCommitAt m) s (d.plateArm d.plateAt))) ∧
     (Writes s m .PLATE_CMD 0 8 → (let d := s.passed m .PLATE_CMD 0 8
       d.on F.PLATE_STATUS_COMMIT_ARMED = true → Does (.plateCmdDisarm m) s (d.plateDisarm 32))) ∧
     (Writes s m .PLATE_CMD 0 16 → (let d := s.passed m .PLATE_CMD 0 16
       d.sweep = 0 → d.on F.PLATE_STATUS_SHADOW_OPEN = true → Does (.plateCmdAbort m) s d.plateAbort)) ∧
     (∀ w : Word, Writes s m .PLATE_AT_1 0 w.toNat → (let d := s.passed m .PLATE_AT_1 0 w.toNat
       (d.on F.PLATE_STATUS_COMMIT_ARMED = false → Does (.plateAt1Write m w) s (d.store .PLATE_AT_1 0 w.toNat)) ∧
       (d.on F.PLATE_STATUS_COMMIT_ARMED = true → d.on F.PLATE_AT_1_HOLD = false → Does (.plateAt1Write m w) s
         (d.store .PLATE_AT_1 0 (withBits (d.reg .PLATE_AT_1) 24 24 (b2n (decide (bitsOf w.toNat 24 24 = 1)))))) ∧
       (d.on F.PLATE_STATUS_COMMIT_ARMED = true → d.on F.PLATE_AT_1_HOLD = true → bitsOf w.toNat 24 24 = 0 →
         Does (.plateAt1Write m w) s (d.store .PLATE_AT_1 0 (withBits (d.reg .PLATE_AT_1) 24 24 0)).plateUnhold)))) ∧
  (∀ (s : State) (i : Fin 4096), s.live →
     (let u := s.due (untied 5 0)
      (u.sweep = 1 → u.abortHeld = false → u.autoPlate = 0 →
        (let d := ((({ u.openSweep with sweep := 0 }.set F.PLATE_STATUS_SWEEP_BUSY 0 0).raise F.PLATE_EVENT_OPENED).record
          { code := 0x0501, sev := 1 }).finishOp 0x301 .ok
         d.abortHeld = false → d.autoPlate = 0 → Does .openSweepDone s d)) ∧
      (u.on F.PLATE_STATUS_COMMIT_ARMED = true → u.on F.PLATE_AT_1_HOLD = false →
        cmpDiff u.commitAt u.pt ≤ 0 → Does .timedCommitFire s (u.plateCommit.finishOp 0x305 .ok)) ∧
      (u.on F.PLATE_STATUS_RETIRING = true → u.inflight.get (u.get F.PLATE_STATUS_RETIRING_PLATE) = 0 →
        u.fragNames (u.get F.PLATE_STATUS_RETIRING_PLATE) = false → Does .plateRetire s
          ((({ u with sweep := 2 }.set F.PLATE_STATUS_RETIRING 0 0).set F.PLATE_STATUS_SWEEP_BUSY 0 1)).admitsRetire) ∧
      (u.inflight.get (u.get F.PLATE_STATUS_RETIRING_PLATE) ≠ 0 → Does .plateRetire s u) ∧
      (u.sweep = 2 → Does .retireSweepDone s
        ((({ u.clearSweep (u.get F.PLATE_STATUS_RETIRING_PLATE) with sweep := 0 }.set F.PLATE_STATUS_SWEEP_BUSY 0 0).raise
          F.PLATE_EVENT_RETIRED).record { code := 0x0503, sev := 1 })) ∧
      (u.sweep = 3 → Does .abortSweepDone s
        ((((({ u.clearSweep u.shadowPlate with sweep := 0, owner := 0, autoPlate := 0 }.set F.PLATE_STATUS_SWEEP_BUSY 0 0).set
          F.PLATE_STATUS_SHADOW_OPEN 0 0).raise F.PLATE_EVENT_ABORTED).record { code := 0x0504, sev := 2 }).admitsAbort (.invalid 33))) ∧
      (u.on F.PLATE_STATUS_RETIRING = true → u.overLimit = true → Does .retireLimitExpire s
        (let r := u.flushRetiring (u.get F.PLATE_STATUS_RETIRING_PLATE)
         (r.1.raise F.PLATE_EVENT_RETIRE_LIMIT).record { code := 0x0506, sev := 5, a0 := r.2 })) ∧
      ((u.frags.get i).ver ≠ 0 → u.fragLive i = false → Does (.fragEntryExpire i) s
        ({ u with frags := u.frags.put i default }.count 0x24 6))))

/-- The SFI commands of R127 that open, commit, arm, disarm and abort a plate; PLATE_QUERY; FRAG_CONFIG. -/
def Obligations.PlateSfi : Prop :=
  ∀ (s : State) (rq : Sfi) (role : Nat),
    (Granted s rq 0x300 2 false role → Owns s rq 0x300 → Answers (.plateQuery rq) s rq 0x300 role (fun d => (d,
        .okW d.plateQuery))) ∧
    (Granted s rq 0x301 2 false role → Passes s rq 0x301 .open_ 0 →
      Answers (.plateOpen rq) s rq 0x301 role (fun d => (d.plateOpen (rq.ch + 1), .wait))) ∧
    (Granted s rq 0x305 2 false role → Owns s rq 0x305 →
      (Passes s rq 0x305 .commit 0 → Answers (.plateCommit rq none) s rq 0x305 role (fun d => (d.plateCommit, .ok))) ∧
      (∀ t, t < 2 ^ 80 → Passes s rq 0x305 .commitAt t →
        Answers (.plateCommit rq (some t)) s rq 0x305 role (fun d => d.plateCommitAt rq t))) ∧
    (Granted s rq 0x306 2 false role → Owns s rq 0x306 → Passes s rq 0x306 .abort 0 →
      Answers (.plateAbort rq) s rq 0x306 role (fun d => (d.plateAbort, .ok))) ∧
    (∀ life, Granted s rq 0x307 2 false role → Owns s rq 0x307 → F.FRAG_CFG_FRAG_LIFE.ok life = true →
      Answers (.fragConfig rq life) s rq 0x307 role (fun d => (d.cfg .FRAG_CFG 0 life, .ok))) ∧
    (Granted s rq 0x308 2 false role → Owns s rq 0x308 → Passes s rq 0x308 .disarm 0 →
      Answers (.plateDisarm rq) s rq 0x308 role (fun d => (d.plateDisarm 32, .ok)))

/-- The SFI commands that stage rules and profiles (R127): PROFILE_SET stores a profile that no cause of R113 refuses,
RULE_ADD a rule for which there is a place, RULE_DELETE clears the rule's shadow bit. The SFI commands that stage
forwarding (R162): static FDB entries, groups, next hops, prefixes. -/
def Obligations.TableStaging : Prop :=
  (∀ (s : State) (rq : Sfi) (role prof : Nat),
     (∀ en table types groups slots, Granted s rq 0x302 2 false role → Stages s rq 0x302 → prof < 32 → table < 8 →
       types < 65536 → groups < 65536 → slots.length = 10 → (∀ x ∈ slots, x.1 < 256 ∧ x.2.1 < 128 ∧ x.2.2 < 256) →
       (en = true → keyBits slots ≤ 320 ∧ slots.all slotOk = true ∧ (s.start rq 0x302).tableUse table prof < 4) →
       Answers (.profileSet rq prof en table types groups slots) s rq 0x302 role (fun d =>
         (((List.range 10).foldl (fun d k => let x := slots.getD k (0, 0, 0)
           d.cfg .PROF_SLOT (10 * prof + k) (x.1 + 256 * x.2.1 + 32768 * x.2.2))
           ((d.cfg .PROF_CFG prof (b2n en + 2 * table + 16 * types)).cfg .PROF_GRP prof groups)).mirrorProf prof, .ok))) ∧
     (∀ key action, Granted s rq 0x303 2 false role → Stages s rq 0x303 → prof < 32 → key < 2 ^ 320 → actionOk action = true →
       (let d := s.start rq 0x303
        let tbl := d.get F.PROF_CFG_TABLE prof
        d.ruleFind tbl prof key d.shadowPlate = none → ∀ d' i,
        d.ruleInsert tbl { prof := prof, key := key, mask := 2 ^ d.shadowPlate, action := action } = (d', some i) →
        Answers (.ruleAdd rq prof key action) s rq 0x303 role (fun _ => (d'.mirrorTbl (1 + i / 8192) (i % 8192), .ok)))) ∧
     (∀ key, Granted s rq 0x304 2 false role → Stages s rq 0x304 → prof < 32 →
       (let d := s.start rq 0x304
        ∀ i, d.ruleFind (d.get F.PROF_CFG_TABLE prof) prof key d.shadowPlate = some i →
        Answers (.ruleDelete rq prof key) s rq 0x304 role (fun d =>
         ({ d with rules := d.rules.put i (if maskSet (d.rules.get i).mask d.shadowPlate false = 0 then default
             else { d.rules.get i with mask := maskSet (d.rules.get i).mask d.shadowPlate false }) }.mirrorTbl
               (1 + i / 8192) (i % 8192), .ok))))) ∧
  (∀ (s : State) (rq : Sfi) (role : Nat),
     (∀ mac fid dtype dest, Granted s rq 0x311 2 false role → Stages s rq 0x311 → staticOk mac fid dtype dest = true →
       (let d := s.start rq 0x311
        d.shadowStatic mac fid = none → ∀ d' i,
        d.fdbInsert { (default : Fdb) with valid := true, isStatic := true, mac := mac, fid := fid, dtype := dtype, dest := dest,
                                           mask := 2 ^ d.shadowPlate } 0 = (d', some i) →
        Answers (.fdbStaticAdd rq mac fid dtype dest) s rq 0x311 role (fun _ => (d'.mirrorTbl 0 i, .ok)))) ∧
     (∀ mac fid i, Granted s rq 0x312 2 false role → Stages s rq 0x312 → (s.start rq 0x312).shadowStatic mac fid = some i →
       Answers (.fdbStaticDelete rq mac fid) s rq 0x312 role (fun d => (d.clearStatic i, .ok))) ∧
     (∀ group bitmap, Granted s rq 0x317 2 false role → Stages s rq 0x317 → group < 16384 → groupOk bitmap = true →
       Answers (.groupSet rq group bitmap) s rq 0x317 role (fun d => (d.stageGroup group bitmap, .ok))) ∧
     (∀ v6 pfx len nh, Granted s rq 0x318 2 false role → Stages s rq 0x318 → len ≤ addrBits v6 → pfx < 2 ^ addrBits v6 →
         nh < 8192 →
       (let d := s.start rq 0x318
        let r : Route := { pfx := cleanPfx v6 pfx len, len := len, mask := 2 ^ d.shadowPlate, nh := nh }
        d.routeFind v6 (cleanPfx v6 pfx len) len d.shadowPlate = none → ∀ i,
        (List.range (routeMax v6)).find? (fun i => (d.routes.get (routeBase v6 + i)).mask == 0) = some i →
        trieFits v6 (r :: (d.famRoutes v6).map Prod.snd) = true →
        Answers (.routeAdd rq v6 pfx len nh) s rq 0x318 role (fun d =>
         ({ d with routes := d.routes.put (routeBase v6 + i) r }.mirrorTbl (if v6 then 11 else 10) i, .ok)))) ∧
     (∀ v6 pfx len k, Granted s rq 0x319 2 false role → Stages s rq 0x319 → len ≤ addrBits v6 →
       (let d := s.start rq 0x319
        d.routeFind v6 (cleanPfx v6 pfx len) len d.shadowPlate = some k →
        Answers (.routeDelete rq v6 pfx len) s rq 0x319 role (fun d =>
         ({ d with routes := d.routes.put k (if maskSet (d.routes.get k).mask d.shadowPlate false = 0 then default
             else { d.routes.get k with mask := maskSet (d.routes.get k).mask d.shadowPlate false }) }.mirrorTbl
               (if v6 then 11 else 10) (k - routeBase v6), .ok)))) ∧
     (∀ index dtype dest edit, Granted s rq 0x31A 2 false role → Stages s rq 0x31A → index < 8192 → dtype < 4 → dest < 16384 →
       edit.getD 0 < 16384 → (dtype = 0 → dest ≤ 260) →
       Answers (.nexthopSet rq index dtype dest edit) s rq 0x31A role (fun d => (d.stageHop index (hopWord dtype dest edit),
           .ok))))

/-- The SFI commands of the FDB, the VLAN table and the learn ring (R162). -/
def Obligations.TableSfi : Prop :=
  ∀ (s : State) (rq : Sfi) (role : Nat),
    (∀ start count filter, Granted s rq 0x310 0 false role → Owns s rq 0x310 → start + count ≤ 262144 → filter < 3 →
      Answers (.fdbQuery rq none start count filter) s rq 0x310 role (fun d =>
        (d, d.listing rq 0x310 4 ((d.fdb.filter (fun x => decide (start ≤ x.1 ∧ x.1 < start + count) && x.2.valid &&
        (filter == 0 || x.2.isStatic == (filter == 2)))).map (fun x => (x.1, fdbWords x.2 (d.bad 1 x.1))))))) ∧
    (∀ port fid report, Granted s rq 0x313 1 false role → Owns s rq 0x313 → port.getD 0 ≤ 260 → fid.getD 0 < 4096 →
      (s.start rq 0x313).flushBusy = false →
      Answers (.fdbFlush rq port fid report) s rq 0x313 role (fun d =>
        ((d.flushStart (port.getD 0 + 512 * fid.getD 0 + 2 ^ 21 * b2n port.isSome + 2 ^ 22 * b2n fid.isSome +
            2 ^ 23 * b2n report)
          true).1, .pending))) ∧
    (∀ age hold evict miss, Granted s rq 0x314 2 false role → Owns s rq 0x314 → F.FDB_CFG_AGE_TIME.ok age = true →
      F.FDB_CFG_MOVE_HOLD.ok hold = true → evict < 2 → miss < 2 →
      Answers (.fdbConfig rq age hold evict miss) s rq 0x314 role (fun d =>
        ((((d.cfgF F.FDB_CFG_AGE_TIME 0 age).cfgF F.FDB_CFG_MOVE_HOLD 0 hold).cfgF F.FDB_CFG_EVICT_POLICY 0 evict).cfgF
          F.FDB_CFG_ROUTE_MISS_ACT 0 miss, .ok))) ∧
    (∀ port learn flush as, Granted s rq 0x315 2 false role → Owns s rq 0x315 → port < 256 →
        F.FDB_PORT_CFG_LEARN_AS.ok as = true →
      Answers (.portLearnSet rq port learn flush as) s rq 0x315 role (fun d =>
        (d.cfg .FDB_PORT_CFG port (b2n learn + 2 * b2n flush + 4 * as), .ok))) ∧
    (∀ vid (x : VlanArgs), Granted s rq 0x316 2 false role → Owns s rq 0x316 → vid < 4096 → x.fid < 4096 → x.group < 16384 →
      x.unkUc < 3 → x.unkMc < 3 →
      Answers (.vlanSet rq vid 255 x) s rq 0x316 role (fun d =>
        ({ d with vlans := d.vlans.put vid { valid := x.valid, fid := x.fid, group := x.group, memberAll := x.memberAll,
                                             filter := x.filter, learn := x.learn, unkUc := x.unkUc,
                                                 unkMc := x.unkMc } }, .ok))) ∧
    (∀ fn base size mask en, Granted s rq 0x31B 1 false role → Owns s rq 0x31B → fn < 8 → base < 2 ^ 64 → base % 16 = 0 →
      mask < 65536 → F.LR_CFG_LR_SIZE.ok size = true → (s.start rq 0x31B).dmaOk fn base (16 * 2 ^ size) true = true →
      Answers (.learnRingSet rq fn base size mask en) s rq 0x31B role (fun d =>
        ((((d.cfg .LR_BASE_LO 0 (base % 2 ^ 32)).cfg .LR_BASE_HI 0 (base / 2 ^ 32)).cfg .LR_CFG 0
          (b2n en + 2 * size + 32 * fn + 256 * mask)).lrSettle, .ok)))

/-- Indirect table access (R160, R161): a command's result waits behind BUSY until the access is done. The learn engine,
the ager, the flushes and the learn ring (R144, R147, R149, R153). -/
def Obligations.FdbEngines : Prop :=
  (∀ (s : State) (m : Fin 32) (c : Fin 2),
     (let d (w : Nat) : Dev := s.passed m .TBL_CMD c w
      let id (w : Nat) : Nat := (d w).get F.TBL_SEL_TBL_ID c
      let i (w : Nat) : Nat := (d w).get F.TBL_SEL_INDEX c
      let ws (w : Nat) : List Nat := (d w).dataWords .TBL_DATA (16 * c) 16
      let ready (w : Nat) : Prop := Writes s m .TBL_CMD c w ∧ (d w).on F.TBL_STATUS_BUSY c = false ∧
          (d w).tblMeets c w = false ∧
        tblSize (id w) ≠ 0 ∧ i w < tblSize (id w)
      (ready 1 → Does (.tblRead m c) s ((d 1).tblShow c ((d 1).tblRead c (id 1) (i 1)))) ∧
      (ready 2 → Does (.tblWrite m c) s ((d 2).tblShow c ((d 2).tblWrite (id 2) (i 2) (ws 2)))) ∧
      (ready 4 → Does (.tblLookup m c) s ((d 4).tblShow c ((d 4).tblLookup (id 4) (ws 4)))) ∧
      (ready 8 → Does (.tblInsert m c) s ((d 8).tblShow c ((d 8).tblInsert (id 8) (ws 8)))) ∧
      (ready 16 → Does (.tblDelete m c) s ((d 16).tblShow c ((d 16).tblDelete (id 16) (ws 16))))) ∧
     (∀ blk : Fin 3, s.live →
       (let u := s.due (untied (if blk.val = 0 then 5 else if blk.val = 1 then 6 else 8) 3)
        u.tblRes.get (2 * blk + c) ≠ 0 → Does (.indirectAccessDone blk c) s
          ({ u with tblRes := u.tblRes.put (2 * blk + c) 0 }.setReg (indStatus blk) c (u.tblRes.get (2 * blk + c) - 1))))) ∧
  (∀ (s : State) (m : Fin 32), s.live →
     (let u := s.due (untied 5 0)
      (∀ r q, u.learnQ.get u.learnPipe = r :: q →
        Does .learnRequestProcess s ({ u with learnQ := u.learnQ.put u.learnPipe q }.learn r)) ∧
      (u.flushBusy = false → u.downSet ≠ [] →
          Does .downFlushSweepStart s { u with downRun := u.downSet, downSet := [] }.sweepBegin)) ∧
     (∀ (i : Fin 262144) us, (let d := (s.due (untied 5 1)).upset us
       let e := d.fdb.get i
       d.bad 1 i = false → e.valid = true → e.isStatic = false → d.freshNow.fresh.any (fun x => x.1 == i.val) = false →
       d.on F.PLATE_STATUS_RETIRING = true →
       ((d.get F.FDB_CFG_AGE_TIME ≠ 0 → e.age = 4 → Does (.agerVisit i us) s ((d.fdbCnt 2).fdbRemove i 3 0 e.lstamp true)) ∧
        (e.age ≠ 4 → Does (.agerVisit i us) s (d.fdbEngine i { e with age := min (e.age + 1) 7 }))))) ∧
     (Writes s m .FDB_CMD 0 1 → (let d := s.passed m .FDB_CMD 0 1
       d.flushBusy = false → Does (.flushStart m) s { d with flushRun := some (d.reg .FDB_FLUSH_SPEC % 2 ^ 24) }.sweepBegin)) ∧
     (let d := (s.due (untied 5 2)).sweepVisit 262144
      (d.downRun ≠ [] → Does .flushSweepDone s { d with downRun := [] }.nextSweep) ∧
      (d.downRun = [] → ∀ v, d.flushRun = some v → v < 2 ^ 24 → Does .flushSweepDone s
        { (d.raise F.FDB_EVENT_FLUSH_DONE).fdbRec 0 0x050F 1 d.flushCnt 0 0 0 with flushRun := none }.nextSweep)) ∧
     (∀ w : Word, Writes s m .LR_CONS 0 w.toNat → Does (.lrConsWrite m w) s
       ((s.passed m .LR_CONS 0 w.toNat).store .LR_CONS 0 w.toNat).lrSettle))

/-! ## Streams (R166 to R198) -/

/-- Indirect access to streams, and what time does to them (R174, R175, R179, R192): the deadline of a silent stream, the
count at a second boundary, a source unused for DD_FORGET. Admission and withdrawal (R166 to R169, R185): a request that
no condition refuses takes the lowest free entry, its express places and its group, and its rule waits for a plate of its
own. -/
def Obligations.StreamEvents : Prop :=
  (∀ (s : State) (m : Fin 32) (c : Fin 2) (st : Fin 16384) (i : Fin 65536),
     (Writes s m .SAC_CMD c 1 → (let d := s.passed m .SAC_CMD c 1
       d.on F.SAC_STATUS_BUSY c = false → Does (.sacRead m c) s (let r := d.sacAccess c false
         { r.1 with tblRes := r.1.tblRes.put (2 + c) (1 + 2 * r.2) }.set F.SAC_STATUS_BUSY c 1))) ∧
     (Writes s m .SAC_CMD c 2 → (let d := s.passed m .SAC_CMD c 2
       d.on F.SAC_STATUS_BUSY c = false → Does (.sacWrite m c) s (let r := d.sacAccess c true
         { r.1 with tblRes := r.1.tblRes.put (2 + c) (1 + 2 * r.2) }.set F.SAC_STATUS_BUSY c 1))) ∧
     (s.live → (let u := s.due (untied 6 0)
       ((u.dd.get i).used = true → u.ddUsed i = false →
         Does (.ddSourceForget i) s ({ u with dd := u.dd.put i default }.mirrorSac 4 i)) ∧
       (u.ddUsed i = true → Does (.ddSourceForget i) s u))) ∧
     (s.live → (let u := s.due (untied 6 0)
       let e := u.streams.get st
       (e.valid = true → e.type ≠ 0 → u.ingressOpen = true → u.on F.STREAM_CTRL_SUPV_EN = true → e.deadline ≠ 0 →
         e.silent = false → e.deadline ≤ u.ptNs → Does (.silenceDeadline st) s
           ((((u.streamPut st { e with silent := true }).sstat st 5).raise F.STREAM_EVENT_SILENCE).anomaly st 4).1) ∧
       (u.ptNs < e.deadline → Does (.silenceDeadline st) s u) ∧
       (e.valid = true → e.type = 2 ∨ e.type = 4 → u.ingressOpen = true → u.on F.STREAM_CTRL_SUPV_EN = true →
         (e.seen + e.rateTol < e.smpRate ∨ e.smpRate + e.rateTol < e.seen →
           Does (.smpRateCheck st) s ((u.streamPut st { e with seen := 0 }).anomaly st 5).1) ∧
         (e.smpRate ≤ e.seen + e.rateTol → e.seen ≤ e.smpRate + e.rateTol →
           Does (.smpRateCheck st) s (u.streamPut st { e with seen := 0 })))))) ∧
  (∀ (s : State) (rq : Sfi) (role : Nat),
     (∀ x : AdmitArgs, Granted s rq 0x400 2 false role →
       (let d := s.start rq 0x400
        let burin := x.express != 0 && d.burinOk x
        let ings := if burin then exprIngs x.ing else []
        d.admitBusy rq.ch = none → x.hmac = false → d.admitArgsOk x = true →
        (x.express = 2 → burin = true) → (x.tc = 7 → x.egress.all (fun p => d.admitFits p (max 1 ings.length) x) = true) →
        ∀ st places group, (List.range 16384).find? (fun i => !(d.streams.get i).valid) = some st →
        d.exprPlaces ings = some places → (if x.egress.length ≤ 1 then some none else d.freeGroup.map some) = some group →
        (x.cb = true → (d.ddAlloc true st default).2.isSome = true) → (d.admitWrite st x group places).owner ≠ rq.ch + 1 →
        Answers (.streamAdmit rq x) s rq 0x400 role (fun d =>
         (let w := d.admitWrite st x group places
          Dev.plateOpen { w with autoPlate := 1 + rq.tag.val,
                                 admits := w.admits ++ [{ id := rq.tag.val, stream := st, isAdmit := true, owner := rq.ch + 1,
                                                          ch := rq.ch.val, tag := rq.tag.val }] } 33, .pending [st])))) ∧
     (∀ st, Granted s rq 0x401 2 false role →
       (let d := s.start rq 0x401
        d.admitBusy rq.ch = none → st < 16384 → (d.streams.get st).valid = true → (d.streams.get st).leaving = false →
        d.admits.any (fun a => a.stream == st) = false → d.owner ≠ rq.ch + 1 →
        Answers (.streamWithdraw rq st) s rq 0x401 role (fun d =>
         (let ex : Tbl Expr := d.express.map (fun e => (e.1, if e.2.stream = st then { e.2 with leaving := true } else e.2))
          let w := { d with express := ex }.mirrorExpr ((ex.filter (fun (e : Nat × Expr) => e.2.stream == st)).map Prod.fst : List Nat)
          Dev.plateOpen { w with autoPlate := 1 + rq.tag.val,
                                 admits := w.admits ++ [{ id := rq.tag.val, stream := st, isAdmit := false, owner := rq.ch + 1,
                                                          ch := rq.ch.val, tag := rq.tag.val }] } 33, .pending [st])))))

/-- The other SFI commands of the stream group (R178, R180, R191). -/
def Obligations.StreamSfi : Prop :=
  ∀ (s : State) (rq : Sfi) (role : Nat),
    (∀ st n, Granted s rq 0x402 0 false role → st < 16384 → ((s.start rq 0x402).streams.get st).valid = true →
      Answers (.streamQuery rq st n) s rq 0x402 role (fun d =>
        (d, d.listing rq 0x402 1 (((d.streamQuery st).zipIdx.map (fun w => (w.2, [w.1]))).drop n)))) ∧
    (∀ st acts rec, Granted s rq 0x403 1 false role → st < 16384 → acts < 2 ^ 14 →
      ((s.start rq 0x403).streams.get st).valid = true → (∀ k < 7, acts / 4 ^ k % 4 < 3) →
      Answers (.streamActions rq st acts rec) s rq 0x403 role (fun d =>
        ({ d with streams := d.streams.put st { d.streams.get st with acts := acts, stateRec := rec } }.mirrorSac 0 st, .ok))) ∧
    (∀ k mode a b (inter : Option Nat) quad peer, Granted s rq 0x404 2 false role →
      (let r : RPair := { mode := mode, a := a, b := b, inter := inter.getD 511, quad := quad, peer := peer }
       ((s.start rq 0x404).rpairOk k r = true →
        Answers (.rpairSet rq k mode a b inter quad peer) s rq 0x404 role (fun d => ((d.rpairPut k r).mirrorSac 5 k, .ok))) ∧
       ((s.start rq 0x404).rpairOk k r = false →
        Answers (.rpairSet rq k mode a b inter quad peer) s rq 0x404 role (fun d => (d, .invalid))))) ∧
    (∀ forget, Granted s rq 0x405 2 false role → F.STREAM_CTRL_DD_FORGET.ok forget = true →
      Answers (.ddConfig rq forget) s rq 0x405 role (fun d => (d.cfgF F.STREAM_CTRL_DD_FORGET 0 forget, .ok))) ∧
    (∀ share, Granted s rq 0x406 2 false role → F.STREAM_CTRL_TC7_SHARE.ok share = true →
      (∀ p < 256, ((s.start rq 0x406).tripStreams p).isEmpty = true ∨
        (s.start rq 0x406).tripFits p (kbps ((s.start rq 0x406).lowSpeed p)) share = true) →
      Answers (.streamLimits rq share) s rq 0x406 role (fun d => ((d.cfgF F.STREAM_CTRL_TC7_SHARE 0 share).checkAllBounds,
          .ok)))

/-! ## Packet memory (R199 to R228) -/

/-- The carve, pause repeats and the reclaim sweep (R199, R210, R220). The SFI commands of packet memory (R209, R224). -/
def Obligations.BufferPools : Prop :=
  (∀ (s : State) (m : Fin 32) (p : Fin 256) (us : List Upset),
     (Writes s m .CARVE_CMD 0 1 → (let d := s.passed m .CARVE_CMD 0 1
       (carveOk d.carveSizes = true → d.noBuffers = true → Does (.carveApply m) s (d.carveStart d.carveSizes)) ∧
       (d.noBuffers = false → Does (.carveApply m) s d.carveRefused))) ∧
     (s.live → (let u := s.due (untied 7 0)
       (u.on F.BPM_STATUS_CARVE_BUSY = true → Does .carveDone s
         ((({ u with mib := (List.range 4).foldl (fun t k => t.put k (u.carveTo.getD k 0)) [], carveTo := [], owners := [],
                     badWords := [] }.set F.BPM_STATUS_CARVE_BUSY 0 0).raise F.BPM_EVENT_CARVE_DONE).bpmRec 0x070F 1 0
           |>.finishOp 0x5C0 .ok)) ∧
       (let v := u.memUpset us
        (v.on F.BPM_STATUS_RECLAIM_BUSY = true →
         Does (.reclaimSweep us) s ((v.reclaimVisit v.allBufs).set F.BPM_STATUS_RECLAIM_BUSY 0 0)) ∧
        (v.on F.BPM_STATUS_RECLAIM_BUSY = false → v.reclaimDue = true → Does (.reclaimSweep us) s
         ({ v with reclaimAsk := false, reclaimAt := v.cycle, reclaimPos := 0 }.set F.BPM_STATUS_RECLAIM_BUSY 0 1)) ∧
        (v.on F.BPM_STATUS_RECLAIM_BUSY = false → v.reclaimDue = false → Does (.reclaimSweep us) s v)))) ∧
     (s.live → (let u := s.due (untied 2 0)
       let due : Prop := u.get F.PORT_FC_PAUSE_QUANTA p * 256 * 1500000 ≤ (u.cycle - u.pauseAt.get p) * kbps (u.portSpeed p)
       (u.portXoff p = true → due → Does (.pauseRepeat p) s (u.pauseSend p)) ∧
       (u.portXoff p = false ∨ ¬ due → Does (.pauseRepeat p) s u)))) ∧
  (∀ (s : State) (rq : Sfi) (role : Nat),
     (∀ mib, Granted s rq 0x5C0 2 false role → carveOk mib = true → (∀ x ∈ mib, x ≤ 60) →
       (s.start rq 0x5C0).noBuffers = true →
       Answers (.bpmCarve rq mib) s rq 0x5C0 role (fun d =>
         ((d.cfg .CARVE 0 (mib.getD 0 0 + 2 ^ 8 * mib.getD 1 0 + 2 ^ 16 * mib.getD 2 0 + 2 ^ 24 * mib.getD 3 0)).carveStart mib,
           .wait))) ∧
     (∀ prof min alpha max headroom hyst warn, Granted s rq 0x5C1 2 false role → prof < 16 → F.QP_MIN_MIN.ok min = true →
       F.QP_MIN_ALPHA.ok alpha = true → F.QP_MAX_MAX.ok max = true → F.QP_FC_HEADROOM.ok headroom = true →
       F.QP_FC_XON_HYST.ok hyst = true → F.QP_WARN_WARN_PCT.ok warn = true →
       Answers (.quotaProfileSet rq prof min alpha max headroom hyst warn) s rq 0x5C1 role (fun d =>
         ((((d.cfg .QP_MIN prof (min + 2 ^ 18 * alpha)).cfg .QP_MAX prof max).cfg .QP_FC prof (headroom + 65536 * hyst)).cfg
           .QP_WARN prof warn, .ok))) ∧
     (∀ lo hi prof lossless, Granted s rq 0x5C2 2 false role → lo ≤ hi → hi < 2052 → prof < 16 →
       (let d := s.start rq 0x5C2
        (d.bindRange lo hi prof lossless).sumMin ≤ 262144 - 8192 - d.retiredCells →
        Answers (.quotaBind rq lo hi prof lossless) s rq 0x5C2 role (fun d => (d.bindRange lo hi prof lossless, .ok)))) ∧
     (∀ port mode quanta, Granted s rq 0x5C3 2 false role → port < 256 → F.PORT_FC_FC_MODE.ok mode = true →
       F.PORT_FC_PAUSE_QUANTA.ok quanta = true →
       Answers (.portFlowSet rq port mode quanta) s rq 0x5C3 role (fun d => (d.cfg .PORT_FC port (mode + 65536 * quanta),
           .ok))) ∧
     (∀ start, Granted s rq 0x5C4 0 false role →
       Answers (.bpmQuery rq none start) s rq 0x5C4 role (fun d => (d, d.listing rq 0x5C4 2 d.poolRows)) ∧
       (∀ lo hi, lo ≤ hi → hi < 2052 → Answers (.bpmQuery rq (some (lo, hi)) start) s rq 0x5C4 role (fun d =>
         (d, d.listing rq 0x5C4 2 ((d.poolRows ++ d.acctRows lo hi).filter (fun e => decide (start ≤ e.1))))))) ∧
     (∀ index words, Granted s rq 0x5C5 2 false role → Stages s rq 0x5C5 → index < 16384 → words.length = 8 →
         editOk words = true →
       (∀ w ∈ words, w < 2 ^ 32) →
       Answers (.editSet rq index words) s rq 0x5C5 role (fun d => (d.stageEdit index words, .ok))))

/-! ## Queues, gates and cue lists (R229 to R261) -/

/-- Indirect access to the TM, gates, hold, takeovers and received pause (R240, R242, R246, R247, R258). -/
def Obligations.CueEvents : Prop :=
  ∀ (s : State) (m : Fin 32) (p : Fin 256),
    (∀ c : Fin 2,
      (Writes s m .TM_CMD c 1 → (let d := s.passed m .TM_CMD c 1
        d.on F.TM_ACC_STATUS_BUSY c = false → Does (.tmRead m c) s (let r := d.tmAccess c false
          { r.1 with tblRes := r.1.tblRes.put (4 + c) (1 + 2 * r.2) }.set F.TM_ACC_STATUS_BUSY c 1))) ∧
      (WritesAt s atRelease m .TM_CMD c 2 → (let d := s.passedAt atRelease m .TM_CMD c 2
        d.on F.TM_ACC_STATUS_BUSY c = false → Does (.tmWrite m c) s (let r := d.tmAccess c true
          { r.1 with tblRes := r.1.tblRes.put (4 + c) (1 + 2 * r.2) }.set F.TM_ACC_STATUS_BUSY c 1)))) ∧
    (s.live → (let u := s.due atGate
      (∀ us x t, u.cueNow p = some (x, t) →
        (u.entryAt.get p ≠ t → Does (.gateEntryChange p us) s ((u.upset us).enterCue p)) ∧
        (u.entryAt.get p = t → Does (.gateEntryChange p us) s u)) ∧
      (∀ us, u.cueNow p = none → Does (.gateEntryChange p us) s u))) ∧
    (s.live → (let u := s.due atHold
      ∀ e, u.on F.TM_PORT_GATE_GATE_EN p = true → u.nextCue p u.pt (fun s => s.op == 1) = some e →
        (e ≤ u.pt + u.get F.TM_PORT_GATE_HOLD_ADVANCE p * 65536 → Does (.holdAssert p) s (u.hold_ p true)) ∧
        (u.pt + u.get F.TM_PORT_GATE_HOLD_ADVANCE p * 65536 < e → Does (.holdAssert p) s u))) ∧
    (Writes s m .CL_CMD p 1 → (let d := s.passed m .CL_CMD p 1
      d.on F.TM_PORT_STATUS_ARMED p = false →
        Does (.clCmdArm m p) s (d.cueArm p ((d.pt : Int) + cmpDiff (d.adminBase p) d.pt)))) ∧
    (Writes s m .CL_CMD p 2 → Does (.clCmdDisarm m p) s ((s.passed m .CL_CMD p 2).cueDisarm p .invalid)) ∧
    (s.live → (let u := s.due atTakeover
      let tc := u.clTc.get p - 1
      u.on F.TM_PORT_STATUS_ARMED p = true →
        (tc ≤ u.pt → Does (.cueTakeover p) s
          (let d := ((u.listsMove p tc).raise F.TM_EVENT_TAKEOVER_DONE).tmRec 0x0804 2 (tc / 65536 % 2 ^ 32)
             (tc / 65536 / 2 ^ 32) p
           ((d.enterCue p).checkBounds p).armsEnd p .ok)) ∧
        (u.pt < tc → Does (.cueTakeover p) s u))) ∧
    (∀ c : Fin 8, s.live → (let u := s.due (untied 2 0)
      let x := u.paused.get (8 * p + c)
      let due : Prop := x.1 * 512 * 1500000 ≤ (u.cycle - x.2) * kbps (u.portSpeed p)
      (due → Does (.pauseExpire p c) s
        (let d := u.syncPort p
         { d with paused := d.paused.put (8 * p + c) (0, 0) }.setBit F.TM_PORT_STATUS_PAUSED p c false)) ∧
      (¬ due → Does (.pauseExpire p c) s u)))

/-- The SFI commands of queues, schedulers, WRED, policers and mirrors (R257). -/
def Obligations.QueueSfi : Prop :=
  ∀ (s : State) (rq : Sfi) (role : Nat),
    (∀ port q (x : QueueArgs), Granted s rq 0x500 2 false role → hasQueues port = true → q < 8 → queueArgsOk x = true →
      (port = 257 → x.tbsEn = true) →
      Answers (.queueSet rq port q x) s rq 0x500 role (fun d => (d.queueTake (8 * port + q) x, .ok))) ∧
    (∀ port sp overhead exempt, Granted s rq 0x501 2 false role → hasQueues port = true → F.TM_PORT_CFG_SP_LEVEL.ok sp = true →
      F.TM_PORT_CFG_OVERHEAD.ok overhead = true → exempt < 256 →
      Answers (.portSchedSet rq port sp overhead exempt) s rq 0x501 role (fun d =>
        (d.cfg .TM_PORT_CFG port (sp + 16 * overhead + 2 ^ 16 * (exempt % 128) + 2 ^ 23), .ok))) ∧
    (∀ port q start, Granted s rq 0x502 0 false role → hasQueues port = true → q < 8 →
      Answers (.queueQuery rq port (some q) start) s rq 0x502 role (fun d =>
        (d.syncPort port, (d.syncPort port).listing rq 0x502 2
          (((d.syncPort port).queueRows (8 * port + q) 0).filter (fun e => decide (start ≤ e.1))))) ∧
      Answers (.queueQuery rq port none start) s rq 0x502 role (fun d =>
        (d.syncPort port, (d.syncPort port).listing rq 0x502 2
          (((List.range 8).flatMap (fun q => (d.syncPort port).queueRows (8 * port + q) (13 * q))).filter
            (fun e => decide (start ≤ e.1)))))) ∧
    (∀ n (x : PolicerArgs), Granted s rq 0x520 2 false role → n < 4096 → x.type < 2 → x.pir < 2 ^ 32 →
      polOk (b2n x.en + 2 * x.type + 4 * b2n x.aware + 8 * b2n x.redAct) x.cir x.pir x.cbs x.ebs = true →
      Answers (.policerSet rq n x) s rq 0x520 role (fun d =>
        (({ d with policers := d.policers.put (16384 + n) (polOf (b2n x.en + 2 * x.type + 4 * b2n x.aware + 8 * b2n x.redAct)
            x.cir x.pir x.cbs x.ebs d.cycle) }.mend 7 (16384 + n)).policerNote n rq.ch, .ok))) ∧
    (∀ i, Granted s rq 0x521 0 false role → i < 20480 →
      Answers (.policerQuery rq i) s rq 0x521 role (fun d => (d, .okW (polWords (d.policers.get i))))) ∧
    (∀ prof weight (g y r : Nat × Nat × Nat), Granted s rq 0x530 2 false role → prof < 16 → F.WRED_CFG_WEIGHT.ok weight = true →
      (∀ c ∈ [g, y, r], F.WRED_MIN_MIN_TH.ok c.1 = true ∧ F.WRED_MAX_MAX_TH.ok c.2.1 = true ∧
        F.WRED_MAX_MAX_P.ok c.2.2 = true ∧ wredOk c.1 c.2.1 = true) →
      Answers (.wredProfileSet rq prof weight [g, y, r]) s rq 0x530 role (fun d =>
        ((((((((d.cfg .WRED_CFG prof weight).cfg .WRED_MIN (3 * prof) g.1).cfg .WRED_MAX (3 * prof) (g.2.1 +
            2 ^ 19 * g.2.2)).cfg
          .WRED_MIN (3 * prof + 1) y.1).cfg .WRED_MAX (3 * prof + 1) (y.2.1 + 2 ^ 19 * y.2.2)).cfg
          .WRED_MIN (3 * prof + 2) r.1).cfg .WRED_MAX (3 * prof + 2) (r.2.1 + 2 ^ 19 * r.2.2)), .ok))) ∧
    (∀ session dest tc en, Granted s rq 0x540 2 false role → 1 ≤ session → session ≤ 7 → F.MIR_CFG_DEST.ok dest = true →
      F.MIR_CFG_MIR_TC.ok tc = true →
      Answers (.mirrorSet rq session dest tc en) s rq 0x540 role (fun d =>
        (d.cfg .MIR_CFG (session - 1) (dest + 2 ^ 9 * tc + 2 ^ 12 * b2n en), .ok)))

/-- The SFI commands of cue lists and gates (R257). -/
def Obligations.CueSfi : Prop :=
  ∀ (s : State) (rq : Sfi) (role port : Nat), port < 256 →
    (∀ es cycle, Granted s rq 0x510 2 false role → 1 ≤ es.length → es.length ≤ 256 →
      F.CL_ADMIN_CYCLE_0_NS.ok (cycle / 65536) = true → (∀ e ∈ es, cueOk e = true ∧ e.2 < 2048) →
      (s.start rq 0x510).on F.TM_PORT_STATUS_ARMED port = false →
      (s.start rq 0x510).heldT.any (fun h => h.kind == 1 && h.obj == port) = false →
      Answers (.cueListLoad rq port es cycle) s rq 0x510 role (fun d => ((d.cueTake port es cycle).tripNote port rq.ch, .ok))) ∧
    (∀ base, Granted s rq 0x511 2 false role → base < 2 ^ 80 →
      (let d := s.start rq 0x511
       let a := ((d.cfg .CL_ADMIN_BASE_0 port (base % 2 ^ 32)).cfg .CL_ADMIN_BASE_1 port (base / 2 ^ 32 % 2 ^ 24)).tripNote port rq.ch
       d.adminLen port ≠ 0 → d.adminCycle port ≠ 0 → d.on F.TM_PORT_STATUS_ARMED port = false →
       d.heldT.any (fun h => h.kind == 1 && h.obj == port) = false →
       (a.pt + 512000000000 * 65536 < base → Answers (.cueListArm rq port base) s rq 0x511 role (fun _ =>
        ({ a with heldT := a.heldT ++ [{ kind := 1, obj := port, src := 0, target := base, ch := rq.ch.val, tag := rq.tag.val }] },
          { Ans.pending [port] with words := (List.range 3).map (ltWord base) }))) ∧
       (base ≤ a.pt + 512000000000 * 65536 → Answers (.cueListArm rq port base) s rq 0x511 role (fun _ =>
        (a.cueArm port base, { Ans.pending [port] with words := (List.range 3).map (ltWord ((a.cueArm port base).clTc.get port - 1)) })))) ) ∧
    (Granted s rq 0x512 2 false role → ((s.start rq 0x512).on F.TM_PORT_STATUS_ARMED port = true ∨
        (s.start rq 0x512).heldT.any (fun h => h.kind == 1 && h.obj == port) = true) →
      Answers (.cueListDisarm rq port) s rq 0x512 role (fun d => ((d.cueDisarm port .invalid).tripNote port rq.ch, .ok))) ∧
    (∀ en la guard hold, Granted s rq 0x513 2 false role → hold < 4096 →
      Answers (.gateConfig rq port en la guard hold) s rq 0x513 role (fun d =>
        ((d.portGate port (b2n en + 2 * b2n la + 4 * b2n guard + 16 * hold)).tripNote port rq.ch, .ok))) ∧
    (∀ start, Granted s rq 0x514 0 false role →
      Answers (.cueListQuery rq port start) s rq 0x514 role (fun d =>
        (d, d.listing rq 0x514 2 ((d.cueRows port).filter (fun e => decide (start ≤ e.1))))))

/-! ## Frames (R14 to R16, R36 to R47, R92, R185 to R189, R203, R231 to R238) -/

/-- A frame comes in (R59, R92, R186, R203): its 18th byte, its header, its next buffer, its last byte. -/
def Obligations.FrameReception : Prop :=
  ∀ (s : State) (p : Fin 256) (mac : Fin 2) (b : List Byte) (us : List Upset), s.live →
    (let d := (s.toDev.turn (fun d => d.rxPlace p)).memUpset us
     d.takesFrames p = true → d.rxCur.get (rxKey p mac) = 0 → d.rxOpen.get (rxKey p mac) = 0 →
     (b = [] → Does (.expressMatch p mac b us) s (d.latchSof p mac)) ∧
     (b.length = 18 → d.exprFind p b = none → Does (.expressMatch p mac b us) s d) ∧
     (b.length = 18 → ∀ i, d.exprFind p b = some i → d.bad 6 i = false → d.bad 5 (d.express.get i).stream = false →
       Does (.expressMatch p mac b us) s (d.exprAct i p mac b))) ∧
    (∀ q : Fin 261, (let u := s.toDev.turn (fun d => d.rxPlace q)
      let cur := u.rxCur.get (rxKey q mac)
      (u.hold.get q).length < 16 →
      (cur ≠ 0 → (u.frames.get cur).ended = true → Does (.headerComplete q mac b) s (u.headerEnded q mac cur)) ∧
      (cur = 0 → u.takesFrames q = true → u.rxOpen.get (rxKey q mac) = 0 → u.prpLan q = false →
        b.length = 256 → isMacCtl b = false → Does (.headerComplete q mac b) s
          (let x := u.newFrame q (inPipe q) mac
           let d := x.1.frameSet x.2.1 { x.2.2 with bytes := b, head := b }
           { d with rxCur := d.rxCur.put (rxKey q mac) 0, rxOpen := d.rxOpen.put (rxKey q mac) x.2.1 }.hold16 q x.2.1)))) ∧
    (let d := (s.toDev.turn (fun d => d.rxPlace p)).memUpset us
     let id := d.rxOpen.get (rxKey p mac)
     let f := d.frames.get id
     id ≠ 0 → f.decided = true → f.dead = false → f.bufs.isEmpty = false → chainBytes f.bufs < b.length →
     b.length ≤ d.maxFrame p → b.take f.bytes.length = f.bytes → ∀ d' f',
     (d.growChain { f with bytes := b } f.parsed.l3End false = (d', f', true) →
       Does (.nextBufferAlloc p mac b us) s (d'.frameSet id f')) ∧
     (d.growChain { f with bytes := b } f.parsed.l3End false = (d', f', false) →
       Does (.nextBufferAlloc p mac b us) s ((d'.frameSet id f').killFrame id))) ∧
    (let u := s.toDev.turn (fun d => d.rxPlace p)
     let k := rxKey p 0
     let d := { u with rxOpen := u.rxOpen.put k 0 }
     let r := settleRx b false (u.maxFrame p)
     let done (d : Dev) : Dev := { d with sof := d.sof.put k none, noBind := d.noBind.put k false }
     u.takesFrames p = true → u.rxCur.get k = 0 → u.rxOpen.get k = 0 →
      (r.len < 64 → Does (.frameRxEnd ⟨p, by omega⟩ 0 b false 0 false us) s (done (d.stat p 3))) ∧
      (64 ≤ r.len → r.bad = true ∨ isMacCtl b = false → Does (.frameRxEnd ⟨p, by omega⟩ 0 b false 0 false us) s
         (let x := (d.rxCount p b r.len r.bad r.long).newFrame p (inPipe p) 0
          done ((x.1.frameSet x.2.1 (rxFrame x.2.2 r false)).rxWaits k x.2.1 (rxFrame x.2.2 r false) us))))

/-- A frame is decided and a copy leaves (R15, R16, R44, R47, R189, R232): the slot's grant, the selectors, the yield of the
preemptable MAC, the last byte of a copy. -/
def Obligations.FrameTransmission : Prop :=
  ∀ (s : State) (pipe : Fin 2) (p : Fin 256) (mac : Fin 2) (us : List Upset), s.live →
    (let u := s.toDev.turn (fun d => d.slotPlace pipe)
     let d := u.memUpset us
     u.slotAt.get pipe ≠ u.cycle + 1 →
      (d.grant pipe = none → Does (.decisionSlotGrant pipe us) s d) ∧
      (∀ q id, d.grant pipe = some (q, id) → Does (.decisionSlotGrant pipe us) s
        (({ d with hold := d.hold.put q ((d.hold.get q).filter (fun e => e.1 != id)),
                   slotAt := d.slotAt.put pipe (d.cycle + 1) }.refillHold q).decideFrame id))) ∧
    (let d := (s.due atSend).memUpset us
     d.linkState p = 1 → d.ingressOpen = true → (d.tx.get (2 * p)).live = false → (d.tx.get (2 * p + 1)).live = false →
     d.on F.PORT_STATUS_TX_LPI p = false → d.wake.get p = false →
     Does (.egressSelect ⟨p, by omega⟩ us) s (d.selectPort p)) ∧
    (let u := s.due atSend
     let t := u.tx.get (2 * p + 1)
     u.preActive p = true → t.live = true → t.yielded = false →
     u.on F.TM_PORT_STATUS_HOLD p = true ∨ u.expressWaits p = true →
     (u.mayYield p t = true → Does (.preemptableYield p) s
       (let d := (if t.preempted then u else u.stat p 19).shapeSync t.queue
        let t' := d.tx.get (2 * p + 1)
        let t' := { t' with yielded := true, preempted := true, sent := t'.sent + d.fragBytes p t' }
        { d with tx := d.tx.put (2 * p + 1) t' })) ∧
     (u.mayYield p t = false → Does (.preemptableYield p) s u)) ∧
    (let u := s.due atSend
     let t := u.tx.get (2 * p + mac)
     t.live = true → t.yielded = false →
     (t.burin = true → Does (.copyTxEnd ⟨p, by omega⟩ mac us) s (u.burinEnd p t us)) ∧
     (t.burin = false → (u.frames.get t.copy.frame).ended = true →
       Does (.copyTxEnd ⟨p, by omega⟩ mac us) s (u.copySent p mac t us)))

/-! ## The stage (R262 to R295) -/

/-- Engines and verdicts (R267, R268, R270, R272): an instance starts, ends with its verdict, overruns its ceiling, or its
engine fails; a cluster's reload returns its engines to service. Clusters, supervision passes, samples of the profiler
(R263, R275, R278). -/
def Obligations.Stagehands : Prop :=
  (∀ (s : State) (e : Fin 128) (c : Fin 16), s.live →
     (let u := s.due (untied 10 0)
      u.engRun.get e = none → u.on F.ENG_STATUS_STOPPED e = false → u.clFreq (e / 8) ≠ 0 →
       (∀ x r, u.engQ.get e = x :: r →
         Does (.programStart e) s ({ u with engQ := u.engQ.put e r }.runItem e x)) ∧
       (∀ j, u.engQ.get e = [] → u.supvJobs.find? (fun j => j.1 == e.val) = some j → Does (.programStart e) s
         ({ u with supvJobs := u.supvJobs.erase j }.runItem e { frame := 0, prog := 4, pin := 0, info := [j.2.1, j.2.2] }))) ∧
     (let u := s.due atMerge
      ∀ x (code : Fin 6) res, u.engRun.get e = some x → u.itemRuns x = false → Does (.verdictMerge e code res) s
       (let d := { u with engRun := u.engRun.put e none }
        let d := if x.prog = 2 then d.count 0x3C 6 (((d.frames.get x.frame).len + 15) / 16) else d
        (d.itemDone x code res).itemReturn x)) ∧
     (let u := s.due (untied 10 0)
      (∀ x, u.engRun.get e = some x → 2 * u.progMax x.prog * 15 < (u.cycle - x.began) * u.clFreq (e / 8) →
        Does (.progOverrun e) s
         (let d := (((u.count 0x3C 5).raise F.STAGE_EVENT_PROG_OVERRUN).stageRec 0x0A02 4 e).count 0x3C 1
          let d := { d with engRun := d.engRun.put e none }
          let d := if x.prog = 2 then (let a := d.draw 16; a.2.count 0x3C 6 a.1) else d
          (d.itemDefault x).itemReturn x)) ∧
      (u.engRun.get e = none → Does (.progOverrun e) s u) ∧
      Does (.engineFault e) s (let d := u.engineStop e
        let d' := { d with engRun := d.engRun.put e none, engQ := d.engQ.put e [],
                           supvJobs := d.supvJobs.filter (fun j => j.1 != e), repin := true }
        (d.engineItems e).foldl Dev.defaultItem d') ∧
      Does (.engineReloadDone c) s (let d := { u with imem := u.imem.put c u.loadedProgs }
        let d := ((List.range 8).foldl (fun d k => d.set F.ENG_STATUS_STOPPED (8 * c + k) 0) d)
        ((List.range 8).filter (fun k => d.sender (24 + k) == 8 + c.val)).foldl (fun d k => d.senderReset (24 + k))
          (d.setBit F.STAGE_STATUS_FAULTED 0 c false)))) ∧
  (∀ (s : State) (m : Fin 32) (c : Fin 16) (e : Fin 128) (w : Word) (offset : Nat),
     (Writes s m .CL_CFG c w.toNat → Does (.clCfgWrite m c w) s
       (let d := s.passed m .CL_CFG c w.toNat
        let d' := d.store .CL_CFG c w.toNat
        d'.clChanged c (d.get F.CL_CFG_STEP c) (d'.get F.CL_CFG_STEP c))) ∧
     (s.live → (let u := s.due (untied 10 0)
       ((u.clStopping.get c).isSome = true → u.clBusy c = false → Does (.clusterClockStop c) s
         (let d := ({ u with clStopping := u.clStopping.put c none }.setBit F.STAGE_STATUS_RUNNING 0 c false).count 0x60 7
          (d.jobs.filter (fun j => j.op == 0x601 && j.data == [c.val])).foldl (fun d j => d.finishJob j .ok) d)) ∧
       (u.clBusy c = true → Does (.clusterClockStop c) s u) ∧
       (let v := { u with supvAt := u.cycle }
        (u.supvAt + u.get F.STAGE_CTRL_LIFE_CHECK * msCycles ≤ u.cycle →
          (v.supvBusy = true → Does .supvGenPass s ((v.raise F.STAGE_EVENT_SUPV_LATE).record { code := 0x0A08, sev := 3 })) ∧
          (v.supvBusy = false → v.on F.PROG_CFG_LOADED 4 = true → Does .supvGenPass s { v with supvJobs := v.supvWork })) ∧
        (u.cycle < u.supvAt + u.get F.STAGE_CTRL_LIFE_CHECK * msCycles → Does .supvGenPass s u)) ∧
       (∀ x ev, u.profEvent = some ev → u.engRun.get e = some x → u.profFull = false →
         (let d := { u with profBuf := u.profBuf ++ [[x.prog, e.val, offset, u.ptNs % 2 ^ 32]] }
          (u.profBuf.length < 4095 → Does (.profileSample e offset) s d) ∧
          (4095 ≤ u.profBuf.length →
            Does (.profileSample e offset) s ({ d with profFull := true }.raise F.STAGE_EVENT_PROFILE_FULL)))) ∧
       (u.profEvent = none → Does (.profileSample e offset) s u))))

/-- The SFI commands of the stage group (R292). -/
def Obligations.StageSfi : Prop :=
  ∀ (s : State) (rq : Sfi) (role : Nat),
    (∀ start, Granted s rq 0x600 0 false role → Answers (.stageQuery rq start) s rq 0x600 role (fun d =>
      (d, d.listing rq 0x600 1 (d.stageRows.filter (fun e => decide (start ≤ e.1)))))) ∧
    (∀ c step, Granted s rq 0x601 2 false role → c < 16 → step ≤ 4 →
      (let d := s.start rq 0x601
       let d' := (d.cfgF F.CL_CFG_STEP c step).clChanged c (d.get F.CL_CFG_STEP c) step
       (d'.clStopping.get c).isNone ∨ d'.clBusy c = false →
       Answers (.clusterStepSet rq c step true) s rq 0x601 role (fun _ => (d', .ok)))) ∧
    (∀ prog mask, Granted s rq 0x602 2 false role → 1 ≤ prog → prog < 64 → mask < 65536 →
      ((s.start rq 0x602).on F.PROG_CFG_LOADED prog = true → Answers (.programAssign rq prog mask) s rq 0x602 role
        (fun d => (((d.cfgF F.PROG_CFG_CL_MASK prog mask).refillPins prog).checkAllBounds, .ok))) ∧
      ((s.start rq 0x602).on F.PROG_CFG_LOADED prog = false →
        Answers (.programAssign rq prog mask) s rq 0x602 role (fun d => (d, .unsupported)))) ∧
    (∀ prog, Granted s rq 0x603 1 false role → 1 ≤ prog → prog < 64 →
      (s.start rq 0x603).on F.PROG_CFG_LOADED prog = true → Does (.pinRebalance rq prog) s
        (((s.sfiDue 0x603).answers rq 0x603 role (fun d => (d.refillPins prog, .pending [prog]))).pinsApplied prog)) ∧
    (∀ port n random en ring, Granted s rq 0x604 2 false role → port < 256 → ring < 64 → F.SAMPLER_CFG_N.ok n = true →
      Answers (.samplerSet rq port n random en ring) s rq 0x604 role (fun d =>
        (d.cfg .SAMPLER_CFG port (n + 2 ^ 24 * b2n random + 2 ^ 25 * b2n en + 2 ^ 26 * ring), .ok))) ∧
    (Granted s rq 0x605 2 false role →
      Answers (.profileStart rq none) s rq 0x605 role (fun d => ({ d with profEvent := none }, .ok)) ∧
      (∀ ev p, ev ≤ 2 → 1000 ≤ p → p < 2 ^ 32 → Answers (.profileStart rq (some (ev, p))) s rq 0x605 role (fun d =>
        ({ d with profEvent := some (ev, p) }, .ok)))) ∧
    (Granted s rq 0x606 0 false role → Answers (.profileRead rq) s rq 0x606 role (fun d =>
      (let n := min 64 (d.replyRoom rq 0x606 / 3)
       { d with profBuf := d.profBuf.drop n, profFull := d.profFull && !(d.profBuf.drop n).isEmpty },
       .okW ((d.profBuf.take (min 64 (d.replyRoom rq 0x606 / 3))).flatMap
        (fun x => [x.getD 0 0 + 256 * x.getD 1 0, x.getD 2 0 % 2 ^ 32, x.getD 3 0]))))) ∧
    (∀ pair en life last, Granted s rq 0x607 2 false role → pair < 128 → last < 256 → F.STAGE_CTRL_LIFE_CHECK.ok life = true →
      Answers (.supvGenSet rq pair en life last) s rq 0x607 role (fun d =>
        (let w := d.reg .SUPV_EN (pair / 32)
         ((d.cfg .SUPV_EN (pair / 32) (if en then w ||| 2 ^ (pair % 32) else dropBit w (pair % 32))).cfgF
          F.STAGE_CTRL_LIFE_CHECK 0 life).cfgF F.STAGE_CTRL_SUPV_LAST_BYTE 0 last, .ok)))

/-! ## The Folio (R280 to R297) -/

/-- Capture and drives (R280 to R291): the formatter sheds, keeps or drops a copy; the level falls; a write drains; a
drive is lost, times out, completes, is polled. SMART polls, the ends of FOLIO_START and FOLIO_READ (R280, R288, R290). -/
def Obligations.FolioEvents : Prop :=
  (∀ (s : State) (n : Fin 4) (us : List Upset), s.live →
     (let u := (s.toDev.turn Dev.takePlace).takeCycle
      ∀ d c, { u with takeN := u.takeN + 1 }.takeHead 259 255 us = (d, some c) →
       (let d := d.delivered c
        (d.folioRuns = true → c.cls ≤ d.get F.FOLIO_STATUS_SHED_LEVEL → c.cls < 7 →
          Does (.folioFormatterTake us) s ((d.shed c.cls).consume c.frame)) ∧
        (d.folioRuns = true → d.get F.FOLIO_STATUS_SHED_LEVEL < c.cls ∨ 7 ≤ c.cls →
          Does (.folioFormatterTake us) s ((d.formatCopy c).consume c.frame)) ∧
        (d.folioRuns = false → Does (.folioFormatterTake us) s (d.consume c.frame)))) ∧
     (let u := s.due (untied 11 0)
      (∀ t, u.lowSince = some t → u.get F.FOLIO_STATUS_SHED_LEVEL ≠ 0 → max t u.shedAt + msCycles ≤ u.cycle →
        Does .shedDown s (({ u with shedAt := u.cycle }.set F.FOLIO_STATUS_SHED_LEVEL 0
          (u.get F.FOLIO_STATUS_SHED_LEVEL - 1)).record
            { code := 0x0B02, sev := 1, a0 := u.get F.FOLIO_STATUS_SHED_LEVEL - 1 })) ∧
      (u.folioRuns = true → drainSize ≤ u.readyBytes → u.nvmeRoom (u.segs.get u.wrPos).drive = true →
        Does .assemblyDrainWrite s u.drainWrite) ∧
      (u.readyBytes < drainSize → Does .assemblyDrainWrite s u) ∧
      Does (.folioLinkDown n) s (u.driveLost n) ∧
      (∀ write err k, (u.nvmeOut.get n).findIdx? (fun x => nvmeWrites x.1 == write) = some k →
        (let d := { u with nvmeOut := u.nvmeOut.put n ((u.nvmeOut.get n).eraseIdx k) }
         (err = false → Does (.nvmeCompletion n write err false) s d) ∧
         (err = true → write = true → Does (.nvmeCompletion n write err false) s
           (((d.count 0x40 7).raise F.FOLIO_EVENT_WRITE_ERROR).record { code := 0x0B0A, sev := 5, a0 := n, obj := .drive n })))) ∧
      (∀ x r, u.nvmeOut.get n = x :: r → x.2 + 100 * msCycles ≤ u.cycle →
        u.nvmeTo.get n = 0 ∨ u.nvmeTo.get n + secCycles ≤ u.cycle + 1 → Does (.nvmeTimeout n) s
         (({ u with nvmeOut := u.nvmeOut.put n r, nvmeTo := u.nvmeTo.put n (u.cycle +
             1) }.emit (.nvme n 5 0 0)).count 0x40 7)) ∧
      (u.nvmeOut.get n = [] → Does (.nvmeTimeout n) s u) ∧
      (u.folioRuns = true → u.hdrAt + secCycles ≤ u.cycle →
        Does .folioHeaderWrite s { u with hdrAt := u.cycle }.headerWrite))) ∧
  (∀ (s : State), s.live → (let u := s.due (untied 11 0)
     (∀ wear, u.smartAt + 10 * secCycles ≤ u.cycle → Does (.smartPoll wear) s
       ((List.range 4).foldl (fun d n => if d.get F.DRIVE_STATUS_DSTATE n = 1 then
         (d.nvme n 4 0 512).set F.DRIVE_STATUS_MEDIA_WEAR n (min 255 (wear.getD n 0)) else d) { u with smartAt := u.cycle })) ∧
     (∀ j, u.jobs.find? (fun j => j.op == 0x709) = some j →
       (u.readDue j = true → Does .folioReadDone s (u.readDone j)) ∧ (u.readDue j = false → Does .folioReadDone s u)) ∧
     (∀ ds hdr, u.get F.FOLIO_STATUS_STATE = 1 →
       (let d := u.folioRing u.formatAsked ds
        (d.ringDrives.isEmpty = true → Does (.folioStartDone ds hdr) s (d.folioOff.finishOp 0x701 .invalid)) ∧
        (d.ringDrives.isEmpty = false → u.formatAsked = true → Does (.folioStartDone ds hdr) s
         ((d.folioFormat.set F.FOLIO_STATUS_STATE 0 2).headerWrite.finishOp 0x701 (.okW [2]))) ∧
        (d.ringDrives.isEmpty = false → u.formatAsked = false → hdr = none → Does (.folioStartDone ds hdr) s
         (d.folioOff.finishOp 0x701 .invalid)) ∧
        (∀ h, d.ringDrives.isEmpty = false → u.formatAsked = false → hdr = some h → Does (.folioStartDone ds hdr) s
         (((d.folioResume h).set F.FOLIO_STATUS_STATE 0 2).headerWrite.finishOp 0x701 (.okW [2])))))))

/-- The SFI commands that configure, start, stop, query and erase the Folio (R293). The SFI commands of capture classes,
ports and pinned windows (R293). -/
def Obligations.FolioSfi : Prop :=
  (∀ (s : State) (rq : Sfi) (role : Nat),
     (∀ links pin hi lo cap rb, Granted s rq 0x700 2 false role → links < 3 → 1 ≤ pin → pin ≤ 50 → lo < hi → hi ≤ 100 →
         1 ≤ rb → rb ≤ 31 →
       (s.start rq 0x700).get F.FOLIO_STATUS_STATE = 0 ∨ (s.start rq 0x700).folioFixed links hi lo cap = true →
       Answers (.folioConfig rq links pin hi lo cap rb) s rq 0x700 role (fun d =>
         ((d.cfg .FOLIO_CTRL 0 (links + 4 * b2n cap + 256 * pin + 65536 * hi + 2 ^ 24 * rb)).set F.FOLIO_STATUS_SHED_LO 0 lo,
             .ok))) ∧
     (∀ format, Granted s rq 0x701 2 false role → (s.start rq 0x701).get F.FOLIO_STATUS_STATE = 0 →
       Answers (.folioStart rq format) s rq 0x701 role (fun d =>
         ((d.set F.FOLIO_STATUS_STATE 0 1).folioLinks (2 ^ d.get F.FOLIO_CTRL_BIFURCATION), .pending [b2n format]))) ∧
     (Granted s rq 0x702 2 false role → (s.start rq 0x702).folioRuns = true →
       Answers (.folioStop rq) s rq 0x702 role (fun d => (d.flushAsm.closeSeg.headerWrite.folioOff, .ok))) ∧
     (∀ start, Granted s rq 0x703 0 false role → Answers (.folioQuery rq start) s rq 0x703 role (fun d =>
       (d, d.listing rq 0x703 1 (d.folioRows.filter (fun e => decide (start ≤ e.1)))))) ∧
     (∀ x : FolioReadArgs, Granted s rq 0x709 1 false role →
       (let d := s.start rq 0x709
        let fn := d.sender rq.ch
        x.lo ≤ x.hi → 64 ≤ x.len → (∀ k, x.cls = some k → 1 ≤ k ∧ k < 8) → d.folioRuns = true → fn < 8 →
        d.dmaOk fn x.addr x.len true = true → Answers (.folioRead rq x) s rq 0x709 role (fun d =>
         ((d.readHits x).foldl (fun d e => d.nvme e.2.drive 8 e.1 4194304) d.readBuf.1,
          .pending (readData x fn ++ [d.cycle, d.readBuf.2] ++ (d.readHits x).flatMap (fun e => [e.1, e.2.seq])))))) ∧
     (Granted s rq 0x70A 3 true role → Answers (.folioErase rq) s rq 0x70A role (fun d =>
       (d.folioErase.headerWrite.record { code := 0x0B0C, sev := 6, a0 := rq.ch.val }, .ok)))) ∧
  (∀ (s : State) (rq : Sfi) (role : Nat),
     (∀ cls snap, Granted s rq 0x704 2 false role → 1 ≤ cls → cls < 8 → F.CLASS_CFG_SNAP_LEN.ok snap = true →
       Answers (.captureClassSet rq cls snap) s rq 0x704 role (fun d => (d.cfg .CLASS_CFG cls snap, .ok))) ∧
     (∀ port ing mask, Granted s rq 0x705 2 false role → port < 256 → ing < 8 → mask < 256 →
       Answers (.portCaptureSet rq port ing mask) s rq 0x705 role (fun d => (d.cfg .FOLIO_PORT_CAP port (ing + 8 * mask),
           .ok))) ∧
     (∀ k code mask sev pre post, Granted s rq 0x706 2 false role → k < 16 → code < 65536 → mask < 65536 → sev < 8 →
         pre ≤ pinMax →
       post ≤ pinMax → Answers (.pinBindingSet rq k code mask sev pre post) s rq 0x706 role (fun d =>
         ((({ d with bindPre := d.bindPre.put k pre, bindPost := d.bindPost.put k post }.cfgF F.TRIG_MATCH_CODE k code).cfgF
           F.TRIG_MATCH_MASK k mask).cfgF F.TRIG_CTRL_MIN_SEV k sev, .ok))) ∧
     (∀ t pre post, Granted s rq 0x707 1 false role → t < 2 ^ 64 → pre ≤ pinMax → post ≤ pinMax →
       (∀ w, (openWin (s.start rq 0x707) 16 t pre post).2.1 = some w →
         Answers (.pinNow rq t pre post) s rq 0x707 role (fun d =>
           ((openWin d 16 t pre post).2.2.foldl Dev.record (openWin d 16 t pre post).1, .okW [w]))) ∧
       ((openWin (s.start rq 0x707) 16 t pre post).2.1 = none →
         Answers (.pinNow rq t pre post) s rq 0x707 role (fun d =>
           ((openWin d 16 t pre post).2.2.foldl Dev.record (openWin d 16 t pre post).1, .noResource)))) ∧
     (∀ id w, Granted s rq 0x708 1 false role → (s.start rq 0x708).wins.find? (fun w => w.id == id) = some w →
       Answers (.pinRelease rq id) s rq 0x708 role (fun d =>
         ({ d with wins := d.wins.erase w }.headerWrite.record { code := 0x0B07, sev := 1, a0 := rq.ch.val }, .ok))))

/-! ## The host link and the mailboxes (R298 to R328) -/

/-- Descriptor and completion rings (R301 to R316): entries fetched and polled, doorbells, enables, consumption,
interrupts, RX copies. A copy of port 256 is delivered (R311, R312): written to its ring and completed, or discarded where
the ring has no buffers for it, is off, or its owner is frozen. -/
def Obligations.HostRings : Prop :=
  (∀ (s : State) (m : Fin 32) (r : Fin 136) (k : Fin 8) (w : Word),
     (s.live → (let u := s.due (untied 12 0)
       (∀ es, u.on F.RING_CFG_MODE r = false → Does (.descriptorFetch r es) s (u.fetchAll r es)) ∧
       (∀ phase e, u.on F.RING_CFG_MODE r = true →
        (let d := u.startJob r
         d.canFetch r = true → d.pollWaits r = false →
         (b2n phase = ringPhase (d.reg .RING_CONS r) (d.get F.RING_CFG_LOG2SIZE r) → Does (.pollRead r phase e) s
          (Dev.readEntry { d with rings := d.rings.put r { d.rings.get r with pollWait := 0 } } r e)) ∧
         (b2n phase ≠ ringPhase (d.reg .RING_CONS r) (d.get F.RING_CFG_LOG2SIZE r) → Does (.pollRead r phase e) s
          { d with rings := d.rings.put r { d.rings.get r with pollWait := d.cycle + 1 } }))) ∧
       (u.get F.CQ_CFG_INT_TIME k ≠ 0 → (u.cqs.get k).sinceInt ≠ 0 →
        (u.cqs.get k).firstAt + u.get F.CQ_CFG_INT_TIME k * 1500 ≤ u.cycle + 1 →
            Does (.intTimeExpire k) s (u.cqInterrupt k)))) ∧
     (Writes s m .RING_DB r w.toNat → (let d := s.passed m .RING_DB r w.toNat
       d.flrNow (d.get F.RING_OWNER_FUNC r) = false →
       (d.on F.RING_CFG_MODE r = true → Does (.ringDb m r w) s
         { d with rings := d.rings.put r { d.rings.get r with pollWait := 0 } }) ∧
       (d.on F.RING_CFG_MODE r = false → ringUsed (w.toNat % 65536) (d.reg .RING_CONS r) ≤ d.ringSize r →
         ringUsed (w.toNat % 65536) (d.reg .RING_DB r) ≤ d.ringSize r →
         Does (.ringDb m r w) s (d.setReg .RING_DB r (w.toNat % 65536))) ∧
       (d.on F.RING_CFG_MODE r = false → d.ringSize r < ringUsed (w.toNat % 65536) (d.reg .RING_CONS r) → Does (.ringDb m r w) s
         (((d.count 0x44 6).raise F.HOST_EVENT_DB_INVALID).ringRec 0x0C01 4 r)))) ∧
     (Writes s m .RING_CFG r w.toNat → (let d := s.passed m .RING_CFG r w.toNat
       let e := d.store .RING_CFG r w.toNat
       (d.on F.RING_CFG_EN r = true → Does (.ringEnable m r w) s e) ∧
       (d.on F.RING_CFG_EN r = false → e.on F.RING_CFG_EN r = true →
         e.get F.CQ_OWNER_FUNC (e.get F.RING_CFG_CQ r) = e.get F.RING_OWNER_FUNC r →
         e.dmaOk (e.get F.RING_OWNER_FUNC r) (e.ringBase r) (32 * e.ringSize r) false = true → Does (.ringEnable m r w) s
           (({ e with rings := e.rings.put r { (default : Ring) with drop := (e.rings.get r).drop } }.setReg .RING_DB r 0).setReg
             .RING_CONS r 0)))) ∧
     (Writes s m .CQ_CFG k w.toNat → (let d := s.passed m .CQ_CFG k w.toNat
       let e := d.store .CQ_CFG k w.toNat
       (d.on F.CQ_CFG_EN k = false → e.on F.CQ_CFG_EN k = true →
         Does (.cqEnable m k w) s (((e.setReg .CQ_PROD k 0).setReg .CQ_CONS k 0).cqSettle k)) ∧
       (d.on F.CQ_CFG_EN k = true → w.toNat % 2 = 1 → Does (.cqEnable m k w) s e))) ∧
     (WritesAt s atRelease m .CQ_CONS k w.toNat →
       Does (.cqConsWrite m k w) s ((s.passedAt atRelease m .CQ_CONS k w.toNat).cqCons k w.toNat))) ∧
  (∀ (s : State) (es : List Desc) (us : List Upset), s.live → ∀ d c, (s.due atSend).takeHead 256 255 us = (d, some c) →
     (let r := (d.rxRing c).1
      (d.isFrozen (d.get F.RING_OWNER_FUNC r) = true →
        Does (.rxDeliver es us) s ((d.count 0x44 3 1 { tc := some c.tc }).consume c.frame)) ∧
      (d.isFrozen (d.get F.RING_OWNER_FUNC r) = false → d.on F.RING_CFG_EN r = false →
          Does (.rxDeliver es us) s (d.rxDrop r c)) ∧
      (d.isFrozen (d.get F.RING_OWNER_FUNC r) = false → (d.rxRing c).2 = true → d.on F.RING_CFG_EN r = true →
        d.cqCredit (d.get F.RING_CFG_CQ r) = true →
        (let e := d.fetchAll r es
         let f := e.frames.get c.frame
         let bytes := (if e.on F.RING_CFG_META_EN r then metaBytes f c else []) ++ f.readBytes
         (bufsFor (e.rings.get r).fetched bytes.length = none → Does (.rxDeliver es us) s (e.rxDrop r c)) ∧
         (∀ n, bufsFor (e.rings.get r).fetched bytes.length = some n → e.isFrozen (d.get F.RING_OWNER_FUNC r) = false →
           Does (.rxDeliver es us) s (e.rxWrite r c n bytes))))))

/-- The host link and its resets (R298, R320, R323). Mailboxes (R317 to R321, R465): a post, a response taken, a core
woken. -/
def Obligations.HostLinkAndMailboxes : Prop :=
  (∀ (s : State) (f : Fin 8), s.live →
     (let u := s.due atRelease
      Does (.flr f) s (({ u with flrAt := u.flrAt.put f (u.cycle + 1) }.funcReset f).setBit F.HOST_STATUS_FLR_BUSY 0 f true)) ∧
     (let u := s.due (untied 12 0)
      (u.bit F.HOST_STATUS_FLR_BUSY 0 f = true → Does (.flrDone f) s
        (((u.setBit F.HOST_STATUS_FLR_BUSY 0 f false).raise F.HOST_EVENT_FLR_DONE).record { code := 0x0C06, sev := 2, a0 := f })) ∧
      (u.bit F.HOST_STATUS_FLR_BUSY 0 f = false → Does (.flrDone f) s u) ∧
      Does .pciePerstNRelease s { u with linkReset := true } ∧
      (∀ width speed, u.linkReset = true → 1 ≤ width → width ≤ 3 → speed < 4 → Does (.pcieLinkUp width speed) s
        ((u.set F.HOST_STATUS_LINK_WIDTH 0 width).set F.HOST_STATUS_LINK_SPEED 0 speed)) ∧
      Does .pcieAerError s (u.record { code := 0x0C08, sev := 5 })) ∧
     (let u := s.due (untied 13 60)
      (u.on F.HOST_STATUS_LINK_WIDTH = true → Does .pcieLinkDown s ((List.range 16).foldl Dev.chanReset
        ((((u.set F.HOST_STATUS_LINK_WIDTH 0 0).set F.HOST_STATUS_LINK_SPEED 0 0).raise F.HOST_EVENT_PCIE_LINK_DOWN).record
          { code := 0x0C07, sev := 5 }))) ∧
      (∀ kind : Fin 3,
        (let d := (List.range 8).foldl (fun d f => d.funcReset f)
           ((u.set F.HOST_STATUS_LINK_WIDTH 0 0).set F.HOST_STATUS_LINK_SPEED 0 0)
         let d := { d with linkReset := decide (kind.val ≠ 0) && d.linkReset }
         (u.on F.HOST_STATUS_LINK_WIDTH = false → Does (.hostLinkReset kind) s d) ∧
         (u.on F.HOST_STATUS_LINK_WIDTH = true → Does (.hostLinkReset kind) s
           ((d.raise F.HOST_EVENT_PCIE_LINK_DOWN).record { code := 0x0C07, sev := 5 })))))) ∧
  (∀ (s : State) (m : Fin 32) (c : Fin 32) (n : Fin 4) (w : Word),
     (Writes s m .MB_POST c w.toNat → (let d := s.passed m .MB_POST c w.toNat
       (d.flrNow (d.sender c) = false → Does (.mbPost m c w) s
         (d.postReq c w.toNat ((List.range (w.toNat / 4096 % 16)).map (fun k => (d.chans.get c).stage.get k)))) ∧
       (d.flrNow (d.sender c) = true → Does (.mbPost m c w) s d))) ∧
     (WritesAt s atPop m .MB_RSP_POP c 1 → Does (.mbRspPop m c) s
       (let d := s.passedAt atPop m .MB_RSP_POP c 1
        let d := if (d.chans.get c).rsp.isEmpty then d else d.count 0x48 1
        let q := d.chans.get c
        Dev.pushRsp q.wait.length { d with chans := d.chans.put c { q with rsp := q.rsp.tail } } c)) ∧
     (s.live → (let u := s.due (untied 13 0)
       (u.bit F.PROMPTER_STATUS_CORE_UP 0 n = true → Does (.coreWake n) s (u.setBit F.GATE_STATUS_1_CORE_CLK_ON 0 n true)) ∧
       (u.bit F.PROMPTER_STATUS_CORE_UP 0 n = false → Does (.coreWake n) s u))))

/-- The SFI commands that grant windows, rights, rings and channels, and that let a frozen master go (R326, R328). -/
def Obligations.HostSfi : Prop :=
  ∀ (s : State) (rq : Sfi) (role : Nat),
    (∀ x : WindowArgs, Granted s rq 0xC10 3 false role → x.fn < 8 → x.win < 8 → 12 ≤ x.log2 → x.log2 ≤ 48 → x.base < 2 ^ 64 →
      x.base % 2 ^ x.log2 = 0 → Answers (.funcWindowSet rq x) s rq 0xC10 role (fun d =>
        ((d.cfg .WIN_HI (x.fn * 8 + x.win) (x.base / 2 ^ 32)).cfg .WIN_LO (x.fn * 8 + x.win)
          (b2n x.en + 2 * b2n x.rd + 4 * b2n x.wr + 8 * x.log2 + x.base % 2 ^ 32 / 4096 * 4096), .ok))) ∧
    (∀ fn cw direct, Granted s rq 0xC11 3 false role → fn < 8 →
      Answers (.funcGrant rq fn cw direct) s rq 0xC11 role (fun d => (d.cfg .FUNC_PERM fn (b2n cw + 2 * b2n direct), .ok))) ∧
    (∀ ring fn, Granted s rq 0xC12 3 false role → fn < 8 →
      (ring < 8 → (s.start rq 0xC12).on F.CQ_CFG_EN ring = false →
        Answers (.ringAssign rq true ring fn) s rq 0xC12 role (fun d => (d.cfg .CQ_OWNER ring fn, .ok))) ∧
      (ring < 136 → (s.start rq 0xC12).on F.RING_CFG_EN ring = false →
        Answers (.ringAssign rq false ring fn) s rq 0xC12 role (fun d => (d.cfg .RING_OWNER ring fn, .ok)))) ∧
    (∀ grp tc ring en, Granted s rq 0xC13 2 false role → grp < 16 → tc < 8 → ring < 64 →
      Answers (.rxMapSet rq grp tc ring en) s rq 0xC13 role (fun d => (d.cfg .HOST_RX_MAP (2 * grp + tc / 4)
        (withBits (d.reg .HOST_RX_MAP (2 * grp + tc / 4)) (8 * (tc % 4) + 7) (8 * (tc % 4)) (ring + 128 * b2n en)), .ok))) ∧
    (∀ c prio core vector, Granted s rq 0xC14 3 false role → prio < 4 → core < 4 → vector < 16 →
      (c < 16 → 1 ≤ core → Answers (.mboxChannelSet rq c none prio core vector) s rq 0xC14 role (fun d =>
        (d.cfg .MB_CFG c (prio + 4 * core + 16 * d.sender c + 512 * vector), .ok))) ∧
      (∀ x, 24 ≤ c → c < 32 → core = 0 → (8 ≤ x ∧ x < 24) ∨ x = 31 →
        Answers (.mboxChannelSet rq c (some x) prio core vector) s rq 0xC14 role (fun d =>
          (d.cfg .MB_CFG c (prio + 16 * x + 512 * vector), .ok)))) ∧
    (∀ x start, Granted s rq 0xC15 0 false role → x < 30 →
      Answers (.masterQuery rq (some x) start) s rq 0xC15 role (fun d => (d, .okW (d.masterRow x)))) ∧
    (∀ x reset z, Granted s rq 0xC16 0 false role → (s.start rq 0xC16).frozen.get x = some z →
      (s.start rq 0xC16).sender rq.ch ≠ x →
      (mayRelease role z.role = true → Answers (.masterRelease rq x reset) s rq 0xC16 role (fun d =>
        ((d.released x reset).record { code := 0x0E02, sev := 2, a0 := rq.ch, a1 := b2n reset, obj := .chan rq.ch }, .ok))) ∧
      (mayRelease role z.role = false → Answers (.masterRelease rq x reset) s rq 0xC16 role (fun d => (d, .denied))))

/-! ## The Prompter (R333 to R369) -/

/-- Boot, restart and resets (R335, R336, R339 to R347): the first slot that passes runs, both failing ends in recovery; a
core's heartbeat, the watchdog, an SRAM error, RESTART, CONFIRM_TIME. -/
def Obligations.BootAndResets : Prop :=
  ∀ (s : State) (m : Fin 32) (n : Fin 4),
    (Writes s m .PROMPTER_CMD 0 1 → Does (.prompterCmdRestart m) s ((s.passed m .PROMPTER_CMD 0 1).promptRestart 5)) ∧
    (s.live → (let u := s.due (untied 14 0)
      (∀ a b, u.get F.PROMPTER_STATUS_BOOT_STATE < 2 → u.on F.STRAPS_TEST_EN = false →
        (let x := u.bootReady.bootSlot
         (x.2.1 = 0 → x.1.imageCause a = 0 → Does (.boot a b) s (x.1.bootRun 0 x.2.2 false a)) ∧
         (x.2.1 = 1 → x.1.imageCause b = 0 → Does (.boot a b) s (x.1.bootRun 1 x.2.2 false b)) ∧
         (let d := (x.1.raise F.PROMPTER_EVENT_BOOT_FALLBACK).fwRec 0x0E04 5 (x.1.imageCause a) 0
          x.2.1 = 0 → x.1.imageCause a ≠ 0 →
          (d.imageCause b = 0 → Does (.boot a b) s (d.bootRun 1 false true b)) ∧
          (d.imageCause b ≠ 0 → Does (.boot a b) s (d.bootFailed (d.imageCause a) (d.imageCause b)))))) ∧
      (u.core0Up = true → u.readyAt + 50 * msCycles ≤ u.cycle →
        (let t := u.restarts.filter (fun t => decide (u.cycle < t + 600 * secCycles)) ++ [u.cycle]
         (t.length < 3 → Does .core0WatchdogExpire s ({ u with restarts := t }.promptRestart 3)) ∧
         (3 ≤ t.length → Does .core0WatchdogExpire s (((({ u with restarts := t }.set F.PROMPTER_STATUS_DEGRADED 0 1).set
           F.PROMPTER_STATUS_CORE_UP 0 0).set F.GATE_STATUS_1_CORE_CLK_ON 0 0).raise F.PROMPTER_EVENT_DEGRADED |>.fwRec 0x0E07 6 0 0)))) ∧
      (∀ image, Does (.sramEccError n true image) s (((u.satCount .SRAM_ECC_CORR 0).raiseFirst
        F.PROMPTER_EVENT_SRAM_ECC_CORR 0 0 secCycles).recordOnce secCycles { code := 0x0E0E, sev := 1, a0 := n, fw := true })) ∧
      (u.core0Up = true → n ≠ 0 → u.bit F.PROMPTER_STATUS_CORE_UP 0 n = false → Does (.coreResetDone n) s
        (({ u with beat := u.beat.put n u.cycle }.setBit F.PROMPTER_STATUS_CORE_UP 0 n true).setBit
          F.GATE_STATUS_1_CORE_CLK_ON 0 n true)) ∧
      (∀ beats : Fin 8, u.core0Up = true → u.beatAt + 10 * msCycles ≤ u.cycle → Does (.coreHeartbeatCheck beats) s
        (([1, 2, 3] : List Nat).foldl (fun (d : Dev) n =>
          if d.bit F.PROMPTER_STATUS_CORE_UP 0 n = false then d
          else if beats.val / 2 ^ (n - 1) % 2 = 1 then { d with beat := d.beat.put n d.cycle }
          else if d.beat.get n + 100 * msCycles ≤ d.cycle then d.coreReset n 1 else d) { u with beatAt := u.cycle })))) ∧
    (s.live → (let u := s.due atExpiry
      u.on F.PROMPTER_STATUS_TRIAL = true → u.core0Up = true →
        (u.readyAt + u.get F.PROMPTER_CTRL_CONFIRM_TIME * secCycles ≤ u.cycle → Does .confirmTimeExpire s
          (((({ u with trialSlot := 0, trialCount := 0 }.dirWrite).raise F.PROMPTER_EVENT_FW_REVERTED).fwRec 0x0E12 5 0 0).promptRestart 6)) ∧
        (u.cycle < u.readyAt + u.get F.PROMPTER_CTRL_CONFIRM_TIME * secCycles → Does .confirmTimeExpire s u)))

/-- The firmware's own work (R333, R334, R337, R344, R350, R351): loads, the startup configuration, held targets, frames of
port 257, LLDP, requests taken, jobs ended, reports. -/
def Obligations.FirmwareWork : Prop :=
  ∀ (s : State) (c : Fin 32) (p : Fin 256) (us : List Upset), s.live →
    (let u := s.due (untied 14 0)
     u.core0Up = true →
     (∀ loads, Does (.core0LoadCheck loads) s (u.loadCheck loads)) ∧
     (∀ x, u.startup = some x → u.get F.PROMPTER_STATUS_CFG_STATE = 1 → Does (.configAutoApply none) s
       ((List.range 16).foldl (fun d c => d.notify c 0x00B [0, 0]) ((((List.range 8).foldl (fun d k => d.applyPart x k) u).set
         F.PROMPTER_STATUS_CFG_STATE 0 2).fwRec 0x0E14 2 0 0))) ∧
     (u.heldAt + secCycles ≤ u.cycle → Does .heldTargetTick s (u.heldT.foldl Dev.armHeld { u with heldAt := u.cycle })) ∧
     (u.cycle < u.heldAt + secCycles → Does .heldTargetTick s u) ∧
     (u.lldp.get p ≠ 0 → u.lldpAt.get p + u.lldp.get p * secCycles ≤ u.cycle →
       (let d := { u with lldpAt := u.lldpAt.put p u.cycle }
        (d.linkState p = 1 → Does (.lldpTx p) s (d.promptTx (lldpBytes p (d.lldp.get p)) (some (p, 6)))) ∧
        (d.linkState p ≠ 1 → Does (.lldpTx p) s d)))) ∧
    (let u := s.due atSend
     ∀ d x, u.bit F.PROMPTER_STATUS_CORE_UP 0 0 = true → u.on F.DOM_CFG_DOM_EN = false →
      u.takeHead 257 192 us = (d, some x) → Does (.prompterRxFrame 0 us) s
        ((((d.delivered x).count 0x4C 5).agentRead (d.frames.get x.frame)).consume x.frame)) ∧
    (let u := s.due atTake
     ∀ x r, (u.chans.get c).req = x :: r → x.stale = false → u.sfiUp = true → u.get F.PROMPTER_STATUS_BOOT_STATE = 2 →
      u.bit F.PROMPTER_STATUS_CORE_UP 0 (u.rxCore c) = true →
      u.bit F.GATE_STATUS_1_CORE_CLK_ON 0 (u.rxCore c) = true → Does (.sfiRequestTake c) s
        (((u.popReq c).domRole c).admitReq c (x.hdr % 4096) (x.hdr / 2 ^ 16 % 256) (x.hdr / 2 ^ 24 % 16) x.words false)) ∧
    (let u := s.due atSfi
     ∀ (tag : Fin 256) im,
      (∀ j, u.jobs.find? (fun j => j.ch == c.val && j.tag == tag.val) = some j →
          Does (.sfiJobDone c tag im) s (u.jobDone j im)) ∧
      (u.jobs.find? (fun j => j.ch == c.val && j.tag == tag.val) = none → Does (.sfiJobDone c tag im) s u)) ∧
    (let u := s.due (untied 13 20)
     ∀ (k : Fin 16) op tag words, u.isFrozen (8 + k) = false → 24 ≤ c.val →
      (u.sender c = 8 + k → Does (.stageReport k c op tag words) s
        (u.postReq c (msgHdr op (min words.length 15) tag 0 0) (words.map (· % 2 ^ 32)))) ∧
      (u.sender c ≠ 8 + k → Does (.stageReport k c op tag words) s
        (u.violate (8 + k) 5 (regAddr .MB_POST c) (msgHdr op words.length tag 0 0))))

/-- The SFI commands of the system group (R345, R360, R362) and of recovery (R342). The firmware update (R345): begin,
write, end, activate, confirm. -/
def Obligations.SystemSfi : Prop :=
  (∀ (s : State) (rq : Sfi) (role : Nat),
     (∀ page, Granted s rq 0x002 0 false role → page ≤ 13 ∨ 16 ≤ page ∧ page ≤ 22 →
       Answers (.sysCaps rq page) s rq 0x002 role (fun d => d.capsPage page)) ∧
     (Granted s rq 0x003 0 false role → Answers (.sysQuery rq) s rq 0x003 role (fun d =>
       (d, .okW ([d.reg .PROMPTER_STATUS] ++ (List.range 4).map (fun n => d.view .CORE_LOAD n) ++
         [(d.cycle - d.bootAt) / secCycles % 2 ^ 32, (d.sess.filter (fun e => e.2.isOpen)).length])))) ∧
     (Granted s rq 0x00A 2 false role → Answers (.configSave rq) s rq 0x00A role (fun d => (d, .pending))) ∧
     (∀ idle confirm auto, Granted s rq 0x00C 3 false role → idle < 65536 → F.PROMPTER_CTRL_CONFIRM_TIME.ok confirm = true →
       Answers (.sysConfig rq idle confirm auto) s rq 0x00C role (fun d =>
         (d.cfg .PROMPTER_CTRL 0 (idle + 65536 * confirm + 2 ^ 26 * b2n auto), .ok))) ∧
     (∀ port en interval, Granted s rq 0x109 2 false role → port < 256 → 1 ≤ interval → interval ≤ 3600 →
       Answers (.lldpSet rq port en interval) s rq 0x109 role (fun d =>
         ({ d with lldp := d.lldp.put port (if en then interval else 0), lldpAt := d.lldpAt.put port d.cycle }, .ok))) ∧
     (s.live → rq.ch.val = 0 → rq.tag.val ≠ 0 →
       (let u := s.sfiDue 0x0F0
        u.get F.PROMPTER_STATUS_BOOT_STATE = 3 →
        ∀ offset words, 0x100000 ≤ offset → offset + 4 * words.length ≤ 0x900000 → words.length ≤ 13 →
         Does (.recoveryWrite rq offset words) s (((u.recoveryTake rq 0x0F0).flashWrite offset words).reply 0 rq.tag 0x0F0
           (u.recoveryEcho rq 0x0F0) false .ok)) ∧
       (let u := s.sfiDue 0x0F1
        let d := u.recoveryTake rq 0x0F1
        u.get F.PROMPTER_STATUS_BOOT_STATE = 3 → Does (.recoveryReboot rq) s ((({ d with bootAt := d.cycle }.set
         F.PROMPTER_STATUS_BOOT_STATE 0 0).set F.PROMPTER_STATUS_CORE_UP 0 0).reply 0 rq.tag 0x0F1 (u.recoveryEcho rq 0x0F1)
           false .ok)))) ∧
  (∀ (s : State) (rq : Sfi) (role : Nat),
     (∀ len, Granted s rq 0x005 3 true role → len ≤ 4194304 → Answers (.fwUpdateBegin rq len) s rq 0x005 role (fun d =>
       ({ d with fwBegun := true, stagedSlot := none }.flashWrite (0x100000 + 0x400000 * d.otherSlot) [], .pending))) ∧
     (∀ offset words, Granted s rq 0x006 3 false role → rq.ring = true → (s.start rq 0x006).fwBegun = true →
       words.length ≤ 16384 → offset + 4 * words.length ≤ 4194304 →
           Answers (.fwUpdateWrite rq offset words) s rq 0x006 role (fun d =>
         ({ d with stagedSlot := none }.flashWrite (0x100000 + 0x400000 * d.otherSlot + offset) words, .ok))) ∧
     (Granted s rq 0x007 3 false role → (s.start rq 0x007).fwBegun = true →
       Answers (.fwUpdateEnd rq) s rq 0x007 role (fun d => (d, .pending))) ∧
     (∀ now, Granted s rq 0x008 3 true role → (s.start rq 0x008).stagedSlot.isSome = true →
       Does (.fwActivate rq now) s (((s.sfiDue 0x008).answers rq 0x008 role (fun d =>
         ({ { d with trialSlot := d.otherSlot + 1, trialCount := 0 }.dirWrite with resetReq := b2n now },
             .ok))).restartIfAsked 2)) ∧
     (Granted s rq 0x009 3 false role → (s.start rq 0x009).on F.PROMPTER_STATUS_TRIAL = true →
       Answers (.fwConfirm rq) s rq 0x009 role (fun d => d.fwConfirm)))

/-- Sessions, credentials and keys (R354 to R356, R365): OBSERVER opens at once, a higher role with the answer to a nonce. -/
def Obligations.SessionSfi : Prop :=
  ∀ (s : State) (rq : Sfi) (role : Nat),
    (Granted s rq 0xC00 0 false role →
      Answers (.sessionOpen rq 0) s rq 0xC00 role (fun d => (d.openSession rq.ch 0, .ok)) ∧
      (∀ r, r = 1 ∨ r = 2 → (let d := s.start rq 0xC00
        (d.sess.get rq.ch).lockUntil ≤ d.cycle → Answers (.sessionOpen rq r) s rq 0xC00 role (fun d =>
          (let w := d.drawNonce
           { w.2 with sess := w.2.sess.put rq.ch { d.sess.get rq.ch with nonce := some (w.1, r, d.cycle + 10 * secCycles) } },
           { detail := 1, words := d.drawNonce.1 }))))) ∧
    (∀ answer n r t, Granted s rq 0xC01 0 false role → (let d := s.start rq 0xC01
      (d.sess.get rq.ch).nonce = some (n, r, t) → d.cycle < t → (d.creds.get r).isEmpty = false →
      answer = hmacWords (d.creds.get r) (n ++ [rq.ch.val, r, (d.chans.get rq.ch).epochS]) →
      Answers (.sessionAuth rq answer) s rq 0xC01 role (fun d =>
        ({ d with sess := d.sess.put rq.ch { d.sess.get rq.ch with nonce := none } }.openSession rq.ch r, .ok)))) ∧
    (Granted s rq 0xC02 0 false role → Answers (.sessionClose rq) s rq 0xC02 role (fun d => (d.endSession rq.ch 1, .ok))) ∧
    (∀ c start, Granted s rq 0xC03 0 false role → c < 32 →
      Answers (.sessionQuery rq (some c) start) s rq 0xC03 role (fun d => (d, .okW (d.sessRow c)))) ∧
    (∀ r words, Granted s rq 0xC04 3 true role → 1 ≤ r → r < 4 → words.length = 8 →
      Answers (.credentialSet rq r words) s rq 0xC04 role (fun d =>
        ({ d with creds := d.creds.put r words }.fwRec 0x0E16 2 r 0, .ok))) ∧
    (∀ x : KeyArgs, Granted s rq 0xC20 3 true role → rq.ring = true → x.slot < 512 → x.key.length = 4 ∨ x.key.length = 8 →
      x.start ≤ x.stop → Answers (.keySlotLoad rq x) s rq 0xC20 role (fun d =>
        ({ d with keySlots := d.keySlots.put (2 * x.slot + b2n x.next) ([x.keyId, x.key.length, x.start, x.stop] ++
            x.key) }.fwRec
          0x0E17 2 x.slot 0, .ok))) ∧
    (∀ slot, Granted s rq 0xC21 3 false role → slot < 512 →
      Answers (.keySlotClear rq slot 0) s rq 0xC21 role (fun d => ({ d with keySlots := d.keySlots.put (2 * slot) [] }, .ok)) ∧
      Answers (.keySlotClear rq slot 1) s rq 0xC21 role (fun d => ({ d with keySlots := d.keySlots.put (2 * slot + 1) [] },
          .ok))) ∧
    (s.live → (let u := s.due atExpiry
      ∀ c : Fin 32, (u.sess.get c).isOpen = true → u.get F.PROMPTER_CTRL_SESSION_IDLE ≠ 0 → u.core0Up = true →
      (let last := if (u.sess.get c).lastUse = u.cycle then (u.sess.get c).prevUse else (u.sess.get c).lastUse
       (last + u.get F.PROMPTER_CTRL_SESSION_IDLE * secCycles ≤ u.cycle → Does (.sessionIdleExpire c) s (u.endSession c 3)) ∧
       (u.cycle < last + u.get F.PROMPTER_CTRL_SESSION_IDLE * secCycles → Does (.sessionIdleExpire c) s u))))

/-! ## The Promptbook, statistics, performance counters (R382 to R409) -/

/-- The curtain and the clear by register, CURTAIN_LIMIT, staged records, notifications (R386, R389, R390, R392, R395). -/
def Obligations.BookEvents : Prop :=
  ∀ (s : State) (m : Fin 32),
    (WritesAt s atCurtain m .BOOK_CMD 0 1 → (let d := (s.passedAt atCurtain m .BOOK_CMD 0 1).writeEvents
      (d.curtain = none → Does (.curtainUp m) s { d with curtain := some (32, d.cycle), held := [], heldDropped := 0 }) ∧
      (d.curtain.isSome = true → Does (.curtainUp m) s d))) ∧
    (WritesAt s atCurtain m .BOOK_CMD 0 2 → (let d := (s.passedAt atCurtain m .BOOK_CMD 0 2).writeEvents
      (d.curtain = none → Does (.curtainDown m) s d) ∧
      (d.curtain.isSome = true → Does (.curtainDown m) s
        ((d.held.foldl (fun d r => (writeRec d r).1) { d with curtain := none, held := [], heldDropped := 0 }).recordNow
          { code := 0x0F03, sev := 1, a0 := d.held.length, a1 := liftArg d.heldDropped 0 })))) ∧
    (∀ (chan : Fin 256) (role : Fin 4), (let w := 4 + 256 * chan.val + 65536 * role.val
      WritesAt s atCurtain m .BOOK_CMD 0 w →
        Does (.bookCmdClear m chan role) s ((s.passedAt atCurtain m .BOOK_CMD 0 w).bookClear chan role))) ∧
    (s.live → (let u := s.due atCurtain
      (∀ o t, u.curtain = some (o, t) →
        (t + u.get F.BOOK_CFG_CURTAIN_LIMIT * secCycles ≤ u.cycle → Does .curtainLimitExpire s (u.lowerCurtain 3)) ∧
        (u.cycle < t + u.get F.BOOK_CFG_CURTAIN_LIMIT * secCycles → Does .curtainLimitExpire s u)) ∧
      (u.curtain = none → Does .curtainLimitExpire s u))) ∧
    (s.live → (let u := s.due (untied 15 0)
      (∀ q qs n, u.on F.BOOK_STATUS_MODE_ACTIVE = true → 2 ≤ u.get F.FOLIO_STATUS_STATE →
        u.staged = q :: qs → u.bookDrive (q % 67108864) = some n → Does .bookStagingWrite s
          ({ u with staged := (q :: qs).dropWhile (fun x => x / 64 == q / 64) }.nvme n 2 (q % 67108864 / 64 * 4096) 4096)) ∧
      (u.staged = [] → Does .bookStagingWrite s u) ∧
      (∀ (c : Fin 24) n, u.sfiUp = true → u.notes.find? (fun n => n.1 == c.val) = some n →
        (let d := { u with notes := u.notes.erase n }
         let x := d.subs.get c
         let q := d.chans.get c
         (x.lastMs ≠ d.cycle / msCycles + 1 → msgWords q.rsp + 10 ≤ 16 → q.wait.isEmpty = true → Does (.bookEvent c) s
          (({ d with subs := d.subs.put c { x with missed := 0, lastMs := d.cycle / msCycles + 1 } }.notify c
            0x808 (noteWords n.2.1 x.missed n.2.2)).count 0x50 7)) ∧
         (x.lastMs = d.cycle / msCycles + 1 ∨ 16 < msgWords q.rsp + 10 ∨ q.wait.isEmpty = false → Does (.bookEvent c) s
          { d with subs := d.subs.put c { x with missed := x.missed + 1 } })))))

/-- The SFI commands of the Promptbook (R404). -/
def Obligations.BookSfi : Prop :=
  ∀ (s : State) (rq : Sfi) (role : Nat),
    (∀ start, Granted s rq 0x800 0 false role → Answers (.bookQuery rq start) s rq 0x800 role (fun d =>
      (d, d.listing rq 0x800 1 (wordRows d.bookWords start)))) ∧
    (∀ x : BookReadArgs, Granted s rq 0x801 0 false role →
      x.lo < 2 ^ 32 → x.hi < 2 ^ 32 → x.minSev < 8 → x.code < 65536 → x.mask < 65536 →
      (let d := s.start rq 0x801
       d.sender rq.ch < 8 → d.dmaOk (d.sender rq.ch) x.addr x.len true = true →
           Answers (.bookRead rq x) s rq 0x801 role (fun d =>
        (d, .pending [x.lo, x.hi, x.minSev, x.code, x.mask, x.addr, x.len, d.sender rq.ch])))) ∧
    (Granted s rq 0x802 1 false role → (s.start rq 0x802).curtain = none →
      ((s.start rq 0x802).writeEvents.curtain = none → Answers (.bookCurtain rq true) s rq 0x802 role (fun d =>
        ({ d.writeEvents with curtain := some (rq.ch.val, d.writeEvents.cycle), held := [], heldDropped := 0 }, .ok))) ∧
      Answers (.bookCurtain rq false) s rq 0x802 role (fun d => (d, .invalid))) ∧
    (∀ o t, Granted s rq 0x802 1 false role → (s.start rq 0x802).curtain = some (o, t) →
      (o = rq.ch.val → Answers (.bookCurtain rq false) s rq 0x802 role (fun d => (d.lowerCurtain 0, .ok))) ∧
      (∀ up, o ≠ rq.ch.val → Answers (.bookCurtain rq up) s rq 0x802 role (fun d => (d, .busy 9)))) ∧
    (Granted s rq 0x803 3 true role → Answers (.bookClear rq) s rq 0x803 role (fun d => (d.bookClear rq.ch role, .ok))) ∧
    (∀ mode sev limit, Granted s rq 0x804 2 false role → F.BOOK_CFG_RECORD_MIN_SEV.ok sev = true →
      F.BOOK_CFG_CURTAIN_LIMIT.ok limit = true → Answers (.bookConfig rq mode sev limit) s rq 0x804 role (fun d =>
        (d.cfg .BOOK_CFG 0 (b2n mode + 2 * sev + 65536 * limit), .ok))) ∧
    (∀ src k addr rel en, Granted s rq 0x805 2 false role → isSource src = true → k < 8 → addr < 2 ^ 24 →
      (addr < 16 → Answers (.bookSnapSet rq src k addr rel true en) s rq 0x805 role (fun d =>
        (d.cfg .SNAP_ENTRY (8 * src + k) (addr + 2 ^ 24 * b2n rel + 2 ^ 25 + 2 ^ 26 * b2n en), .ok))) ∧
      (addr % 4 = 0 → inBlock addr = true → Answers (.bookSnapSet rq src k addr rel false en) s rq 0x805 role (fun d =>
        (d.cfg .SNAP_ENTRY (8 * src + k) (addr + 2 ^ 24 * b2n rel + 2 ^ 26 * b2n en), .ok)))) ∧
    (∀ k (x : TriggerArgs), Granted s rq 0x806 2 false role → k < 16 → x.code < 65536 → x.mask < 65536 → x.minSev < 8 →
      F.TRIG_CTRL_NOTIFY_CHAN.ok x.chan = true → Answers (.bookTriggerSet rq k x) s rq 0x806 role (fun d =>
        ((d.cfg .TRIG_MATCH k (x.code + 65536 * x.mask)).cfg .TRIG_CTRL k
          (x.minSev + 8 * b2n x.en + 16 * b2n x.pin + 32 * b2n x.notify + 64 * b2n x.dump + 256 * x.chan), .ok))) ∧
    (∀ sev code mask en, Granted s rq 0x807 0 false role → rq.ch.val < 24 → sev < 8 → code < 65536 → mask < 65536 →
      Answers (.bookSubscribe rq sev code mask en) s rq 0x807 role (fun d =>
        ({ d with subs := d.subs.put rq.ch { d.subs.get rq.ch with on := en, minSev := sev, code := code, mask := mask } },
            .ok)))

/-- Statistics latches, dumps, snapshots and performance counters (R396 to R402, R405). -/
def Obligations.Statistics : Prop :=
  ∀ (s : State) (m : Fin 32) (rq : Sfi) (role : Nat),
    (s.live → (let u := s.due atLatch
      let p := u.get F.DUMP_CFG_DUMP_PERIOD * msCycles
      (u.latchDue = true → Does .statsLatch s ({ u with dumpMark := u.dumpMark + (u.cycle - u.dumpMark) / p * p
                                                        dumpPt := u.ptNs }.latch 1 0)) ∧
      (u.latchDue = false → Does .statsLatch s { u with dumpPt := min u.dumpPt u.ptNs }))) ∧
    (s.live → (let u := s.due (untied 16 0)
      ∀ x, u.dump = some x →
       (let d := { u with dump := none }.set F.PERF_STATUS_DUMP_BUSY 0 0
        let a := u.dumpBuf x.seq
        let y := if d.isFrozen x.fn then (d, true) else d.dmaCheck x.fn a (imageLen x.sets x.mask) true
        (y.2 = true → Does .dumpWriteDone s
          (((((y.1.devWrite x.fn (a + 64) x.body).devWrite x.fn a x.header).count 0x54 4 (imageLen x.sets x.mask / 64)).set
            F.PERF_STATUS_LAST_BUF 0 (x.seq % 2)).raise F.PERF_EVENT_DUMP_DONE)) ∧
        (y.2 = false → Does .dumpWriteDone s y.1)))) ∧
    (Writes s m .PERF_CMD 0 1 → (let d := s.passed m .PERF_CMD 0 1
      (d.perfAllowed (d.get F.DUMP_FN_DUMP_FN) = true → Does (.perfCmdSnap m) s (takeSnap d)) ∧
      (d.perfAllowed (d.get F.DUMP_FN_DUMP_FN) = false → Does (.perfCmdSnap m) s d))) ∧
    (WritesAt s atLatch m .PERF_CMD 0 2 → Does (.perfCmdDumpNow m) s ((s.passedAt atLatch m .PERF_CMD 0 2).latch 2 0)) ∧
    (s.live → (let u := s.due (untied 16 30)
      (u.on F.PERF_STATUS_SNAP_BUSY = true → Does .perfSnapDone s
        (((u.set F.PERF_STATUS_SNAP_BUSY 0 0).raise F.PERF_EVENT_SNAP_DONE).finishOp 0x904
          (.okW [u.reg .SNAP_FIRST_PT, u.reg .SNAP_LAST_PT]))) ∧
      (u.on F.PERF_STATUS_SNAP_BUSY = false → Does .perfSnapDone s u))) ∧
    (∀ (slot : Fin 97) (w : Word), WritesAt s atPcClear m .PC_CLEAR slot w.toNat → (blockAt slot).isSome = true →
      Does (.pcClear m slot w) s ((s.passedAt atPcClear m .PC_CLEAR slot w.toNat).pcClear slot (w.toNat % 256))) ∧
    (Granted s rq 0x900 0 false role → (∀ idx cls start, idx < 256 →
        Answers (.statsQuery rq 0 idx cls start) s rq 0x900 role (fun d =>
          (d, d.listing rq 0x900 2 (statRows d.portStats 40 (40 * idx) start)))) ∧
      (∀ idx cls start, idx ∈ classPorts → cls < 8 → Answers (.statsQuery rq 1 idx cls start) s rq 0x900 role (fun d =>
          (d, d.listing rq 0x900 2 (statRows d.classStats 8 (8 * (8 * idx + cls)) start)))) ∧
      (∀ idx cls start, idx < 16384 → Answers (.statsQuery rq 2 idx cls start) s rq 0x900 role (fun d =>
          (d, d.listing rq 0x900 2 (statRows d.streamStats 8 (8 * idx) start))))) ∧
    (∀ sets period mask b0 b1 en, Granted s rq 0x901 1 false role → (let d := s.start rq 0x901
      let fn := d.sender rq.ch
      rq.ch.val < 16 → fn < 8 → sets < 16 → mask < 65536 → b0 < 2 ^ 64 → b1 < 2 ^ 64 → b0 % 64 = 0 → b1 % 64 = 0 →
      F.DUMP_CFG_DUMP_PERIOD.ok period = true → d.dmaOk fn b0 (imageLen sets mask) true = true →
      d.dmaOk fn b1 (imageLen sets mask) true = true →
          Answers (.statsDumpSet rq sets period mask b0 b1 en) s rq 0x901 role (fun d =>
        (((((((d.cfg .DUMP_FN 0 fn).setReg .DUMP_STREAM_MASK 0 mask).setReg .DUMP_BASE 0 (b0 % 2 ^ 32)).setReg .DUMP_BASE 1
          (b0 / 2 ^ 32)).setReg .DUMP_BASE 2 (b1 % 2 ^ 32)).setReg .DUMP_BASE 3 (b1 / 2 ^ 32)).dumpCfg
            (b2n en + 2 * sets + 32 * period), .ok)))) ∧
    (Granted s rq 0x902 1 false role →
      ((s.start rq 0x902).dump = none → Answers (.statsDumpNow rq) s rq 0x902 role (fun d => (d.latch 2 0, .ok))) ∧
      ((s.start rq 0x902).dump.isSome = true → Answers (.statsDumpNow rq) s rq 0x902 role (fun d => (d, .busy 9)))) ∧
    (∀ x : PerfArgs, Granted s rq 0x903 2 false role → (let d := s.start rq 0x903
      d.perfAllowed (d.sender rq.ch) = true → (blockAt x.slot).isSome = true → x.index < 8 → x.tcMask < 256 → x.roleMask < 16 →
      x.master < 32 → x.lo < 2 ^ 32 → x.hi < 2 ^ 32 → Answers (.perfConfig rq x) s rq 0x903 role (fun d =>
        (((d.cfg .PC_CFG (8 * x.slot + x.index) (x.tcMask + 256 * x.roleMask + 4096 * x.master + 2 ^ 17 * b2n x.addrEn +
          2 ^ 18 * b2n x.ovfMode)).cfg .ADDR_LO x.slot x.lo).cfg .ADDR_HI x.slot x.hi, .ok)))) ∧
    (Granted s rq 0x904 0 false role → (let d := s.start rq 0x904
      (d.perfAllowed (d.sender rq.ch) = true → Answers (.perfSnap rq) s rq 0x904 role (fun d => (takeSnap d, .pending))) ∧
      (d.perfAllowed (d.sender rq.ch) = false → Answers (.perfSnap rq) s rq 0x904 role (fun d => (d, .denied))))) ∧
    (∀ slot mask, Granted s rq 0x905 2 false role → (let d := s.start rq 0x905
      d.perfAllowed (d.sender rq.ch) = true → (blockAt slot).isSome = true → mask < 256 →
      Answers (.perfClear rq slot mask) s rq 0x905 role (fun d => (d.pcClear slot mask, .ok)))) ∧
    (∀ mask, Granted s rq 0x906 3 false role → mask < 256 →
      Answers (.perfAllowSet rq mask) s rq 0x906 role (fun d => (d.cfg .PERF_ALLOW 0 mask, .ok)))

/-! ## The understudy pair (R410 to R435) -/

/-- Pins, heartbeat and link (R411 to R418, R426): what each input does to the claim, the state and the peer's view. -/
def Obligations.PairInputs : Prop :=
  ∀ (s : State) (lane : Fin 2) (read : Fin 128), s.live →
    (let u := s.due (untied 17 0)
     Does .arbGoFall s ({ u with arbGo := false }.driveClaim) ∧
     (∀ go fault, u.pst = 0 → Does (.arbInputSettled go fault) s
       (let e := { ((u.set F.PAIR_STATUS_ARB_GO 0 (b2n go)).set F.PAIR_STATUS_ARB_FAULT_IN 0 (b2n fault)) with arbGo := go }.driveClaim
        if fault = true ∧ u.on F.PAIR_STATUS_ARB_FAULT_IN = false then e.raise F.PAIR_EVENT_PEER_FAULT else e)) ∧
     (u.on F.PAIR_STATUS_PAIR_EN = true → ∀ tm fw,
       (u.unhealthy tm fw = 0 →
         (let d := u.set F.PAIR_STATUS_HEALTH_OK 0 1
          (u.past u.hbAt u.hbHalf = true → Does (.hbToggle tm fw) s
            ({ d with hbLevel := !d.hbLevel, hbRun := true, hbAt := d.cycle }.emit (.pin 3 7 (b2n !d.hbLevel)))) ∧
          (u.past u.hbAt u.hbHalf = false → Does (.hbToggle tm fw) s d))) ∧
       (u.unhealthy tm fw ≠ 0 → u.hbRun = true → Does (.hbToggle tm fw) s
         ((({ u.set F.PAIR_STATUS_HEALTH_OK 0 0 with hbRun := false } : Dev).raise F.PAIR_EVENT_HEALTH_FAIL).pairRec 0x110D 5
           (u.unhealthy tm fw)))) ∧
     (let d := (u.set F.PAIR_STATUS_CLAIM_RB 0 (read.val % 64)).set F.PAIR_STATUS_PAR_RB 0 (read.val / 64)
      (read.val = u.pins7 → Does (.claimMismatch read) s d) ∧
      (read.val ≠ u.pins7 → Does (.claimMismatch read) s
        ((d.raise F.PAIR_EVENT_CLAIM_MISMATCH).pairRec 0x110C 5 u.pins7 read))) ∧
     (u.on F.PAIR_STATUS_LINK_UP = false → Does (.ulkLinkUp lane) s
       ({ (u.setBit F.PAIR_STATUS_ULK_UP 0 lane true).set F.PAIR_STATUS_LINK_UP 0 1 with rxFresh := true }.sendHello)) ∧
     (u.on F.PAIR_STATUS_LINK_UP = true → Does (.ulkLaneUp lane) s
       ((u.setBit F.PAIR_STATUS_ULK_UP 0 lane true).set F.PAIR_STATUS_LINK_UP 0 1)) ∧
     (u.bit F.PAIR_STATUS_ULK_UP 0 (1 - lane.val) = true → u.bit F.PAIR_STATUS_ULK_UP 0 lane = true →
       Does (.ulkLaneDown lane) s
         (((u.setBit F.PAIR_STATUS_ULK_UP 0 lane false).raise F.PAIR_EVENT_ULK_LANE_DOWN).pairRec 0x110A 3 lane)) ∧
     (u.on F.PAIR_STATUS_LINK_UP = true → Does .ulkLinkDown s
       (let d := (List.range 4).foldl (fun d k => d.chanReset (16 + k))
         ((((u.laneLost 0).laneLost 1).set F.PAIR_STATUS_LINK_UP 0 0).set F.PEER_STATUS_PEER_VALID 0 0)
        (if d.handover.isSome || d.proposed.isSome then d.abortHandover 4 else d).syncLost 1)) ∧
     (u.on F.PAIR_STATUS_PAIR_EN = false → ∀ x, Does (.helloRx x) s u) ∧
     (u.on F.PAIR_STATUS_PAIR_EN = true → u.on F.PAIR_STATUS_LINK_UP = true → ∀ x, Does (.helloRx x) s (u.hello x)) ∧
     (u.initAt + u.get F.PAIR_CFG_START_WAIT * 100 * msCycles ≤ u.cycle → u.pst = 1 → u.on F.PAIR_STATUS_EFF_PREFERRED = true →
        u.on F.PAIR_STATUS_ARB_GO = true → u.peerActive = false → Does .startWaitExpire s (u.pairState 6)) ∧
     (u.cycle < u.initAt + u.get F.PAIR_CFG_START_WAIT * 100 * msCycles → Does .startWaitExpire s u)) ∧
    (let u := s.due (untied 13 20)
     ∀ (c : Fin 4) op tag words, u.on F.PAIR_STATUS_LINK_UP = true → u.isFrozen 29 = false →
      Does (.peerMessage c op tag words) s
        (u.postReq (16 + c) (msgHdr op (min words.length 15) tag 0 0) (words.map (· % 2 ^ 32))))

/-- Mirroring, resynchronisation, revert, switchover, and the SFI commands of the pair (R422 to R432). -/
def Obligations.PairProtocol : Prop :=
  ∀ (s : State) (rq : Sfi) (role : Nat),
    (s.live → (let u := s.due (untied 17 0)
      (∀ x, Does (.mirrorMessageRx x) s (u.mirrorRx x)) ∧
      (u.pst = 3 ∨ u.pst = 4 → u.rxGaps.any (fun g => decide (g.2.2 + 3000 ≤ u.cycle)) = true → Does .mirrorGap s
        (((({ u with rxGaps := [] } : Dev).raise F.PAIR_EVENT_SYNC_LOST).pairRec 0x1106 3 2).pairState 2).pairSettle) ∧
      (u.rxGaps.any (fun g => decide (g.2.2 + 3000 ≤ u.cycle)) = false → Does .mirrorGap s u) ∧
      (u.mirrors = true → u.past u.mirTbAt msCycles = true →
        Does .timeMirrorTick s (({ u with mirTbAt := u.cycle }.mirrorBase 0).mirrorBase 1)) ∧
      (u.mirrors = false ∨ u.past u.mirTbAt msCycles = false → Does .timeMirrorTick s u) ∧
      (u.pst = 3 → u.on F.MIRROR_STATUS_RESYNC_BUSY = true →
        (let d := (((u.set F.MIRROR_STATUS_RESYNC_BUSY 0 0).set F.MIRROR_STATUS_RESYNC_PCT 0 100).set
            F.MIRROR_STATUS_OVERFLOWED 0 0).digest.count 0x58 5
         (d.reg .CFG_DIGEST = d.reg .PEER_CFG_DIGEST → Does .resyncCopyDone s
           ((((d.fillStreams.pairState 4).raise F.PAIR_EVENT_SYNCED).pairRec 0x1105 1).finishOp 0xA02 .ok)) ∧
         (d.reg .CFG_DIGEST ≠ d.reg .PEER_CFG_DIGEST → Does .resyncCopyDone s
           ((({ d with retryAt := some (d.cycle + secCycles) } : Dev).raise F.PAIR_EVENT_CFG_DIVERGED).pairRec 0x110F 3)))) ∧
      (∀ t, u.retryAt = some t → t ≤ u.cycle → u.pst = 3 →
        Does .resyncRetry s (({ u with retryAt := none } : Dev).pairState 3)) ∧
      (∀ t, u.revertSince = some t → u.revertReady = true → u.proposed = none → u.handover = none →
        t + u.get F.PAIR_TIMERS_REVERT_HOLD * 100 * msCycles ≤ u.cycle → Does .revertHoldMet s
          ({ u with proposed := some (u.pt + msLt), proposedAt := u.cycle }.emit
            (.ulk ([257] ++ (List.range 3).map (ltWord (u.pt + msLt)))))) ∧
      (∀ tr, u.proposed = none → u.handover = none →
        (let d : Dev := { u.emit (.ulk [258, 1]) with handover := some tr, trOpen := false, overlapSeen := false }
         (u.pst = 5 → Does (.revertProposalRx tr) s (({ d with leftState := 5 } : Dev).pairState 8)) ∧
         (u.pst = 4 → Does (.revertProposalRx tr) s (d.pairState 7)) ∧
         (u.pst ≠ 5 → u.pst ≠ 4 → Does (.revertProposalRx tr) s (u.emit (.ulk [258, 0]))))) ∧
      (u.proposed.isSome = true → u.past u.proposedAt 150000 = true → Does .revertNoAnswer s (u.abortHandover 2)) ∧
      (u.proposed = none ∨ u.past u.proposedAt 150000 = false → Does .revertNoAnswer s u) ∧
      (∀ t, u.handover = some t → t ≤ u.pt → u.trOpen = false →
        (u.pst = 7 → Does .handoverTr s (({ u with trOpen := true } : Dev).emit (.ulk [259]))) ∧
        (u.pst = 8 → Does .handoverTr s { u with trOpen := true })) ∧
      (u.pst = 8 → Does .overlapStartedRx s { u with overlapSeen := true }) ∧
      (∀ t, u.handover = some t → t + u.get F.PAIR_TIMERS_OVERLAP * usLt ≤ u.pt →
        (let ts := t + u.get F.PAIR_TIMERS_OVERLAP * usLt
         (u.pst = 7 → Does .handoverTs s (u.handoverDone ts u.activeState (u.on F.PAIR_STATUS_EFF_PREFERRED))) ∧
         (u.pst = 8 → u.overlapSeen = true → u.on F.PAIR_STATUS_LINK_UP = true → Does .handoverTs s
          ((u.handoverDone ts 3 (!u.on F.PAIR_STATUS_EFF_PREFERRED)).finishOp 0xA03 .ok)) ∧
         (u.pst = 8 → u.overlapSeen = false → Does .handoverTs s (u.abortHandover 6)))))) ∧
    (Granted s rq 0xA00 0 false role → Answers (.pairQuery rq) s rq 0xA00 role (fun d =>
      (d, .okW [d.view .PAIR_STATUS, d.view .PEER_STATUS, d.view .MIRROR_STATUS, d.view .LAST_TAKEOVER_PT,
          d.view .TAKEOVER_INFO]))) ∧
    (∀ x : PairArgs, Granted s rq 0xA01 2 false role → F.PAIR_CFG_CLAIM_LEVEL.ok x.level = true →
        F.PAIR_CFG_HB_HALF.ok x.hbHalf = true →
      F.PAIR_CFG_START_WAIT.ok x.startWait = true → F.PAIR_TIMERS_REVERT_HOLD.ok x.revertHold = true →
      F.PAIR_TIMERS_OVERLAP.ok x.overlap = true → Answers (.pairConfig rq x) s rq 0xA01 role (fun d =>
        (let w0 := x.level + 16 * x.hbHalf + 4096 * b2n x.hbFw + 8192 * b2n x.revertEn + 65536 * x.startWait
         let w1 := x.revertHold + 65536 * x.overlap
         ((d.cfg .PAIR_CFG 0 w0).cfg .PAIR_TIMERS 0 w1).driveClaim, .ok))) ∧
    (Granted s rq 0xA02 1 false role → (let d := s.start rq 0xA02
      (d.pst = 0 ∨ 5 ≤ d.pst → Answers (.pairResync rq) s rq 0xA02 role (fun d => (d, .invalid))) ∧
      (1 ≤ d.pst → d.pst < 5 → d.on F.PAIR_STATUS_LINK_UP = true → d.peerActive = true → d.unitClash = false →
        Answers (.pairResync rq) s rq 0xA02 role (fun d => (({ d with retryAt := none } : Dev).pairState 3, .pending))))) ∧
    (Granted s rq 0xA03 2 false role → (let d := s.start rq 0xA03
      d.proposed = none → d.handover = none → d.pst = 5 ∨ d.pst = 6 → d.on F.PEER_STATUS_PEER_VALID = true →
      d.get F.PEER_STATUS_PEER_STATE = 4 → Answers (.pairSwitchover rq) s rq 0xA03 role (fun d =>
        (d.propose, { Ans.pending with words := (List.range 3).map (ltWord (d.pt + msLt)) })))) ∧
    (Granted s rq 0xA04 1 false role → ∀ t, (let d := s.start rq 0xA04
      d.proposed = some t ∨ d.proposed = none ∧ d.handover = some t →
      (d.pt < t → Answers (.pairRevertCancel rq) s rq 0xA04 role (fun d => ((d.emit (.ulk [261])).abortHandover 5, .ok))) ∧
      (t ≤ d.pt → Answers (.pairRevertCancel rq) s rq 0xA04 role (fun d => (d, .invalid)))))

/-! ## The domain agent (R436 to R458) -/

/-- The tree and the frames (R437 to R442): HELLOs, losses, the frames held and released, those taken. -/
def Obligations.DomainTree : Prop :=
  ∀ (s : State), s.live →
    (let u := s.due (untied 18 0)
     (u.domEn = true → u.domRoot = false → u.domTx = true →
       u.helloAt = none ∨ (∃ t, u.helloAt = some t ∧ t + u.helloPeriod ≤ u.cycle) →
       u.parentStamp = 0 → Does .domainHelloTick s
         (({ u with helloAt := some u.cycle } : Dev).domUp 1 0
           (wordBytes [u.domIndex, u.get F.DOM_CFG_DEPTH] ++ beBytes 8 0))) ∧
     (∀ n : Fin 64, (let c := u.children.get n
       (c.live = true → c.hello + 3 * u.helloPeriod ≤ u.cycle → Does (.childLost n) s
         ((({ u with children := u.children.put n { c with live := false } } : Dev).raise F.DOM_EVENT_CHILD_LOST).domRec
           0x1203 4 c.index)) ∧
       (c.live = false → Does (.childLost n) s u))) ∧
     (u.domEn = true → u.domRoot = false → u.parentLost = false →
       u.parentAt + 3 * u.helloPeriod ≤ u.cycle → Does .parentLost s
         (((({ u with parentLost := true } : Dev).set F.DOM_STATUS_PARENT_LIVE 0 0).raise F.DOM_EVENT_PARENT_LOST).domRec 0x1206 5)) ∧
     (∀ t, u.validSince = some t → u.domEn = true → t + 300 * msCycles ≤ u.cycle →
       Does .domainTxEnable s { u with domTx := true }) ∧
     (let due := u.domHeld.takeWhile (fun m => u.mseqDue m.mseq)
      Does .mgmtFrameHoldRelease s (due.foldl (fun d m => d.domOut m.da m.flood 256 (d.domBody m))
       { u with domHeld := u.domHeld.drop due.length })) ∧
     (∀ i : Fin 16384, (u.domSeen.get i).1 ≠ 0 →
       2 ^ 30 ≤ (u.ptCount + 2 ^ 32 - (u.domSeen.get i).2) % 2 ^ 32 →
       Does (.mseqEntryAge i) s { u with domSeen := u.domSeen.put i (0, 0) })) ∧
    (let u := s.due atSend
     ∀ us d c, u.takeHead 257 u.domMask us = (d, some c) →
      (let e := d.delivered c
       let f := e.frames.get c.frame
       let p := f.parsed
       (p.etype ≠ 0x88B5 → Does (.mgmtFrameRx us) s (((e.count 0x4C 5).agentRead f).consume c.frame)) ∧
       (p.etype = 0x88B5 → p.da = e.domMac ∨ p.da = e.domGroup → Does (.mgmtFrameRx us) s
        (((e.count 0x5C 0).consume c.frame).domAccept f.port p.sa (f.bytes.drop (p.etOff + 2))))))

/-- Proofs, actions, barriers and their deadlines (R444 to R453). -/
def Obligations.DomainOperations : Prop :=
  ∀ (s : State), s.live →
    (let u := s.due atLatch
     ∀ p, u.proof = some p →
      (p.latched = false → p.t ≤ u.pt → Does .proofLatch s (u.proofTake p)) ∧
      (u.pt < p.t → Does .proofLatch s u)) ∧
    (let u := s.due (untied 18 0)
     (∀ p, u.proof = some p →
       (p.latched = true → p.t + u.levels * u.hopWait ≤ u.pt → Does .proofReportDeadline s (u.proofForward p)) ∧
       (p.latched = false → Does .proofReportDeadline s u)) ∧
     (∀ a, u.action = some a → a.armed = true →
       (u.pt < a.t → Does .actionTake s u) ∧
       (a.t ≤ u.pt → u.heldT.any (fun h => h.kind == 3) = false →
         (let done (d : Dev) : Dev := ((d.raise F.DOM_EVENT_ACTION_DONE).domRec 0x120A 2 a.opId a.kind).actionSettle 0
          (a.kind = 1 → Does .actionTake s (done u.timedCommit)) ∧
          (a.kind = 2 → Does .actionTake s (done ((portsOf a.ports).foldl (fun d p => d.takeover p) u))) ∧
          (a.kind = 3 → Does .actionTake s ((done u).actionCheck.promptRestart 7)) ∧
          (a.kind = 4 → Does .actionTake s (done u).actionCheck.internalReset)))) ∧
     (∀ a, u.actionTake.action = some a →
       (let n := if u.actionTake.domRoot then u.actionTake.get F.DOM_CFG_DEPTH_LIMIT + 1 else u.actionTake.levels
        a.t + n * u.actionTake.hopWait ≤ u.actionTake.pt →
         Does .actionCompletionDeadline s (u.actionTake.actionReport a))) ∧
     (∀ b, u.barrier = some b →
       (u.ptNs < b.until_ → Does .barrierTimeout s u) ∧
       (b.until_ ≤ u.ptNs → u.domRoot = false → Does .barrierTimeout s { u with barrier := none }) ∧
       (b.until_ ≤ u.ptNs → u.domRoot = true → (let d : Dev := { u with barrier := none }
         Does .barrierTimeout s (((d.raise F.DOM_EVENT_BARRIER_TIMEOUT).domRec 0x120D 3 b.opId).opFinish b.opId
           { Ans.busy 9 with words := (if d.barrierOwn b then [] else [d.domIndex]) ++
             ((b.need ++ d.liveKids.map (fun c => c.index)).eraseDups.filter (fun i => !d.kidReady b i)) })))) ∧
     (∀ j, u.jobs.filter (fun j => (j.op == 0xB04 || j.op == 0xB05) && decide (j.data.getD 1 0 ≤ u.cycle)) = [j] →
       j.op = 0xB04 → Does .domainSendTimeout s (u.finishJob j (.busy 9))))

/-- The SFI commands of the domain group (R455). -/
def Obligations.DomainSfi : Prop :=
  ∀ (s : State) (rq : Sfi) (role : Nat),
    (Granted s rq 0xB00 0 false role → Answers (.domainQuery rq) s rq 0xB00 role (fun d =>
      (d, .okW [d.view .DOM_CFG, d.view .DOM_ID, d.view .DOM_STATUS, d.view .OP_ID, d.view .OP_TARGET_0,
          d.view .OP_TARGET_1]))) ∧
    (∀ x, Granted s rq 0xB01 3 true role → Answers (.domainJoin rq x) s rq 0xB01 role (fun d => d.domJoin rq x)) ∧
    (∀ x : DomCfgArgs, Granted s rq 0xB02 2 false role → role = 3 ∨ x.maxRole = (s.start rq 0xB02).get F.DOM_CFG_MAX_ROLE →
      x.ports < 2 ^ 256 → x.tc < 6 → x.maxRole < 4 → F.DOM_RATE_RATE.ok x.rate = true →
          F.DOM_TIMERS_HOP_WAIT.ok x.hopWait = true →
      F.DOM_TIMERS_ARM_MIN.ok x.armMin = true → F.DOM_TIMERS_SKEW_MAX.ok x.skewMax = true →
      F.DOM_TIMERS_HELLO_PERIOD.ok x.helloPeriod = true → F.DOM_LEAD_LEAD.ok x.lead = true →
      Answers (.domainConfig rq x) s rq 0xB02 role (fun d =>
        (let d := (((d.cfgF F.DOM_CFG_MAX_ROLE 0 x.maxRole).cfgF F.DOM_CFG_DOM_TC 0 x.tc).cfg .DOM_RATE 0 x.rate).cfg .DOM_LEAD 0 x.lead
         let d := d.cfg .DOM_TIMERS 0 (x.hopWait + 2 ^ 8 * x.armMin + 2 ^ 16 * x.skewMax + 2 ^ 24 * x.helloPeriod)
         ((List.range 8).foldl (fun d w => d.cfg .DOMAIN_PORTS w (x.ports / 2 ^ (32 * w) % 2 ^ 32)) d).domShape, .ok))) ∧
    (Granted s rq 0xB03 3 false role → Answers (.domainLeave rq) s rq 0xB03 role (fun d =>
      (([0xB04, 0xB05, 0xB06, 0xB07, 0xB09] : List Nat).foldl (fun d op => d.finishOp op .invalid)
        (({ d.domForget with domKey := [] } : Dev).cfgF F.DOM_CFG_DOM_EN 0 0), .ok))) ∧
    (∀ target msg, Granted s rq 0xB04 0 false role → (s.start rq 0xB04).domEn = true → target < 16384 → msg ≠ [] →
      msg.length ≤ 16 → target ≠ (s.start rq 0xB04).domIndex → Answers (.domainSend rq target msg) s rq 0xB04 role (fun d =>
        (let e := d.newOp.2.domUnicast 2 target d.newOp.1 role (wordBytes msg)
         (e, .pending [d.newOp.1, e.cycle + secCycles])))) ∧
    (∀ msg, Granted s rq 0xB05 2 false role → (s.start rq 0xB05).domEn = true → msg ≠ [] → msg.length ≤ 16 →
      Answers (.domainBroadcast rq msg) s rq 0xB05 role (fun d =>
        (let e := Dev.domCast { d.newOp.2 with domCasts := d.newOp.2.domCasts ++
            [(d.newOp.1, 0, 0)] } d.newOp.1 role (wordBytes (0 :: msg))
         (e.domSfi e.domIndex role d.newOp.1 msg, .pending [d.newOp.1, e.cycle + secCycles])))) ∧
    (∀ t addr len, Granted s rq 0xB06 1 false role → (let d := s.start rq 0xB06
      d.domEn = true → d.domRoot = true → t < 2 ^ 80 → d.proof = none → d.sender rq.ch < 8 →
          d.dmaOk (d.sender rq.ch) addr len true = true →
      Answers (.proofStart rq t addr len) s rq 0xB06 role (fun d =>
        ((d.newOp.2.domCast d.newOp.1 role (wordBytes ([1] ++ (List.range 3).map (ltWord t)))).proofArm d.newOp.1 t
          (d.sender rq.ch, addr, len), { Ans.pending [d.newOp.1] with words := [d.newOp.1] })))) ∧
    (∀ kind t ports, Granted s rq 0xB07 2 false role → (let d := s.start rq 0xB07
      d.domEn = true → d.domRoot = true → 1 ≤ kind → kind ≤ 4 → ports < 2 ^ 256 →
      (role < actionRole kind → Answers (.curtainArm rq kind t ports) s rq 0xB07 role (fun d => (d, .denied))) ∧
      (actionRole kind ≤ role → d.action = none → d.pt + d.get F.DOM_LEAD_LEAD * msLt ≤ t → t ≤ d.pt + 3600000 * msLt →
        Answers (.curtainArm rq kind t ports) s rq 0xB07 role (fun d =>
          (d.newOp.2.actionStart d.newOp.1 kind t ports role, { Ans.pending [d.newOp.1] with words := [d.newOp.1] }))))) ∧
    (∀ a, Granted s rq 0xB08 2 false role → (s.start rq 0xB08).action = some a →
      (s.start rq 0xB08).domRoot = true → Answers (.curtainCancel rq a.opId) s rq 0xB08 role (fun d =>
        ((d.domCast a.opId role (wordBytes [3])).actionCancel a.opId, .ok))) ∧
    (∀ cond arg timeout, Granted s rq 0xB09 2 false role → (let d := s.start rq 0xB09
      d.domEn = true → d.domRoot = true → cond < 4 → arg < 2 ^ 32 → timeout < 2 ^ 32 → d.barrier = none →
      Answers (.barrierStart rq cond arg timeout none) s rq 0xB09 role (fun d =>
        (let e := d.newOp.2.domCast d.newOp.1 role (wordBytes [4, cond, arg, timeout])
         (e.barrierArm d.newOp.1 cond arg timeout role e.domIndex none, .pending [d.newOp.1]))))) ∧
    (∀ b, Granted s rq 0xB0A 1 false role → (s.start rq 0xB0A).barrier = some b →
      Answers (.barrierReady rq b.opId) s rq 0xB0A role (fun d => ({ d with barrier := some { b with host := true } }, .ok)) ∧
      (∀ opId, opId ≠ b.opId → Answers (.barrierReady rq opId) s rq 0xB0A role (fun d => (d, .invalid)))) ∧
    (∀ start, Granted s rq 0xB0B 0 false role → Answers (.domainTreeQuery rq start) s rq 0xB0B role (fun d =>
      (d, d.listing rq 0xB0B 2 (((List.range 64).filter (fun n => decide (start ≤ n) && (d.children.get n).used)).map
        (fun n => (n, [d.view .CHILD_0 n, d.view .CHILD_1 n]))))))

/-! ## Power, clocks, resets (R460 to R494) -/

/-- Monitors and the trip (R462, R467 to R471): rails, temperature, life hours, PLLs. The SFI commands of power and pins
(R490, R491). -/
def Obligations.PowerMonitors : Prop :=
  (∀ (s : State),
     (s.live → (let u := s.due (untied 19 0)
       (∀ mv, Does (.railMonitorSample mv) s ((List.range 6).foldl (fun d r => d.railSample r (mv.getD r 0)) u)) ∧
       (∀ temps, Does (.thermalSample temps) s (u.thermSample temps)) ∧
       Does .thermClear s ((u.thermRearm 0).thermRearm 1) ∧
       (∀ pll : Fin 5, bitsOf (u.reg .PWR_STATUS) (6 + pll.val) (6 + pll.val) = 1 → Does (.corePllUnlock pll) s
         (((u.setReg .PWR_STATUS 0 (withBits (u.reg .PWR_STATUS) (6 + pll.val) (6 + pll.val) 0)).raise
           F.PWR_EVENT_PLL_UNLOCK).pwrRec { code := 0x1305, sev := 5, a0 := pll })) ∧
       (∀ pll : Fin 5, bitsOf (u.reg .PWR_STATUS) (6 + pll.val) (6 + pll.val) = 0 → Does (.corePllUnlock pll) s u))) ∧
     (s.toDev.tripped = false → Does .thermalTrip s
       { (s.toDev.pwrRec { code := 0x1304, sev := 7 }).writeEvents.releaseOutputs.emit (.pin 4 0 0) with tripped := true }) ∧
     (s.toDev.tripped = true → Does .thermalTrip s s.toDev) ∧
     (∀ t, Does (.lifeHoursUpdate t) s { s.toDev with lifeAcc := s.toDev.lifeAcc + lifeRate t })) ∧
  (∀ (s : State) (rq : Sfi) (role : Nat),
     (∀ start, Granted s rq 0x00D 0 false role → Answers (.powerQuery rq start) s rq 0x00D role (fun d =>
       (d, d.listing rq 0x00D 1 (wordRows d.powerWords start)))) ∧
     (∀ warn crit, Granted s rq 0x00E 2 false role → 60 ≤ warn → warn < crit → crit ≤ 120 →
       Answers (.thermalSet rq warn crit) s rq 0x00E role (fun d => (d.cfg .PWR_CTRL 0 (warn + 256 * crit), .ok))) ∧
     (∀ oe out : Fin 256, Granted s rq 0x00F 2 false role → Answers (.gpioSet rq oe out) s rq 0x00F role (fun d =>
       ((d.cfg .GPIO_CFG 0 (withBits (d.reg .GPIO_CFG) 15 0 (oe.val + 256 * out.val))).gpioDrive (d.reg .GPIO_CFG), .ok))))

/-- Resets (R476 to R479, R491, R362): power-on, RESET_N, DEVICE_RESET, SYS_RESET. -/
def Obligations.Resets : Prop :=
  ∀ (s : State) (m : Fin 32) (straps : Fin 32) (temps : List Int),
    Does .powerOnReset s { s.toDev.deviceReset with
      chans := [], book := [], nextSeq := 0, wasFull := false, tripped := false, lifeAcc := 0, inReset := true,
          intReset := false,
      powerOn := true } ∧
    (s.toDev.inReset = false → Does .resetNAssert s { s.toDev.deviceReset with inReset := true, intReset := false }) ∧
    (s.toDev.inReset = true → Does .resetNAssert s s.toDev) ∧
    (s.toDev.inReset = true →
      (s.toDev.tripped = false → Does (.resetNRelease straps temps) s (s.toDev.startUp straps (if s.toDev.powerOn then 1 else 2))) ∧
      (s.toDev.tripped = true → (∃ t ∈ temps, 1600 ≤ t) →
          Does (.resetNRelease straps temps) s { s.toDev with inReset := false }) ∧
      (s.toDev.tripped = true → s.toDev.powerOn = false → (∀ t ∈ temps, t < 1600) → Does (.resetNRelease straps temps) s
        (({ s.toDev with tripped := false } : Dev).emit (.pin 4 0 2) |>.startUp straps 4))) ∧
    (Writes s m .RESET_CTRL 0 1 → Does (.resetCtrlDeviceReset m) s
      { (s.passed m .RESET_CTRL 0 1).deviceReset with intReset := true }) ∧
    (s.toDev.intReset = true → s.toDev.inReset = false → Does (.internalResetEnd straps) s (s.toDev.startUp straps 3)) ∧
    (∀ rq role, Granted s rq 0x004 2 false role →
      Does (.sysReset rq 0) s
        (((s.sfiDue 0x004).answers rq 0x004 role (fun d => ({ d with resetReq := 1 }, .ok))).restartIfAsked 1))

/-! ## Register commands (R370 to R379) -/

/-- A write by address (R370, R371): what the gate lets through acts on the register the address names, what it does not
has no effect; an offset without a register only counts. GUARD_UNLOCK and RSQ registers are writes of their address. -/
def Obligations.RegisterCommands : Prop :=
  ∀ (s : State) (m : Fin 32) (addr : Nat) (w : Word) (be : Fin 16), s.live →
    (let a := addr % 2 ^ 24 / 4 * 4
     let u := s.toDev.turn (fun d => d.addrPlace m addr w.toNat (ownPlace addr (untied (addrBlock addr) (8 + masterOrder m))))
     (regAt a = none → Does (.registerWrite m addr w be) s (u.unusedWrite m a)) ∧
     (∀ r i, regAt a = some (r, i) → regUnused r i = false →
       (∀ d v, u.gateBe m r i w.toNat be = (d, some v) → Does (.registerWrite m addr w be) s
         (if inBank 0x241000 a then (d.regEffect r i v).mirrorProf ((a - 0x241000) / 64) else d.regEffect r i v)) ∧
       (∀ d, u.gateBe m r i w.toNat be = (d, none) → Does (.registerWrite m addr w be) s d))) ∧
    (∀ slot : Fin 97, (blockAt slot).isSome = true →
      (let u := s.toDev.turn (fun d => d.regPlace m .GUARD_UNLOCK slot w.toNat)
       (u.gateReg m .GUARD_UNLOCK slot w.toNat).2 = none →
        Does (.guardUnlock m slot w) s (u.gateReg m .GUARD_UNLOCK slot w.toNat).1)) ∧
    (∀ r i, regAt addr = some (r, i) → (regInfo r).kind = .rsq → addr < 2 ^ 24 → addr % 4 = 0 →
      WritesAt s atClear m r i w.toNat → Does (.rsqClear m addr w) s ((s.passedAt atClear m r i w.toNat).rsqClear r i w.toNat)) ∧
    (let u := s.due (untied (addrBlock addr) 40)
     ∀ r i, regAt addr = some (r, i) → hasParity r i = true →
      (u.regWrote.contains addr = false → Does (.paritySweep addr none) s (u.parityRead r i) ∧
        Does (.paritySweep addr (some w)) s ((u.regUpset r i w.toNat).parityRead r i)) ∧
      (u.regWrote.contains addr = true → ∀ x, Does (.paritySweep addr x) s u)) ∧
    (let u := s.due atSfi
     (u.core0Up = true → Does (.shadowRestore false addr) s (u.regRestore addr) ∧
       Does (.shadowRestore true addr) s (u.placeRestore addr)) ∧
     (u.core0Up = false → ∀ t, Does (.shadowRestore t addr) s u))

/-! ## The block as a whole -/

/-- The command in front of the queue runs on the state with the queue's rest. -/
def Obligations.StepRunsCommand : Prop :=
  ∀ (c : Instr) (s : State) (rest : List Instr), step { s with pending := c :: rest } = exec c { s with pending := rest }

/-- With no command waiting one core cycle passes (the model's choice, log entry 1), and a stopped device waits; no word
of the opcode table spells a command. -/
def Obligations.StepWithoutCommand : Prop :=
  ∀ (s : State), s.pending = [] →
    (s.live → step s = .next (s.withDev s.toDev.coreCycle.domCycle)) ∧
    (¬ s.live → step s = .next s) ∧
    (∀ n w, s.withFetchWord n w = s)

/-- The order of a core cycle (R18, R19; how commands stand for its requests is the model's, log entry 1): pipe A first on even
cycles, pipe B on odd ones, the lower port first within a pipe, what a pipe carries before what none carries, then blocks
ascending; a command acts in the present cycle, or in the next where its place has passed, and each cycle counts one. -/
def Obligations.OrderOfACycle : Prop :=
  ∀ (d : Dev) (p q a b j k : Nat), p < 512 → q < 512 → j < 64 → k < 64 →
    (inPipe p = inPipe q → (d.rxPlace p < d.rxPlace q ↔ p < q)) ∧
    (inPipe p = 0 → inPipe q = 1 →
      (d.cycle % 2 = 0 → d.rxPlace p < d.rxPlace q) ∧ (d.cycle % 2 = 1 → d.rxPlace q < d.rxPlace p)) ∧
    (d.cycle % 2 = 0 → d.slotPlace 0 < d.slotPlace 1) ∧ (d.cycle % 2 = 1 → d.slotPlace 1 < d.slotPlace 0) ∧
    (∀ pipe, d.rxPlace p < d.slotPlace pipe ∧ d.slotPlace pipe < untied a j) ∧
    (a < b → untied a j < untied b k) ∧ (j < k → untied a j < untied a k) ∧
    d.nextCycle.cycle = d.cycle + 1 ∧
    (∀ (s : State) (x : Dev → Nat) (f : Dev → Dev), s.toDev = d → s.live →
      (d.place ≤ x d → s.actAt x f = .next (s.withDev (f { d with place := x d }))) ∧
      (x d < d.place → s.actAt x f = .next (s.withDev (f { d.nextCycle with place := x d.nextCycle }))))

/-- After reset (R301, R325, R418, R476, R479; what else State.reset holds is in the inventory): the device runs, nothing waits,
no firmware runs, no window, ring or session is open, nobody is frozen, no trip is held, the curtain is down, and every
performance counter is 0 but the two that count the record BOOK_START. -/
def Obligations.ResetState : Prop :=
  State.reset.live ∧ State.reset.pending = [] ∧ State.reset.QueueOk ∧ State.reset.toDev.tripped = false ∧
    State.reset.toDev.sfiUp = false ∧ State.reset.toDev.pst = 0 ∧ State.reset.toDev.pins7 = 0 ∧
    State.reset.toDev.curtain = none ∧ State.reset.toDev.reg .RESET_CAUSE = 1 ∧
    (∀ f a len w, State.reset.toDev.dmaOk f a len w = false) ∧
    (∀ m, State.reset.toDev.isFrozen m = false) ∧ (∀ c, State.reset.toDev.roleOf c = 0) ∧
    (∀ r, State.reset.toDev.on F.RING_CFG_EN r = false) ∧ (∀ k, k ≠ 0x280 → k ≠ 0x281 → State.reset.toDev.perf.get k = 0)

/-- No command is refused and none faults: each answers a next state with the queue as it was (one clause for every
command of the opcode table). -/
def Obligations.EveryCommandCompletes : Prop :=
  ∀ (c : Instr) (s : State), ∃ d, Does c s d

/-- A device held in reset or tripped (R468, R476) takes the commands of its always-on domain alone; of any other nothing
at all changes. -/
def Obligations.StoppedDeviceWaits : Prop :=
  ∀ (c : Instr) (s : State), ¬ s.live → alwaysOn c = false → exec c s = .next s

/-- A trip holds (R468): whatever waits in the queue, until a reset the device stays tripped and keeps all it holds but
LIFE_HOURS, which never goes back, however many steps it takes. -/
def Obligations.TripHolds : Prop :=
  ∀ (n : Nat) (s : State), s.toDev.tripped = true → (∀ c ∈ s.pending, resets c = false) →
    ∃ t a, run n s = some t ∧ t.pending = s.pending.drop n ∧ t.toDev = { s.toDev with lifeAcc := a } ∧ s.toDev.lifeAcc ≤ a

/-- Every queue is carried out: from any state, as many steps as commands wait answer next states, take every one of them in
order, and leave the queue empty. -/
def Obligations.QueueIsCarriedOut : Prop :=
  ∀ (s : State), ∃ t, run s.pending.length s = some t ∧ t.pending = [] ∧
    (∀ c rest, s.pending = c :: rest → ∃ d, Does c { s with pending := rest } d ∧
        run rest.length { toDev := d, pending := rest } = some t)

/-- Only legal commands wait: every step keeps it, whatever it takes. -/
def Obligations.QueueStaysLegal : Prop :=
  ∀ (s t : State), s.QueueOk → step s = .next t → t.QueueOk

/-! ## Rules over many commands -/

/-- How an SFI request is settled (R341, R351, R357): before the core that serves it runs its firmware it has no effect; refused, it
leaves the core's queue, is counted and answered, and nothing else is done for it; admitted while another request is the core's
next, it joins the core's queue; the order of R351's checks. -/
def Obligations.SfiSettling : Prop :=
  ∀ (c : Instr) (x : SfiCall) (s : State), sfiOf c = some x → s.live →
    (let d := s.sfiDue x.op
     let ch := x.rq.ch.val
     (d.served ch = false → Does c s d) ∧
     (∀ a, d.served ch = true → d.sfiRole x.rq x.op x.need x.key = .error a → Does c s
       (((d.sfiTake x.rq x.op).refuseReq ch x.need a).reply ch x.rq.tag x.op (d.sfiBack x.rq x.op).1 (d.sfiBack x.rq x.op).2 a)) ∧
     (∀ role, d.served ch = true → d.sfiRole x.rq x.op x.need x.key = .ok role → d.myTurn x.rq x.op = false →
       (d.request x.rq x.op = none → Does c s (d.enqueueReq (d.asReq x.rq x.op role))) ∧
       ((d.request x.rq x.op).isSome = true → Does c s d)) ∧
     (d.request x.rq x.op = none →
       (d.isFrozen (d.sender ch) = true → d.sfiRole x.rq x.op x.need x.key = .error .frozen) ∧
       (d.isFrozen (d.sender ch) = false → ch < 24 → x.op < 0xD00 →
         (d.roleOf ch < x.need → d.sfiRole x.rq x.op x.need x.key = .error .denied) ∧
         (x.need ≤ d.roleOf ch → x.key = false ∨ x.rq.key.toNat = unlockKey →
           (prioLimit (d.get F.MB_CFG_PRIO ch) ≤ d.coreQ (d.rxCore ch) →
             ∃ h, d.sfiRole x.rq x.op x.need x.key = .error (.busy 1 h)) ∧
           (d.coreQ (d.rxCore ch) < prioLimit (d.get F.MB_CFG_PRIO ch) →
             (8 ≤ d.inFlight ch → ∃ h, d.sfiRole x.rq x.op x.need x.key = .error (.busy 2 h)) ∧
             (d.inFlight ch < 8 → d.sfiRole x.rq x.op x.need x.key = .ok (d.roleOf ch)))))))

/-- The unlock key of SFI commands (R353): a command marked "with the unlock key" whose key is absent or wrong is DENIED, and
counted with the authentication failures. -/
def Obligations.UnlockKeyOfCommands : Prop :=
  ∀ (s : State) (rq : Sfi) (op : Nat), s.live → rq.key.toNat ≠ 0xC3A5 →
    (let d := s.sfiDue op
     d.served rq.ch = true → d.isFrozen (d.sender rq.ch) = false → rq.ch.val < 24 → 3 ≤ d.roleOf rq.ch →
         d.request rq op = none →
      (let denied := ((d.countAns .denied (d.roleOf rq.ch)).authFail rq.ch).reply rq.ch rq.tag op (d.chans.get rq.ch).epochS rq.ring
         .denied
       (∀ c x, sfiOf c = some x → x.rq = rq → x.key = true → x.op = op → op < 0xD00 → Does c s denied) ∧
       (op = 0x008 → ∀ now, Does (.fwActivate rq now) s (denied.restartIfAsked 2)))) ∧
    (∀ role, Granted s rq 0x004 2 false role → 3 ≤ role →
      (let d := (s.sfiDue 0x004).answers rq 0x004 role (fun d => (d.authFail rq.ch, .denied))
       Does (.sysReset rq 1) s (if d.resetReq = 2 then d.internalReset else d.restartIfAsked 1)))

/-- Replies (R348): TAG 0 is INVALID; a reply copies OPCODE and TAG, and its first word is the reply word. -/
def Obligations.Replies : Prop :=
  (∀ (a : Ans), a.st < 8 → a.cause < 32 → a.detail < 256 → a.hint < 65536 →
    bitsOf a.word 2 0 = a.st ∧ bitsOf a.word 7 3 = (if a.st = 1 then a.cause else 0) ∧ bitsOf a.word 15 8 = a.detail ∧
    bitsOf a.word 31 16 = (if a.st = 1 then a.hint else 0)) ∧
  (∀ (cause hint detail : Nat) (data : List Nat), Ans.ok.st = 0 ∧ (Ans.busy cause hint).st = 1 ∧ (Ans.invalid detail).st = 2 ∧
    Ans.denied.st = 3 ∧ (Ans.noResource detail).st = 4 ∧ (Ans.pending data).st = 5 ∧ Ans.frozen.st = 6 ∧
        Ans.unsupported.st = 7) ∧
  (∀ (d : Dev) (c op tag echo : Nat) (a : Ans), op < 4096 → tag < 256 → ∃ m : Msg,
    (let q := d.chans.get c
     let p := (d.reply c tag op echo false a).chans.get c
     p.rsp ++ p.wait = q.rsp ++ q.wait ++ [m]) ∧
    m.hdr % 4096 = op ∧ m.hdr / 65536 % 256 = tag ∧ m.words.head? = some a.word) ∧
  (∀ (c : Instr) (x : SfiCall) (s : State) (role : Nat), sfiOf c = some x → s.live → (s.sfiDue x.op).served x.rq.ch = true →
    (s.sfiDue x.op).sfiRole x.rq x.op x.need x.key = .ok role → (s.sfiDue x.op).myTurn x.rq x.op = true → x.rq.tag.val = 0 →
    Answers c s x.rq x.op role (fun d => (d, .invalid)))

/-- Event registers (R373): events set their flags and advance SEQ once in a core cycle; a clear takes effect only with the
present SEQ; at reset SEQ and flags are 0. -/
def Obligations.EventRegisters : Prop :=
  ∀ (d : Dev) (r : RegName) (i : Nat),
    (∀ bits, bits < 2 ^ 24 →
      (∀ k < 24, ((d.raiseBits r i bits).reg r i).testBit k = ((d.reg r i).testBit k || bits.testBit k)) ∧
      (d.evMark.get (regAddr r i) ≠ d.cycle + 1 → (d.raiseBits r i bits).reg r i / 2 ^ 24 = (d.reg r i / 2 ^ 24 + 1) % 256) ∧
      (d.evMark.get (regAddr r i) = d.cycle + 1 → (d.raiseBits r i bits).reg r i / 2 ^ 24 = d.reg r i / 2 ^ 24) ∧
      (d.raiseBits r i bits).evMark.get (regAddr r i) = d.cycle + 1) ∧
    (∀ w, (w / 2 ^ 24 % 256 = d.reg r i / 2 ^ 24 →
        (∀ k < 24, ((d.rsqClear r i w).reg r i).testBit k = ((d.reg r i).testBit k && !w.testBit k)) ∧
        (d.rsqClear r i w).reg r i / 2 ^ 24 = d.reg r i / 2 ^ 24) ∧
      (w / 2 ^ 24 % 256 ≠ d.reg r i / 2 ^ 24 → d.rsqClear r i w = d)) ∧
    ((regInfo r).kind = .rsq → State.reset.toDev.reg r i = 0)

/-- Reserved bits and encodings (R7, R8): a written word takes effect field by field; a field that is not software's, a field
given a reserved value and every bit that is no field's keeps what it held. `arrayWord` leaves out the bits that are reserved in one
element of an array alone, TB_STEP_2 [31:16] (R89), which so read 0. -/
def Obligations.ReservedFields : Prop :=
  ∀ (d : Dev) (r : RegName) (i : Nat) (w : Nat), w < 2 ^ 32 →
    (let v := arrayWord r i w
     ∀ f ∈ regFields r, bitsOf ((d.store r i w).reg r i) f.hi f.lo =
      if f.soft = true ∧ f.ok (bitsOf v f.hi f.lo) = true then bitsOf v f.hi f.lo else bitsOf (d.reg r i) f.hi f.lo) ∧
    (∀ k < 32, (∀ f ∈ regFields r, k < f.lo ∨ f.hi < k) → ((d.store r i w).reg r i).testBit k = (d.reg r i).testBit k) ∧
    (∀ r' i', regAddr r' i' ≠ regAddr r i → (d.store r i w).reg r' i' = d.reg r' i')

/-- The unlock state of a block (R371, R325): the key opens it for its master, any other write closes it, an RWK register takes
the write only while it is open, and no other master's state is touched. -/
def Obligations.UnlockStates : Prop :=
  ∀ (d : Dev) (m : Nat) (r : RegName) (i w be : Nat),
    (let e := (d.gateBe m r i w be).1
     let k := unlockSlot m r i
     (d.isFrozen m = true → d.gateBe m r i w be = (d, none)) ∧
     (∀ j, j ≠ k → e.unlock.get j = d.unlock.get j) ∧
     (d.isFrozen m = false →
       (r = .GUARD_UNLOCK → w = 0xC3A5 → be % 16 = 15 → d.writeKind m r i w = none → e.unlock.get k = true) ∧
       (r ≠ .GUARD_UNLOCK ∨ w ≠ 0xC3A5 ∨ be % 16 ≠ 15 → e.unlock.get k = false) ∧
       ((regInfo r).kind = .rwk → be % 16 = 15 → d.writeKind m r i w = none → r ≠ .GUARD_UNLOCK →
         (d.unlock.get k = true → (d.gateBe m r i w be).2 = some w) ∧
         (d.unlock.get k = false → (d.gateBe m r i w be).2 = none ∧ (m ≠ 24 → e.isFrozen m = true)))))

/-- A record (R20, R382, R383, R394): its event stamps and samples it at once and it joins the records of its core cycle, which are
written in ascending order of block and event, all with the first one's time; below RECORD_MIN_SEV it is counted in FILTERED and
takes no SEQ, another takes the next SEQ, modulo 2^32. -/
def Obligations.RecordTakesSeq : Prop :=
  ∀ (d : Dev),
    (∀ e : Evt, (d.record e).nextSeq = d.nextSeq ∧ (d.record e).book = d.book ∧
      ∃ x : Rec, (d.record e).evq = d.evq ++ [x] ∧ x.pt = d.pt ∧ x.code = e.code ∧ x.sev = e.sev ∧ x.held = false) ∧
    (∀ q : List Rec, (cycleRecs q).Pairwise (fun a b => a.code ≤ b.code) ∧ (cycleRecs q).length = q.length ∧
      (∀ r ∈ cycleRecs q, q.head?.map (fun x => x.pt) = some r.pt ∧ ∃ x ∈ q, r = { x with pt := r.pt })) ∧
    (∀ r : Rec, trigHits d r.code r.sev = [] →
      (r.sev < d.get F.BOOK_CFG_RECORD_MIN_SEV → (bookOne d r).nextSeq = d.nextSeq ∧
        (bookOne d r).book = d.book ∧ (bookOne d r).reg .FILTERED = satAdd (d.reg .FILTERED) 1) ∧
      (d.get F.BOOK_CFG_RECORD_MIN_SEV ≤ r.sev → d.curtain = none → d.on F.BOOK_STATUS_MODE_ACTIVE = false →
        d.book.length + 1 < d.bookCap → d.staged.length < 16384 → (bookOne d r).nextSeq = (d.nextSeq + 1) % 2 ^ 32 ∧
          (bookOne d r).book = insertRec d.book { r with seq := d.nextSeq }))

/-- A full book (R388): a free slot takes the record; else the oldest record of lower severity gives way, else a FATAL record
takes the place of the oldest FATAL, else the new record is dropped; each is counted. -/
def Obligations.FullBook : Prop :=
  ∀ (d : Dev) (r : Rec), r.sev < 8 → (∀ x ∈ d.book, x.sev < 8) → d.staged.length < 16384 →
    d.book.Pairwise (fun a b => seqAfter b.seq a.seq = true) →
    (let y := (storeRec d r).1
     (d.book.length < d.bookCap → (storeRec d r).2 = true ∧ y.book = insertRec d.book r) ∧
     (d.bookCap ≤ d.book.length →
       ((∃ x ∈ d.book, x.sev < r.sev) → ∃ x ∈ d.book, x.sev < r.sev ∧
         (∀ z ∈ d.book, z.sev < r.sev → z = x ∨ seqAfter z.seq x.seq = true) ∧ (storeRec d r).2 = true ∧
         y.book = insertRec (d.book.erase x) r ∧ y.reg .OVERWRITTEN x.sev = satAdd (d.reg .OVERWRITTEN x.sev) 1) ∧
       ((∀ x ∈ d.book, 7 ≤ x.sev) → r.sev = 7 → d.book ≠ [] → ∃ x ∈ d.book,
         (∀ z ∈ d.book, z = x ∨ seqAfter z.seq x.seq = true) ∧ (storeRec d r).2 = true ∧
         y.book = insertRec (d.book.erase x) r ∧ y.reg .OVERWRITTEN 7 = satAdd (d.reg .OVERWRITTEN 7) 1) ∧
       ((∀ x ∈ d.book, r.sev ≤ x.sev) → r.sev < 7 → (storeRec d r).2 = false ∧ y.book = d.book ∧
         y.reg .DROPPED r.sev = satAdd (d.reg .DROPPED r.sev) 1)))

/-- The claims (R414, with R411's parity and R415's gate): what each state drives, that two dies of different UNIT_ID never
drive the same, that without ARB_GO no claim is above 31, and that the seven pins have even parity. -/
def Obligations.Claims : Prop :=
  ∀ (d e : Dev),
    (let x := 2 * d.get F.PAIR_CFG_CLAIM_LEVEL + d.get F.PAIR_STATUS_UNIT_ID
     (d.pst = 0 → d.claimOf = 0) ∧ (d.pst = 1 ∨ d.pst = 2 ∨ d.pst = 3 → d.claimOf = x) ∧ (d.pst = 4 → d.claimOf = 16 + x) ∧
     (d.pst = 5 → d.claimOf = 32 + x) ∧ (d.pst = 6 → d.claimOf = 48 + x) ∧
     (1 ≤ d.get F.PAIR_CFG_CLAIM_LEVEL → 2 ≤ x ∧ x ≤ 15)) ∧
    (1 ≤ d.pst → d.pst ≤ 6 → 1 ≤ e.pst → e.pst ≤ 6 → d.get F.PAIR_STATUS_UNIT_ID ≠ e.get F.PAIR_STATUS_UNIT_ID →
      d.claimOf ≠ e.claimOf) ∧
    (d.arbGo = true → d.gatedPins % 64 = d.claimOf) ∧ (d.arbGo = false → d.gatedPins % 64 = d.claimOf % 32) ∧
    (((List.range 7).filter (fun k => d.gatedPins.testBit k)).length % 2 = 0) ∧ d.driveClaim.pins7 = d.gatedPins

/-- Commands that observe (but QUEUE_QUERY, which brings shapers up to date), and those of the Promptbook, the counters, the
monitors and the credentials, leave the fabric alone: no plate, table, stream, pool, queue, link, frame or base is changed by
them; it is as they found it, or, where their place in the core cycle has passed, as the cycle's end leaves it (log entry 1). -/
def Obligations.ObserversLeaveTheFabric : Prop :=
  ∀ (c : Instr) (s t : State), observes c = true → exec c s = .next t →
    (t.toDev.fabric = s.toDev.fabric ∨ t.toDev.fabric = s.toDev.nextCycle.fabric) ∧ t.pending = s.pending
end

