-- ==== Sys2Proof/Laws/Frame.lean ====
section
/-! SUPPORT. What the shared operations leave alone: events, records, counters, interrupts, replies and register writes'
gate do not touch the fabric. -/

namespace Sys2Proof.Laws

open Sys2Proof Sys2Proof.Machine

theorem upd_fabric (d : Dev) (c : CoreSt) (b : BookSt) (s : SfiSt) (h : HostSt) (f : FolioSt) (x : FlashSt) (p : PairSt) (w : PwrSt) :
    ({ d with toCoreSt := c, toBookSt := b, toSfiSt := s, toHostSt := h, toFolioSt := f, toFlashSt := x, toPairSt := p, toPwrSt := w } : Dev).fabric = d.fabric := rfl

@[simp] theorem setReg_fabric (d : Dev) (r : RegName) (i v : Nat) : (d.setReg r i v).fabric = d.fabric := rfl

@[simp] theorem set_fabric (d : Dev) (f : Fld) (i v : Nat) : (d.set f i v).fabric = d.fabric := rfl

@[simp] theorem setBit_fabric (d : Dev) (f : Fld) (i b : Nat) (v : Bool) : (d.setBit f i b v).fabric = d.fabric := by
  unfold Dev.setBit; simp

@[simp] theorem satCount_fabric (d : Dev) (r : RegName) (i n : Nat) : (d.satCount r i n).fabric = d.fabric := by
  unfold Dev.satCount; rw [setReg_fabric]

@[simp] theorem raiseBits_fabric (d : Dev) (r : RegName) (i b : Nat) : (d.raiseBits r i b).fabric = d.fabric := by
  unfold Dev.raiseBits; dsimp only; rw [setReg_fabric, upd_fabric]

@[simp] theorem raise_fabric (d : Dev) (f : Fld) (i b : Nat) : (d.raise f i b).fabric = d.fabric := by
  unfold Dev.raise; simp

@[simp] theorem emit_fabric (d : Dev) (e : OutEv) : (d.emit e).fabric = d.fabric := rfl

@[simp] theorem draw_fabric (d : Dev) (k : Nat) : (d.draw k).2.fabric = d.fabric := rfl

@[simp] theorem mark_fabric (d : Dev) (k n : Nat) : (d.mark k n).fabric = d.fabric := rfl

@[simp] theorem raiseFirst_fabric (d : Dev) (f : Fld) (i b n : Nat) : (d.raiseFirst f i b n).fabric = d.fabric := by
  unfold Dev.raiseFirst; dsimp only; split <;> simp

@[simp] theorem countQ_fabric (d : Dev) (s i n : Nat) (a : Attr) : (d.countQ s i n a).fabric = d.fabric := by
  unfold Dev.countQ; split
  · dsimp only; split
    · rfl
    · split
      · exact upd_fabric _ _ _ _ _ _ _ _ _
      · simp only [raise_fabric]; exact upd_fabric _ _ _ _ _ _ _ _ _
  · rfl

@[simp] theorem storeRec_fabric (d : Dev) (r : Rec) : (storeRec d r).1.fabric = d.fabric := by
  unfold storeRec; split
  · simp only [countQ_fabric]; exact upd_fabric _ _ _ _ _ _ _ _ _
  · dsimp only; split <;> simp only [raiseFirst_fabric, countQ_fabric, satCount_fabric]; exact upd_fabric _ _ _ _ _ _ _ _ _

@[simp] theorem takeSnap_fabric (d : Dev) : (takeSnap d).fabric = d.fabric := by
  unfold takeSnap; split
  · rfl
  · simp only [countQ_fabric, set_fabric, setReg_fabric]; exact upd_fabric _ _ _ _ _ _ _ _ _

@[simp] theorem ite_fabric (c : Prop) [Decidable c] (a b : Dev) : (if c then a else b).fabric = if c then a.fabric else b.fabric := by
  split <;> rfl

theorem dumpSkip_fabric (d : Dev) : (dumpSkip d).fabric = d.fabric := by
  unfold dumpSkip; rw [countQ_fabric, raise_fabric, satCount_fabric, upd_fabric]

theorem dumpBegin_fabric (d : Dev) : (dumpBegin d).fabric = d.fabric := by
  unfold dumpBegin; dsimp only; split
  · rw [takeSnap_fabric, setReg_fabric]
  · rw [setReg_fabric]

theorem dumpHold_fabric (d : Dev) (x : DumpRec) (c : Nat) : (dumpHold d x c).fabric = d.fabric := by
  unfold dumpHold; dsimp only; split
  · rw [countQ_fabric, countQ_fabric, set_fabric, upd_fabric]
  · rw [countQ_fabric, set_fabric, upd_fabric]

@[simp] theorem latchDump_fabric (d : Dev) (c o : Nat) : (latchDump d c o).1.fabric = d.fabric := by
  unfold latchDump; split
  · exact dumpSkip_fabric d
  · dsimp only; rw [dumpHold_fabric, dumpBegin_fabric]

@[simp] theorem recArgs_fabric (d : Dev) (e : Evt) : (recArgs d e).1.fabric = d.fabric := by
  unfold recArgs; split <;> simp

theorem foldl_fabric {α : Type} (f : Dev → α → Dev) (h : ∀ d a, (f d a).fabric = d.fabric) (l : List α) (d : Dev) :
    (l.foldl f d).fabric = d.fabric := by
  induction l generalizing d with
  | nil => rfl
  | cons a l ih => rw [List.foldl_cons, ih, h]

@[simp] theorem nvme_fabric (d : Dev) (n o a l : Nat) : (d.nvme n o a l).fabric = d.fabric := rfl

@[simp] theorem headerWrite_fabric (d : Dev) : d.headerWrite.fabric = d.fabric := by
  unfold Dev.headerWrite; rw [foldl_fabric _ (fun d n => nvme_fabric d _ _ _ _)]; rfl

@[simp] theorem openWin_fabric (d : Dev) (b t p q : Nat) : (openWin d b t p q).1.fabric = d.fabric := by
  unfold openWin; dsimp only; repeat' split
  all_goals simp only [raise_fabric, headerWrite_fabric]
  all_goals rfl

@[simp] theorem record_fabric (d : Dev) (e : Evt) : (d.record e).fabric = d.fabric := by
  unfold Dev.record; dsimp only; rw [upd_fabric, recArgs_fabric, countQ_fabric]; split <;> rfl

@[simp] theorem recordLim_fabric (d : Dev) (n : Nat) (e : Evt) : (d.recordLim n e).fabric = d.fabric := by
  unfold Dev.recordLim; simp

@[simp] theorem recordOnce_fabric (d : Dev) (n : Nat) (e : Evt) : (d.recordOnce n e).fabric = d.fabric := by
  unfold Dev.recordOnce; simp

@[simp] theorem count_fabric (d : Dev) (s i n : Nat) (a : Attr) : (d.count s i n a).fabric = d.fabric := by
  unfold Dev.count; simp only [ite_fabric, recordLim_fabric, countQ_fabric, ite_self]

@[simp] theorem writeRec_fabric (d : Dev) (r : Rec) : (writeRec d r).1.fabric = d.fabric := by
  have h : ∀ y : Dev, ({ y with wasFull := true } : Dev).fabric = y.fabric := fun _ => rfl
  unfold writeRec; dsimp only; split
  · split
    · rw [raise_fabric, storeRec_fabric]
    · rw [record_fabric, h, raise_fabric, storeRec_fabric]
  · exact storeRec_fabric d r

theorem fireTrig_fabric (r : Rec) (d : Dev) (k : Nat) : (fireTrig r d k).fabric = d.fabric := by
  have f : ∀ (l : List Evt) (d : Dev), (l.foldl Dev.record d).fabric = d.fabric := fun l d => foldl_fabric _ record_fabric l d
  unfold fireTrig
  simp only [ite_fabric, recordOnce_fabric, latchDump_fabric, f, openWin_fabric, countQ_fabric, satCount_fabric, ite_self]

theorem afterRec_fabric (r : Rec) (x : Dev × Bool) : (afterRec r x).fabric = x.1.fabric := by
  unfold afterRec; exact foldl_fabric _ (fun d k => fireTrig_fabric r d k) _ _

theorem withSeq_fabric (d : Dev) (r : Rec) (f : Dev → Rec → Dev × Bool) (h : ∀ d r, (f d r).1.fabric = d.fabric) :
    (withSeq d r f).1.fabric = d.fabric := by
  unfold withSeq; split
  · exact satCount_fabric d _ _ _
  · rw [h, upd_fabric]

theorem numbered_fabric (r : Rec) (d : Dev) : (r.numbered d).2.fabric = d.fabric := by
  unfold Rec.numbered; split <;> rfl

theorem bookAs_fabric (d : Dev) (r : Rec) (f : Dev → Rec → Dev × Bool) (h : ∀ d r, (f d r).1.fabric = d.fabric) :
    (bookAs d r f).fabric = d.fabric := by
  unfold bookAs; rw [afterRec_fabric, withSeq_fabric _ _ _ h, numbered_fabric]

@[simp] theorem bookPut_fabric (d : Dev) (r : Rec) : (bookPut d r).fabric = d.fabric := bookAs_fabric d r _ writeRec_fabric

@[simp] theorem recordNow_fabric (d : Dev) (e : Evt) : (d.recordNow e).fabric = d.fabric := by
  unfold Dev.recordNow; dsimp only; rw [bookPut_fabric, recArgs_fabric, countQ_fabric]

theorem liftRecs_fabric (d : Dev) (f : Dev → Dev) (c : Nat) (h : ∀ d, (f d).fabric = d.fabric) :
    (d.liftRecs f c).fabric = d.fabric := by
  unfold Dev.liftRecs; dsimp only
  rw [recordNow_fabric, h, foldl_fabric _ (fun d r => writeRec_fabric d r), upd_fabric]

theorem holdRec_fabric (d : Dev) (r : Rec) : (holdRec d r).1.fabric = d.fabric := by
  unfold holdRec; split
  · simp only [countQ_fabric]; exact upd_fabric _ _ _ _ _ _ _ _ _
  · simp only [countQ_fabric, raise_fabric, satCount_fabric]; exact upd_fabric _ _ _ _ _ _ _ _ _

@[simp] theorem bookOne_fabric (d : Dev) (r : Rec) : (bookOne d r).fabric = d.fabric := by
  unfold bookOne; split
  · exact bookPut_fabric d r
  · split
    · rw [liftRecs_fabric _ _ _ (fun d => bookPut_fabric d r), raise_fabric]
    · exact bookAs_fabric d r _ holdRec_fabric

/-- Writing the records of a cycle leaves the fabric alone. -/
@[simp] theorem writeEvents_fabric (d : Dev) : d.writeEvents.fabric = d.fabric := by
  unfold Dev.writeEvents; rw [foldl_fabric _ bookOne_fabric, upd_fabric]

@[simp] theorem lowerCurtain_fabric (d : Dev) (c : Nat) : (d.lowerCurtain c).fabric = d.fabric := by
  unfold Dev.lowerCurtain; dsimp only; split
  · exact writeEvents_fabric d
  · rw [liftRecs_fabric _ id _ (fun _ => rfl), writeEvents_fabric]

@[simp] theorem violate_fabric (d : Dev) (m k a x : Nat) : (d.violate m k a x).fabric = d.fabric := by
  unfold Dev.violate
  simp only [record_fabric, ite_fabric, setBit_fabric, raise_fabric, ite_self, upd_fabric, setReg_fabric]

@[simp] theorem dmaCheck_fabric (d : Dev) (f a l : Nat) (w : Bool) : (d.dmaCheck f a l w).1.fabric = d.fabric := by
  unfold Dev.dmaCheck; split
  · rfl
  · exact violate_fabric _ _ _ _ _

@[simp] theorem cqSettle_fabric (d : Dev) (k : Nat) : (d.cqSettle k).fabric = d.fabric := by
  unfold Dev.cqSettle; simp only [ite_fabric, recordLim_fabric, raiseFirst_fabric, set_fabric, ite_self]

@[simp] theorem cqReserve_fabric (d : Dev) (k : Nat) : (d.cqReserve k).fabric = d.fabric := by
  unfold Dev.cqReserve; rw [cqSettle_fabric, set_fabric]

@[simp] theorem cqInterrupt_fabric (d : Dev) (k : Nat) : (d.cqInterrupt k).fabric = d.fabric := by
  unfold Dev.cqInterrupt; rw [emit_fabric, upd_fabric]

@[simp] theorem complete_fabric (d : Dev) (s : Nat) (c : Compl) : (d.complete s c).fabric = d.fabric := rfl

@[simp] theorem chanInt_fabric (d : Dev) (c : Nat) : (d.chanInt c).fabric = d.fabric := by
  unfold Dev.chanInt; simp only [ite_fabric, emit_fabric, ite_self]

@[simp] theorem pushRsp_fabric (n : Nat) (d : Dev) (c : Nat) : (Dev.pushRsp n d c).fabric = d.fabric := by
  induction n generalizing d with
  | zero => rfl
  | succ n ih =>
    unfold Dev.pushRsp; dsimp only; split
    · rfl
    · simp only [ite_fabric, ih, count_fabric, chanInt_fabric, raise_fabric, upd_fabric, ite_self]

@[simp] theorem postRsp_fabric (d : Dev) (c op tag e : Nat) (w : List Nat) : (d.postRsp c op tag e w).fabric = d.fabric := by
  unfold Dev.postRsp; rw [pushRsp_fabric, upd_fabric]

@[simp] theorem notify_fabric (d : Dev) (c op : Nat) (w : List Nat) : (d.notify c op w).fabric = d.fabric := by
  unfold Dev.notify; rw [postRsp_fabric]

@[simp] theorem reply_fabric (d : Dev) (c tag op e : Nat) (r : Bool) (a : Ans) : (d.reply c tag op e r a).fabric = d.fabric := by
  unfold Dev.reply; split
  · rw [postRsp_fabric]
  · split
    · simp only [complete_fabric, ite_fabric, cqReserve_fabric, emit_fabric, ite_self]
      split <;> simp only [dmaCheck_fabric, upd_fabric]
    · rfl

@[simp] theorem authFail_fabric (d : Dev) (c : Nat) : (d.authFail c).fabric = d.fabric := by
  unfold Dev.authFail; simp only [ite_fabric, record_fabric, raise_fabric, upd_fabric, ite_self]

@[simp] theorem countAns_fabric (d : Dev) (a : Ans) (r : Nat) : (d.countAns a r).fabric = d.fabric := by
  unfold Dev.countAns; simp only [ite_fabric, count_fabric, ite_self]

@[simp] theorem loadShed_fabric (d : Dev) (n : Nat) : (d.loadShed n).fabric = d.fabric := by
  unfold Dev.loadShed; simp

@[simp] theorem refuseReq_fabric (d : Dev) (c n : Nat) (a : Ans) : (d.refuseReq c n a).fabric = d.fabric := by
  unfold Dev.refuseReq; simp only [ite_fabric, loadShed_fabric, authFail_fabric, countAns_fabric, ite_self]

@[simp] theorem sfiTake_fabric (d : Dev) (rq : Sfi) (op : Nat) : (d.sfiTake rq op).fabric = d.fabric := by
  unfold Dev.sfiTake; split <;> rfl

@[simp] theorem sfiStart_fabric (d : Dev) (rq : Sfi) (op : Nat) : (d.sfiStart rq op).fabric = d.fabric := by
  unfold Dev.sfiStart Dev.turnOver Dev.useSession; rw [upd_fabric, upd_fabric, sfiTake_fabric]

@[simp] theorem carry_fabric (d : Dev) (c op : Nat) (a : Ans) : (d.carry c op a).fabric = d.fabric := by
  unfold Dev.carry; simp only [ite_fabric, emit_fabric, ite_self]

@[simp] theorem enlist_fabric (d : Dev) (rq : Sfi) (op r : Nat) (b : Nat × Bool) (a : Ans) : (d.enlist rq op r b a).fabric = d.fabric := by
  unfold Dev.enlist; split <;> rfl

@[simp] theorem sfiDone_fabric (d : Dev) (rq : Sfi) (op r : Nat) (b : Nat × Bool) (a : Ans) : (d.sfiDone rq op r b a).fabric = d.fabric := by
  unfold Dev.sfiDone; simp only [ite_fabric, reply_fabric, enlist_fabric, carry_fabric, count_fabric, countAns_fabric, ite_self]

@[simp] theorem sfiAnswer_fabric (d : Dev) (rq : Sfi) (op r : Nat) (b : Nat × Bool) (a : Ans) : (d.sfiAnswer rq op r b a).fabric = d.fabric := by
  unfold Dev.sfiAnswer; simp only [ite_fabric, sfiDone_fabric, draw_fabric, ite_self]

theorem sfiRun_fabric (d : Dev) (rq : Sfi) (op n : Nat) (k : Bool) (f : Dev → Nat → Dev × Ans)
    (h : ∀ d r, (f d r).1.fabric = d.fabric) : (d.sfiRun rq op n k f).fabric = d.fabric := by
  unfold Dev.sfiRun; split
  · rfl
  · dsimp only; split
    · simp
    · split
      · split
        · rfl
        · unfold Dev.enqueueReq Dev.useSession; rw [upd_fabric]; rfl
      · simp only [sfiAnswer_fabric]; split <;> simp [h]

@[simp] theorem finishJob_fabric (d : Dev) (j : Job) (a : Ans) : (d.finishJob j a).fabric = d.fabric := by
  unfold Dev.finishJob; rw [reply_fabric, upd_fabric]

@[simp] theorem finishOp_fabric (d : Dev) (op : Nat) (a : Ans) : (d.finishOp op a).fabric = d.fabric := by
  unfold Dev.finishOp; exact foldl_fabric _ (fun d j => finishJob_fabric d j a) _ _

@[simp] theorem heard_fabric (d : Dev) (m : Nat) (r : RegName) (i : Nat) : (d.heard m r i).fabric = d.fabric := by
  unfold Dev.heard; dsimp only; rw [upd_fabric, count_fabric]

@[simp] theorem passed_fabric (d : Dev) (m : Nat) (r : RegName) (i : Nat) : (d.passed m r i).fabric = d.fabric := by
  unfold Dev.passed; simp only [ite_fabric, count_fabric, heard_fabric, ite_self]

theorem gateBe_fabric (d : Dev) (m : Nat) (r : RegName) (i w be : Nat) : (d.gateBe m r i w be).1.fabric = d.fabric := by
  unfold Dev.gateBe
  split
  · rfl
  · split
    · unfold Dev.partialWrite; simp only [recordLim_fabric, raise_fabric, count_fabric, heard_fabric]
    · split
      · simp only [violate_fabric, heard_fabric]
      · split
        · unfold Dev.keyWrite; simp only [ite_fabric, count_fabric, upd_fabric, heard_fabric, ite_self]
        · split
          · exact heard_fabric _ _ _ _
          · split
            · simp only [violate_fabric, count_fabric, heard_fabric]
            · exact passed_fabric _ _ _ _

theorem gated_fabric (d : Dev) (m : Nat) (r : RegName) (i w : Nat) (f : Dev → Nat → Dev) (h : ∀ d w, (f d w).fabric = d.fabric) :
    (d.gated m r i w f).fabric = d.fabric := by
  have g := gateBe_fabric d m r i w 15
  unfold Dev.gated Dev.gateReg
  split
  · rename_i e v he; rw [he] at g; rw [h]; exact g
  · rename_i e he; rw [he] at g; exact g

/-! ## Commands -/

theorem actAo_fabric {s t : State} {f : Dev → Dev} (h : s.actAo f = .next t) (hf : (f s.toDev).fabric = s.toDev.fabric) :
    t.toDev.fabric = s.toDev.fabric := by
  unfold State.actAo at h; cases h; exact hf

/-- A command finds the fabric as it was, or as the end of the core cycle leaves it. -/
def InCycle (s t : State) : Prop := t.toDev.fabric = s.toDev.fabric ∨ t.toDev.fabric = s.toDev.nextCycle.fabric

theorem turn_fabric (d : Dev) (p : Dev → Nat) : (d.turn p).fabric = d.fabric ∨ (d.turn p).fabric = d.nextCycle.fabric := by
  unfold Dev.turn; dsimp only; split
  · exact .inr rfl
  · exact .inl rfl

theorem act_fabric {s t : State} {p : Dev → Nat} {f : Dev → Dev} (h : s.actAt p f = .next t)
    (hf : ∀ d, (f d).fabric = d.fabric) : InCycle s t := by
  unfold State.actAt State.actAo at h; cases h; unfold InCycle; dsimp only; split
  · exact .inl rfl
  · rw [hf]; exact turn_fabric _ _

theorem sfi_fabric {s t : State} {rq : Sfi} {op n : Nat} {f : Dev → Nat → Dev × Ans} (h : s.sfi rq op n f = .next t)
    (hf : ∀ d r, (f d r).1.fabric = d.fabric) : InCycle s t :=
  act_fabric h (fun _ => sfiRun_fabric _ _ _ _ _ _ hf)

theorem sfiKey_fabric {s t : State} {rq : Sfi} {op n : Nat} {f : Dev → Nat → Dev × Ans} (h : s.sfiKey rq op n f = .next t)
    (hf : ∀ d r, (f d r).1.fabric = d.fabric) : InCycle s t :=
  act_fabric h (fun _ => sfiRun_fabric _ _ _ _ _ _ hf)

theorem write_fabric {s t : State} {p m : Nat} {r : RegName} {i w : Nat} {f : Dev → Nat → Dev} (h : s.writeAt p m r i w f = .next t)
    (hf : ∀ d w, (f d w).fabric = d.fabric) : InCycle s t :=
  act_fabric h (fun d => gated_fabric d m r i w f hf)

theorem okIf_fabric (c : Bool) (d d' : Dev) (h : d'.fabric = d.fabric) : (okIf c d d').1.fabric = d.fabric := by
  unfold okIf; split
  · exact h
  · rfl

@[simp] theorem cfg_fabric (d : Dev) (r : RegName) (i w : Nat) : (d.cfg r i w).fabric = d.fabric := by
  unfold Dev.cfg Dev.postShadow; simp only [ite_fabric, upd_fabric, setReg_fabric, ite_self]

end Sys2Proof.Laws
end

