-- ==== Sys2Proof/Laws/State.lean ====
section
/-! SUPPORT. What each primitive update leaves alone, a lemma a field, so that no later proof unfolds a record update. -/

namespace Sys2Proof.Laws

open Sys2Proof Sys2Proof.Machine

/-! ## setReg -/

@[simp] theorem setReg_cycle (d : Dev) (r : RegName) (i v : Nat) : (d.setReg r i v).cycle = d.cycle := rfl
@[simp] theorem setReg_place (d : Dev) (r : RegName) (i v : Nat) : (d.setReg r i v).place = d.place := rfl
@[simp] theorem setReg_evMark (d : Dev) (r : RegName) (i v : Nat) : (d.setReg r i v).evMark = d.evMark := rfl
@[simp] theorem setReg_unlock (d : Dev) (r : RegName) (i v : Nat) : (d.setReg r i v).unlock = d.unlock := rfl
@[simp] theorem setReg_marks (d : Dev) (r : RegName) (i v : Nat) : (d.setReg r i v).marks = d.marks := rfl
@[simp] theorem setReg_shadow (d : Dev) (r : RegName) (i v : Nat) : (d.setReg r i v).shadow = d.shadow := rfl
@[simp] theorem setReg_shadowLog (d : Dev) (r : RegName) (i v : Nat) : (d.setReg r i v).shadowLog = d.shadowLog := rfl
@[simp] theorem setReg_regWrote (d : Dev) (r : RegName) (i v : Nat) : (d.setReg r i v).regWrote = d.regWrote := rfl
@[simp] theorem setReg_shadowLost (d : Dev) (r : RegName) (i v : Nat) : (d.setReg r i v).shadowLost = d.shadowLost := rfl
@[simp] theorem setReg_perf (d : Dev) (r : RegName) (i v : Nat) : (d.setReg r i v).perf = d.perf := rfl
@[simp] theorem setReg_perfOvf (d : Dev) (r : RegName) (i v : Nat) : (d.setReg r i v).perfOvf = d.perfOvf := rfl
@[simp] theorem setReg_portStats (d : Dev) (r : RegName) (i v : Nat) : (d.setReg r i v).portStats = d.portStats := rfl
@[simp] theorem setReg_classStats (d : Dev) (r : RegName) (i v : Nat) : (d.setReg r i v).classStats = d.classStats := rfl
@[simp] theorem setReg_streamStats (d : Dev) (r : RegName) (i v : Nat) : (d.setReg r i v).streamStats = d.streamStats := rfl
@[simp] theorem setReg_dump (d : Dev) (r : RegName) (i v : Nat) : (d.setReg r i v).dump = d.dump := rfl
@[simp] theorem setReg_dumpMark (d : Dev) (r : RegName) (i v : Nat) : (d.setReg r i v).dumpMark = d.dumpMark := rfl
@[simp] theorem setReg_dumpPt (d : Dev) (r : RegName) (i v : Nat) : (d.setReg r i v).dumpPt = d.dumpPt := rfl
@[simp] theorem setReg_dumpSkips (d : Dev) (r : RegName) (i v : Nat) : (d.setReg r i v).dumpSkips = d.dumpSkips := rfl
@[simp] theorem setReg_perfSnap (d : Dev) (r : RegName) (i v : Nat) : (d.setReg r i v).perfSnap = d.perfSnap := rfl
@[simp] theorem setReg_perfSnapOvf (d : Dev) (r : RegName) (i v : Nat) : (d.setReg r i v).perfSnapOvf = d.perfSnapOvf := rfl
@[simp] theorem setReg_out (d : Dev) (r : RegName) (i v : Nat) : (d.setReg r i v).out = d.out := rfl
@[simp] theorem setReg_freeCtr (d : Dev) (r : RegName) (i v : Nat) : (d.setReg r i v).freeCtr = d.freeCtr := rfl
@[simp] theorem setReg_toBookSt (d : Dev) (r : RegName) (i v : Nat) : (d.setReg r i v).toBookSt = d.toBookSt := rfl
@[simp] theorem setReg_toSfiSt (d : Dev) (r : RegName) (i v : Nat) : (d.setReg r i v).toSfiSt = d.toSfiSt := rfl
@[simp] theorem setReg_toHostSt (d : Dev) (r : RegName) (i v : Nat) : (d.setReg r i v).toHostSt = d.toHostSt := rfl
@[simp] theorem setReg_toStageSt (d : Dev) (r : RegName) (i v : Nat) : (d.setReg r i v).toStageSt = d.toStageSt := rfl
@[simp] theorem setReg_toFolioSt (d : Dev) (r : RegName) (i v : Nat) : (d.setReg r i v).toFolioSt = d.toFolioSt := rfl
@[simp] theorem setReg_toTimeSt (d : Dev) (r : RegName) (i v : Nat) : (d.setReg r i v).toTimeSt = d.toTimeSt := rfl
@[simp] theorem setReg_toLinkSt (d : Dev) (r : RegName) (i v : Nat) : (d.setReg r i v).toLinkSt = d.toLinkSt := rfl
@[simp] theorem setReg_toFrameSt (d : Dev) (r : RegName) (i v : Nat) : (d.setReg r i v).toFrameSt = d.toFrameSt := rfl
@[simp] theorem setReg_toPlateSt (d : Dev) (r : RegName) (i v : Nat) : (d.setReg r i v).toPlateSt = d.toPlateSt := rfl
@[simp] theorem setReg_toFdbSt (d : Dev) (r : RegName) (i v : Nat) : (d.setReg r i v).toFdbSt = d.toFdbSt := rfl
@[simp] theorem setReg_toStreamSt (d : Dev) (r : RegName) (i v : Nat) : (d.setReg r i v).toStreamSt = d.toStreamSt := rfl
@[simp] theorem setReg_toBpmSt (d : Dev) (r : RegName) (i v : Nat) : (d.setReg r i v).toBpmSt = d.toBpmSt := rfl
@[simp] theorem setReg_toTmSt (d : Dev) (r : RegName) (i v : Nat) : (d.setReg r i v).toTmSt = d.toTmSt := rfl
@[simp] theorem setReg_toFlashSt (d : Dev) (r : RegName) (i v : Nat) : (d.setReg r i v).toFlashSt = d.toFlashSt := rfl
@[simp] theorem setReg_toPairSt (d : Dev) (r : RegName) (i v : Nat) : (d.setReg r i v).toPairSt = d.toPairSt := rfl
@[simp] theorem setReg_toDomSt (d : Dev) (r : RegName) (i v : Nat) : (d.setReg r i v).toDomSt = d.toDomSt := rfl
@[simp] theorem setReg_toPwrSt (d : Dev) (r : RegName) (i v : Nat) : (d.setReg r i v).toPwrSt = d.toPwrSt := rfl

/-! ## set -/

@[simp] theorem set_cycle (d : Dev) (f : Fld) (i v : Nat) : (d.set f i v).cycle = d.cycle := setReg_cycle _ _ _ _
@[simp] theorem set_place (d : Dev) (f : Fld) (i v : Nat) : (d.set f i v).place = d.place := setReg_place _ _ _ _
@[simp] theorem set_evMark (d : Dev) (f : Fld) (i v : Nat) : (d.set f i v).evMark = d.evMark := setReg_evMark _ _ _ _
@[simp] theorem set_unlock (d : Dev) (f : Fld) (i v : Nat) : (d.set f i v).unlock = d.unlock := setReg_unlock _ _ _ _
@[simp] theorem set_marks (d : Dev) (f : Fld) (i v : Nat) : (d.set f i v).marks = d.marks := setReg_marks _ _ _ _
@[simp] theorem set_shadow (d : Dev) (f : Fld) (i v : Nat) : (d.set f i v).shadow = d.shadow := setReg_shadow _ _ _ _
@[simp] theorem set_shadowLog (d : Dev) (f : Fld) (i v : Nat) : (d.set f i v).shadowLog = d.shadowLog := setReg_shadowLog _ _ _ _
@[simp] theorem set_regWrote (d : Dev) (f : Fld) (i v : Nat) : (d.set f i v).regWrote = d.regWrote := setReg_regWrote _ _ _ _
@[simp] theorem set_shadowLost (d : Dev) (f : Fld) (i v : Nat) : (d.set f i v).shadowLost = d.shadowLost := setReg_shadowLost _ _ _ _
@[simp] theorem set_perf (d : Dev) (f : Fld) (i v : Nat) : (d.set f i v).perf = d.perf := setReg_perf _ _ _ _
@[simp] theorem set_perfOvf (d : Dev) (f : Fld) (i v : Nat) : (d.set f i v).perfOvf = d.perfOvf := setReg_perfOvf _ _ _ _
@[simp] theorem set_portStats (d : Dev) (f : Fld) (i v : Nat) : (d.set f i v).portStats = d.portStats := setReg_portStats _ _ _ _
@[simp] theorem set_classStats (d : Dev) (f : Fld) (i v : Nat) : (d.set f i v).classStats = d.classStats := setReg_classStats _ _ _ _
@[simp] theorem set_streamStats (d : Dev) (f : Fld) (i v : Nat) : (d.set f i v).streamStats = d.streamStats := setReg_streamStats _ _ _ _
@[simp] theorem set_dump (d : Dev) (f : Fld) (i v : Nat) : (d.set f i v).dump = d.dump := setReg_dump _ _ _ _
@[simp] theorem set_dumpMark (d : Dev) (f : Fld) (i v : Nat) : (d.set f i v).dumpMark = d.dumpMark := setReg_dumpMark _ _ _ _
@[simp] theorem set_dumpPt (d : Dev) (f : Fld) (i v : Nat) : (d.set f i v).dumpPt = d.dumpPt := setReg_dumpPt _ _ _ _
@[simp] theorem set_dumpSkips (d : Dev) (f : Fld) (i v : Nat) : (d.set f i v).dumpSkips = d.dumpSkips := setReg_dumpSkips _ _ _ _
@[simp] theorem set_perfSnap (d : Dev) (f : Fld) (i v : Nat) : (d.set f i v).perfSnap = d.perfSnap := setReg_perfSnap _ _ _ _
@[simp] theorem set_perfSnapOvf (d : Dev) (f : Fld) (i v : Nat) : (d.set f i v).perfSnapOvf = d.perfSnapOvf := setReg_perfSnapOvf _ _ _ _
@[simp] theorem set_out (d : Dev) (f : Fld) (i v : Nat) : (d.set f i v).out = d.out := setReg_out _ _ _ _
@[simp] theorem set_freeCtr (d : Dev) (f : Fld) (i v : Nat) : (d.set f i v).freeCtr = d.freeCtr := setReg_freeCtr _ _ _ _
@[simp] theorem set_toBookSt (d : Dev) (f : Fld) (i v : Nat) : (d.set f i v).toBookSt = d.toBookSt := setReg_toBookSt _ _ _ _
@[simp] theorem set_toSfiSt (d : Dev) (f : Fld) (i v : Nat) : (d.set f i v).toSfiSt = d.toSfiSt := setReg_toSfiSt _ _ _ _
@[simp] theorem set_toHostSt (d : Dev) (f : Fld) (i v : Nat) : (d.set f i v).toHostSt = d.toHostSt := setReg_toHostSt _ _ _ _
@[simp] theorem set_toStageSt (d : Dev) (f : Fld) (i v : Nat) : (d.set f i v).toStageSt = d.toStageSt := setReg_toStageSt _ _ _ _
@[simp] theorem set_toFolioSt (d : Dev) (f : Fld) (i v : Nat) : (d.set f i v).toFolioSt = d.toFolioSt := setReg_toFolioSt _ _ _ _
@[simp] theorem set_toTimeSt (d : Dev) (f : Fld) (i v : Nat) : (d.set f i v).toTimeSt = d.toTimeSt := setReg_toTimeSt _ _ _ _
@[simp] theorem set_toLinkSt (d : Dev) (f : Fld) (i v : Nat) : (d.set f i v).toLinkSt = d.toLinkSt := setReg_toLinkSt _ _ _ _
@[simp] theorem set_toFrameSt (d : Dev) (f : Fld) (i v : Nat) : (d.set f i v).toFrameSt = d.toFrameSt := setReg_toFrameSt _ _ _ _
@[simp] theorem set_toPlateSt (d : Dev) (f : Fld) (i v : Nat) : (d.set f i v).toPlateSt = d.toPlateSt := setReg_toPlateSt _ _ _ _
@[simp] theorem set_toFdbSt (d : Dev) (f : Fld) (i v : Nat) : (d.set f i v).toFdbSt = d.toFdbSt := setReg_toFdbSt _ _ _ _
@[simp] theorem set_toStreamSt (d : Dev) (f : Fld) (i v : Nat) : (d.set f i v).toStreamSt = d.toStreamSt := setReg_toStreamSt _ _ _ _
@[simp] theorem set_toBpmSt (d : Dev) (f : Fld) (i v : Nat) : (d.set f i v).toBpmSt = d.toBpmSt := setReg_toBpmSt _ _ _ _
@[simp] theorem set_toTmSt (d : Dev) (f : Fld) (i v : Nat) : (d.set f i v).toTmSt = d.toTmSt := setReg_toTmSt _ _ _ _
@[simp] theorem set_toFlashSt (d : Dev) (f : Fld) (i v : Nat) : (d.set f i v).toFlashSt = d.toFlashSt := setReg_toFlashSt _ _ _ _
@[simp] theorem set_toPairSt (d : Dev) (f : Fld) (i v : Nat) : (d.set f i v).toPairSt = d.toPairSt := setReg_toPairSt _ _ _ _
@[simp] theorem set_toDomSt (d : Dev) (f : Fld) (i v : Nat) : (d.set f i v).toDomSt = d.toDomSt := setReg_toDomSt _ _ _ _
@[simp] theorem set_toPwrSt (d : Dev) (f : Fld) (i v : Nat) : (d.set f i v).toPwrSt = d.toPwrSt := setReg_toPwrSt _ _ _ _

/-! ## setBit -/

@[simp] theorem setBit_cycle (d : Dev) (f : Fld) (i b : Nat) (v : Bool) : (d.setBit f i b v).cycle = d.cycle := setReg_cycle _ _ _ _
@[simp] theorem setBit_place (d : Dev) (f : Fld) (i b : Nat) (v : Bool) : (d.setBit f i b v).place = d.place := setReg_place _ _ _ _
@[simp] theorem setBit_evMark (d : Dev) (f : Fld) (i b : Nat) (v : Bool) : (d.setBit f i b v).evMark = d.evMark := setReg_evMark _ _ _ _
@[simp] theorem setBit_unlock (d : Dev) (f : Fld) (i b : Nat) (v : Bool) : (d.setBit f i b v).unlock = d.unlock := setReg_unlock _ _ _ _
@[simp] theorem setBit_marks (d : Dev) (f : Fld) (i b : Nat) (v : Bool) : (d.setBit f i b v).marks = d.marks := setReg_marks _ _ _ _
@[simp] theorem setBit_shadow (d : Dev) (f : Fld) (i b : Nat) (v : Bool) : (d.setBit f i b v).shadow = d.shadow := setReg_shadow _ _ _ _
@[simp] theorem setBit_shadowLog (d : Dev) (f : Fld) (i b : Nat) (v : Bool) : (d.setBit f i b v).shadowLog = d.shadowLog := setReg_shadowLog _ _ _ _
@[simp] theorem setBit_regWrote (d : Dev) (f : Fld) (i b : Nat) (v : Bool) : (d.setBit f i b v).regWrote = d.regWrote := setReg_regWrote _ _ _ _
@[simp] theorem setBit_shadowLost (d : Dev) (f : Fld) (i b : Nat) (v : Bool) : (d.setBit f i b v).shadowLost = d.shadowLost := setReg_shadowLost _ _ _ _
@[simp] theorem setBit_perf (d : Dev) (f : Fld) (i b : Nat) (v : Bool) : (d.setBit f i b v).perf = d.perf := setReg_perf _ _ _ _
@[simp] theorem setBit_perfOvf (d : Dev) (f : Fld) (i b : Nat) (v : Bool) : (d.setBit f i b v).perfOvf = d.perfOvf := setReg_perfOvf _ _ _ _
@[simp] theorem setBit_portStats (d : Dev) (f : Fld) (i b : Nat) (v : Bool) : (d.setBit f i b v).portStats = d.portStats := setReg_portStats _ _ _ _
@[simp] theorem setBit_classStats (d : Dev) (f : Fld) (i b : Nat) (v : Bool) : (d.setBit f i b v).classStats = d.classStats := setReg_classStats _ _ _ _
@[simp] theorem setBit_streamStats (d : Dev) (f : Fld) (i b : Nat) (v : Bool) : (d.setBit f i b v).streamStats = d.streamStats := setReg_streamStats _ _ _ _
@[simp] theorem setBit_dump (d : Dev) (f : Fld) (i b : Nat) (v : Bool) : (d.setBit f i b v).dump = d.dump := setReg_dump _ _ _ _
@[simp] theorem setBit_dumpMark (d : Dev) (f : Fld) (i b : Nat) (v : Bool) : (d.setBit f i b v).dumpMark = d.dumpMark := setReg_dumpMark _ _ _ _
@[simp] theorem setBit_dumpPt (d : Dev) (f : Fld) (i b : Nat) (v : Bool) : (d.setBit f i b v).dumpPt = d.dumpPt := setReg_dumpPt _ _ _ _
@[simp] theorem setBit_dumpSkips (d : Dev) (f : Fld) (i b : Nat) (v : Bool) : (d.setBit f i b v).dumpSkips = d.dumpSkips := setReg_dumpSkips _ _ _ _
@[simp] theorem setBit_perfSnap (d : Dev) (f : Fld) (i b : Nat) (v : Bool) : (d.setBit f i b v).perfSnap = d.perfSnap := setReg_perfSnap _ _ _ _
@[simp] theorem setBit_perfSnapOvf (d : Dev) (f : Fld) (i b : Nat) (v : Bool) : (d.setBit f i b v).perfSnapOvf = d.perfSnapOvf := setReg_perfSnapOvf _ _ _ _
@[simp] theorem setBit_out (d : Dev) (f : Fld) (i b : Nat) (v : Bool) : (d.setBit f i b v).out = d.out := setReg_out _ _ _ _
@[simp] theorem setBit_freeCtr (d : Dev) (f : Fld) (i b : Nat) (v : Bool) : (d.setBit f i b v).freeCtr = d.freeCtr := setReg_freeCtr _ _ _ _
@[simp] theorem setBit_toBookSt (d : Dev) (f : Fld) (i b : Nat) (v : Bool) : (d.setBit f i b v).toBookSt = d.toBookSt := setReg_toBookSt _ _ _ _
@[simp] theorem setBit_toSfiSt (d : Dev) (f : Fld) (i b : Nat) (v : Bool) : (d.setBit f i b v).toSfiSt = d.toSfiSt := setReg_toSfiSt _ _ _ _
@[simp] theorem setBit_toHostSt (d : Dev) (f : Fld) (i b : Nat) (v : Bool) : (d.setBit f i b v).toHostSt = d.toHostSt := setReg_toHostSt _ _ _ _
@[simp] theorem setBit_toStageSt (d : Dev) (f : Fld) (i b : Nat) (v : Bool) : (d.setBit f i b v).toStageSt = d.toStageSt := setReg_toStageSt _ _ _ _
@[simp] theorem setBit_toFolioSt (d : Dev) (f : Fld) (i b : Nat) (v : Bool) : (d.setBit f i b v).toFolioSt = d.toFolioSt := setReg_toFolioSt _ _ _ _
@[simp] theorem setBit_toTimeSt (d : Dev) (f : Fld) (i b : Nat) (v : Bool) : (d.setBit f i b v).toTimeSt = d.toTimeSt := setReg_toTimeSt _ _ _ _
@[simp] theorem setBit_toLinkSt (d : Dev) (f : Fld) (i b : Nat) (v : Bool) : (d.setBit f i b v).toLinkSt = d.toLinkSt := setReg_toLinkSt _ _ _ _
@[simp] theorem setBit_toFrameSt (d : Dev) (f : Fld) (i b : Nat) (v : Bool) : (d.setBit f i b v).toFrameSt = d.toFrameSt := setReg_toFrameSt _ _ _ _
@[simp] theorem setBit_toPlateSt (d : Dev) (f : Fld) (i b : Nat) (v : Bool) : (d.setBit f i b v).toPlateSt = d.toPlateSt := setReg_toPlateSt _ _ _ _
@[simp] theorem setBit_toFdbSt (d : Dev) (f : Fld) (i b : Nat) (v : Bool) : (d.setBit f i b v).toFdbSt = d.toFdbSt := setReg_toFdbSt _ _ _ _
@[simp] theorem setBit_toStreamSt (d : Dev) (f : Fld) (i b : Nat) (v : Bool) : (d.setBit f i b v).toStreamSt = d.toStreamSt := setReg_toStreamSt _ _ _ _
@[simp] theorem setBit_toBpmSt (d : Dev) (f : Fld) (i b : Nat) (v : Bool) : (d.setBit f i b v).toBpmSt = d.toBpmSt := setReg_toBpmSt _ _ _ _
@[simp] theorem setBit_toTmSt (d : Dev) (f : Fld) (i b : Nat) (v : Bool) : (d.setBit f i b v).toTmSt = d.toTmSt := setReg_toTmSt _ _ _ _
@[simp] theorem setBit_toFlashSt (d : Dev) (f : Fld) (i b : Nat) (v : Bool) : (d.setBit f i b v).toFlashSt = d.toFlashSt := setReg_toFlashSt _ _ _ _
@[simp] theorem setBit_toPairSt (d : Dev) (f : Fld) (i b : Nat) (v : Bool) : (d.setBit f i b v).toPairSt = d.toPairSt := setReg_toPairSt _ _ _ _
@[simp] theorem setBit_toDomSt (d : Dev) (f : Fld) (i b : Nat) (v : Bool) : (d.setBit f i b v).toDomSt = d.toDomSt := setReg_toDomSt _ _ _ _
@[simp] theorem setBit_toPwrSt (d : Dev) (f : Fld) (i b : Nat) (v : Bool) : (d.setBit f i b v).toPwrSt = d.toPwrSt := setReg_toPwrSt _ _ _ _

/-! ## satCount -/

@[simp] theorem satCount_cycle (d : Dev) (r : RegName) (i n : Nat) : (d.satCount r i n).cycle = d.cycle := setReg_cycle _ _ _ _
@[simp] theorem satCount_place (d : Dev) (r : RegName) (i n : Nat) : (d.satCount r i n).place = d.place := setReg_place _ _ _ _
@[simp] theorem satCount_evMark (d : Dev) (r : RegName) (i n : Nat) : (d.satCount r i n).evMark = d.evMark := setReg_evMark _ _ _ _
@[simp] theorem satCount_unlock (d : Dev) (r : RegName) (i n : Nat) : (d.satCount r i n).unlock = d.unlock := setReg_unlock _ _ _ _
@[simp] theorem satCount_marks (d : Dev) (r : RegName) (i n : Nat) : (d.satCount r i n).marks = d.marks := setReg_marks _ _ _ _
@[simp] theorem satCount_shadow (d : Dev) (r : RegName) (i n : Nat) : (d.satCount r i n).shadow = d.shadow := setReg_shadow _ _ _ _
@[simp] theorem satCount_shadowLog (d : Dev) (r : RegName) (i n : Nat) : (d.satCount r i n).shadowLog = d.shadowLog := setReg_shadowLog _ _ _ _
@[simp] theorem satCount_regWrote (d : Dev) (r : RegName) (i n : Nat) : (d.satCount r i n).regWrote = d.regWrote := setReg_regWrote _ _ _ _
@[simp] theorem satCount_shadowLost (d : Dev) (r : RegName) (i n : Nat) : (d.satCount r i n).shadowLost = d.shadowLost := setReg_shadowLost _ _ _ _
@[simp] theorem satCount_perf (d : Dev) (r : RegName) (i n : Nat) : (d.satCount r i n).perf = d.perf := setReg_perf _ _ _ _
@[simp] theorem satCount_perfOvf (d : Dev) (r : RegName) (i n : Nat) : (d.satCount r i n).perfOvf = d.perfOvf := setReg_perfOvf _ _ _ _
@[simp] theorem satCount_portStats (d : Dev) (r : RegName) (i n : Nat) : (d.satCount r i n).portStats = d.portStats := setReg_portStats _ _ _ _
@[simp] theorem satCount_classStats (d : Dev) (r : RegName) (i n : Nat) : (d.satCount r i n).classStats = d.classStats := setReg_classStats _ _ _ _
@[simp] theorem satCount_streamStats (d : Dev) (r : RegName) (i n : Nat) : (d.satCount r i n).streamStats = d.streamStats := setReg_streamStats _ _ _ _
@[simp] theorem satCount_dump (d : Dev) (r : RegName) (i n : Nat) : (d.satCount r i n).dump = d.dump := setReg_dump _ _ _ _
@[simp] theorem satCount_dumpMark (d : Dev) (r : RegName) (i n : Nat) : (d.satCount r i n).dumpMark = d.dumpMark := setReg_dumpMark _ _ _ _
@[simp] theorem satCount_dumpPt (d : Dev) (r : RegName) (i n : Nat) : (d.satCount r i n).dumpPt = d.dumpPt := setReg_dumpPt _ _ _ _
@[simp] theorem satCount_dumpSkips (d : Dev) (r : RegName) (i n : Nat) : (d.satCount r i n).dumpSkips = d.dumpSkips := setReg_dumpSkips _ _ _ _
@[simp] theorem satCount_perfSnap (d : Dev) (r : RegName) (i n : Nat) : (d.satCount r i n).perfSnap = d.perfSnap := setReg_perfSnap _ _ _ _
@[simp] theorem satCount_perfSnapOvf (d : Dev) (r : RegName) (i n : Nat) : (d.satCount r i n).perfSnapOvf = d.perfSnapOvf := setReg_perfSnapOvf _ _ _ _
@[simp] theorem satCount_out (d : Dev) (r : RegName) (i n : Nat) : (d.satCount r i n).out = d.out := setReg_out _ _ _ _
@[simp] theorem satCount_freeCtr (d : Dev) (r : RegName) (i n : Nat) : (d.satCount r i n).freeCtr = d.freeCtr := setReg_freeCtr _ _ _ _
@[simp] theorem satCount_toBookSt (d : Dev) (r : RegName) (i n : Nat) : (d.satCount r i n).toBookSt = d.toBookSt := setReg_toBookSt _ _ _ _
@[simp] theorem satCount_toSfiSt (d : Dev) (r : RegName) (i n : Nat) : (d.satCount r i n).toSfiSt = d.toSfiSt := setReg_toSfiSt _ _ _ _
@[simp] theorem satCount_toHostSt (d : Dev) (r : RegName) (i n : Nat) : (d.satCount r i n).toHostSt = d.toHostSt := setReg_toHostSt _ _ _ _
@[simp] theorem satCount_toStageSt (d : Dev) (r : RegName) (i n : Nat) : (d.satCount r i n).toStageSt = d.toStageSt := setReg_toStageSt _ _ _ _
@[simp] theorem satCount_toFolioSt (d : Dev) (r : RegName) (i n : Nat) : (d.satCount r i n).toFolioSt = d.toFolioSt := setReg_toFolioSt _ _ _ _
@[simp] theorem satCount_toTimeSt (d : Dev) (r : RegName) (i n : Nat) : (d.satCount r i n).toTimeSt = d.toTimeSt := setReg_toTimeSt _ _ _ _
@[simp] theorem satCount_toLinkSt (d : Dev) (r : RegName) (i n : Nat) : (d.satCount r i n).toLinkSt = d.toLinkSt := setReg_toLinkSt _ _ _ _
@[simp] theorem satCount_toFrameSt (d : Dev) (r : RegName) (i n : Nat) : (d.satCount r i n).toFrameSt = d.toFrameSt := setReg_toFrameSt _ _ _ _
@[simp] theorem satCount_toPlateSt (d : Dev) (r : RegName) (i n : Nat) : (d.satCount r i n).toPlateSt = d.toPlateSt := setReg_toPlateSt _ _ _ _
@[simp] theorem satCount_toFdbSt (d : Dev) (r : RegName) (i n : Nat) : (d.satCount r i n).toFdbSt = d.toFdbSt := setReg_toFdbSt _ _ _ _
@[simp] theorem satCount_toStreamSt (d : Dev) (r : RegName) (i n : Nat) : (d.satCount r i n).toStreamSt = d.toStreamSt := setReg_toStreamSt _ _ _ _
@[simp] theorem satCount_toBpmSt (d : Dev) (r : RegName) (i n : Nat) : (d.satCount r i n).toBpmSt = d.toBpmSt := setReg_toBpmSt _ _ _ _
@[simp] theorem satCount_toTmSt (d : Dev) (r : RegName) (i n : Nat) : (d.satCount r i n).toTmSt = d.toTmSt := setReg_toTmSt _ _ _ _
@[simp] theorem satCount_toFlashSt (d : Dev) (r : RegName) (i n : Nat) : (d.satCount r i n).toFlashSt = d.toFlashSt := setReg_toFlashSt _ _ _ _
@[simp] theorem satCount_toPairSt (d : Dev) (r : RegName) (i n : Nat) : (d.satCount r i n).toPairSt = d.toPairSt := setReg_toPairSt _ _ _ _
@[simp] theorem satCount_toDomSt (d : Dev) (r : RegName) (i n : Nat) : (d.satCount r i n).toDomSt = d.toDomSt := setReg_toDomSt _ _ _ _
@[simp] theorem satCount_toPwrSt (d : Dev) (r : RegName) (i n : Nat) : (d.satCount r i n).toPwrSt = d.toPwrSt := setReg_toPwrSt _ _ _ _

/-! ## raiseBits -/

@[simp] theorem raiseBits_cycle (d : Dev) (r : RegName) (i b : Nat) : (d.raiseBits r i b).cycle = d.cycle := by
  unfold Dev.raiseBits; exact setReg_cycle _ _ _ _
@[simp] theorem raiseBits_place (d : Dev) (r : RegName) (i b : Nat) : (d.raiseBits r i b).place = d.place := by
  unfold Dev.raiseBits; exact setReg_place _ _ _ _
@[simp] theorem raiseBits_unlock (d : Dev) (r : RegName) (i b : Nat) : (d.raiseBits r i b).unlock = d.unlock := by
  unfold Dev.raiseBits; exact setReg_unlock _ _ _ _
@[simp] theorem raiseBits_marks (d : Dev) (r : RegName) (i b : Nat) : (d.raiseBits r i b).marks = d.marks := by
  unfold Dev.raiseBits; exact setReg_marks _ _ _ _
@[simp] theorem raiseBits_shadow (d : Dev) (r : RegName) (i b : Nat) : (d.raiseBits r i b).shadow = d.shadow := by
  unfold Dev.raiseBits; exact setReg_shadow _ _ _ _
@[simp] theorem raiseBits_shadowLog (d : Dev) (r : RegName) (i b : Nat) : (d.raiseBits r i b).shadowLog = d.shadowLog := by
  unfold Dev.raiseBits; exact setReg_shadowLog _ _ _ _
@[simp] theorem raiseBits_regWrote (d : Dev) (r : RegName) (i b : Nat) : (d.raiseBits r i b).regWrote = d.regWrote := by
  unfold Dev.raiseBits; exact setReg_regWrote _ _ _ _
@[simp] theorem raiseBits_shadowLost (d : Dev) (r : RegName) (i b : Nat) : (d.raiseBits r i b).shadowLost = d.shadowLost := by
  unfold Dev.raiseBits; exact setReg_shadowLost _ _ _ _
@[simp] theorem raiseBits_perf (d : Dev) (r : RegName) (i b : Nat) : (d.raiseBits r i b).perf = d.perf := by
  unfold Dev.raiseBits; exact setReg_perf _ _ _ _
@[simp] theorem raiseBits_perfOvf (d : Dev) (r : RegName) (i b : Nat) : (d.raiseBits r i b).perfOvf = d.perfOvf := by
  unfold Dev.raiseBits; exact setReg_perfOvf _ _ _ _
@[simp] theorem raiseBits_portStats (d : Dev) (r : RegName) (i b : Nat) : (d.raiseBits r i b).portStats = d.portStats := by
  unfold Dev.raiseBits; exact setReg_portStats _ _ _ _
@[simp] theorem raiseBits_classStats (d : Dev) (r : RegName) (i b : Nat) : (d.raiseBits r i b).classStats = d.classStats := by
  unfold Dev.raiseBits; exact setReg_classStats _ _ _ _
@[simp] theorem raiseBits_streamStats (d : Dev) (r : RegName) (i b : Nat) : (d.raiseBits r i b).streamStats = d.streamStats := by
  unfold Dev.raiseBits; exact setReg_streamStats _ _ _ _
@[simp] theorem raiseBits_dump (d : Dev) (r : RegName) (i b : Nat) : (d.raiseBits r i b).dump = d.dump := by
  unfold Dev.raiseBits; exact setReg_dump _ _ _ _
@[simp] theorem raiseBits_dumpMark (d : Dev) (r : RegName) (i b : Nat) : (d.raiseBits r i b).dumpMark = d.dumpMark := by
  unfold Dev.raiseBits; exact setReg_dumpMark _ _ _ _
@[simp] theorem raiseBits_dumpPt (d : Dev) (r : RegName) (i b : Nat) : (d.raiseBits r i b).dumpPt = d.dumpPt := by
  unfold Dev.raiseBits; exact setReg_dumpPt _ _ _ _
@[simp] theorem raiseBits_dumpSkips (d : Dev) (r : RegName) (i b : Nat) : (d.raiseBits r i b).dumpSkips = d.dumpSkips := by
  unfold Dev.raiseBits; exact setReg_dumpSkips _ _ _ _
@[simp] theorem raiseBits_perfSnap (d : Dev) (r : RegName) (i b : Nat) : (d.raiseBits r i b).perfSnap = d.perfSnap := by
  unfold Dev.raiseBits; exact setReg_perfSnap _ _ _ _
@[simp] theorem raiseBits_perfSnapOvf (d : Dev) (r : RegName) (i b : Nat) : (d.raiseBits r i b).perfSnapOvf = d.perfSnapOvf := by
  unfold Dev.raiseBits; exact setReg_perfSnapOvf _ _ _ _
@[simp] theorem raiseBits_out (d : Dev) (r : RegName) (i b : Nat) : (d.raiseBits r i b).out = d.out := by
  unfold Dev.raiseBits; exact setReg_out _ _ _ _
@[simp] theorem raiseBits_freeCtr (d : Dev) (r : RegName) (i b : Nat) : (d.raiseBits r i b).freeCtr = d.freeCtr := by
  unfold Dev.raiseBits; exact setReg_freeCtr _ _ _ _
@[simp] theorem raiseBits_toBookSt (d : Dev) (r : RegName) (i b : Nat) : (d.raiseBits r i b).toBookSt = d.toBookSt := by
  unfold Dev.raiseBits; exact setReg_toBookSt _ _ _ _
@[simp] theorem raiseBits_toSfiSt (d : Dev) (r : RegName) (i b : Nat) : (d.raiseBits r i b).toSfiSt = d.toSfiSt := by
  unfold Dev.raiseBits; exact setReg_toSfiSt _ _ _ _
@[simp] theorem raiseBits_toHostSt (d : Dev) (r : RegName) (i b : Nat) : (d.raiseBits r i b).toHostSt = d.toHostSt := by
  unfold Dev.raiseBits; exact setReg_toHostSt _ _ _ _
@[simp] theorem raiseBits_toStageSt (d : Dev) (r : RegName) (i b : Nat) : (d.raiseBits r i b).toStageSt = d.toStageSt := by
  unfold Dev.raiseBits; exact setReg_toStageSt _ _ _ _
@[simp] theorem raiseBits_toFolioSt (d : Dev) (r : RegName) (i b : Nat) : (d.raiseBits r i b).toFolioSt = d.toFolioSt := by
  unfold Dev.raiseBits; exact setReg_toFolioSt _ _ _ _
@[simp] theorem raiseBits_toTimeSt (d : Dev) (r : RegName) (i b : Nat) : (d.raiseBits r i b).toTimeSt = d.toTimeSt := by
  unfold Dev.raiseBits; exact setReg_toTimeSt _ _ _ _
@[simp] theorem raiseBits_toLinkSt (d : Dev) (r : RegName) (i b : Nat) : (d.raiseBits r i b).toLinkSt = d.toLinkSt := by
  unfold Dev.raiseBits; exact setReg_toLinkSt _ _ _ _
@[simp] theorem raiseBits_toFrameSt (d : Dev) (r : RegName) (i b : Nat) : (d.raiseBits r i b).toFrameSt = d.toFrameSt := by
  unfold Dev.raiseBits; exact setReg_toFrameSt _ _ _ _
@[simp] theorem raiseBits_toPlateSt (d : Dev) (r : RegName) (i b : Nat) : (d.raiseBits r i b).toPlateSt = d.toPlateSt := by
  unfold Dev.raiseBits; exact setReg_toPlateSt _ _ _ _
@[simp] theorem raiseBits_toFdbSt (d : Dev) (r : RegName) (i b : Nat) : (d.raiseBits r i b).toFdbSt = d.toFdbSt := by
  unfold Dev.raiseBits; exact setReg_toFdbSt _ _ _ _
@[simp] theorem raiseBits_toStreamSt (d : Dev) (r : RegName) (i b : Nat) : (d.raiseBits r i b).toStreamSt = d.toStreamSt := by
  unfold Dev.raiseBits; exact setReg_toStreamSt _ _ _ _
@[simp] theorem raiseBits_toBpmSt (d : Dev) (r : RegName) (i b : Nat) : (d.raiseBits r i b).toBpmSt = d.toBpmSt := by
  unfold Dev.raiseBits; exact setReg_toBpmSt _ _ _ _
@[simp] theorem raiseBits_toTmSt (d : Dev) (r : RegName) (i b : Nat) : (d.raiseBits r i b).toTmSt = d.toTmSt := by
  unfold Dev.raiseBits; exact setReg_toTmSt _ _ _ _
@[simp] theorem raiseBits_toFlashSt (d : Dev) (r : RegName) (i b : Nat) : (d.raiseBits r i b).toFlashSt = d.toFlashSt := by
  unfold Dev.raiseBits; exact setReg_toFlashSt _ _ _ _
@[simp] theorem raiseBits_toPairSt (d : Dev) (r : RegName) (i b : Nat) : (d.raiseBits r i b).toPairSt = d.toPairSt := by
  unfold Dev.raiseBits; exact setReg_toPairSt _ _ _ _
@[simp] theorem raiseBits_toDomSt (d : Dev) (r : RegName) (i b : Nat) : (d.raiseBits r i b).toDomSt = d.toDomSt := by
  unfold Dev.raiseBits; exact setReg_toDomSt _ _ _ _
@[simp] theorem raiseBits_toPwrSt (d : Dev) (r : RegName) (i b : Nat) : (d.raiseBits r i b).toPwrSt = d.toPwrSt := by
  unfold Dev.raiseBits; exact setReg_toPwrSt _ _ _ _

/-! ## raise -/

@[simp] theorem raise_cycle (d : Dev) (f : Fld) (i b : Nat) : (d.raise f i b).cycle = d.cycle := raiseBits_cycle _ _ _ _
@[simp] theorem raise_place (d : Dev) (f : Fld) (i b : Nat) : (d.raise f i b).place = d.place := raiseBits_place _ _ _ _
@[simp] theorem raise_unlock (d : Dev) (f : Fld) (i b : Nat) : (d.raise f i b).unlock = d.unlock := raiseBits_unlock _ _ _ _
@[simp] theorem raise_marks (d : Dev) (f : Fld) (i b : Nat) : (d.raise f i b).marks = d.marks := raiseBits_marks _ _ _ _
@[simp] theorem raise_shadow (d : Dev) (f : Fld) (i b : Nat) : (d.raise f i b).shadow = d.shadow := raiseBits_shadow _ _ _ _
@[simp] theorem raise_shadowLog (d : Dev) (f : Fld) (i b : Nat) : (d.raise f i b).shadowLog = d.shadowLog := raiseBits_shadowLog _ _ _ _
@[simp] theorem raise_regWrote (d : Dev) (f : Fld) (i b : Nat) : (d.raise f i b).regWrote = d.regWrote := raiseBits_regWrote _ _ _ _
@[simp] theorem raise_shadowLost (d : Dev) (f : Fld) (i b : Nat) : (d.raise f i b).shadowLost = d.shadowLost := raiseBits_shadowLost _ _ _ _
@[simp] theorem raise_perf (d : Dev) (f : Fld) (i b : Nat) : (d.raise f i b).perf = d.perf := raiseBits_perf _ _ _ _
@[simp] theorem raise_perfOvf (d : Dev) (f : Fld) (i b : Nat) : (d.raise f i b).perfOvf = d.perfOvf := raiseBits_perfOvf _ _ _ _
@[simp] theorem raise_portStats (d : Dev) (f : Fld) (i b : Nat) : (d.raise f i b).portStats = d.portStats := raiseBits_portStats _ _ _ _
@[simp] theorem raise_classStats (d : Dev) (f : Fld) (i b : Nat) : (d.raise f i b).classStats = d.classStats := raiseBits_classStats _ _ _ _
@[simp] theorem raise_streamStats (d : Dev) (f : Fld) (i b : Nat) : (d.raise f i b).streamStats = d.streamStats := raiseBits_streamStats _ _ _ _
@[simp] theorem raise_dump (d : Dev) (f : Fld) (i b : Nat) : (d.raise f i b).dump = d.dump := raiseBits_dump _ _ _ _
@[simp] theorem raise_dumpMark (d : Dev) (f : Fld) (i b : Nat) : (d.raise f i b).dumpMark = d.dumpMark := raiseBits_dumpMark _ _ _ _
@[simp] theorem raise_dumpPt (d : Dev) (f : Fld) (i b : Nat) : (d.raise f i b).dumpPt = d.dumpPt := raiseBits_dumpPt _ _ _ _
@[simp] theorem raise_dumpSkips (d : Dev) (f : Fld) (i b : Nat) : (d.raise f i b).dumpSkips = d.dumpSkips := raiseBits_dumpSkips _ _ _ _
@[simp] theorem raise_perfSnap (d : Dev) (f : Fld) (i b : Nat) : (d.raise f i b).perfSnap = d.perfSnap := raiseBits_perfSnap _ _ _ _
@[simp] theorem raise_perfSnapOvf (d : Dev) (f : Fld) (i b : Nat) : (d.raise f i b).perfSnapOvf = d.perfSnapOvf := raiseBits_perfSnapOvf _ _ _ _
@[simp] theorem raise_out (d : Dev) (f : Fld) (i b : Nat) : (d.raise f i b).out = d.out := raiseBits_out _ _ _ _
@[simp] theorem raise_freeCtr (d : Dev) (f : Fld) (i b : Nat) : (d.raise f i b).freeCtr = d.freeCtr := raiseBits_freeCtr _ _ _ _
@[simp] theorem raise_toBookSt (d : Dev) (f : Fld) (i b : Nat) : (d.raise f i b).toBookSt = d.toBookSt := raiseBits_toBookSt _ _ _ _
@[simp] theorem raise_toSfiSt (d : Dev) (f : Fld) (i b : Nat) : (d.raise f i b).toSfiSt = d.toSfiSt := raiseBits_toSfiSt _ _ _ _
@[simp] theorem raise_toHostSt (d : Dev) (f : Fld) (i b : Nat) : (d.raise f i b).toHostSt = d.toHostSt := raiseBits_toHostSt _ _ _ _
@[simp] theorem raise_toStageSt (d : Dev) (f : Fld) (i b : Nat) : (d.raise f i b).toStageSt = d.toStageSt := raiseBits_toStageSt _ _ _ _
@[simp] theorem raise_toFolioSt (d : Dev) (f : Fld) (i b : Nat) : (d.raise f i b).toFolioSt = d.toFolioSt := raiseBits_toFolioSt _ _ _ _
@[simp] theorem raise_toTimeSt (d : Dev) (f : Fld) (i b : Nat) : (d.raise f i b).toTimeSt = d.toTimeSt := raiseBits_toTimeSt _ _ _ _
@[simp] theorem raise_toLinkSt (d : Dev) (f : Fld) (i b : Nat) : (d.raise f i b).toLinkSt = d.toLinkSt := raiseBits_toLinkSt _ _ _ _
@[simp] theorem raise_toFrameSt (d : Dev) (f : Fld) (i b : Nat) : (d.raise f i b).toFrameSt = d.toFrameSt := raiseBits_toFrameSt _ _ _ _
@[simp] theorem raise_toPlateSt (d : Dev) (f : Fld) (i b : Nat) : (d.raise f i b).toPlateSt = d.toPlateSt := raiseBits_toPlateSt _ _ _ _
@[simp] theorem raise_toFdbSt (d : Dev) (f : Fld) (i b : Nat) : (d.raise f i b).toFdbSt = d.toFdbSt := raiseBits_toFdbSt _ _ _ _
@[simp] theorem raise_toStreamSt (d : Dev) (f : Fld) (i b : Nat) : (d.raise f i b).toStreamSt = d.toStreamSt := raiseBits_toStreamSt _ _ _ _
@[simp] theorem raise_toBpmSt (d : Dev) (f : Fld) (i b : Nat) : (d.raise f i b).toBpmSt = d.toBpmSt := raiseBits_toBpmSt _ _ _ _
@[simp] theorem raise_toTmSt (d : Dev) (f : Fld) (i b : Nat) : (d.raise f i b).toTmSt = d.toTmSt := raiseBits_toTmSt _ _ _ _
@[simp] theorem raise_toFlashSt (d : Dev) (f : Fld) (i b : Nat) : (d.raise f i b).toFlashSt = d.toFlashSt := raiseBits_toFlashSt _ _ _ _
@[simp] theorem raise_toPairSt (d : Dev) (f : Fld) (i b : Nat) : (d.raise f i b).toPairSt = d.toPairSt := raiseBits_toPairSt _ _ _ _
@[simp] theorem raise_toDomSt (d : Dev) (f : Fld) (i b : Nat) : (d.raise f i b).toDomSt = d.toDomSt := raiseBits_toDomSt _ _ _ _
@[simp] theorem raise_toPwrSt (d : Dev) (f : Fld) (i b : Nat) : (d.raise f i b).toPwrSt = d.toPwrSt := raiseBits_toPwrSt _ _ _ _

/-! ## emit -/

@[simp] theorem emit_cycle (d : Dev) (e : OutEv) : (d.emit e).cycle = d.cycle := rfl
@[simp] theorem emit_place (d : Dev) (e : OutEv) : (d.emit e).place = d.place := rfl
@[simp] theorem emit_regs (d : Dev) (e : OutEv) : (d.emit e).regs = d.regs := rfl
@[simp] theorem emit_evMark (d : Dev) (e : OutEv) : (d.emit e).evMark = d.evMark := rfl
@[simp] theorem emit_unlock (d : Dev) (e : OutEv) : (d.emit e).unlock = d.unlock := rfl
@[simp] theorem emit_marks (d : Dev) (e : OutEv) : (d.emit e).marks = d.marks := rfl
@[simp] theorem emit_shadow (d : Dev) (e : OutEv) : (d.emit e).shadow = d.shadow := rfl
@[simp] theorem emit_shadowLog (d : Dev) (e : OutEv) : (d.emit e).shadowLog = d.shadowLog := rfl
@[simp] theorem emit_regWrote (d : Dev) (e : OutEv) : (d.emit e).regWrote = d.regWrote := rfl
@[simp] theorem emit_shadowLost (d : Dev) (e : OutEv) : (d.emit e).shadowLost = d.shadowLost := rfl
@[simp] theorem emit_perf (d : Dev) (e : OutEv) : (d.emit e).perf = d.perf := rfl
@[simp] theorem emit_perfOvf (d : Dev) (e : OutEv) : (d.emit e).perfOvf = d.perfOvf := rfl
@[simp] theorem emit_portStats (d : Dev) (e : OutEv) : (d.emit e).portStats = d.portStats := rfl
@[simp] theorem emit_classStats (d : Dev) (e : OutEv) : (d.emit e).classStats = d.classStats := rfl
@[simp] theorem emit_streamStats (d : Dev) (e : OutEv) : (d.emit e).streamStats = d.streamStats := rfl
@[simp] theorem emit_dump (d : Dev) (e : OutEv) : (d.emit e).dump = d.dump := rfl
@[simp] theorem emit_dumpMark (d : Dev) (e : OutEv) : (d.emit e).dumpMark = d.dumpMark := rfl
@[simp] theorem emit_dumpPt (d : Dev) (e : OutEv) : (d.emit e).dumpPt = d.dumpPt := rfl
@[simp] theorem emit_dumpSkips (d : Dev) (e : OutEv) : (d.emit e).dumpSkips = d.dumpSkips := rfl
@[simp] theorem emit_perfSnap (d : Dev) (e : OutEv) : (d.emit e).perfSnap = d.perfSnap := rfl
@[simp] theorem emit_perfSnapOvf (d : Dev) (e : OutEv) : (d.emit e).perfSnapOvf = d.perfSnapOvf := rfl
@[simp] theorem emit_freeCtr (d : Dev) (e : OutEv) : (d.emit e).freeCtr = d.freeCtr := rfl
@[simp] theorem emit_toBookSt (d : Dev) (e : OutEv) : (d.emit e).toBookSt = d.toBookSt := rfl
@[simp] theorem emit_toSfiSt (d : Dev) (e : OutEv) : (d.emit e).toSfiSt = d.toSfiSt := rfl
@[simp] theorem emit_toHostSt (d : Dev) (e : OutEv) : (d.emit e).toHostSt = d.toHostSt := rfl
@[simp] theorem emit_toStageSt (d : Dev) (e : OutEv) : (d.emit e).toStageSt = d.toStageSt := rfl
@[simp] theorem emit_toFolioSt (d : Dev) (e : OutEv) : (d.emit e).toFolioSt = d.toFolioSt := rfl
@[simp] theorem emit_toTimeSt (d : Dev) (e : OutEv) : (d.emit e).toTimeSt = d.toTimeSt := rfl
@[simp] theorem emit_toLinkSt (d : Dev) (e : OutEv) : (d.emit e).toLinkSt = d.toLinkSt := rfl
@[simp] theorem emit_toFrameSt (d : Dev) (e : OutEv) : (d.emit e).toFrameSt = d.toFrameSt := rfl
@[simp] theorem emit_toPlateSt (d : Dev) (e : OutEv) : (d.emit e).toPlateSt = d.toPlateSt := rfl
@[simp] theorem emit_toFdbSt (d : Dev) (e : OutEv) : (d.emit e).toFdbSt = d.toFdbSt := rfl
@[simp] theorem emit_toStreamSt (d : Dev) (e : OutEv) : (d.emit e).toStreamSt = d.toStreamSt := rfl
@[simp] theorem emit_toBpmSt (d : Dev) (e : OutEv) : (d.emit e).toBpmSt = d.toBpmSt := rfl
@[simp] theorem emit_toTmSt (d : Dev) (e : OutEv) : (d.emit e).toTmSt = d.toTmSt := rfl
@[simp] theorem emit_toFlashSt (d : Dev) (e : OutEv) : (d.emit e).toFlashSt = d.toFlashSt := rfl
@[simp] theorem emit_toPairSt (d : Dev) (e : OutEv) : (d.emit e).toPairSt = d.toPairSt := rfl
@[simp] theorem emit_toDomSt (d : Dev) (e : OutEv) : (d.emit e).toDomSt = d.toDomSt := rfl
@[simp] theorem emit_toPwrSt (d : Dev) (e : OutEv) : (d.emit e).toPwrSt = d.toPwrSt := rfl

/-! ## draw -/

@[simp] theorem draw_cycle (d : Dev) (k : Nat) : ((d.draw k).2).cycle = d.cycle := rfl
@[simp] theorem draw_place (d : Dev) (k : Nat) : ((d.draw k).2).place = d.place := rfl
@[simp] theorem draw_regs (d : Dev) (k : Nat) : ((d.draw k).2).regs = d.regs := rfl
@[simp] theorem draw_evMark (d : Dev) (k : Nat) : ((d.draw k).2).evMark = d.evMark := rfl
@[simp] theorem draw_unlock (d : Dev) (k : Nat) : ((d.draw k).2).unlock = d.unlock := rfl
@[simp] theorem draw_marks (d : Dev) (k : Nat) : ((d.draw k).2).marks = d.marks := rfl
@[simp] theorem draw_shadow (d : Dev) (k : Nat) : ((d.draw k).2).shadow = d.shadow := rfl
@[simp] theorem draw_shadowLog (d : Dev) (k : Nat) : ((d.draw k).2).shadowLog = d.shadowLog := rfl
@[simp] theorem draw_regWrote (d : Dev) (k : Nat) : ((d.draw k).2).regWrote = d.regWrote := rfl
@[simp] theorem draw_shadowLost (d : Dev) (k : Nat) : ((d.draw k).2).shadowLost = d.shadowLost := rfl
@[simp] theorem draw_perf (d : Dev) (k : Nat) : ((d.draw k).2).perf = d.perf := rfl
@[simp] theorem draw_perfOvf (d : Dev) (k : Nat) : ((d.draw k).2).perfOvf = d.perfOvf := rfl
@[simp] theorem draw_portStats (d : Dev) (k : Nat) : ((d.draw k).2).portStats = d.portStats := rfl
@[simp] theorem draw_classStats (d : Dev) (k : Nat) : ((d.draw k).2).classStats = d.classStats := rfl
@[simp] theorem draw_streamStats (d : Dev) (k : Nat) : ((d.draw k).2).streamStats = d.streamStats := rfl
@[simp] theorem draw_dump (d : Dev) (k : Nat) : ((d.draw k).2).dump = d.dump := rfl
@[simp] theorem draw_dumpMark (d : Dev) (k : Nat) : ((d.draw k).2).dumpMark = d.dumpMark := rfl
@[simp] theorem draw_dumpPt (d : Dev) (k : Nat) : ((d.draw k).2).dumpPt = d.dumpPt := rfl
@[simp] theorem draw_dumpSkips (d : Dev) (k : Nat) : ((d.draw k).2).dumpSkips = d.dumpSkips := rfl
@[simp] theorem draw_perfSnap (d : Dev) (k : Nat) : ((d.draw k).2).perfSnap = d.perfSnap := rfl
@[simp] theorem draw_perfSnapOvf (d : Dev) (k : Nat) : ((d.draw k).2).perfSnapOvf = d.perfSnapOvf := rfl
@[simp] theorem draw_out (d : Dev) (k : Nat) : ((d.draw k).2).out = d.out := rfl
@[simp] theorem draw_toBookSt (d : Dev) (k : Nat) : ((d.draw k).2).toBookSt = d.toBookSt := rfl
@[simp] theorem draw_toSfiSt (d : Dev) (k : Nat) : ((d.draw k).2).toSfiSt = d.toSfiSt := rfl
@[simp] theorem draw_toHostSt (d : Dev) (k : Nat) : ((d.draw k).2).toHostSt = d.toHostSt := rfl
@[simp] theorem draw_toStageSt (d : Dev) (k : Nat) : ((d.draw k).2).toStageSt = d.toStageSt := rfl
@[simp] theorem draw_toFolioSt (d : Dev) (k : Nat) : ((d.draw k).2).toFolioSt = d.toFolioSt := rfl
@[simp] theorem draw_toTimeSt (d : Dev) (k : Nat) : ((d.draw k).2).toTimeSt = d.toTimeSt := rfl
@[simp] theorem draw_toLinkSt (d : Dev) (k : Nat) : ((d.draw k).2).toLinkSt = d.toLinkSt := rfl
@[simp] theorem draw_toFrameSt (d : Dev) (k : Nat) : ((d.draw k).2).toFrameSt = d.toFrameSt := rfl
@[simp] theorem draw_toPlateSt (d : Dev) (k : Nat) : ((d.draw k).2).toPlateSt = d.toPlateSt := rfl
@[simp] theorem draw_toFdbSt (d : Dev) (k : Nat) : ((d.draw k).2).toFdbSt = d.toFdbSt := rfl
@[simp] theorem draw_toStreamSt (d : Dev) (k : Nat) : ((d.draw k).2).toStreamSt = d.toStreamSt := rfl
@[simp] theorem draw_toBpmSt (d : Dev) (k : Nat) : ((d.draw k).2).toBpmSt = d.toBpmSt := rfl
@[simp] theorem draw_toTmSt (d : Dev) (k : Nat) : ((d.draw k).2).toTmSt = d.toTmSt := rfl
@[simp] theorem draw_toFlashSt (d : Dev) (k : Nat) : ((d.draw k).2).toFlashSt = d.toFlashSt := rfl
@[simp] theorem draw_toPairSt (d : Dev) (k : Nat) : ((d.draw k).2).toPairSt = d.toPairSt := rfl
@[simp] theorem draw_toDomSt (d : Dev) (k : Nat) : ((d.draw k).2).toDomSt = d.toDomSt := rfl
@[simp] theorem draw_toPwrSt (d : Dev) (k : Nat) : ((d.draw k).2).toPwrSt = d.toPwrSt := rfl

/-! ## mark -/

@[simp] theorem mark_cycle (d : Dev) (k n : Nat) : (d.mark k n).cycle = d.cycle := rfl
@[simp] theorem mark_place (d : Dev) (k n : Nat) : (d.mark k n).place = d.place := rfl
@[simp] theorem mark_regs (d : Dev) (k n : Nat) : (d.mark k n).regs = d.regs := rfl
@[simp] theorem mark_evMark (d : Dev) (k n : Nat) : (d.mark k n).evMark = d.evMark := rfl
@[simp] theorem mark_unlock (d : Dev) (k n : Nat) : (d.mark k n).unlock = d.unlock := rfl
@[simp] theorem mark_shadow (d : Dev) (k n : Nat) : (d.mark k n).shadow = d.shadow := rfl
@[simp] theorem mark_shadowLog (d : Dev) (k n : Nat) : (d.mark k n).shadowLog = d.shadowLog := rfl
@[simp] theorem mark_regWrote (d : Dev) (k n : Nat) : (d.mark k n).regWrote = d.regWrote := rfl
@[simp] theorem mark_shadowLost (d : Dev) (k n : Nat) : (d.mark k n).shadowLost = d.shadowLost := rfl
@[simp] theorem mark_perf (d : Dev) (k n : Nat) : (d.mark k n).perf = d.perf := rfl
@[simp] theorem mark_perfOvf (d : Dev) (k n : Nat) : (d.mark k n).perfOvf = d.perfOvf := rfl
@[simp] theorem mark_portStats (d : Dev) (k n : Nat) : (d.mark k n).portStats = d.portStats := rfl
@[simp] theorem mark_classStats (d : Dev) (k n : Nat) : (d.mark k n).classStats = d.classStats := rfl
@[simp] theorem mark_streamStats (d : Dev) (k n : Nat) : (d.mark k n).streamStats = d.streamStats := rfl
@[simp] theorem mark_dump (d : Dev) (k n : Nat) : (d.mark k n).dump = d.dump := rfl
@[simp] theorem mark_dumpMark (d : Dev) (k n : Nat) : (d.mark k n).dumpMark = d.dumpMark := rfl
@[simp] theorem mark_dumpPt (d : Dev) (k n : Nat) : (d.mark k n).dumpPt = d.dumpPt := rfl
@[simp] theorem mark_dumpSkips (d : Dev) (k n : Nat) : (d.mark k n).dumpSkips = d.dumpSkips := rfl
@[simp] theorem mark_perfSnap (d : Dev) (k n : Nat) : (d.mark k n).perfSnap = d.perfSnap := rfl
@[simp] theorem mark_perfSnapOvf (d : Dev) (k n : Nat) : (d.mark k n).perfSnapOvf = d.perfSnapOvf := rfl
@[simp] theorem mark_out (d : Dev) (k n : Nat) : (d.mark k n).out = d.out := rfl
@[simp] theorem mark_freeCtr (d : Dev) (k n : Nat) : (d.mark k n).freeCtr = d.freeCtr := rfl
@[simp] theorem mark_toBookSt (d : Dev) (k n : Nat) : (d.mark k n).toBookSt = d.toBookSt := rfl
@[simp] theorem mark_toSfiSt (d : Dev) (k n : Nat) : (d.mark k n).toSfiSt = d.toSfiSt := rfl
@[simp] theorem mark_toHostSt (d : Dev) (k n : Nat) : (d.mark k n).toHostSt = d.toHostSt := rfl
@[simp] theorem mark_toStageSt (d : Dev) (k n : Nat) : (d.mark k n).toStageSt = d.toStageSt := rfl
@[simp] theorem mark_toFolioSt (d : Dev) (k n : Nat) : (d.mark k n).toFolioSt = d.toFolioSt := rfl
@[simp] theorem mark_toTimeSt (d : Dev) (k n : Nat) : (d.mark k n).toTimeSt = d.toTimeSt := rfl
@[simp] theorem mark_toLinkSt (d : Dev) (k n : Nat) : (d.mark k n).toLinkSt = d.toLinkSt := rfl
@[simp] theorem mark_toFrameSt (d : Dev) (k n : Nat) : (d.mark k n).toFrameSt = d.toFrameSt := rfl
@[simp] theorem mark_toPlateSt (d : Dev) (k n : Nat) : (d.mark k n).toPlateSt = d.toPlateSt := rfl
@[simp] theorem mark_toFdbSt (d : Dev) (k n : Nat) : (d.mark k n).toFdbSt = d.toFdbSt := rfl
@[simp] theorem mark_toStreamSt (d : Dev) (k n : Nat) : (d.mark k n).toStreamSt = d.toStreamSt := rfl
@[simp] theorem mark_toBpmSt (d : Dev) (k n : Nat) : (d.mark k n).toBpmSt = d.toBpmSt := rfl
@[simp] theorem mark_toTmSt (d : Dev) (k n : Nat) : (d.mark k n).toTmSt = d.toTmSt := rfl
@[simp] theorem mark_toFlashSt (d : Dev) (k n : Nat) : (d.mark k n).toFlashSt = d.toFlashSt := rfl
@[simp] theorem mark_toPairSt (d : Dev) (k n : Nat) : (d.mark k n).toPairSt = d.toPairSt := rfl
@[simp] theorem mark_toDomSt (d : Dev) (k n : Nat) : (d.mark k n).toDomSt = d.toDomSt := rfl
@[simp] theorem mark_toPwrSt (d : Dev) (k n : Nat) : (d.mark k n).toPwrSt = d.toPwrSt := rfl

/-! ## cfg -/

@[simp] theorem cfg_cycle (d : Dev) (r : RegName) (i w : Nat) : (d.cfg r i w).cycle = d.cycle := by unfold Dev.cfg Dev.postShadow; split <;> rfl
@[simp] theorem cfg_place (d : Dev) (r : RegName) (i w : Nat) : (d.cfg r i w).place = d.place := by unfold Dev.cfg Dev.postShadow; split <;> rfl
@[simp] theorem cfg_evMark (d : Dev) (r : RegName) (i w : Nat) : (d.cfg r i w).evMark = d.evMark := by unfold Dev.cfg Dev.postShadow; split <;> rfl
@[simp] theorem cfg_unlock (d : Dev) (r : RegName) (i w : Nat) : (d.cfg r i w).unlock = d.unlock := by unfold Dev.cfg Dev.postShadow; split <;> rfl
@[simp] theorem cfg_marks (d : Dev) (r : RegName) (i w : Nat) : (d.cfg r i w).marks = d.marks := by unfold Dev.cfg Dev.postShadow; split <;> rfl
@[simp] theorem cfg_perf (d : Dev) (r : RegName) (i w : Nat) : (d.cfg r i w).perf = d.perf := by unfold Dev.cfg Dev.postShadow; split <;> rfl
@[simp] theorem cfg_perfOvf (d : Dev) (r : RegName) (i w : Nat) : (d.cfg r i w).perfOvf = d.perfOvf := by unfold Dev.cfg Dev.postShadow; split <;> rfl
@[simp] theorem cfg_portStats (d : Dev) (r : RegName) (i w : Nat) : (d.cfg r i w).portStats = d.portStats := by unfold Dev.cfg Dev.postShadow; split <;> rfl
@[simp] theorem cfg_classStats (d : Dev) (r : RegName) (i w : Nat) : (d.cfg r i w).classStats = d.classStats := by unfold Dev.cfg Dev.postShadow; split <;> rfl
@[simp] theorem cfg_streamStats (d : Dev) (r : RegName) (i w : Nat) : (d.cfg r i w).streamStats = d.streamStats := by unfold Dev.cfg Dev.postShadow; split <;> rfl
@[simp] theorem cfg_dump (d : Dev) (r : RegName) (i w : Nat) : (d.cfg r i w).dump = d.dump := by unfold Dev.cfg Dev.postShadow; split <;> rfl
@[simp] theorem cfg_dumpMark (d : Dev) (r : RegName) (i w : Nat) : (d.cfg r i w).dumpMark = d.dumpMark := by unfold Dev.cfg Dev.postShadow; split <;> rfl
@[simp] theorem cfg_dumpPt (d : Dev) (r : RegName) (i w : Nat) : (d.cfg r i w).dumpPt = d.dumpPt := by unfold Dev.cfg Dev.postShadow; split <;> rfl
@[simp] theorem cfg_dumpSkips (d : Dev) (r : RegName) (i w : Nat) : (d.cfg r i w).dumpSkips = d.dumpSkips := by unfold Dev.cfg Dev.postShadow; split <;> rfl
@[simp] theorem cfg_perfSnap (d : Dev) (r : RegName) (i w : Nat) : (d.cfg r i w).perfSnap = d.perfSnap := by unfold Dev.cfg Dev.postShadow; split <;> rfl
@[simp] theorem cfg_perfSnapOvf (d : Dev) (r : RegName) (i w : Nat) : (d.cfg r i w).perfSnapOvf = d.perfSnapOvf := by unfold Dev.cfg Dev.postShadow; split <;> rfl
@[simp] theorem cfg_out (d : Dev) (r : RegName) (i w : Nat) : (d.cfg r i w).out = d.out := by unfold Dev.cfg Dev.postShadow; split <;> rfl
@[simp] theorem cfg_freeCtr (d : Dev) (r : RegName) (i w : Nat) : (d.cfg r i w).freeCtr = d.freeCtr := by unfold Dev.cfg Dev.postShadow; split <;> rfl
@[simp] theorem cfg_toBookSt (d : Dev) (r : RegName) (i w : Nat) : (d.cfg r i w).toBookSt = d.toBookSt := by unfold Dev.cfg Dev.postShadow; split <;> rfl
@[simp] theorem cfg_toSfiSt (d : Dev) (r : RegName) (i w : Nat) : (d.cfg r i w).toSfiSt = d.toSfiSt := by unfold Dev.cfg Dev.postShadow; split <;> rfl
@[simp] theorem cfg_toHostSt (d : Dev) (r : RegName) (i w : Nat) : (d.cfg r i w).toHostSt = d.toHostSt := by unfold Dev.cfg Dev.postShadow; split <;> rfl
@[simp] theorem cfg_toStageSt (d : Dev) (r : RegName) (i w : Nat) : (d.cfg r i w).toStageSt = d.toStageSt := by unfold Dev.cfg Dev.postShadow; split <;> rfl
@[simp] theorem cfg_toFolioSt (d : Dev) (r : RegName) (i w : Nat) : (d.cfg r i w).toFolioSt = d.toFolioSt := by unfold Dev.cfg Dev.postShadow; split <;> rfl
@[simp] theorem cfg_toTimeSt (d : Dev) (r : RegName) (i w : Nat) : (d.cfg r i w).toTimeSt = d.toTimeSt := by unfold Dev.cfg Dev.postShadow; split <;> rfl
@[simp] theorem cfg_toLinkSt (d : Dev) (r : RegName) (i w : Nat) : (d.cfg r i w).toLinkSt = d.toLinkSt := by unfold Dev.cfg Dev.postShadow; split <;> rfl
@[simp] theorem cfg_toFrameSt (d : Dev) (r : RegName) (i w : Nat) : (d.cfg r i w).toFrameSt = d.toFrameSt := by unfold Dev.cfg Dev.postShadow; split <;> rfl
@[simp] theorem cfg_toPlateSt (d : Dev) (r : RegName) (i w : Nat) : (d.cfg r i w).toPlateSt = d.toPlateSt := by unfold Dev.cfg Dev.postShadow; split <;> rfl
@[simp] theorem cfg_toFdbSt (d : Dev) (r : RegName) (i w : Nat) : (d.cfg r i w).toFdbSt = d.toFdbSt := by unfold Dev.cfg Dev.postShadow; split <;> rfl
@[simp] theorem cfg_toStreamSt (d : Dev) (r : RegName) (i w : Nat) : (d.cfg r i w).toStreamSt = d.toStreamSt := by unfold Dev.cfg Dev.postShadow; split <;> rfl
@[simp] theorem cfg_toBpmSt (d : Dev) (r : RegName) (i w : Nat) : (d.cfg r i w).toBpmSt = d.toBpmSt := by unfold Dev.cfg Dev.postShadow; split <;> rfl
@[simp] theorem cfg_toTmSt (d : Dev) (r : RegName) (i w : Nat) : (d.cfg r i w).toTmSt = d.toTmSt := by unfold Dev.cfg Dev.postShadow; split <;> rfl
@[simp] theorem cfg_toFlashSt (d : Dev) (r : RegName) (i w : Nat) : (d.cfg r i w).toFlashSt = d.toFlashSt := by unfold Dev.cfg Dev.postShadow; split <;> rfl
@[simp] theorem cfg_toPairSt (d : Dev) (r : RegName) (i w : Nat) : (d.cfg r i w).toPairSt = d.toPairSt := by unfold Dev.cfg Dev.postShadow; split <;> rfl
@[simp] theorem cfg_toDomSt (d : Dev) (r : RegName) (i w : Nat) : (d.cfg r i w).toDomSt = d.toDomSt := by unfold Dev.cfg Dev.postShadow; split <;> rfl
@[simp] theorem cfg_toPwrSt (d : Dev) (r : RegName) (i w : Nat) : (d.cfg r i w).toPwrSt = d.toPwrSt := by unfold Dev.cfg Dev.postShadow; split <;> rfl

/-! ## The queue -/

@[simp] theorem withDev_toDev (s : State) (d : Dev) : (s.withDev d).toDev = d := rfl
@[simp] theorem withDev_pending (s : State) (d : Dev) : (s.withDev d).pending = s.pending := rfl

end Sys2Proof.Laws
end

