-- ==== Sys2Proof/Laws/Tbl.lean ====
section
/-! SUPPORT. Sparse tables: a read after a write, and that every write keeps the canonical form. -/

namespace Sys2Proof.Laws

open Sys2Proof.Machine

variable {α : Type}

theorem tbl_getD_ins (t : Tbl α) (d v : α) (k : Nat) : (t.ins k v).getD d k = v := by
  induction t with
  | nil => simp [Tbl.ins, Tbl.getD]
  | cons e r ih =>
    obtain ⟨k', w⟩ := e
    unfold Tbl.ins
    split
    · simp [Tbl.getD]
    · split
      · simp [Tbl.getD]
      · rename_i h1 h2
        simp only [Tbl.getD]
        rw [if_neg (fun h => h2 h.symm), ih]

theorem tbl_getD_ins_ne (t : Tbl α) (d v : α) {k j : Nat} (h : j ≠ k) : (t.ins k v).getD d j = t.getD d j := by
  induction t with
  | nil => simp [Tbl.ins, Tbl.getD, Ne.symm h]
  | cons e r ih =>
    obtain ⟨k', w⟩ := e
    unfold Tbl.ins
    split
    · simp [Tbl.getD, Ne.symm h]
    · split
      · rename_i h1 h2
        subst h2
        simp [Tbl.getD, Ne.symm h]
      · simp only [Tbl.getD, ih]

theorem tbl_getD_del (t : Tbl α) (d : α) (k : Nat) : (t.del k).getD d k = d := by
  induction t with
  | nil => rfl
  | cons e r ih =>
    obtain ⟨k', w⟩ := e
    unfold Tbl.del
    split
    · exact ih
    · rename_i h
      simp only [Tbl.getD, if_neg h, ih]

theorem tbl_getD_del_ne (t : Tbl α) (d : α) {k j : Nat} (h : j ≠ k) : (t.del k).getD d j = t.getD d j := by
  induction t with
  | nil => rfl
  | cons e r ih =>
    obtain ⟨k', w⟩ := e
    unfold Tbl.del
    split
    · rename_i h1
      subst h1
      simp only [Tbl.getD, if_neg (Ne.symm h), ih]
    · simp only [Tbl.getD, ih]

/-- A read after a write to the same key gives the value written. -/
theorem tbl_getD_putD [DecidableEq α] (t : Tbl α) (d v : α) (k : Nat) : (t.putD d k v).getD d k = v := by
  unfold Tbl.putD
  split
  · rename_i h; rw [h, tbl_getD_del]
  · exact tbl_getD_ins t d v k

/-- A write leaves every other key alone. -/
theorem tbl_getD_putD_ne [DecidableEq α] (t : Tbl α) (d d' v : α) {k j : Nat} (h : j ≠ k) : (t.putD d' k v).getD d j = t.getD d j := by
  unfold Tbl.putD
  split
  · exact tbl_getD_del_ne t d h
  · exact tbl_getD_ins_ne t d v h

@[simp] theorem tbl_get_put [Inhabited α] [DecidableEq α] (t : Tbl α) (v : α) (k : Nat) : (t.put k v).get k = v :=
  tbl_getD_putD t default v k

theorem tbl_get_put_ne [Inhabited α] [DecidableEq α] (t : Tbl α) (v : α) {k j : Nat} (h : j ≠ k) : (t.put k v).get j = t.get j :=
  tbl_getD_putD_ne t default default v h

/-! ## The canonical form -/

/-- The first key, if any, lies above `k`. -/
def above (k : Nat) : Tbl α → Prop
  | [] => True
  | (j, _) :: _ => k < j

theorem rising_cons {k : Nat} {v : α} {t : Tbl α} : Tbl.rising ((k, v) :: t) = true ↔ above k t ∧ Tbl.rising t = true := by
  cases t with
  | nil => simp [Tbl.rising, above]
  | cons e r => obtain ⟨j, w⟩ := e; simp [Tbl.rising, above]

theorem above_all {k : Nat} {t : Tbl α} (h : Tbl.rising t = true) (a : above k t) : ∀ e ∈ t, k < e.1 := by
  induction t generalizing k with
  | nil => simp
  | cons e r ih =>
    obtain ⟨j, w⟩ := e
    rw [rising_cons] at h
    intro x hx
    rcases List.mem_cons.mp hx with rfl | hx
    · exact a
    · exact Nat.lt_trans a (ih h.2 h.1 x hx)

theorem rising_del (t : Tbl α) (k : Nat) (h : Tbl.rising t = true) : Tbl.rising (t.del k) = true := by
  induction t with
  | nil => rfl
  | cons e r ih =>
    obtain ⟨j, w⟩ := e
    rw [rising_cons] at h
    unfold Tbl.del
    split
    · exact ih h.2
    · rw [rising_cons]
      refine ⟨?_, ih h.2⟩
      have hall := above_all h.2 h.1
      have sub : ∀ e ∈ Tbl.del r k, e ∈ r := by
        clear ih h hall
        induction r with
        | nil => simp [Tbl.del]
        | cons e' r' ih' =>
          obtain ⟨j', w'⟩ := e'
          unfold Tbl.del
          split
          · intro x hx; exact List.mem_cons_of_mem _ (ih' x hx)
          · intro x hx
            rcases List.mem_cons.mp hx with rfl | hx
            · exact List.mem_cons_self
            · exact List.mem_cons_of_mem _ (ih' x hx)
      cases hd : Tbl.del r k with
      | nil => trivial
      | cons e' r' => exact hall e' (sub e' (hd ▸ List.mem_cons_self))

theorem rising_ins (t : Tbl α) (k : Nat) (v : α) (h : Tbl.rising t = true) : Tbl.rising (t.ins k v) = true := by
  induction t with
  | nil => rfl
  | cons e r ih =>
    obtain ⟨j, w⟩ := e
    have h' := rising_cons.mp h
    unfold Tbl.ins
    split
    · rw [rising_cons]; exact ⟨by assumption, h⟩
    · split
      · rename_i h2; subst h2
        rw [rising_cons]; exact h'
      · rename_i h1 h2
        rw [rising_cons]
        refine ⟨?_, ih h'.2⟩
        cases r with
        | nil => exact Nat.lt_of_le_of_ne (Nat.le_of_not_lt h1) (Ne.symm h2)
        | cons e' r' =>
          obtain ⟨j', w'⟩ := e'
          unfold Tbl.ins
          split
          · exact Nat.lt_of_le_of_ne (Nat.le_of_not_lt h1) (Ne.symm h2)
          · split
            · exact Nat.lt_of_le_of_ne (Nat.le_of_not_lt h1) (Ne.symm h2)
            · exact h'.1

theorem mem_ins {t : Tbl α} {k : Nat} {v : α} {e : Nat × α} (h : e ∈ t.ins k v) : e = (k, v) ∨ e ∈ t := by
  induction t with
  | nil => simpa [Tbl.ins] using h
  | cons x r ih =>
    obtain ⟨j, w⟩ := x
    unfold Tbl.ins at h
    split at h
    · simpa using h
    · split at h
      · rcases List.mem_cons.mp h with h | h
        · exact .inl h
        · exact .inr (List.mem_cons_of_mem _ h)
      · rcases List.mem_cons.mp h with rfl | h
        · exact .inr List.mem_cons_self
        · rcases ih h with h | h
          · exact .inl h
          · exact .inr (List.mem_cons_of_mem _ h)

theorem mem_del {t : Tbl α} {k : Nat} {e : Nat × α} (h : e ∈ t.del k) : e ∈ t := by
  induction t with
  | nil => simp [Tbl.del] at h
  | cons x r ih =>
    obtain ⟨j, w⟩ := x
    unfold Tbl.del at h
    split at h
    · exact List.mem_cons_of_mem _ (ih h)
    · rcases List.mem_cons.mp h with rfl | h
      · exact List.mem_cons_self
      · exact List.mem_cons_of_mem _ (ih h)

/-- Every write keeps the canonical form. -/
theorem tbl_wfD_putD [DecidableEq α] (t : Tbl α) (d v : α) (k : Nat) (h : t.wfD d = true) : (t.putD d k v).wfD d = true := by
  unfold Tbl.wfD at h ⊢
  simp only [Bool.and_eq_true, List.all_eq_true, decide_eq_true_eq] at h ⊢
  unfold Tbl.putD
  split
  · exact ⟨rising_del t k h.1, fun e he => h.2 e (mem_del he)⟩
  · rename_i hv
    refine ⟨rising_ins t k v h.1, fun e he => ?_⟩
    rcases mem_ins he with rfl | he
    · exact hv
    · exact h.2 e he

end Sys2Proof.Laws
end

