-- ==== Sys2Proof/Laws/Reg.lean ====
section
/-! SUPPORT. Registers and their fields: a read after a write, of the same field and of another. -/

namespace Sys2Proof.Laws

open Sys2Proof Sys2Proof.Machine

theorem bitsOf_lt (w hi lo : Nat) : bitsOf w hi lo < 2 ^ (hi + 1 - lo) := Nat.mod_lt _ (Nat.two_pow_pos _)

/-- A bit of a field is the word's, moved down. -/
theorem testBit_bitsOf (w hi lo k : Nat) : (bitsOf w hi lo).testBit k = (decide (k < hi + 1 - lo) && w.testBit (k + lo)) := by
  unfold bitsOf
  rw [Nat.testBit_mod_two_pow, Nat.testBit_div_two_pow]

/-- A word falls into what lies below a field, the field, and what lies above it. -/
theorem word_split (w hi lo : Nat) (h : lo ≤ hi) :
    w = w % 2 ^ lo + bitsOf w hi lo * 2 ^ lo + w / 2 ^ (hi + 1) * 2 ^ (hi + 1) := by
  unfold bitsOf
  have e : 2 ^ (hi + 1) = 2 ^ lo * 2 ^ (hi + 1 - lo) := by rw [← Nat.pow_add]; congr 1; omega
  rw [e, ← Nat.div_div_eq_div_mul]
  have h1 := Nat.mod_add_div w (2 ^ lo)
  have h2 := Nat.mod_add_div (w / 2 ^ lo) (2 ^ (hi + 1 - lo))
  have h3 : w / 2 ^ lo / 2 ^ (hi + 1 - lo) * (2 ^ lo * 2 ^ (hi + 1 - lo)) =
      2 ^ (hi + 1 - lo) * (w / 2 ^ lo / 2 ^ (hi + 1 - lo)) * 2 ^ lo := by ac_rfl
  rw [h3, Nat.add_assoc, ← Nat.add_mul, h2, Nat.mul_comm]
  exact h1.symm

/-- What a word is with a field set. -/
theorem withBits_eq (w hi lo v : Nat) (h : lo ≤ hi) :
    withBits w hi lo v = w % 2 ^ lo + v % 2 ^ (hi + 1 - lo) * 2 ^ lo + w / 2 ^ (hi + 1) * 2 ^ (hi + 1) := by
  have hs := word_split w hi lo h
  unfold withBits
  omega

/-- The bits of a word with a field set: the value's inside the field, the word's elsewhere. -/
theorem testBit_withBits (w hi lo v k : Nat) (h : lo ≤ hi) :
    (withBits w hi lo v).testBit k = if lo ≤ k ∧ k ≤ hi then v.testBit (k - lo) else w.testBit k := by
  rw [withBits_eq w hi lo v h]
  have hv : v % 2 ^ (hi + 1 - lo) < 2 ^ (hi + 1 - lo) := Nat.mod_lt _ (Nat.two_pow_pos _)
  have hw : w % 2 ^ lo < 2 ^ lo := Nat.mod_lt _ (Nat.two_pow_pos _)
  have e : 2 ^ (hi + 1) = 2 ^ lo * 2 ^ (hi + 1 - lo) := by rw [← Nat.pow_add]; congr 1; omega
  have r : w % 2 ^ lo + v % 2 ^ (hi + 1 - lo) * 2 ^ lo + w / 2 ^ (hi + 1) * 2 ^ (hi + 1) =
      2 ^ lo * (2 ^ (hi + 1 - lo) * (w / 2 ^ (hi + 1)) + v % 2 ^ (hi + 1 - lo)) + w % 2 ^ lo := by
    rw [e, Nat.mul_add]
    generalize w / (2 ^ lo * 2 ^ (hi + 1 - lo)) = q
    have a1 : q * (2 ^ lo * 2 ^ (hi + 1 - lo)) = 2 ^ lo * (2 ^ (hi + 1 - lo) * q) := by ac_rfl
    have a2 : v % 2 ^ (hi + 1 - lo) * 2 ^ lo = 2 ^ lo * (v % 2 ^ (hi + 1 - lo)) := Nat.mul_comm _ _
    omega
  rw [r, Nat.testBit_two_pow_mul_add _ hw]
  by_cases h1 : k < lo
  · rw [if_pos h1, if_neg (by omega), Nat.testBit_mod_two_pow]; simp [h1]
  · rw [if_neg h1, Nat.testBit_two_pow_mul_add _ hv]
    by_cases h2 : k ≤ hi
    · rw [if_pos (by omega), if_pos (by omega), Nat.testBit_mod_two_pow]; simp; omega
    · rw [if_neg (by omega), if_neg (by omega), Nat.testBit_div_two_pow]; congr 1; omega

/-- A field reads as it was set, cut to its width. -/
theorem bitsOf_withBits (w hi lo v : Nat) (h : lo ≤ hi) : bitsOf (withBits w hi lo v) hi lo = v % 2 ^ (hi + 1 - lo) := by
  apply Nat.eq_of_testBit_eq
  intro k
  rw [testBit_bitsOf, testBit_withBits _ _ _ _ _ h, Nat.testBit_mod_two_pow]
  by_cases hk : k < hi + 1 - lo
  · rw [if_pos (by omega)]; simp [hk]
  · simp [hk]

/-- A field reads as before when another is set that shares no bit with it. -/
theorem bitsOf_withBits_other (w hi lo v hi' lo' : Nat) (h : lo ≤ hi) (a : hi < lo' ∨ hi' < lo) :
    bitsOf (withBits w hi lo v) hi' lo' = bitsOf w hi' lo' := by
  apply Nat.eq_of_testBit_eq
  intro k
  rw [testBit_bitsOf, testBit_bitsOf, testBit_withBits _ _ _ _ _ h]
  by_cases hk : k < hi' + 1 - lo'
  · rw [if_neg (by omega)]
  · simp [hk]

/-- A word stays below 2^32 when a field inside it is set. -/
theorem withBits_lt (w hi lo v : Nat) (h : lo ≤ hi) (h32 : hi < 32) (hw : w < 2 ^ 32) : withBits w hi lo v < 2 ^ 32 := by
  apply Nat.lt_pow_two_of_testBit
  intro k hk
  rw [testBit_withBits _ _ _ _ _ h, if_neg (by omega)]
  exact Nat.testBit_lt_two_pow (Nat.lt_of_lt_of_le hw (Nat.pow_le_pow_right (by decide) hk))

/-! ## Registers -/

theorem reg_lt (d : Dev) (r : RegName) (i : Nat) : d.reg r i < 2 ^ 32 := BitVec.isLt _

/-- A register reads as it was written, cut to 32 bits. -/
theorem reg_setReg (d : Dev) (r : RegName) (i v : Nat) : (d.setReg r i v).reg r i = v % 2 ^ 32 := by
  unfold Dev.reg Dev.setReg
  dsimp only
  rw [tbl_getD_putD, BitVec.toNat_ofNat]

/-- A register reads as before when another address is written. -/
theorem reg_setReg_ne (d : Dev) (r r' : RegName) (i i' v : Nat) (h : regAddr r' i' ≠ regAddr r i) :
    (d.setReg r i v).reg r' i' = d.reg r' i' := by
  unfold Dev.reg Dev.setReg
  dsimp only
  rw [tbl_getD_putD_ne _ _ _ _ h]

/-- A field reads as it was set, cut to its width. -/
theorem get_set (d : Dev) (f : Fld) (i v : Nat) (h : f.lo ≤ f.hi) (h32 : f.hi < 32) :
    (d.set f i v).get f i = v % 2 ^ (f.hi + 1 - f.lo) := by
  unfold Dev.get Dev.set
  rw [reg_setReg, Nat.mod_eq_of_lt (withBits_lt _ _ _ _ h h32 (reg_lt _ _ _)), bitsOf_withBits _ _ _ _ h]

/-- Another field of the same register reads as before. -/
theorem get_set_field (d : Dev) (f g : Fld) (i v : Nat) (hr : g.reg = f.reg) (h : f.lo ≤ f.hi) (h32 : f.hi < 32)
    (a : f.hi < g.lo ∨ g.hi < f.lo) : (d.set f i v).get g i = d.get g i := by
  unfold Dev.get Dev.set
  rw [hr, reg_setReg, Nat.mod_eq_of_lt (withBits_lt _ _ _ _ h h32 (reg_lt _ _ _)), bitsOf_withBits_other _ _ _ _ _ _ h a]

/-- A field of a register at another address reads as before. -/
theorem get_set_ne (d : Dev) (f g : Fld) (i j v : Nat) (h : regAddr g.reg j ≠ regAddr f.reg i) :
    (d.set f i v).get g j = d.get g j := by
  unfold Dev.get Dev.set
  rw [reg_setReg_ne _ _ _ _ _ _ h]

/-- Every field of the register map lies in its register's word, and shares no bit with another. -/
theorem regFields_disjoint (r : RegName) : (regFields r).Pairwise (fun f g => f.hi < g.lo ∨ g.hi < f.lo) := by
  cases r <;> decide

theorem regFields_inside (r : RegName) : ∀ f ∈ regFields r, f.reg = r ∧ f.lo ≤ f.hi ∧ f.hi < 32 := by
  cases r <;> decide

/-! ## Counting -/

/-- Counting changes no register but PERF_EVENT. -/
theorem countQ_reg (d : Dev) (s i n : Nat) (a : Attr) (r : RegName) (j : Nat) (h : regAddr r j ≠ regAddr .PERF_EVENT 0) :
    (d.countQ s i n a).reg r j = d.reg r j := by
  unfold Dev.countQ
  split
  · dsimp only
    split
    · rfl
    · split
      · rfl
      · unfold Dev.raise Dev.raiseBits
        exact reg_setReg_ne _ _ _ _ _ _ h
  · rfl

/-- An event that does not wrap its counter leaves every register but PERF_EVENT alone. -/
theorem count_reg (d : Dev) (s i n : Nat) (a : Attr) (r : RegName) (j : Nat) (h : regAddr r j ≠ regAddr .PERF_EVENT 0)
    (hs : d.perf.get (s * 8 + i) + n < 2 ^ 48) : (d.count s i n a).reg r j = d.reg r j := by
  have hw : d.countWraps s i n a = false := by
    unfold Dev.countWraps
    rw [decide_eq_false (Nat.not_le.mpr hs)]; simp
  unfold Dev.count
  rw [hw]
  exact countQ_reg d s i n a r j h

end Sys2Proof.Laws
end

