-- ==== Sys2Proof/Laws/Run.lean ====
section
/-! SUPPORT. How commands run: what a live device, an admitted SFI request and a register write that is let through make
of a command. -/

namespace Sys2Proof.Laws

open Sys2Proof Sys2Proof.Machine

theorem live_act {s : State} (h : s.live) (p : Dev → Nat) (f : Dev → Dev) :
    s.actAt p f = .next (s.withDev (f (s.toDev.turn p))) := by
  unfold State.live at h; simp [State.actAt, State.actAo, State.withDev, h]

theorem live_due {s : State} (h : s.live) (p : Nat) (f : Dev → Dev) : s.actAt (fun _ => p) f = .next (s.withDev (f (s.due p))) :=
  live_act h _ f

theorem live_later {s : State} (h : s.live) (b k : Nat) (f : Dev → Dev) :
    s.later b k f = .next (s.withDev (f (s.due (untied b k)))) := live_act h _ f

theorem sfiRun_granted {s : State} {rq : Sfi} {op need : Nat} {key : Bool} {role : Nat} (h : Granted s rq op need key role)
    (f : Dev → Nat → Dev × Ans) :
    (s.sfiDue op).sfiRun rq op need key f = (s.sfiDue op).answers rq op role (fun d => f d role) := by
  obtain ⟨-, h2, h3, h4, h5⟩ := h
  unfold Dev.sfiRun Dev.answers
  simp only [h2, h3, h4, h5, if_false, Bool.false_eq_true, Bool.not_true]

theorem granted_sfi {s : State} {rq : Sfi} {op need : Nat} {role : Nat} (h : Granted s rq op need false role)
    (f : Dev → Nat → Dev × Ans) : s.sfi rq op need f = .next (s.withDev ((s.sfiDue op).answers rq op role (fun d => f d role))) :=
  (live_act h.live _ _).trans (by rw [← sfiRun_granted h]; rfl)

theorem granted_sfiKey {s : State} {rq : Sfi} {op need : Nat} {role : Nat} (h : Granted s rq op need true role)
    (f : Dev → Nat → Dev × Ans) : s.sfiKey rq op need f = .next (s.withDev ((s.sfiDue op).answers rq op role (fun d => f d role))) :=
  (live_act h.live _ _).trans (by rw [← sfiRun_granted h]; rfl)

theorem answers_of {c : Instr} {s : State} {rq : Sfi} {op role : Nat} {e e' : Dev → Dev × Ans}
    (h : exec c s = .next (s.withDev ((s.sfiDue op).answers rq op role e'))) (he : e' (s.start rq op) = e (s.start rq op)) :
    Answers c s rq op role e := by
  unfold Answers Does; rw [h]; unfold Dev.answers; unfold State.start at he; rw [he]

theorem mayWrite_gate {d : Dev} {m : Nat} {r : RegName} {i w : Nat} (h : d.mayWrite m r i w = true) (f : Dev → Nat → Dev) :
    d.gated m r i w f = f (d.passed m r i) w := by
  unfold Dev.mayWrite at h
  simp only [Bool.and_eq_true, Bool.not_eq_true', Option.isNone_iff_eq_none] at h
  obtain ⟨⟨⟨h1, h2⟩, h3⟩, h4⟩ := h
  have h5 : r ≠ .GUARD_UNLOCK := by intro hr; subst hr; revert h3; decide
  unfold Dev.gated Dev.gateReg Dev.gateBe
  simp [h1, h2, h3, h4, h5, Dev.merge]

theorem writesAt_act {s : State} {p m : Nat} {r : RegName} {i w : Nat} (h : WritesAt s p m r i w) (f : Dev → Nat → Dev) :
    s.writeAt p m r i w f = .next (s.withDev (f (s.passedAt p m r i w) w)) :=
  (live_act h.live _ _).trans (by
    show _ = Host.Outcome.next (s.withDev (f ((s.wrDue p m r i w).passed m r i) w))
    rw [← mayWrite_gate h.may f]; rfl)

theorem writes_act {s : State} {m : Nat} {r : RegName} {i w : Nat} (h : Writes s m r i w) (f : Dev → Nat → Dev) :
    s.write m r i w f = .next (s.withDev (f (s.passed m r i w) w)) := writesAt_act h f

end Sys2Proof.Laws
end

