-- ==== Sys2Proof/Tests/Slice0.lean ====
section
/-! SUPPORT. Tests: the ill-formed commands that WellFormed refuses, worked examples of the spec, and for each statement
a device and operands that meet its hypotheses. -/

namespace Sys2Proof.Tests

open Sys2Proof Sys2Proof.Machine

set_option Elab.async false

/-! ## Devices the tests stand on -/

/-- A device with an empty queue. -/
def st (d : Dev) : State := { toDev := d, pending := [] }

/-- A request on channel 0 with tag 1 and the unlock key. -/
def rq : Sfi := { ch := 0, tag := 1, ring := false, key := 0xC3A5 }

/-- The firmware runs, channel 0 has an open session of DIRECTOR. -/
def up : Dev :=
  { (Dev.reset.set F.PROMPTER_STATUS_BOOT_STATE 0 2).set F.PROMPTER_STATUS_CORE_UP 0 15 with
      sess := [(0, { (default : Session) with isOpen := true, role := 3 })] }

/-- The device a command of channel 0 starts from. -/
def at_ (d : Dev) (op : Nat) : Dev := (st d).start rq op

/-- A request of channel 0 is admitted under DIRECTOR. -/
def may (d : Dev) (op need : Nat) (key : Bool) : Bool :=
  let e := (st d).sfiDue op
  !d.stopped && e.served 0 && e.myTurn rq op && (match e.sfiRole rq op need key with | .ok r => r == 3 | .error _ => false)

theorem granted_of {d : Dev} {op need : Nat} {key : Bool} (h : may d op need key = true) : Granted (st d) rq op need key 3 := by
  unfold may at h
  simp only [Bool.and_eq_true, Bool.not_eq_true'] at h
  obtain ⟨⟨⟨h1, h2⟩, h3⟩, h4⟩ := h
  refine ⟨h1, h2, ?_, h3, by decide⟩
  cases hr : ((st d).sfiDue op).sfiRole rq op need key with
  | error a => rw [hr] at h4; exact absurd h4 Bool.false_ne_true
  | ok r => rw [hr] at h4; simp at h4; rw [h4]

theorem writesAt_of {d : Dev} {p m : Nat} {r : RegName} {i w : Nat}
    (h : (!d.stopped && ((st d).wrDue p m r i w).mayWrite m r i w) = true) : WritesAt (st d) p m r i w := by
  simp only [Bool.and_eq_true, Bool.not_eq_true'] at h
  exact ⟨h.1, h.2⟩

theorem writes_of {d : Dev} {m : Nat} {r : RegName} {i w : Nat}
    (h : (!d.stopped && ((st d).wrDue (blockPlace m r i) m r i w).mayWrite m r i w) = true) : Writes (st d) m r i w := writesAt_of h

/-- Fields set one after another. -/
def sets (d : Dev) (l : List (Fld × Nat × Nat)) : Dev := l.foldl (fun d x => d.set x.1 x.2.1 x.2.2) d

/-- Core 0 has just given the key for a register's block. -/
def keyed (d : Dev) (r : RegName) (i : Nat) : Dev := { d with unlock := [(unlockSlot 24 r i, true)] }

/-- The device as an event of a block that no pipe is tied to finds it. -/
def ev (d : Dev) (block : Nat) : Dev := (st d).due (untied block 0)

/-! ## WellFormed -/

/-- A well-formed command of each checked constructor (part 1). -/
theorem test_wellFormed1 :
    ([.frameRxEnd default default default default default default default, .fuEntryExpire default,
     .verdictMerge default default default, .profileSample default default, .smartPoll (List.replicate 4 default),
     .descriptorFetch default default, .registerWrite default default default default, .rsqClear default default default,
     .paritySweep default default, .shadowRestore default default, .configAutoApply default,
     .core0LoadCheck (List.replicate 4 default), .helloRx default, .mirrorMessageRx default, .revertProposalRx default,
     .railMonitorSample (List.replicate 6 default), .thermalSample (List.replicate 8 default), .sysCaps rq default,
     .sysReset rq default, .fwUpdateBegin rq default, .fwUpdateWrite rq default default,
     .sysConfig rq default default default, .recoveryWrite rq default default, .powerQuery rq default,
     .thermalSet rq default default, .portQuery rq default, .laneModeSet rq default default (List.replicate 4 default),
     .laneEnable rq default default, .portConfigSet rq default default default default default,
     .portPreSet rq default default default default default default, .portEeeSet rq default default default default,
     .portParseSet rq default default default default default default default, .portTsTrimSet rq default default default,
     .pcpMapSet rq default default, .lldpSet rq default default default,
     .tbProfileSet rq default default default default default default, .ptpPortRoleSet rq default default default,
     .tbControl rq default default default default default default, .ptSelect rq default default default default default,
     .tioSet rq default, .tioCapturePop rq default, .ppsSet rq default default default default default,
     .synceSet rq default default default default, .timeOfDaySet rq default default,
     .profileSet rq default default default default default default, .ruleAdd rq default default default,
     .ruleDelete rq default default, .plateCommit rq default, .fragConfig rq default,
     .fdbQuery rq default default default default, .fdbStaticAdd rq default default default default,
     .fdbStaticDelete rq default default, .fdbFlush rq default default default,
     .fdbConfig rq default default default default, .portLearnSet rq default default default default,
     .vlanSet rq default default default, .groupSet rq default default, .routeAdd rq default default default default,
     .routeDelete rq default default default, .nexthopSet rq default default default default,
     .learnRingSet rq default default default default default, .streamAdmit rq default, .streamWithdraw rq default,
     .streamQuery rq default default, .streamActions rq default default default,
     .rpairSet rq default default default default default default default, .ddConfig rq default,
     .streamLimits rq default, .queueSet rq default default default, .portSchedSet rq default default default default,
     .queueQuery rq default default default, .cueListLoad rq default default default, .cueListArm rq default default,
     .cueListDisarm rq default, .gateConfig rq default default default default default] : List Instr).all (fun c => c.wellFormed) = true := by
  decide +kernel

/-- A well-formed command of each checked constructor (part 2). -/
theorem test_wellFormed2 :
    ([.cueListQuery rq default default, .policerSet rq default default, .policerQuery rq default,
     .wredProfileSet rq default default (List.replicate 3 default), .mirrorSet rq default default default default,
     .bpmCarve rq (List.replicate 4 default),
     .quotaProfileSet rq default default default default default default default,
     .quotaBind rq default default default default, .portFlowSet rq default default default,
     .bpmQuery rq default default, .editSet rq default (List.replicate 8 default), .stageQuery rq default,
     .clusterStepSet rq default default default, .programAssign rq default default, .pinRebalance rq default,
     .samplerSet rq default default default default default, .profileStart rq default,
     .supvGenSet rq default default default default, .stageReport default 24 0x6F0 default default,
     .folioConfig rq default default default default default default, .folioQuery rq default,
     .captureClassSet rq default default, .portCaptureSet rq default default default,
     .pinBindingSet rq default default default default default default, .pinNow rq default default default,
     .pinRelease rq default, .folioRead rq default, .bookQuery rq default, .bookRead rq default,
     .bookConfig rq default default default, .bookSnapSet rq default default default default default default,
     .bookTriggerSet rq default default, .bookSubscribe rq default default default default,
     .statsQuery rq default default default default, .statsDumpSet rq default default default default default default,
     .perfConfig rq default, .perfClear rq default default, .perfAllowSet rq default, .pairConfig rq default,
     .peerMessage default default default default,
     .domainJoin rq { (default : DomJoinArgs) with key := List.replicate 8 0 }, .domainConfig rq default,
     .domainSend rq default default, .domainBroadcast rq default, .proofStart rq default default default,
     .curtainArm rq default default default, .curtainCancel rq default, .barrierStart rq default default default default,
     .barrierReady rq default, .domainTreeQuery rq default, .funcWindowSet rq default,
     .funcGrant rq default default default, .ringAssign rq default default default,
     .rxMapSet rq default default default default, .mboxChannelSet rq default default default default default,
     .masterQuery rq default default, .masterRelease rq default default, .sessionOpen rq default,
     .sessionAuth rq (List.replicate 8 default), .sessionQuery rq default default,
     .credentialSet rq default (List.replicate 8 default), .keySlotLoad rq default, .keySlotClear rq default default,
     .pcieLinkUp default default, .headerComplete default default [0]] : List Instr).all (fun c => c.wellFormed) = true := by
  decide +kernel

/-- Commands with one operand that does not fit, one for each check of WellFormed (part 1). -/
theorem test_illFormed1 :
    ([.headerComplete default default [], .frameRxEnd default default default default (2 ^ 16) default default,
     .fuEntryExpire (2 ^ 32), .verdictMerge default default [2 ^ 32], .profileSample default (2 ^ 16), .smartPoll [],
     .smartPoll (2 ^ 32 :: List.replicate 3 0), .descriptorFetch default (List.replicate 65 default),
     .registerWrite default (2 ^ 24) default default, .registerWrite default 1 default default,
     .rsqClear default (2 ^ 24) default, .rsqClear default 1 default, .paritySweep (2 ^ 24) default,
     .paritySweep 1 default, .shadowRestore default (2 ^ 36), .shadowRestore false (2 ^ 24),
     .configAutoApply (some (2 ^ 64, 0)), .configAutoApply (some (0, 2 ^ 64)), .core0LoadCheck [],
     .core0LoadCheck ((2 ^ 56, 0) :: List.replicate 3 (0, 0)), .helloRx { (default : HelloArgs) with version := 2 ^ 32 },
     .helloRx { (default : HelloArgs) with digest := 2 ^ 32 },
     .mirrorMessageRx { (default : MirArgs) with seq := 2 ^ 32 },
     .mirrorMessageRx { (default : MirArgs) with stamp := 2 ^ 80 }, .revertProposalRx (2 ^ 80), .railMonitorSample [],
     .railMonitorSample (2 ^ 32 :: List.replicate 5 0), .thermalSample [], .sysCaps rq (2 ^ 32), .sysReset rq (2 ^ 32),
     .fwUpdateBegin rq (2 ^ 32), .fwUpdateWrite rq (2 ^ 32) default, .fwUpdateWrite rq default [2 ^ 32],
     .sysConfig rq (2 ^ 32) default default, .sysConfig rq default (2 ^ 32) default, .recoveryWrite rq (2 ^ 32) default,
     .recoveryWrite rq default [2 ^ 32], .powerQuery rq (2 ^ 32), .thermalSet rq (2 ^ 32) default,
     .thermalSet rq default (2 ^ 32), .portQuery rq (2 ^ 32), .laneModeSet rq default default [],
     .laneModeSet rq (2 ^ 32) default (List.replicate 4 default),
     .laneModeSet rq default (2 ^ 32) (List.replicate 4 default), .laneEnable rq (2 ^ 64) default,
     .portConfigSet rq (2 ^ 32) default default default default,
     .portConfigSet rq default default (2 ^ 32) default default,
     .portConfigSet rq default default default (2 ^ 32) default,
     .portConfigSet rq default default default default (2 ^ 32),
     .portPreSet rq (2 ^ 32) default default default default default] : List Instr).all (fun c => !c.wellFormed) = true := by
  decide +kernel

/-- Commands with one operand that does not fit, one for each check of WellFormed (part 2). -/
theorem test_illFormed2 :
    ([.portPreSet rq default default default (2 ^ 32) default default,
     .portPreSet rq default default default default (2 ^ 32) default,
     .portPreSet rq default default default default default (2 ^ 32), .portEeeSet rq (2 ^ 32) default default default,
     .portEeeSet rq default default (2 ^ 32) default,
     .portParseSet rq (2 ^ 32) default default default default default default,
     .portParseSet rq default default default (2 ^ 32) default default default,
     .portParseSet rq default default default default (2 ^ 32) default default,
     .portParseSet rq default default default default default (2 ^ 32) default,
     .portParseSet rq default default default default default default (2 ^ 32),
     .portTsTrimSet rq (2 ^ 32) default default, .portTsTrimSet rq default (2 ^ 32) default,
     .portTsTrimSet rq default default (2 ^ 32), .pcpMapSet rq (2 ^ 32) default, .pcpMapSet rq default (2 ^ 32),
     .lldpSet rq (2 ^ 32) default default, .lldpSet rq default default (2 ^ 32),
     .tbProfileSet rq (2 ^ 32) default default default default default,
     .tbProfileSet rq default (2 ^ 32) default default default default,
     .tbProfileSet rq default default (2 ^ 32) default default default,
     .tbProfileSet rq default default default (2 ^ 32) default default,
     .tbProfileSet rq default default default default (2 ^ 32) default,
     .tbProfileSet rq default default default default default (2 ^ 32), .ptpPortRoleSet rq (2 ^ 32) default default,
     .ptpPortRoleSet rq default (2 ^ 32) default, .ptpPortRoleSet rq default default (2 ^ 32),
     .tbControl rq (2 ^ 32) default default default default default,
     .tbControl rq default default default default (2 ^ 32) default,
     .tbControl rq default default default default default (2 ^ 32),
     .ptSelect rq (2 ^ 32) default default default default, .ptSelect rq default default default (2 ^ 32) default,
     .tioSet rq { (default : TioArgs) with target := 2 ^ 80 },
     .tioSet rq { (default : TioArgs) with periodNs := 2 ^ 32 },
     .tioSet rq { (default : TioArgs) with periodFrac := 2 ^ 16 },
     .tioSet rq { (default : TioArgs) with width := 2 ^ 32 }, .tioSet rq { (default : TioArgs) with count := 2 ^ 32 },
     .tioSet rq { (default : TioArgs) with trim := 2 ^ 32 }, .tioCapturePop rq (2 ^ 32),
     .ppsSet rq default (2 ^ 32) default default default, .ppsSet rq default default (2 ^ 32) default default,
     .synceSet rq (2 ^ 32) default default default, .synceSet rq default (2 ^ 32) default default,
     .synceSet rq default default (2 ^ 32) default, .timeOfDaySet rq (2 ^ 32) default, .timeOfDaySet rq default (2 ^ 48),
     .profileSet rq (2 ^ 32) default default default default default,
     .profileSet rq default default (2 ^ 32) default default default,
     .profileSet rq default default default (2 ^ 32) default default,
     .profileSet rq default default default default (2 ^ 32) default, .ruleAdd rq (2 ^ 32) default default] : List Instr).all (fun c => !c.wellFormed) = true := by
  decide +kernel

/-- Commands with one operand that does not fit, one for each check of WellFormed (part 3). -/
theorem test_illFormed3 :
    ([.ruleAdd rq default (2 ^ 320) default, .ruleAdd rq default default (2 ^ 128), .ruleDelete rq (2 ^ 32) default,
     .ruleDelete rq default (2 ^ 320), .plateCommit rq (some (2 ^ 80)), .fragConfig rq (2 ^ 32),
     .fdbQuery rq default (2 ^ 32) default default, .fdbQuery rq default default (2 ^ 32) default,
     .fdbQuery rq default default default (2 ^ 32), .fdbQuery rq (some (2 ^ 64, 0)) default default default,
     .fdbQuery rq (some (0, 2 ^ 64)) default default default, .fdbStaticAdd rq (2 ^ 48) default default default,
     .fdbStaticAdd rq default (2 ^ 32) default default, .fdbStaticAdd rq default default (2 ^ 32) default,
     .fdbStaticAdd rq default default default (2 ^ 32), .fdbStaticDelete rq (2 ^ 48) default,
     .fdbStaticDelete rq default (2 ^ 32), .fdbFlush rq (some (2 ^ 32)) default default,
     .fdbFlush rq default (some (2 ^ 32)) default, .fdbConfig rq (2 ^ 32) default default default,
     .fdbConfig rq default (2 ^ 32) default default, .fdbConfig rq default default (2 ^ 32) default,
     .fdbConfig rq default default default (2 ^ 32), .portLearnSet rq (2 ^ 32) default default default,
     .portLearnSet rq default default default (2 ^ 32), .vlanSet rq (2 ^ 32) default default,
     .vlanSet rq default (2 ^ 32) default, .vlanSet rq default default { (default : VlanArgs) with fid := 2 ^ 12 },
     .vlanSet rq default default { (default : VlanArgs) with group := 2 ^ 14 },
     .vlanSet rq default default { (default : VlanArgs) with unkUc := 4 },
     .vlanSet rq default default { (default : VlanArgs) with unkMc := 4 }, .groupSet rq (2 ^ 32) default,
     .groupSet rq default (2 ^ 261), .routeAdd rq default (2 ^ 128) default default,
     .routeAdd rq default default (2 ^ 32) default, .routeAdd rq default default default (2 ^ 32),
     .routeDelete rq default (2 ^ 128) default, .routeDelete rq default default (2 ^ 32),
     .nexthopSet rq (2 ^ 32) default default default, .nexthopSet rq default (2 ^ 32) default default,
     .nexthopSet rq default default (2 ^ 32) default, .nexthopSet rq default default default (some (2 ^ 32)),
     .learnRingSet rq (2 ^ 32) default default default default,
     .learnRingSet rq default (2 ^ 64) default default default,
     .learnRingSet rq default default (2 ^ 32) default default,
     .learnRingSet rq default default default (2 ^ 32) default,
     .streamAdmit rq { (default : AdmitArgs) with key := 2 ^ 320 },
     .streamAdmit rq { (default : AdmitArgs) with fMax := 2 ^ 32 },
     .streamAdmit rq { (default : AdmitArgs) with interval := 2 ^ 32 },
     .streamAdmit rq { (default : AdmitArgs) with acts := 2 ^ 14 }] : List Instr).all (fun c => !c.wellFormed) = true := by
  decide +kernel

/-- Commands with one operand that does not fit, one for each check of WellFormed (part 4). -/
theorem test_illFormed4 :
    ([.streamAdmit rq { (default : AdmitArgs) with exprKey := List.replicate 19 0 },
     .streamAdmit rq { (default : AdmitArgs) with exprMask := 2 ^ 18 }, .streamWithdraw rq (2 ^ 32),
     .streamQuery rq (2 ^ 32) default, .streamQuery rq default (2 ^ 32), .streamActions rq (2 ^ 32) default default,
     .streamActions rq default (2 ^ 32) default, .rpairSet rq (2 ^ 32) default default default default default default,
     .rpairSet rq default (2 ^ 32) default default default default default,
     .rpairSet rq default default (2 ^ 32) default default default default,
     .rpairSet rq default default default (2 ^ 32) default default default,
     .rpairSet rq default default default default default default (2 ^ 32),
     .rpairSet rq default default default default (some (2 ^ 32)) default default, .ddConfig rq (2 ^ 32),
     .streamLimits rq (2 ^ 32), .queueSet rq (2 ^ 32) default default, .queueSet rq default (2 ^ 32) default,
     .queueSet rq default default { (default : QueueArgs) with quantum := 2 ^ 32 },
     .queueSet rq default default { (default : QueueArgs) with limit := 2 ^ 32 },
     .queueSet rq default default { (default : QueueArgs) with idle := 2 ^ 32 },
     .queueSet rq default default { (default : QueueArgs) with hi := 2 ^ 32 },
     .queueSet rq default default { (default : QueueArgs) with lo := 2 ^ 32 },
     .queueSet rq default default { (default : QueueArgs) with tbsRate := 2 ^ 32 },
     .queueSet rq default default { (default : QueueArgs) with tbsBurst := 2 ^ 32 },
     .portSchedSet rq (2 ^ 32) default default default, .portSchedSet rq default (2 ^ 32) default default,
     .portSchedSet rq default default (2 ^ 32) default, .portSchedSet rq default default default (2 ^ 32),
     .queueQuery rq (2 ^ 32) default default, .queueQuery rq default default (2 ^ 32),
     .queueQuery rq default (some (2 ^ 32)) default, .cueListLoad rq (2 ^ 32) default default,
     .cueListLoad rq default default (2 ^ 56), .cueListLoad rq default [(2 ^ 56, 0)] default,
     .cueListArm rq (2 ^ 32) default, .cueListArm rq default (2 ^ 80), .cueListDisarm rq (2 ^ 32),
     .gateConfig rq (2 ^ 32) default default default default, .gateConfig rq default default default default (2 ^ 32),
     .cueListQuery rq (2 ^ 32) default, .cueListQuery rq default (2 ^ 32), .policerSet rq (2 ^ 32) default,
     .policerSet rq default { (default : PolicerArgs) with cir := 2 ^ 32 },
     .policerSet rq default { (default : PolicerArgs) with pir := 2 ^ 32 },
     .policerSet rq default { (default : PolicerArgs) with cbs := 2 ^ 32 },
     .policerSet rq default { (default : PolicerArgs) with ebs := 2 ^ 32 }, .policerQuery rq (2 ^ 32),
     .wredProfileSet rq default default [], .wredProfileSet rq (2 ^ 32) default (List.replicate 3 default),
     .wredProfileSet rq default (2 ^ 32) (List.replicate 3 default)] : List Instr).all (fun c => !c.wellFormed) = true := by
  decide +kernel

/-- Commands with one operand that does not fit, one for each check of WellFormed (part 5). -/
theorem test_illFormed5 :
    ([.mirrorSet rq (2 ^ 32) default default default, .mirrorSet rq default (2 ^ 32) default default,
     .mirrorSet rq default default (2 ^ 32) default, .bpmCarve rq [], .bpmCarve rq (2 ^ 32 :: List.replicate 3 0),
     .quotaProfileSet rq (2 ^ 32) default default default default default default,
     .quotaProfileSet rq default (2 ^ 32) default default default default default,
     .quotaProfileSet rq default default (2 ^ 32) default default default default,
     .quotaProfileSet rq default default default (2 ^ 32) default default default,
     .quotaProfileSet rq default default default default (2 ^ 32) default default,
     .quotaProfileSet rq default default default default default (2 ^ 32) default,
     .quotaProfileSet rq default default default default default default (2 ^ 32),
     .quotaBind rq (2 ^ 32) default default default, .quotaBind rq default (2 ^ 32) default default,
     .quotaBind rq default default (2 ^ 32) default, .portFlowSet rq (2 ^ 32) default default,
     .portFlowSet rq default (2 ^ 32) default, .portFlowSet rq default default (2 ^ 32), .bpmQuery rq default (2 ^ 32),
     .bpmQuery rq (some (2 ^ 64, 0)) default, .bpmQuery rq (some (0, 2 ^ 64)) default, .editSet rq default [],
     .editSet rq (2 ^ 32) (List.replicate 8 default), .editSet rq default (2 ^ 32 :: List.replicate 7 0),
     .stageQuery rq (2 ^ 32), .clusterStepSet rq (2 ^ 32) default default, .clusterStepSet rq default (2 ^ 32) default,
     .programAssign rq (2 ^ 32) default, .programAssign rq default (2 ^ 32), .pinRebalance rq (2 ^ 32),
     .samplerSet rq (2 ^ 32) default default default default, .samplerSet rq default (2 ^ 32) default default default,
     .samplerSet rq default default default default (2 ^ 32), .profileStart rq (some (2 ^ 64, 0)),
     .profileStart rq (some (0, 2 ^ 64)), .supvGenSet rq (2 ^ 32) default default default,
     .supvGenSet rq default default (2 ^ 32) default, .supvGenSet rq default default default (2 ^ 32),
     .stageReport default 24 (2 ^ 32) default default, .stageReport default 24 0x6F0 (2 ^ 32) default,
     .stageReport default 24 0x6F0 default [2 ^ 32], .stageReport default 23 0x6F0 default default,
     .stageReport default 24 0x6EF default default, .stageReport default 31 0x700 default default,
     .folioConfig rq (2 ^ 32) default default default default default,
     .folioConfig rq default (2 ^ 32) default default default default,
     .folioConfig rq default default (2 ^ 32) default default default,
     .folioConfig rq default default default (2 ^ 32) default default,
     .folioConfig rq default default default default default (2 ^ 32), .folioQuery rq (2 ^ 32)] : List Instr).all (fun c => !c.wellFormed) = true := by
  decide +kernel

/-- Commands with one operand that does not fit, one for each check of WellFormed (part 6). -/
theorem test_illFormed6 :
    ([.captureClassSet rq (2 ^ 32) default, .captureClassSet rq default (2 ^ 32),
     .portCaptureSet rq (2 ^ 32) default default, .portCaptureSet rq default (2 ^ 32) default,
     .portCaptureSet rq default default (2 ^ 32), .pinBindingSet rq (2 ^ 32) default default default default default,
     .pinBindingSet rq default (2 ^ 32) default default default default,
     .pinBindingSet rq default default (2 ^ 32) default default default,
     .pinBindingSet rq default default default (2 ^ 32) default default,
     .pinBindingSet rq default default default default (2 ^ 64) default,
     .pinBindingSet rq default default default default default (2 ^ 64), .pinNow rq (2 ^ 64) default default,
     .pinNow rq default (2 ^ 64) default, .pinNow rq default default (2 ^ 64), .pinRelease rq (2 ^ 32),
     .folioRead rq { (default : FolioReadArgs) with lo := 2 ^ 64 },
     .folioRead rq { (default : FolioReadArgs) with hi := 2 ^ 64 },
     .folioRead rq { (default : FolioReadArgs) with addr := 2 ^ 64 },
     .folioRead rq { (default : FolioReadArgs) with len := 2 ^ 32 }, .bookQuery rq (2 ^ 32),
     .bookRead rq { (default : BookReadArgs) with lo := 2 ^ 32 },
     .bookRead rq { (default : BookReadArgs) with hi := 2 ^ 32 },
     .bookRead rq { (default : BookReadArgs) with addr := 2 ^ 64 },
     .bookRead rq { (default : BookReadArgs) with len := 2 ^ 32 }, .bookConfig rq default (2 ^ 32) default,
     .bookConfig rq default default (2 ^ 32), .bookSnapSet rq (2 ^ 32) default default default default default,
     .bookSnapSet rq default (2 ^ 32) default default default default,
     .bookSnapSet rq default default (2 ^ 32) default default default, .bookTriggerSet rq (2 ^ 32) default,
     .bookTriggerSet rq default { (default : TriggerArgs) with code := 2 ^ 16 },
     .bookTriggerSet rq default { (default : TriggerArgs) with mask := 2 ^ 16 },
     .bookSubscribe rq (2 ^ 32) default default default, .bookSubscribe rq default (2 ^ 32) default default,
     .bookSubscribe rq default default (2 ^ 32) default, .statsQuery rq (2 ^ 32) default default default,
     .statsQuery rq default (2 ^ 32) default default, .statsQuery rq default default (2 ^ 32) default,
     .statsQuery rq default default default (2 ^ 32), .statsDumpSet rq (2 ^ 32) default default default default default,
     .statsDumpSet rq default (2 ^ 32) default default default default,
     .statsDumpSet rq default default (2 ^ 32) default default default,
     .statsDumpSet rq default default default (2 ^ 64) default default,
     .statsDumpSet rq default default default default (2 ^ 64) default,
     .perfConfig rq { (default : PerfArgs) with lo := 2 ^ 32 },
     .perfConfig rq { (default : PerfArgs) with hi := 2 ^ 32 }, .perfClear rq (2 ^ 32) default,
     .perfClear rq default (2 ^ 32), .perfAllowSet rq (2 ^ 32),
     .pairConfig rq { (default : PairArgs) with level := 2 ^ 8 }] : List Instr).all (fun c => !c.wellFormed) = true := by
  decide +kernel

/-- Commands with one operand that does not fit, one for each check of WellFormed (part 7). -/
theorem test_illFormed7 :
    ([.pairConfig rq { (default : PairArgs) with hbHalf := 2 ^ 16 },
     .pairConfig rq { (default : PairArgs) with revertHold := 2 ^ 32 },
     .pairConfig rq { (default : PairArgs) with overlap := 2 ^ 16 },
     .pairConfig rq { (default : PairArgs) with startWait := 2 ^ 16 }, .peerMessage default (2 ^ 32) default default,
     .peerMessage default default (2 ^ 32) default, .peerMessage default default default [2 ^ 32],
     .domainJoin rq { (default : DomJoinArgs) with key := List.replicate 8 0, domainId := 2 ^ 16 },
     .domainJoin rq { (default : DomJoinArgs) with key := List.replicate 8 0, index := 2 ^ 16 },
     .domainJoin rq { (default : DomJoinArgs) with key := List.replicate 8 0, parentMac := 2 ^ 48 },
     .domainJoin rq { (default : DomJoinArgs) with key := List.replicate 8 0, mac := 2 ^ 48 },
     .domainJoin rq { (default : DomJoinArgs) with key := List.replicate 8 0, groupDa := 2 ^ 48 },
     .domainJoin rq { (default : DomJoinArgs) with key := List.replicate 9 0 },
     .domainConfig rq { (default : DomCfgArgs) with ports := 2 ^ 256 },
     .domainConfig rq { (default : DomCfgArgs) with rate := 2 ^ 32 },
     .domainConfig rq { (default : DomCfgArgs) with lead := 2 ^ 16 }, .domainSend rq (2 ^ 32) default,
     .domainSend rq default [2 ^ 32], .domainBroadcast rq [2 ^ 32], .proofStart rq (2 ^ 80) default default,
     .proofStart rq default (2 ^ 64) default, .proofStart rq default default (2 ^ 32),
     .curtainArm rq (2 ^ 32) default default, .curtainArm rq default (2 ^ 80) default,
     .curtainArm rq default default (2 ^ 256), .curtainCancel rq (2 ^ 32),
     .barrierStart rq (2 ^ 32) default default default, .barrierStart rq default (2 ^ 32) default default,
     .barrierStart rq default default (2 ^ 32) default, .barrierStart rq default default default (some (2 ^ 64, 0)),
     .barrierStart rq default default default (some (0, 2 ^ 64)), .barrierReady rq (2 ^ 32),
     .domainTreeQuery rq (2 ^ 32), .funcWindowSet rq { (default : WindowArgs) with base := 2 ^ 64 },
     .funcWindowSet rq { (default : WindowArgs) with log2 := 2 ^ 8 }, .funcGrant rq (2 ^ 32) default default,
     .ringAssign rq default (2 ^ 32) default, .ringAssign rq default default (2 ^ 32),
     .rxMapSet rq (2 ^ 32) default default default, .rxMapSet rq default (2 ^ 32) default default,
     .rxMapSet rq default default (2 ^ 32) default, .mboxChannelSet rq (2 ^ 32) default default default default,
     .mboxChannelSet rq default default (2 ^ 32) default default,
     .mboxChannelSet rq default default default (2 ^ 32) default,
     .mboxChannelSet rq default default default default (2 ^ 32),
     .mboxChannelSet rq default (some (2 ^ 32)) default default default, .masterQuery rq default (2 ^ 32),
     .masterQuery rq (some (2 ^ 32)) default, .masterRelease rq (2 ^ 32) default, .sessionOpen rq (2 ^ 32)] : List Instr).all (fun c => !c.wellFormed) = true := by
  decide +kernel

/-- Commands with one operand that does not fit, one for each check of WellFormed (part 8). -/
theorem test_illFormed8 :
    ([.sessionAuth rq [], .sessionAuth rq (2 ^ 32 :: List.replicate 7 0), .sessionQuery rq default (2 ^ 32),
     .sessionQuery rq (some (2 ^ 32)) default, .credentialSet rq default [],
     .credentialSet rq (2 ^ 32) (List.replicate 8 default), .credentialSet rq default (2 ^ 32 :: List.replicate 7 0),
     .keySlotLoad rq { (default : KeyArgs) with key := [2 ^ 32] },
     .keySlotLoad rq { (default : KeyArgs) with start := 2 ^ 64 },
     .keySlotLoad rq { (default : KeyArgs) with stop := 2 ^ 64 }, .keySlotClear rq (2 ^ 32) default,
     .keySlotClear rq default (2 ^ 32), .pcieLinkUp (2 ^ 6) default, .pcieLinkUp default (2 ^ 3)] : List Instr).all (fun c => !c.wellFormed) = true := by
  decide +kernel

/-- The opcodes by least role and unlock key. -/
def ops : List (Nat × Nat × Bool) :=
  ([0x002, 0x003, 0x00D, 0x100, 0x200, 0x310, 0x402, 0x502, 0x514, 0x521, 0x5C4, 0x600, 0x606, 0x703, 0x800, 0x801,
    0x807, 0x900, 0x904, 0xA00, 0xB00, 0xB04, 0xB0B, 0xC00, 0xC01, 0xC02, 0xC03, 0xC15, 0xC16] : List Nat).map (fun o => (o, 0, false)) ++
  ([0x207, 0x313, 0x31B, 0x403, 0x603, 0x707, 0x708, 0x709, 0x802, 0x901, 0x902, 0xA02, 0xA04, 0xB06, 0xB0A] : List Nat).map (fun o => (o, 1, false)) ++
  ([0x004, 0x00A, 0x00E, 0x00F, 0x101, 0x102, 0x103, 0x104, 0x105, 0x106, 0x107, 0x108, 0x109, 0x201, 0x202, 0x203,
    0x204, 0x205, 0x206, 0x208, 0x209, 0x20A, 0x300, 0x301, 0x302, 0x303, 0x304, 0x305, 0x306, 0x307, 0x308, 0x311,
    0x312, 0x314, 0x315, 0x316, 0x317, 0x318, 0x319, 0x31A, 0x400, 0x401, 0x404, 0x405, 0x406, 0x500, 0x501, 0x510,
    0x511, 0x512, 0x513, 0x520, 0x530, 0x540, 0x5C0, 0x5C1, 0x5C2, 0x5C3, 0x5C5, 0x601, 0x602, 0x604, 0x605, 0x607,
    0x700, 0x701, 0x702, 0x704, 0x705, 0x706, 0x804, 0x805, 0x806, 0x903, 0x905, 0xA01, 0xA03, 0xB02, 0xB05, 0xB07,
    0xB08, 0xB09, 0xC13] : List Nat).map (fun o => (o, 2, false)) ++
  ([0x006, 0x007, 0x009, 0x00C, 0x906, 0xB03, 0xC10, 0xC11, 0xC12, 0xC14, 0xC21] : List Nat).map (fun o => (o, 3, false)) ++
  ([0x005, 0x008, 0x70A, 0x803, 0xB01, 0xC04, 0xC20] : List Nat).map (fun o => (o, 3, true))

/-- Every SFI command is admitted on the device `up`. -/
theorem test_Granted_hyps : ∀ x ∈ ops, Granted (st up) rq x.1 x.2.1 x.2.2 3 := by
  have h : ∀ x ∈ ops, may up x.1 x.2.1 x.2.2 = true := by decide +kernel
  exact fun x hx => granted_of (h x hx)

/-! ## Lanes and ports -/

/-- Lane 1 is an enabled QSGMII lane; its port 4 is enabled, its PCS up beside port 5's, in the state `ls` with LINK_HOLD 5; a
second has passed. -/
def port4 (ls : Nat) : Dev :=
  ev { sets up [(F.LANE_CFG_LMODE, 1, 5), (F.LANE_CFG_LANE_EN, 1, 1), (F.LANE_CFG_AN_EN, 1, 1), (F.PORT_CFG_PORT_EN, 4, 1),
      (F.PORT_STATUS_LINK_STATE, 4, ls), (F.PORT_LINK_LINK_HOLD, 4, 5)] with
    pcsUp := [(4, true), (5, true)], window := [(4, true)], holdOver := [(4, true)], cycle := secCycles } 2

/-- Port 0, of a 1000BASE-X lane, likewise; a place beside it still counts as up, so that no free value shows in LANE_STATUS. -/
def port0 (ls : Nat) : Dev :=
  ev { sets up [(F.LANE_CFG_LMODE, 0, 4), (F.LANE_CFG_LANE_EN, 0, 1), (F.PORT_CFG_PORT_EN, 0, 1),
      (F.PORT_STATUS_LINK_STATE, 0, ls), (F.PORT_LINK_LINK_HOLD, 0, 5)] with
    pcsUp := [(0, true), (1, true)], holdOver := [(0, true)], cycle := secCycles } 2

theorem test_LinkEvents_hyps :
    (st (port4 0)).live ∧ (port4 0).present 6 = true ∧ (port4 0).lanesOn 6 = true ∧ (port4 0).pcsUp.get 6 = false ∧
    (port0 0).portMode 0 ≠ 5 ∧ (port0 0).portMode 0 ≠ 7 ∧
    ((port0 1).pcsSet 0 false).linkState 0 = 1 ∧ ((port0 1).pcsSet 0 false).get F.PORT_LINK_LINK_HOLD 0 ≠ 0 ∧
    (((port0 1).set F.PORT_LINK_LINK_HOLD 0 0).pcsSet 0 false).get F.PORT_LINK_LINK_HOLD 0 = 0 ∧
    ((port0 2).pcsSet 0 false).linkState 0 = 2 ∧ ((port0 2).pcsSet 0 false).holdOver.get 0 = true ∧
    ((port0 0).pcsSet 0 false).linkState 0 = 0 ∧ (port4 0).portMode 4 = 5 ∧
    (port4 0).linkState 4 = 0 ∧ (port4 0).window.get 4 = true ∧
    (port4 0).past ((port4 0).windowAt.get 4) ((port4 0).get F.PORT_LINK_LINK_UP_TIME 4 * usCycles) = true ∧
    (port4 0).pcsUp.get 4 = true ∧ (port4 0).on F.PORT_CFG_PORT_EN 4 = true ∧ (port4 0).portSpeed 4 ≠ 0 ∧
    (port4 2).linkState 4 = 2 ∧ (port4 2).past ((port4 2).holdAt.get 4) ((port4 2).get F.PORT_LINK_LINK_HOLD 4 * usCycles) = true ∧
    (port4 2).window.get 4 = true ∧ (port0 2).window.get 0 = false ∧ (port0 2).linkState 0 = 2 ∧
    (port0 2).past ((port0 2).holdAt.get 0) ((port0 2).get F.PORT_LINK_LINK_HOLD 0 * usCycles) = true ∧ (port4 0).linkState 4 ≠ 2 := by
  refine ⟨rfl, ?_⟩; decide +kernel

theorem test_LinkEvents_an_hyps :
    (port4 0).present 4 = true ∧ (port4 0).on F.LANE_CFG_AN_EN (4 / 4) = true ∧ (port4 0).portMode 4 = 5 ∧ 2 ∈ modeSpeeds 5 ∧
    3 ∉ modeSpeeds 5 ∧ modeAn 5 = true ∧ ((port4 0).set F.LANE_CFG_LMODE 1 3).portMode 4 = 3 ∧ 1 ∈ modeSpeeds 3 := by
  decide +kernel

/-- Port 4 in preemption state `ps` with `n` verify mPackets sent, its link UP. -/
def pre4 (ps n : Nat) : Dev := ev { (port4 1).set F.PORT_STATUS_PRE_STATE 4 ps with verSent := [(4, n)] } 2

theorem test_LinkEvents_pre_hyps :
    (pre4 2 2).get F.PORT_STATUS_PRE_STATE 4 = 2 ∧
    (pre4 2 2).past ((pre4 2 2).verAt.get 4) ((pre4 2 2).verCfg.get 4 / 16 * msCycles) = true ∧
    (pre4 2 2).verSent.get 4 < 3 ∧ 3 ≤ (pre4 2 3).verSent.get 4 ∧
    (pre4 0 0).get F.PORT_STATUS_PRE_STATE 4 = 0 ∧ (pre4 4 3).get F.PORT_STATUS_PRE_STATE 4 ≠ 0 ∧
    (port4 1).linkState 4 = 1 ∧ modeLpi ((port4 1).portMode 4) = true ∧
    (let d := ev { (port4 1).set F.PORT_EEE_EEE_EN 4 1 with eeeRes := [(4, true)] } 2
     d.on F.PORT_EEE_EEE_EN 4 = true ∧ d.past (d.busyAt.get 4) (d.get F.PORT_EEE_EEE_IDLE 4 * usCycles) = true ∧
       d.on F.PORT_STATUS_EEE_INHIBIT 4 = false ∧ d.eeeRes.get 4 = true ∧ d.portIdle 4 = true ∧
       d.on F.PORT_STATUS_TX_LPI 4 = false ∧ d.past (d.wakeAt.get 4) (d.get F.PORT_EEE_TW_TX 4 * usCycles) = true) := by
  decide +kernel

theorem test_QuadCommands_hyps :
    Writes (st (keyed up .QUAD_MODE 0)) 24 .QUAD_MODE 0 1 ∧ Writes (st (keyed up .LANE_CFG 1)) 24 .LANE_CFG 1 11 ∧
    Writes (st (keyed up .PORT_CFG 4)) 24 .PORT_CFG 4 1518 ∧
    1 ≠ ((st up).passed 24 .QUAD_MODE 0 1).get F.QUAD_MODE_QMODE 0 ∧
    (let d := (st (sets up [(F.LANE_CFG_LMODE, 0, 1), (F.LANE_CFG_LANE_EN, 0, 1), (F.LANE_CFG_LMODE, 1, 4),
        (F.LANE_CFG_LANE_EN, 1, 1)])).passed 24 .LANE_CFG 2 13
     d.thirdRate 2 6 true = true ∧ d.thirdRate 2 6 false = false) ∧
    (let d := (st (port4 1)).passed 24 .PORT_CFG 4 1518
     d.on F.PORT_CFG_PORT_EN 4 = true ∧ (d.store .PORT_CFG 4 1518).on F.PORT_CFG_PORT_EN 4 = false ∧
     (d.store .PORT_CFG 4 (10240 + 16384)).on F.PORT_CFG_PORT_EN 4 = true ∧ d.on F.PORT_CFG_PORT_EN 6 = false ∧
     (d.store .PORT_CFG 6 (10240 + 16384)).on F.PORT_CFG_PORT_EN 6 = true ∧ (d.store .PORT_CFG 6 (10240 + 16384)).pcsUp.get 6 = false) ∧
    (ev up 2).on (pllLock 0) 0 = false ∧ (ev up 2).pllServes 0 0 = false ∧ (ev (up.set (pllLock 0) 0 1) 2).on (pllLock 0) 0 = true ∧
    ((ev (sets up [(F.LANE_CFG_LMODE, 0, 1), (F.LANE_CFG_LANE_EN, 0, 1), (pllLock 0, 0, 1)]) 2).set (pllLock 0) 0 0).pllServes 0 0 = true ∧
    (ev up 2).get F.QUAD_MODE_QMODE (4 / 4) = 0 := by
  refine ⟨writes_of ?_, writes_of ?_, writes_of ?_, ?_⟩ <;> decide +kernel

theorem test_PortAndLaneCommands_hyps :
    F.PORT_CFG_MAX_FRAME.ok 10240 = true ∧ F.PORT_LINK_LINK_HOLD.ok 10000 = true ∧ F.PORT_LINK_LINK_UP_TIME.ok 4095 = true ∧
    (at_ up 0x103).fMaxAbove 255 10240 = false ∧ F.PORT_PRE_VERIFY_TIME.ok 128 = true ∧ F.PORT_EEE_EEE_IDLE.ok 1023 = true ∧
    F.PARSER_PORT_CFG_PVID.ok 4094 = true ∧
    2 < (quadRates (fun k => (at_ (sets up [(F.LANE_CFG_LANE_EN, 0, 1), (F.LANE_CFG_LANE_EN, 1, 1), (F.LANE_CFG_LANE_EN, 2, 1)]) 0x101).on
      F.LANE_CFG_LANE_EN (4 * 0 + k)) (laneModes [⟨1, 0, false, false, false, 0⟩, ⟨4, 0, false, false, false, 0⟩,
        ⟨8, 2, false, false, false, 2⟩, ⟨0, 0, false, false, false, 0⟩])).length := by
  decide +kernel

/-! ## Time -/

/-- A hundred seconds have passed since the device's timers were last started. -/
def aged (d : Dev) : Dev := ev { d with cycle := 100 * secCycles } 9

theorem test_TimeEvents_hyps :
    (let v := (st { up with ticking := [(0, true)] }).due atTime
     v.ticking.get 0 = true ∧ (v.tbMove 0).off = 0 ∧ v.ticking.get 1 = false) ∧
    (let u := aged (up.set F.TB_STATE_STATE 0 2)
     let d := ({ u with holdoverAt := u.holdoverAt.put 0 u.cycle }.set F.TB_STATE_STATE 0 3).raise F.TIME_EVENT_TB_HOLDOVER 0 0
     u.get F.TB_STATE_STATE 0 = 2 ∧ u.past (u.servoAt.get 0) (u.get F.TB_TIMERS_SERVO_TIMEOUT 0 * msCycles) = true ∧
     (d.timeRec 0x0902 3 0 0 (d.tbLt 0) (.base 0)).on F.TIME_CTRL_SEL_ON_HOLDOVER = false ∧
     ((d.set F.TIME_CTRL_SEL_ON_HOLDOVER 0 1).timeRec 0x0902 3 0 0 (d.tbLt 0) (.base 0)).on F.TIME_CTRL_SEL_ON_HOLDOVER = true) ∧
    (aged up).get F.TB_STATE_STATE 1 ≠ 2 ∧
    (let u := aged (sets up [(F.TB_STATE_STATE, 0, 3), (F.TB_TIMERS_HOLDOVER_LIMIT, 0, 1)])
     u.get F.TB_STATE_STATE 0 = 3 ∧ u.on F.TB_TIMERS_HOLDOVER_LIMIT 0 = true ∧
     u.past (u.holdoverAt.get 0) (u.get F.TB_TIMERS_HOLDOVER_LIMIT 0 * secCycles) = true) ∧
    (aged (up.set F.TB_TIMERS_HOLDOVER_LIMIT 0 0)).on F.TB_TIMERS_HOLDOVER_LIMIT 0 = false ∧
    (aged (up.setBit F.TIME_STATUS_TPLL_LOCK 0 1 true)).bit F.TIME_STATUS_TPLL_LOCK 0 1 = true ∧
    (aged up).bit F.TIME_STATUS_TPLL_REF_LOSS 0 1 = false ∧
    (let v := (st { up.set F.TIME_STATUS_PT_VALID 0 1 with off := -1 }).due atTime
     v.on F.TIME_STATUS_PT_VALID = true ∧ v.off ≠ 0 ∧ v.slewEnds = true) := by
  decide +kernel

theorem test_TimeEvents_writes_hyps :
    Writes (st (keyed up .TIME_CMD 0)) 24 .TIME_CMD 0 1 ∧ WritesAt (st (keyed up .TIME_CMD 0)) atTime 24 .TIME_CMD 0 2 ∧
    WritesAt (st (keyed up .TIME_CTRL 0)) atSelect 24 .TIME_CTRL 0 1 ∧
    ((st up).passedAt atTime 24 .TIME_CMD 0 2).ptOutputs = false ∧
    ((st (up.set F.TIO_CFG_MODE 7 2)).passedAt atTime 24 .TIME_CMD 0 2).ptOutputs = true ∧
    (let x := ((st up).passedAt atSelect 24 .TIME_CTRL 0 1).store .TIME_CTRL 0 1
     let d := if x.outputsOn then x else x.outputsOff
     d.get F.TIME_CTRL_ACTIVE_TB ≠ d.get F.TIME_STATUS_PT_TB) ∧
    (let x := ((st up).passedAt atSelect 24 .TIME_CTRL 0 0).store .TIME_CTRL 0 0
     let d := if x.outputsOn then x else x.outputsOff
     d.get F.TIME_CTRL_ACTIVE_TB = d.get F.TIME_STATUS_PT_TB) := by
  refine ⟨writes_of ?_, writesAt_of ?_, writesAt_of ?_, ?_⟩ <;> decide +kernel

/-- A base in a state, and the largest RATE R63 takes in its low word. -/
def base1 (x : Nat) : State := st (sets up [(F.TB_STATE_STATE, 1, x), (F.TB_RATE_0_RATE_LO, 1, rateLimit.toNat % 2 ^ 32)])

theorem test_TimeEvents_base_hyps :
    Writes (st (keyed up .TB_CMD 1)) 24 .TB_CMD 1 1 ∧ WritesAt (st (keyed up .TB_CMD 1)) atTime 24 .TB_CMD 1 (2 + 4 * b2n true) ∧
    Writes (st (keyed up .TB_CMD 1)) 24 .TB_CMD 1 8 ∧ Writes (st (keyed up .TB_CMD 1)) 24 .TB_CMD 1 16 ∧
    Writes (st (keyed up .TB_RATE_1 1)) 24 .TB_RATE_1 1 8 ∧
    (((base1 0).passed 24 .TB_CMD 1 1).get F.TB_STATE_STATE 1 = 0 ∧
     ((base1 1).passedAt atTime 24 .TB_CMD 1 6).get F.TB_STATE_STATE 1 = 1 ∧
     ((base1 0).passedAt atTime 24 .TB_CMD 1 6).get F.TB_STATE_STATE 1 ≠ 1 ∧
     ((base1 3).passed 24 .TB_CMD 1 8).get F.TB_STATE_STATE 1 = 3 ∧ ((base1 3).passed 24 .TB_CMD 1 16).get F.TB_STATE_STATE 1 ≠ 0) ∧
    (let r (w : Nat) := signed 48 (w % 65536 * 2 ^ 32 + ((base1 1).passed 24 .TB_RATE_1 1 w).reg .TB_RATE_0 1)
     r (rateLimit.toNat / 2 ^ 32) = rateLimit ∧ rateLimit < r (rateLimit.toNat / 2 ^ 32 + 1) ∧ r 0x8000 < -rateLimit) := by
  refine ⟨writes_of ?_, writesAt_of ?_, writes_of ?_, writes_of ?_, writes_of ?_, ?_⟩ <;> decide +kernel

theorem test_TimePins_hyps :
    Writes (st (keyed up .TIO_START_1 7)) 24 .TIO_START_1 7 0 ∧ Writes (st (keyed up .TIO_CFG 7)) 24 .TIO_CFG 7 2 ∧
    Writes (st (keyed up .TIO_CAP_POP 8)) 24 .TIO_CAP_POP 8 1 ∧
    (let u := aged { up with cmp := [(6, some 1), (7, some 0)], pulseEnd := [(7, some 0)], ppsEnd := some 0 }
     u.cmp.get 7 = some 0 ∧ cmpDiff 0 (u.srcLt (u.get F.TIO_CFG_CMP_SRC 7)) ≤ 0 ∧ u.cmp.get 6 = some 1 ∧
     0 < cmpDiff 1 (u.srcLt (u.get F.TIO_CFG_CMP_SRC 6)) ∧ u.pulseEnd.get 7 = some 0 ∧ u.ppsEnd = some 0 ∧ 0 ≤ u.pt) ∧
    (let u := aged (sets up [(F.TIO_CFG_MODE, 7, 1), (F.TIO_CFG_EDGE, 7, 3), (F.PPS_CFG_PPS_IN_EN, 0, 1)])
     u.get F.TIO_CFG_MODE 7 = 1 ∧ edgeOk (u.get F.TIO_CFG_EDGE 7) true = true ∧ (u.capQ.get 7).length < 16 ∧
     u.on F.PPS_CFG_PPS_IN_EN = true ∧ true ≠ u.on F.PPS_CFG_PPS_IN_EDGE) ∧
    (let u := aged { sets up [(F.PPS_CFG_PPS_OUT_EN, 0, 1), (F.TIME_STATUS_PT_VALID, 0, 1)] with tb0 := 65536000000000 * 2 ^ 32 }
     u.on F.PPS_CFG_PPS_OUT_EN = true ∧ u.outputsOn = true ∧ u.ppsDue = true) ∧ (aged up).outputsOn = false := by
  refine ⟨writes_of ?_, writes_of ?_, writes_of ?_, ?_⟩ <;> decide +kernel

theorem test_TimePins_synce_hyps :
    (let u := aged (sets up [(F.SYNCE_CFG_SYNCE_0_EN, 0, 1)])
     u.synceOn 0 = true ∧ u.squelched.get 0 = false ∧ u.synceLock 0 = false) ∧
    (let u := aged { sets up [(F.SYNCE_CFG_SYNCE_1_EN, 0, 1), (F.LANE_STATUS_CDR_LOCK, 0, 1)] with squelched := [(1, true)] }
     u.squelched.get 1 = true ∧ u.synceLock 1 = true ∧ u.past (u.cdrAt.get (u.synceLane 1)) (10 * msCycles) = true) ∧
    (let u := aged { up with fu := [default] }
     u.fu[0]? = some default ∧ u.past (default : FuEntry).made (100 * msCycles) = true) := by
  decide +kernel

/-- The last pin with a target. -/
def tio (mode target : Nat) : TioArgs := ⟨7, mode, 2, 0, false, false, false, target, 1000000, 0, 500, 1, 0⟩

theorem test_TimeSfi_hyps :
    (∀ p < 256, roleOk 0 ((at_ up 0x201).ptpRole p 1) = true) ∧ roleOk ((at_ up 0x202).profile.get 1) 3 = true ∧
    F.TB_TIMERS_SERVO_TIMEOUT.ok 65535 = true ∧ F.TB_TIMERS_HOLDOVER_LIMIT.ok 0 = true ∧ F.TIME_CTRL_PT_SLEW.ok 50 = true ∧
    (at_ up 0x205).ptOutputs = false ∧
    may (up.set F.PPS_CFG_PPS_IN_EN 0 1) 0x20A 2 false = true ∧
    (at_ (up.set F.PPS_CFG_PPS_IN_EN 0 1) 0x20A).on F.PPS_CFG_PPS_IN_EN = true := by
  decide +kernel

theorem test_TimeSfi_pins_hyps :
    tioArgsOk (tio 1 0) = true ∧ tioArgsOk (tio 2 (512000000000 * 65536)) = true ∧
    512000000000 * 65536 ≤ ((at_ up 0x206).tioConfig (tio 2 0)).srcLt 0 + 512000000000 * 65536 ∧
    ((at_ up 0x206).tioConfig (tio 2 0)).srcLt 0 + 512000000000 * 65536 < 512000000000 * 65536 + 1 ∧
    (at_ up 0x207).capQ.get 8 = [] ∧
    may { up with capQ := [(8, [default])] } 0x207 1 false = true ∧
    ((at_ { up with capQ := [(8, [default])] } 0x207).capQ.get 8).head? = some default ∧
    F.PPS_CFG_PPS_WIDTH.ok 500000 = true := by
  decide +kernel

/-! ## Plates and tables -/

/-- The shadow plate is open and swept, and owned by channel 0. -/
def shadow : Dev := { up.set F.PLATE_STATUS_SHADOW_OPEN 0 1 with owner := 1 }

/-- A commit is armed. -/
def armed : Dev := shadow.set F.PLATE_STATUS_COMMIT_ARMED 0 1

/-- Plate 1 retires. -/
def retiring : Dev := sets up [(F.PLATE_STATUS_RETIRING, 0, 1), (F.PLATE_STATUS_RETIRING_PLATE, 0, 1), (F.PLATE_LIMITS_RETIRE_LIMIT, 0, 1)]

/-- Function 0 may read and write all of its memory below 2^48. -/
def dma : Dev := up.setReg .WIN_LO 0 (1 + 2 + 4 + 8 * 48)

theorem test_PlateEvents_hyps :
    (∀ x ∈ [1, 2, 4, 8, 16], Writes (st (keyed up .PLATE_CMD 0)) 24 .PLATE_CMD 0 x) ∧
    Writes (st (keyed up .PLATE_AT_1 0)) 24 .PLATE_AT_1 0 0 ∧
    (let d := (st up).passed 24 .PLATE_CMD 0 1
     d.plateReason .open_ (cmpDiff d.plateAt d.pt) (d.on F.PLATE_AT_1_HOLD) = 0) ∧
    (∀ w ∈ [2, 4, 16], let d := (st (sets shadow [(F.PLATE_AT_1_HIGH, 0, 1)])).passed 24 .PLATE_CMD 0 w
     d.plateReason .commit (cmpDiff d.plateAt d.pt) (d.on F.PLATE_AT_1_HOLD) = 0 ∧
     d.plateReason .commitAt (cmpDiff d.plateAt d.pt) (d.on F.PLATE_AT_1_HOLD) = 0 ∧
     d.sweep = 0 ∧ d.on F.PLATE_STATUS_SHADOW_OPEN = true ∧ d.on F.PLATE_STATUS_COMMIT_ARMED = false) ∧
    ((st armed).passed 24 .PLATE_CMD 0 8).on F.PLATE_STATUS_COMMIT_ARMED = true ∧
    (let d := (st armed).passed 24 .PLATE_AT_1 0 0
     d.on F.PLATE_STATUS_COMMIT_ARMED = true ∧ d.on F.PLATE_AT_1_HOLD = false ∧ bitsOf 0 24 24 = 0 ∧
     (d.set F.PLATE_AT_1_HOLD 0 1).on F.PLATE_AT_1_HOLD = true) := by
  have h : ∀ x ∈ [1, 2, 4, 8, 16], (!(keyed up .PLATE_CMD 0).stopped && (keyed up .PLATE_CMD 0).mayWrite 24 .PLATE_CMD 0 x) = true := by
    decide +kernel
  exact ⟨fun x hx => writes_of (h x hx), writes_of (by decide +kernel), by decide +kernel⟩

theorem test_PlateEvents_sweeps_hyps :
    (let s := ev { shadow with sweep := 1 } 5
     s.sweep = 1 ∧ s.abortHeld = false ∧ s.autoPlate = 0 ∧
     (let d := ((({ s.openSweep with sweep := 0 }.set F.PLATE_STATUS_SWEEP_BUSY 0 0).raise F.PLATE_EVENT_OPENED).record
         { code := 0x0501, sev := 1 }).finishOp 0x301 .ok
      d.abortHeld = false ∧ d.autoPlate = 0)) ∧
    (let u := ev armed 5
     u.on F.PLATE_STATUS_COMMIT_ARMED = true ∧ u.on F.PLATE_AT_1_HOLD = false ∧ cmpDiff u.commitAt u.pt ≤ 0) ∧
    (let u := ev retiring 5
     u.on F.PLATE_STATUS_RETIRING = true ∧ u.inflight.get (u.get F.PLATE_STATUS_RETIRING_PLATE) = 0 ∧
     u.fragNames (u.get F.PLATE_STATUS_RETIRING_PLATE) = false) ∧
    (ev { retiring with sweep := 2 } 5).sweep = 2 ∧ (ev { shadow with sweep := 3 } 5).sweep = 3 ∧
    (let d := ev { retiring with inflight := [(1, 1)], cycle := 1500000 } 5
     d.inflight.get (d.get F.PLATE_STATUS_RETIRING_PLATE) ≠ 0 ∧ d.on F.PLATE_STATUS_RETIRING = true ∧ d.overLimit = true) ∧
    (let d := ev { up with frags := [(4095, { (default : Frag) with ver := 4 })] } 5
     (d.frags.get 4095).ver ≠ 0 ∧ d.fragLive 4095 = false) := by
  decide +kernel

theorem test_PlateSfi_hyps :
    Owns (st up) rq 0x300 ∧ Passes (st up) rq 0x301 .open_ 0 ∧ Owns (st shadow) rq 0x305 ∧ Passes (st shadow) rq 0x305 .commit 0 ∧
    Passes (st shadow) rq 0x305 .commitAt 1 ∧ Passes (st shadow) rq 0x305 .commitAt (2 ^ 80 - 1) ∧ Passes (st shadow) rq 0x306 .abort 0 ∧
    Passes (st armed) rq 0x308 .disarm 0 ∧ F.FRAG_CFG_FRAG_LIFE.ok 255 = true ∧
    (∀ op ∈ [0x305, 0x306], Granted (st shadow) rq op 2 false 3) ∧ Granted (st armed) rq 0x308 2 false 3 := by
  unfold Owns Passes
  have h : ∀ op ∈ [0x305, 0x306], may shadow op 2 false = true := by decide +kernel
  refine ⟨?_, ?_, ?_, ?_, ?_, ?_, ?_, ?_, ?_, fun op ho => granted_of (h op ho), granted_of ?_⟩ <;> decide +kernel

/-- The opcodes that stage. -/
def stageOps : List Nat := [0x302, 0x303, 0x304, 0x311, 0x312, 0x317, 0x318, 0x319, 0x31A, 0x5C5]

theorem test_Stages_hyps : ∀ op ∈ stageOps, Granted (st shadow) rq op 2 false 3 ∧ Stages (st shadow) rq op := by
  have h : ∀ op ∈ stageOps, may shadow op 2 false = true ∧ (at_ shadow op).otherOwns rq.ch = false ∧
      (at_ shadow op).canStage.isNone = true := by decide +kernel
  intro op ho
  obtain ⟨h1, h2, h3⟩ := h op ho
  exact ⟨granted_of h1, h2, Option.isNone_iff_eq_none.mp h3⟩

/-- A profile's ten slots: one whole address, nine unused. -/
def tenSlots : List (Nat × Nat × Nat) := (2, 0, 48) :: List.replicate 9 (0, 0, 0)

/-- The longest prefix of IPv6. -/
def longest : Route := { pfx := cleanPfx true (2 ^ 128 - 1) 128, len := 128, mask := 2 ^ (at_ shadow 0x318).shadowPlate, nh := 8191 }

theorem test_TableStaging_hyps :
    (keyBits tenSlots ≤ 320 ∧ tenSlots.all slotOk = true ∧ (at_ shadow 0x302).tableUse 7 31 < 4 ∧ tenSlots.length = 10) ∧
    (let d := at_ shadow 0x303
     actionOk 0 = true ∧ d.ruleFind (d.get F.PROF_CFG_TABLE 31) 31 (2 ^ 320 - 1) d.shadowPlate = none ∧
     (d.ruleInsert (d.get F.PROF_CFG_TABLE 31) { prof := 31, key := 2 ^ 320 - 1, mask := 2 ^ d.shadowPlate, action := 0 }).2.isSome = true) ∧
    (let d := (((at_ shadow 0x303).ruleInsert 0 { prof := 0, key := 5, mask := 2 ^ shadow.shadowPlate, action := 0 }).1.sfiStart rq 0x304)
     (d.ruleFind (d.get F.PROF_CFG_TABLE 0) 0 5 d.shadowPlate).isSome = true) := by
  decide +kernel

theorem test_TableStaging_forwarding_hyps :
    (let d := at_ shadow 0x311
     let e : Fdb := { (default : Fdb) with valid := true, isStatic := true, mac := 7, fid := 4095, dtype := 0, dest := 260, mask := 2 ^ d.shadowPlate }
     staticOk 7 4095 0 260 = true ∧ d.shadowStatic 7 4095 = none ∧ (d.fdbInsert e 0).2.isSome = true ∧
     (((d.fdbInsert e 0).1.sfiStart rq 0x312).shadowStatic 7 4095).isSome = true) ∧
    groupOk (2 ^ 256 + 1) = true ∧
    (let d := at_ shadow 0x318
     d.routeFind true (cleanPfx true (2 ^ 128 - 1) 128) 128 d.shadowPlate = none ∧
     trieFits true (longest :: (d.famRoutes true).map Prod.snd) = true) ∧
    (let d : Dev := { at_ shadow 0x319 with routes := [(65536, longest)] }
     d.routeFind true (cleanPfx true (2 ^ 128 - 1) 128) 128 d.shadowPlate = some 65536) := by
  decide +kernel

theorem test_TableStaging_route_place :
    (List.range (routeMax true)).find? (fun i => ((at_ shadow 0x318).routes.get (routeBase true + i)).mask == 0) = some 0 := by
  show (List.range (16383 + 1)).find? _ = _
  rw [List.range_succ_eq_map]; rfl

theorem test_TableSfi_hyps :
    (∀ op ∈ [0x310, 0x314, 0x315, 0x316], (at_ up op).otherOwns rq.ch = false) ∧ (at_ up 0x313).flushBusy = false ∧
    (at_ up 0x313).otherOwns rq.ch = false ∧ F.FDB_CFG_AGE_TIME.ok 3000 = true ∧ F.FDB_CFG_AGE_TIME.ok 0 = true ∧
    F.FDB_CFG_MOVE_HOLD.ok 10000 = true ∧ F.FDB_PORT_CFG_LEARN_AS.ok 255 = true ∧ F.LR_CFG_LR_SIZE.ok 15 = true ∧
    may dma 0x31B 1 false = true ∧ (at_ dma 0x31B).otherOwns rq.ch = false ∧
    (at_ dma 0x31B).dmaOk 0 (2 ^ 48 - 16 * 2 ^ 15) (16 * 2 ^ 15) true = true := by
  decide +kernel

theorem test_IndirectAccess_hyps :
    (∀ x ∈ [1, 2, 4, 8, 16], Writes (st up) 24 .TBL_CMD 1 x ∧
      (let d := (st (sets up [(F.TBL_SEL_TBL_ID, 1, 15), (F.TBL_SEL_INDEX, 1, 4095)])).passed 24 .TBL_CMD 1 x
       d.on F.TBL_STATUS_BUSY 1 = false ∧ d.tblMeets 1 x = false ∧ tblSize (d.get F.TBL_SEL_TBL_ID 1) ≠ 0 ∧
       d.get F.TBL_SEL_INDEX 1 < tblSize (d.get F.TBL_SEL_TBL_ID 1))) ∧
    (∀ blk < 3, ((st { up with tblRes := [(2 * blk + 1, 1)] }).due (untied (if blk = 0 then 5 else if blk = 1 then 6 else 8) 3)).tblRes.get
      (2 * blk + 1) ≠ 0) := by
  have h : ∀ x ∈ [1, 2, 4, 8, 16], ((!up.stopped && ((st up).wrDue (blockPlace 24 .TBL_CMD 1) 24 .TBL_CMD 1 x).mayWrite 24 .TBL_CMD 1 x) = true) := by
    decide +kernel
  refine ⟨fun x hx => ⟨writes_of (h x hx), ?_⟩, by decide +kernel⟩
  revert x; decide +kernel

theorem test_FdbEngines_hyps :
    (let u := ev { up with learnQ := [(0, [default]), (1, [default])], downSet := [255] } 5
     u.learnQ.get u.learnPipe = default :: [] ∧ u.flushBusy = false ∧ u.downSet ≠ []) ∧
    (let d := ((st { retiring with fdb := [(262143, { (default : Fdb) with valid := true, age := 4 }),
        (0, { (default : Fdb) with valid := true, age := 1 })] }).due (untied 5 1)).upset []
     d.bad 1 262143 = false ∧ (d.fdb.get 262143).valid = true ∧ (d.fdb.get 262143).isStatic = false ∧
     d.freshNow.fresh.any (fun x => x.1 == 262143) = false ∧ d.freshNow.fresh.any (fun x => x.1 == 0) = false ∧
     d.on F.PLATE_STATUS_RETIRING = true ∧ d.get F.FDB_CFG_AGE_TIME ≠ 0 ∧ (d.fdb.get 262143).age = 4 ∧
     d.bad 1 0 = false ∧ (d.fdb.get 0).valid = true ∧ (d.fdb.get 0).isStatic = false ∧ (d.fdb.get 0).age ≠ 4) ∧
    Writes (st (keyed up .FDB_CMD 0)) 24 .FDB_CMD 0 1 ∧ ((st up).passed 24 .FDB_CMD 0 1).flushBusy = false ∧
    (((st { up with downRun := [255] }).due (untied 5 2)).sweepVisit 262144).downRun ≠ [] ∧
    (let d := ((st { up with flushRun := some (2 ^ 24 - 1) }).due (untied 5 2)).sweepVisit 262144
     d.downRun = [] ∧ d.flushRun = some (2 ^ 24 - 1)) ∧
    Writes (st up) 0 .LR_CONS 0 (2 ^ 16 - 1) := by
  refine ⟨?_, ?_, writes_of ?_, ?_, ?_, ?_, writes_of ?_⟩ <;> decide +kernel
/-! ## Streams, packet memory, queues -/

/-- A TRIP stream from port 0 to port 4. -/
def trip : AdmitArgs :=
  ⟨31, 0, 0, 7, 64, 1, 1000000, [4], 0, [0], 0, 0, 0, 0, 0, 0, false, 0, false, true, false, none, false, [], 0⟩

/-- The last stream, of type `ty`, silent from its deadline on. -/
def supervised (ty : Nat) : Dev :=
  { up.set F.STREAM_CTRL_SUPV_EN 0 1 with
      tb0 := 2 ^ 60
      streams := [(16383, { (default : Stream) with valid := true, type := ty, deadline := 1, smpRate := 4000, rateTol := 2, seen := 3998 })] }

theorem test_StreamEvents_hyps :
    Writes (st up) 24 .SAC_CMD 0 1 ∧ Writes (st up) 24 .SAC_CMD 0 2 ∧ (∀ w < 3, ((st up).passed 24 .SAC_CMD 0 w).on F.SAC_STATUS_BUSY 0 = false) ∧
    (let d := ev { up with tb0 := 2 ^ 110, dd := [(65535, { (default : DdSrc) with used := true })] } 6
     (d.dd.get 65535).used = true ∧ d.ddUsed 65535 = false) ∧
    (ev { up with dd := [(65535, { (default : DdSrc) with used := true, pinned := true })] } 6).ddUsed 65535 = true ∧
    (let d := ev (supervised 1) 6
     let e := d.streams.get 16383
     e.valid = true ∧ e.type ≠ 0 ∧ d.ingressOpen = true ∧ d.on F.STREAM_CTRL_SUPV_EN = true ∧ e.deadline ≠ 0 ∧ e.silent = false ∧ e.deadline ≤ d.ptNs) ∧
    (let u := ev { supervised 1 with tb0 := 0 } 6; u.ptNs < (u.streams.get 16383).deadline) ∧
    (let u := ev (supervised 2) 6
     let e := u.streams.get 16383
     u.ingressOpen = true ∧ u.on F.STREAM_CTRL_SUPV_EN = true ∧ e.valid = true ∧ e.type = 2 ∧ e.smpRate ≤ e.seen + e.rateTol ∧ e.seen ≤ e.smpRate + e.rateTol) ∧
    (let e := (ev { supervised 2 with streams := [(16383, { (supervised 2).streams.get 16383 with seen := 3997 })] } 6).streams.get 16383
     e.type = 2 ∧ e.seen + e.rateTol < e.smpRate) := by
  refine ⟨writes_of ?_, writes_of ?_, ?_⟩ <;> decide +kernel

theorem test_StreamEvents_admit_hyps :
    (let d := at_ up 0x400
     d.admitBusy rq.ch = none ∧ trip.hmac = false ∧ d.admitArgsOk trip = true ∧ trip.express = 0 ∧
     (trip.egress.all (fun p => d.admitFits p (max 1 0) trip)) = true ∧ d.exprPlaces [] = some [] ∧
     (d.ddAlloc true 0 default).2.isSome = true ∧ (d.admitWrite 0 trip none []).owner ≠ rq.ch + 1) ∧
    (let d := at_ (supervised 1) 0x401
     d.admitBusy rq.ch = none ∧ (d.streams.get 16383).valid = true ∧ (d.streams.get 16383).leaving = false ∧
     d.admits.any (fun a => a.stream == 16383) = false ∧ d.owner ≠ rq.ch + 1) := by
  refine ⟨⟨rfl, ?_⟩, rfl, ?_⟩ <;> decide +kernel

theorem test_StreamEvents_admit_place :
    (List.range 16384).find? (fun i => !((at_ up 0x400).streams.get i).valid) = some 0 := by
  show (List.range (16383 + 1)).find? _ = _
  rw [List.range_succ_eq_map]; rfl

theorem test_StreamSfi_hyps :
    (∀ op ∈ [0x402, 0x403], ((at_ (supervised 2) op).streams.get 16383).valid = true) ∧ may (supervised 2) 0x402 0 false = true ∧
    may (supervised 2) 0x403 1 false = true ∧ (∀ k < 7, 10922 / 4 ^ k % 4 < 3) ∧ F.STREAM_CTRL_DD_FORGET.ok 1000 = true ∧
    F.STREAM_CTRL_TC7_SHARE.ok 50 = true ∧ (∀ p < 256, ((at_ up 0x406).tripStreams p).isEmpty = true) := by
  decide +kernel

theorem test_BpmEvents_hyps :
    Writes (st (keyed up .CARVE_CMD 0)) 24 .CARVE_CMD 0 1 ∧
    (let d := (st up).passed 24 .CARVE_CMD 0 1
     carveOk d.carveSizes = true ∧ d.noBuffers = true) ∧
    ((st { up with owners := [(0, { (default : Buf) with used := true })] }).passed 24 .CARVE_CMD 0 1).noBuffers = false ∧
    (ev (up.set F.BPM_STATUS_CARVE_BUSY 0 1) 7).on F.BPM_STATUS_CARVE_BUSY = true ∧
    ((ev (up.set F.BPM_STATUS_RECLAIM_BUSY 0 1) 7).memUpset []).on F.BPM_STATUS_RECLAIM_BUSY = true ∧
    (let v := (ev { up with reclaimAsk := true } 7).memUpset []
     v.on F.BPM_STATUS_RECLAIM_BUSY = false ∧ v.reclaimDue = true) ∧
    (let v := (ev (up.set F.BPM_CTRL_RECLAIM_PERIOD 0 0) 7).memUpset []
     v.on F.BPM_STATUS_RECLAIM_BUSY = false ∧ v.reclaimDue = false) ∧
    (ev up 2).portXoff 255 = false ∧
    (let u := ev { sets (port0 1) [(F.ACCT_BIND_LOSSLESS, 0, 1), (F.PORT_FC_FC_MODE, 0, 1)] with xoff := [(0, true)], cycle := 2 * secCycles } 2
     u.portXoff 0 = true ∧ u.get F.PORT_FC_PAUSE_QUANTA 0 * 256 * 1500000 ≤ (u.cycle - u.pauseAt.get 0) * kbps (u.portSpeed 0)) := by
  refine ⟨writes_of ?_, ?_⟩ <;> decide +kernel

theorem test_BufferPools_sfi_hyps :
    carveOk [2, 2, 0, 60] = true ∧ (at_ up 0x5C0).noBuffers = true ∧ F.QP_MIN_MIN.ok (2 ^ 18 - 1) = true ∧ F.QP_MIN_ALPHA.ok 9 = true ∧
    F.QP_MAX_MAX.ok (2 ^ 19 - 1) = true ∧ F.QP_FC_HEADROOM.ok 65535 = true ∧ F.QP_FC_XON_HYST.ok 0 = true ∧ F.QP_WARN_WARN_PCT.ok 100 = true ∧
    ((at_ up 0x5C2).bindRange 2051 2051 15 true).sumMin ≤ 262144 - 8192 - (at_ up 0x5C2).retiredCells ∧
    (∀ x ∈ [2, 2, 0, 60], x ≤ 60) ∧ F.PORT_FC_FC_MODE.ok 2 = true ∧ F.PORT_FC_PAUSE_QUANTA.ok 65535 = true ∧ editOk (List.replicate 8 0) = true := by
  decide +kernel

/-- Port 255 has a cue list of one entry that is armed to take over now. -/
def cued : Dev :=
  { sets up [(F.TM_PORT_STATUS_ARMED, 255, 1)] with clTc := [(255, 1)] }

theorem test_CueEvents_hyps :
    Writes (st up) 24 .TM_CMD 0 1 ∧ Writes (st (keyed up .CL_CMD 255)) 24 .CL_CMD 255 1 ∧
    Writes (st (keyed up .CL_CMD 255)) 24 .CL_CMD 255 2 ∧ WritesAt (st up) atRelease 24 .TM_CMD 0 2 ∧
    ((st up).passed 24 .TM_CMD 0 1).on F.TM_ACC_STATUS_BUSY 0 = false ∧
    ((st up).passedAt atRelease 24 .TM_CMD 0 2).on F.TM_ACC_STATUS_BUSY 0 = false ∧
    ((st up).passed 24 .CL_CMD 255 1).on F.TM_PORT_STATUS_ARMED 255 = false ∧
    (let u := (st cued).due atTakeover
     u.on F.TM_PORT_STATUS_ARMED 255 = true ∧ u.clTc.get 255 - 1 ≤ u.pt) ∧
    (let u := (st { cued with clTc := [(255, 2 ^ 70)] }).due atTakeover
     u.on F.TM_PORT_STATUS_ARMED 255 = true ∧ u.pt < u.clTc.get 255 - 1) ∧
    (let u := ev { port4 1 with paused := [(8 * 4 + 7, (1, 0))], cycle := 2 * secCycles } 2
     let x := u.paused.get (8 * 4 + 7)
     x.1 * 512 * 1500000 ≤ (u.cycle - x.2) * kbps (u.portSpeed 4)) ∧
    (let u := ev { port4 1 with paused := [(8 * 4 + 7, (65535, secCycles))] } 2
     let x := u.paused.get (8 * 4 + 7)
     ¬ x.1 * 512 * 1500000 ≤ (u.cycle - x.2) * kbps (u.portSpeed 4)) := by
  refine ⟨writes_of ?_, writes_of ?_, writes_of ?_, writesAt_of ?_, ?_⟩ <;> decide +kernel

/-- Port 255's operating list: 8 ns of hold, then 8 ns with every gate open, from time 0 on. -/
def gated : Dev :=
  { sets up [(F.TM_PORT_STATUS_OPER_VALID, 255, 1), (F.TM_PORT_GATE_GATE_EN, 255, 1)] with
      clOper := [(65280, (1, 0x17F)), (65281, (1, 0x7F))], operLen := [(255, 2)], operCycle := [(255, 16 * 65536)] }

theorem test_CueEvents_gates_hyps :
    (let u := (st { gated with entryAt := [(255, 5)] }).due atGate
     (u.cueNow 255).isSome = true ∧ (u.cueNow 255).map Prod.snd ≠ some (u.entryAt.get 255)) ∧
    (let u := (st gated).due atGate; (u.cueNow 255).map Prod.snd = some (u.entryAt.get 255)) ∧
    ((st up).due atGate).cueNow 255 = none ∧
    (let u := (st gated).due atHold
     u.on F.TM_PORT_GATE_GATE_EN 255 = true ∧ u.nextCue 255 u.pt (fun s => s.op == 1) = some 0 ∧
     0 ≤ u.pt + u.get F.TM_PORT_GATE_HOLD_ADVANCE 255 * 65536) ∧
    (let u := (st { gated with operBase := [(255, 65536 * 65536)] }).due atHold
     u.on F.TM_PORT_GATE_GATE_EN 255 = true ∧ (u.nextCue 255 u.pt (fun s => s.op == 1)).any
       (fun e => decide (u.pt + u.get F.TM_PORT_GATE_HOLD_ADVANCE 255 * 65536 < e)) = true) := by
  decide +kernel

theorem test_QueueSfi_hyps :
    hasQueues 260 = true ∧ hasQueues 257 = true ∧ queueArgsOk ⟨64, 2 ^ 19 - 1, 15, true, true, 0, 65535, 0, true, 0, 0, 7⟩ = true ∧
    F.TM_PORT_CFG_SP_LEVEL.ok 7 = true ∧ F.TM_PORT_CFG_OVERHEAD.ok 127 = true ∧ polOk (2 * 1 + 1) 1 400000000 64 16777215 = true ∧
    F.WRED_CFG_WEIGHT.ok 15 = true ∧ F.WRED_MIN_MIN_TH.ok 0 = true ∧ F.WRED_MAX_MAX_TH.ok (2 ^ 19 - 1) = true ∧
    F.WRED_MAX_MAX_P.ok 255 = true ∧ wredOk 0 0 = true ∧ wredOk 0 (2 ^ 19 - 1) = true ∧ F.MIR_CFG_DEST.ok 257 = true ∧ F.MIR_CFG_MIR_TC.ok 6 = true := by
  decide +kernel

theorem test_CueSfi_hyps :
    F.CL_ADMIN_CYCLE_0_NS.ok (1000000000 * 65536 / 65536) = true ∧ cueOk (125000000, 0x67F) = true ∧ 0x67F < 2048 ∧
    (at_ up 0x510).on F.TM_PORT_STATUS_ARMED 255 = false ∧ (at_ up 0x510).heldT.any (fun h => h.kind == 1 && h.obj == 255) = false ∧
    (let u := sets up [(F.CL_ADMIN_LEN_LEN, 255, 1), (F.CL_ADMIN_CYCLE_0_NS, 255, 8)]
     let d := at_ u 0x511
     let a (base : Nat) := ((d.cfg .CL_ADMIN_BASE_0 255 (base % 2 ^ 32)).cfg .CL_ADMIN_BASE_1 255 (base / 2 ^ 32 % 2 ^ 24)).tripNote 255 rq.ch
     may u 0x511 2 false = true ∧ d.adminLen 255 ≠ 0 ∧ d.adminCycle 255 ≠ 0 ∧ d.on F.TM_PORT_STATUS_ARMED 255 = false ∧
     (a (512000000000 * 65536 + 1)).pt + 512000000000 * 65536 < 512000000000 * 65536 + 1 ∧
     512000000000 * 65536 ≤ (a (512000000000 * 65536)).pt + 512000000000 * 65536) ∧
    may cued 0x512 2 false = true ∧ (at_ cued 0x512).on F.TM_PORT_STATUS_ARMED 255 = true := by
  decide +kernel

/-! ## Frames -/

/-- A 64-byte frame between stations, its FCS in place; and one with a bad FCS. -/
def bytes60 : List Byte := [2, 0, 0, 0, 0, 1, 2, 0, 0, 0, 0, 2, 0x88, 0xB8] ++ List.replicate 46 0
def frame64 : List Byte := bytes60 ++ leBytes 4 (fcsOf bytes60)

/-- A frame is open on port 0, which is UP; the device as port `p`'s reception finds it. -/
def opened (f : FrameRec) : Dev := { port0 1 with frames := [(9, f)], rxOpen := [(0, 9)], nextFrame := 10 }
def rxd (d : Dev) (p : Nat) : Dev := (st d).toDev.turn (fun d => d.rxPlace p)

theorem test_FrameReception_hyps :
    (let d := (rxd (port0 1) 0).memUpset []
     d.takesFrames 0 = true ∧ d.rxCur.get (rxKey 0 0) = 0 ∧ d.rxOpen.get (rxKey 0 0) = 0 ∧
     d.exprFind 0 (List.replicate 18 0) = none ∧ (List.replicate 18 (0 : Byte)).length = 18) ∧
    (let d := (rxd { port0 1 with express := [(63, { (default : Expr) with valid := true, ing := 0 })] } 0).memUpset []
     d.exprFind 0 (List.replicate 18 0) = some 63 ∧ d.bad 6 63 = false ∧ d.bad 5 (d.express.get 63).stream = false) ∧
    (let u := rxd (port0 1) 260
     (u.hold.get 260).length < 16 ∧ u.rxCur.get (rxKey 260 0) = 0 ∧ u.takesFrames 260 = true ∧ u.rxOpen.get (rxKey 260 0) = 0 ∧
     u.prpLan 260 = false) ∧
    (List.replicate 256 (0 : Byte)).length = 256 ∧ isMacCtl (List.replicate 256 0) = false ∧
    (let u := rxd { port0 1 with rxCur := [(0, 9)], frames := [(9, { (default : FrameRec) with ended := true })] } 0
     (u.hold.get 0).length < 16 ∧ u.rxCur.get (rxKey 0 0) ≠ 0 ∧ (u.frames.get (u.rxCur.get (rxKey 0 0))).ended = true) := by
  decide +kernel

/-- A decided frame of port 0 whose head buffer its 256 bytes fill. -/
def filled : FrameRec := { (default : FrameRec) with live := true, decided := true, bufs := [0], bytes := List.replicate 256 0 }
def grown (mib : Tbl Nat) : Bool :=
  let d := (rxd { opened filled with mib := mib } 0).memUpset []
  (d.growChain { d.frames.get 9 with bytes := List.replicate 300 0 } filled.parsed.l3End false).2.2

theorem test_FrameReception_buffers_hyps :
    (let b := List.replicate 300 (0 : Byte)
     let d := (rxd (opened filled) 0).memUpset []
     let f := d.frames.get (d.rxOpen.get (rxKey 0 0))
     d.rxOpen.get (rxKey 0 0) ≠ 0 ∧ f.decided = true ∧ f.dead = false ∧ f.bufs.isEmpty = false ∧ chainBytes f.bufs < b.length ∧
     b.length ≤ d.maxFrame 0 ∧ b.take f.bytes.length = f.bytes) := by
  decide +kernel

theorem test_FrameReception_growth_hyps : grown [(0, 2), (1, 2)] = true := by
  decide +kernel

theorem test_FrameReception_none_hyps : grown [(9, 1)] = false := by
  decide +kernel

theorem test_FrameReception_end_hyps :
    (let u := rxd (port0 1) 0
     u.takesFrames 0 = true ∧ u.rxCur.get (rxKey 0 0) = 0 ∧ u.rxOpen.get (rxKey 0 0) = 0 ∧
     (settleRx (bytes60.take 59) false (u.maxFrame 0)).len < 64 ∧ 64 ≤ (settleRx frame64 false (u.maxFrame 0)).len ∧
     isMacCtl frame64 = false ∧ (settleRx frame64 true (u.maxFrame 0)).bad = true ∧
     (settleRx frame64 false (u.maxFrame 0)).bad = false) := by
  decide +kernel

/-- Port 0's preemptable MAC has sent 128 bytes of a frame of 1,000, all of it received, and hold is asserted. -/
def sending (x : Tx) : Dev :=
  { sets (port0 1) [(F.PORT_STATUS_PRE_ACTIVE, 0, 1), (F.TM_PORT_STATUS_HOLD, 0, 1)] with
      tx := [(1, x)], frames := [(9, { (default : FrameRec) with ended := true })] }
def half : Tx := { (default : Tx) with live := true, copy := { (default : Copy) with frame := 9 }, counted := 1000,
                                       begun := secCycles - 12 * 136 }

theorem test_FrameTransmission_hyps :
    (let u := (st up).toDev.turn (fun d => d.slotPlace 1)
     u.slotAt.get 1 ≠ u.cycle + 1 ∧ (u.memUpset []).grant 1 = none) ∧
    (let u := (st { up with hold := [(0, [(9, 0)])], cycle := 5 }).toDev.turn (fun d => d.slotPlace 0)
     u.slotAt.get 0 ≠ u.cycle + 1 ∧ (u.memUpset []).grant 0 = some (0, 9)) ∧
    (let d := ((st (port0 1)).due atSend).memUpset []
     d.linkState 0 = 1 ∧ d.ingressOpen = true ∧ (d.tx.get (2 * 0)).live = false ∧ (d.tx.get (2 * 0 + 1)).live = false ∧
     d.on F.PORT_STATUS_TX_LPI 0 = false ∧ d.wake.get 0 = false) ∧
    (let u := (st (sending half)).due atSend
     let t := u.tx.get (2 * 0 + 1)
     u.preActive 0 = true ∧ t.live = true ∧ t.yielded = false ∧ u.on F.TM_PORT_STATUS_HOLD 0 = true ∧ u.mayYield 0 t = true ∧
     t.burin = false ∧ (u.frames.get t.copy.frame).ended = true) ∧
    (let u := (st (sending { half with begun := secCycles, burin := true })).due atSend
     let t := u.tx.get (2 * 0 + 1)
     u.mayYield 0 t = false ∧ t.live = true ∧ t.yielded = false ∧ t.burin = true) := by
  decide +kernel
/-! ## The stage and the Folio -/

/-- Engine 127 runs an instance of program 1; engine 0 has one waiting. -/
def staged : Dev :=
  let x : EngItem := { (default : EngItem) with prog := 1 }
  { up with engRun := [(127, some x)], engQ := [(0, [x])] }

theorem test_StageEngines_hyps :
    (let u := ev staged 10
     u.engRun.get 0 = none ∧ u.on F.ENG_STATUS_STOPPED 0 = false ∧ u.clFreq (0 / 8) ≠ 0 ∧ u.engQ.get 0 ≠ []) ∧
    (let u := ev { staged with supvJobs := [(1, 5, 6)] } 10
     u.engRun.get 1 = none ∧ u.on F.ENG_STATUS_STOPPED 1 = false ∧ u.clFreq (1 / 8) ≠ 0 ∧ u.engQ.get 1 = [] ∧
     u.supvJobs.find? (fun j => j.1 == 1) = some (1, 5, 6)) ∧
    (let u := (st staged).due atMerge
     (u.engRun.get 127).map u.itemRuns = some false) ∧
    (let u := ev { staged with cycle := msCycles } 10
     (u.engRun.get 127).map (fun x => decide (2 * u.progMax x.prog * 15 < (u.cycle - x.began) * u.clFreq (127 / 8))) = some true) := by
  decide +kernel

theorem test_StageClusters_hyps :
    Writes (st (keyed up .CL_CFG 15)) 24 .CL_CFG 15 4 ∧
    (let u := ev { up with clStopping := [(15, some 1)] } 10
     (u.clStopping.get 15).isSome = true ∧ u.clBusy 15 = false) ∧ (ev staged 10).clBusy 15 = true ∧
    (let u := ev { sets up [(F.PROG_CFG_LOADED, 4, 1)] with cycle := 100 * secCycles } 10
     u.supvAt + u.get F.STAGE_CTRL_LIFE_CHECK * msCycles ≤ u.cycle ∧ { u with supvAt := u.cycle }.supvBusy = false ∧
     { u with supvAt := u.cycle }.on F.PROG_CFG_LOADED 4 = true) ∧
    (let u := ev { up with supvJobs := [(0, 0, 0)], cycle := 100 * secCycles } 10
     u.supvAt + u.get F.STAGE_CTRL_LIFE_CHECK * msCycles ≤ u.cycle ∧ { u with supvAt := u.cycle }.supvBusy = true) ∧
    (let u := ev up 10; u.cycle < u.supvAt + u.get F.STAGE_CTRL_LIFE_CHECK * msCycles) ∧
    (let d := ev { staged with profEvent := some (0, 1000) } 10
     d.profEvent = some (0, 1000) ∧ (d.engRun.get 127).isSome = true ∧ d.profFull = false ∧ d.profBuf.length < 4095) ∧
    (ev up 10).profEvent = none := by
  refine ⟨writes_of ?_, ?_⟩ <;> decide +kernel

theorem test_StageSfi_hyps :
    (let d := at_ up 0x601
     ((((d.cfgF F.CL_CFG_STEP 15 0).clChanged 15 (d.get F.CL_CFG_STEP 15) 0).clStopping.get 15).isNone ∨
      ((d.cfgF F.CL_CFG_STEP 15 0).clChanged 15 (d.get F.CL_CFG_STEP 15) 0).clBusy 15 = false)) ∧
    (at_ (up.set F.PROG_CFG_LOADED 63 1) 0x602).on F.PROG_CFG_LOADED 63 = true ∧ (at_ up 0x602).on F.PROG_CFG_LOADED 63 = false ∧
    may (up.set F.PROG_CFG_LOADED 63 1) 0x602 2 false = true ∧ may (up.set F.PROG_CFG_LOADED 63 1) 0x603 1 false = true ∧
    (at_ (up.set F.PROG_CFG_LOADED 63 1) 0x603).on F.PROG_CFG_LOADED 63 = true ∧
    F.SAMPLER_CFG_N.ok 16777215 = true ∧ F.STAGE_CTRL_LIFE_CHECK.ok 100 = true := by
  decide +kernel

/-- The Folio runs on one drive of 16 segments. -/
def folio : Dev :=
  { sets up [(F.FOLIO_STATUS_STATE, 0, 2), (F.FOLIO_STATUS_DRIVES, 0, 1), (F.DRIVE_STATUS_DSTATE, 0, 1)] with
      ringDrives := [0], segsPerDrive := 16 }

/-- A copy of class `k` waits at the Folio's port. -/
def toFolio (k level : Nat) : Dev :=
  { folio.set F.FOLIO_STATUS_SHED_LEVEL 0 level with
      frames := [(9, { (default : FrameRec) with live := true, ended := true, bytes := List.replicate 60 0 })]
      queues := [(8 * 259 + 7, [{ (default : Copy) with frame := 9, port := 259, tc := 7, cls := k, kind := 2 }])] }

/-- What the formatter takes of a device. -/
def taken (d : Dev) : Dev × Option Copy :=
  let u := ((st d).toDev.turn Dev.takePlace).takeCycle
  { u with takeN := u.takeN + 1 }.takeHead 259 255 []
def takenAs (k level : Nat) (runs : Bool) (x : Dev × Option Copy) : Bool :=
  match x with
  | (d, some c) =>
    let d := d.delivered c
    c.cls == k && d.get F.FOLIO_STATUS_SHED_LEVEL == level && d.folioRuns == runs
  | _ => false

theorem test_FolioEvents_take_hyps :
    takenAs 6 6 true (taken (toFolio 6 6)) = true ∧ takenAs 7 6 true (taken (toFolio 7 6)) = true ∧
    takenAs 1 0 false (taken ((toFolio 1 0).set F.FOLIO_STATUS_STATE 0 0)) = true := by
  decide +kernel

/-- The assembly buffer holds 128 records of 1,024 bytes, and a write is open on drive 3. -/
def filling : Dev :=
  { folio with asm := List.replicate 128 { (default : FolRec) with bytes := List.replicate 1024 0 }, nvmeOut := [(3, [(1, 0)])],
               cycle := 20 * secCycles }

theorem test_FolioEvents_drives_hyps :
    (let u := ev { toFolio 1 1 with lowSince := some 0, cycle := msCycles } 11
     u.lowSince = some 0 ∧ u.get F.FOLIO_STATUS_SHED_LEVEL ≠ 0 ∧ max 0 u.shedAt + msCycles ≤ u.cycle) ∧
    (let u := ev filling 11
     u.folioRuns = true ∧ drainSize ≤ u.readyBytes ∧ u.nvmeRoom (u.segs.get u.wrPos).drive = true ∧
     (u.nvmeOut.get 3).findIdx? (fun x => nvmeWrites x.1 == true) = some 0 ∧
     u.nvmeOut.get 3 = (1, 0) :: [] ∧ 0 + 100 * msCycles ≤ u.cycle ∧ u.nvmeTo.get 3 = 0 ∧ u.hdrAt + secCycles ≤ u.cycle ∧
     u.smartAt + 10 * secCycles ≤ u.cycle) ∧
    (ev folio 11).readyBytes < drainSize ∧ (ev folio 11).nvmeOut.get 3 = [] := by
  decide +kernel

/-- FOLIO_START is under way, with a format or without. -/
def starting (f : Nat) : Dev :=
  { up.set F.FOLIO_STATUS_STATE 0 1 with jobs := [{ (default : Job) with op := 0x701, data := [f] }] }
def drive0 : DriveArgs := { drive := 0, width := 4, speed := 3, lba := true, segs := 64 }

theorem test_FolioJobs_hyps :
    (let u := ev (starting 1) 11
     u.get F.FOLIO_STATUS_STATE = 1 ∧ u.formatAsked = true ∧ (u.folioRing true []).ringDrives.isEmpty = true ∧
     (u.folioRing true [drive0]).ringDrives.isEmpty = false) ∧
    (let u := ev (starting 0) 11
     u.formatAsked = false ∧ (u.folioRing false [drive0]).ringDrives.isEmpty = false) ∧
    (let j : Job := { (default : Job) with op := 0x709 }
     let u := ev { up with jobs := [j] } 11
     u.jobs.find? (fun j => j.op == 0x709) = some j ∧ u.readDue j = true) ∧
    (let j : Job := { (default : Job) with op := 0x709, data := [0, 0, 0, 0, 0, 0, 0, 0, 0, 0, 0, 0] }
     let u := ev { up with jobs := [j] } 11
     u.jobs.find? (fun j => j.op == 0x709) = some j ∧ u.readDue j = false) := by
  decide +kernel

theorem test_FolioSfi_hyps :
    (at_ up 0x700).get F.FOLIO_STATUS_STATE = 0 ∧ (at_ folio 0x700).folioFixed 0 (folio.get F.FOLIO_CTRL_SHED_HI)
      (folio.get F.FOLIO_STATUS_SHED_LO) (folio.on F.FOLIO_CTRL_CAP_DUP) = true ∧
    may folio 0x700 2 false = true ∧ (at_ up 0x701).get F.FOLIO_STATUS_STATE = 0 ∧ may folio 0x702 2 false = true ∧
    (at_ folio 0x702).folioRuns = true ∧
    (let d : Dev := { folio with regs := (folio.setReg .WIN_LO 0 (1 + 2 + 4 + 8 * 48)).regs }
     may d 0x709 1 false = true ∧ (at_ d 0x709).folioRuns = true ∧ (at_ d 0x709).sender rq.ch < 8 ∧
     (at_ d 0x709).dmaOk ((at_ d 0x709).sender rq.ch) 0 64 true = true) := by
  decide +kernel

theorem test_FolioSfi_windows_hyps :
    F.CLASS_CFG_SNAP_LEN.ok 32 = true ∧ F.CLASS_CFG_SNAP_LEN.ok 0 = true ∧ may folio 0x707 1 false = true ∧
    (openWin (at_ folio 0x707) 16 (2 ^ 64 - 1) pinMax 0).2.1.isSome = true ∧
    (let w : Win := { (default : Win) with id := 63 }
     let d : Dev := { up with wins := [w] }
     may d 0x708 1 false = true ∧ (at_ d 0x708).wins.find? (fun w => w.id == 63) = some w) := by
  decide +kernel

/-! ## The host link, mailboxes, the Prompter -/

/-- Descriptor ring 0 and receive ring 64 of function 0 are enabled, 16 entries at address 0; the link is up. -/
def ringed : Dev :=
  sets dma [(F.HOST_STATUS_LINK_WIDTH, 0, 1), (F.RING_CFG_LOG2SIZE, 0, 4), (F.RING_CFG_EN, 0, 1), (F.RING_CFG_LOG2SIZE, 64, 4),
    (F.RING_CFG_EN, 64, 1), (F.CQ_CFG_LOG2SIZE, 0, 4)]

/-- A copy from port 0 waits at port 256, mapped to receive ring 64. -/
def toHost : Dev :=
  { ringed.setReg .HOST_RX_MAP 1 (128 * 2 ^ 24) with
      frames := [(9, { (default : FrameRec) with live := true, ended := true, bytes := List.replicate 60 0 })]
      queues := [(8 * 256 + 7, [{ (default : Copy) with frame := 9, port := 256, tc := 7 }])] }

/-- A posted receive buffer of `n` bytes. -/
def rxBuf (n : Nat) : Desc := { (default : Desc) with len := n, first := true, last := true }

theorem test_HostRings_hyps :
    (∀ x ∈ [(RegName.RING_DB, 16), (.RING_DB, 17), (.RING_CFG, 9), (.CQ_CFG, 9)], Writes (st ringed) 0 x.1 0 x.2) ∧
    WritesAt (st ringed) atRelease 0 .CQ_CONS 0 65535 ∧
    (ev ringed 12).on F.RING_CFG_MODE 0 = false ∧
    (let u := ev (ringed.set F.RING_CFG_MODE 0 1) 12
     let d := u.startJob 0
     u.on F.RING_CFG_MODE 0 = true ∧ d.canFetch 0 = true ∧ d.pollWaits 0 = false ∧
     b2n true = ringPhase (d.reg .RING_CONS 0) (d.get F.RING_CFG_LOG2SIZE 0) ∧
     b2n false ≠ ringPhase (d.reg .RING_CONS 0) (d.get F.RING_CFG_LOG2SIZE 0)) ∧
    (∀ w ∈ [16, 17], let d := (st ringed).passed 0 .RING_DB 0 w
     d.flrNow (d.get F.RING_OWNER_FUNC 0) = false ∧ d.on F.RING_CFG_MODE 0 = false ∧
     ringUsed 16 (d.reg .RING_CONS 0) ≤ d.ringSize 0 ∧ ringUsed 16 (d.reg .RING_DB 0) ≤ d.ringSize 0 ∧
     d.ringSize 0 < ringUsed 17 (d.reg .RING_CONS 0)) ∧
    (let d := (st (ringed.set F.RING_CFG_MODE 0 1)).passed 0 .RING_DB 0 1
     d.flrNow (d.get F.RING_OWNER_FUNC 0) = false ∧ d.on F.RING_CFG_MODE 0 = true) ∧
    (let d := (st dma).passed 0 .RING_CFG 0 9
     let e := d.store .RING_CFG 0 9
     d.on F.RING_CFG_EN 0 = false ∧ e.on F.RING_CFG_EN 0 = true ∧
     e.get F.CQ_OWNER_FUNC (e.get F.RING_CFG_CQ 0) = e.get F.RING_OWNER_FUNC 0 ∧
     e.dmaOk (e.get F.RING_OWNER_FUNC 0) (e.ringBase 0) (32 * e.ringSize 0) false = true) ∧
    ((st ringed).passed 0 .RING_CFG 0 9).on F.RING_CFG_EN 0 = true ∧
    (let d := (st ringed).passed 0 .CQ_CFG 0 9; d.on F.CQ_CFG_EN 0 = false ∧ (d.store .CQ_CFG 0 9).on F.CQ_CFG_EN 0 = true) ∧
    ((st (ringed.set F.CQ_CFG_EN 0 1)).passed 0 .CQ_CFG 0 9).on F.CQ_CFG_EN 0 = true ∧
    (let u := ev { ringed.set F.CQ_CFG_INT_TIME 7 1 with cqs := [(7, { (default : Cq) with sinceInt := 1 })], cycle := 1500 } 12
     u.get F.CQ_CFG_INT_TIME 7 ≠ 0 ∧ (u.cqs.get 7).sinceInt ≠ 0 ∧ (u.cqs.get 7).firstAt + u.get F.CQ_CFG_INT_TIME 7 * 1500 ≤ u.cycle + 1) := by
  have h : ∀ x ∈ [(RegName.RING_DB, 16), (.RING_DB, 17), (.RING_CFG, 9), (.CQ_CFG, 9)],
      (!ringed.stopped && ((st ringed).wrDue (blockPlace 0 x.1 0) 0 x.1 0 x.2).mayWrite 0 x.1 0 x.2) = true := by decide +kernel
  exact ⟨fun x hx => writes_of (h x hx), writesAt_of (by decide +kernel), by decide +kernel⟩

/-- The copy that leaves port 256, and the device after it. -/
def sentUp (d : Dev) : Dev × Option Copy := ((st d).due atSend).takeHead 256 255 []

theorem test_HostDelivery_hyps :
    (sentUp toHost).2.map Copy.frame = some 9 ∧
    (let d := (sentUp toHost).1
     let c := (sentUp toHost).2.getD default
     let r := (d.rxRing c).1
     r = 64 ∧ (d.rxRing c).2 = true ∧ d.isFrozen (d.get F.RING_OWNER_FUNC r) = false ∧ d.on F.RING_CFG_EN r = true ∧
     d.cqCredit (d.get F.RING_CFG_CQ r) = true ∧
     bufsFor ((d.fetchAll r []).rings.get r).fetched
       ((if (d.fetchAll r []).on F.RING_CFG_META_EN r then metaBytes ((d.fetchAll r []).frames.get 9) c else []) ++
         ((d.fetchAll r []).frames.get 9).readBytes).length = none) ∧
    (let x := sentUp (toHost.setReg .RING_DB 64 1)
     let d := x.1
     let c := x.2.getD default
     let r := (d.rxRing c).1
     let e := d.fetchAll r [rxBuf 256]
     bufsFor (e.rings.get r).fetched ((if e.on F.RING_CFG_META_EN r then metaBytes (e.frames.get c.frame) c else []) ++
       (e.frames.get c.frame).readBytes).length = some 1 ∧ e.isFrozen (d.get F.RING_OWNER_FUNC r) = false) ∧
    (let x := sentUp (toHost.set F.RING_CFG_EN 64 0)
     let r := (x.1.rxRing (x.2.getD default)).1
     x.2.isSome = true ∧ x.1.isFrozen (x.1.get F.RING_OWNER_FUNC r) = false ∧ x.1.on F.RING_CFG_EN r = false) ∧
    (let x := sentUp { toHost with frozen := [(0, some default)] }
     x.2.isSome = true ∧ x.1.isFrozen (x.1.get F.RING_OWNER_FUNC (x.1.rxRing (x.2.getD default)).1) = true) := by
  decide +kernel

theorem test_HostLinkAndMailboxes_hyps :
    (ev (up.setBit F.HOST_STATUS_FLR_BUSY 0 7 true) 12).bit F.HOST_STATUS_FLR_BUSY 0 7 = true ∧
    (ev up 12).bit F.HOST_STATUS_FLR_BUSY 0 7 = false ∧ (ev { up with linkReset := true } 12).linkReset = true ∧
    ((st ringed).due (untied 13 60)).on F.HOST_STATUS_LINK_WIDTH = true ∧
    ((st up).due (untied 13 60)).on F.HOST_STATUS_LINK_WIDTH = false ∧
    Writes (st up) (up.sender 31) .MB_POST 31 0 ∧ WritesAt (st up) atPop (up.sender 31) .MB_RSP_POP 31 1 ∧
    (let d := (st up).passed (up.sender 31) .MB_POST 31 0; d.flrNow (d.sender 31) = false) ∧
    (let s := st { up with flrAt := [(7, 2)], cycle := 1, place := atRelease }
     Writes s 7 .MB_POST 15 0 ∧ (s.passed 7 .MB_POST 15 0).flrNow ((s.passed 7 .MB_POST 15 0).sender 15) = true) ∧
    (ev up 13).bit F.PROMPTER_STATUS_CORE_UP 0 3 = true ∧ (ev (up.set F.PROMPTER_STATUS_CORE_UP 0 7) 13).bit F.PROMPTER_STATUS_CORE_UP 0 3 = false := by
  refine ⟨?_, ?_, ?_, ?_, ?_, writes_of ?_, writesAt_of ?_, ?_, ⟨writes_of ?_, ?_⟩, ?_⟩ <;> decide +kernel

/-- Function 1 is frozen with the role `r`. -/
def frozen1 (r : Nat) : Dev := { up with frozen := [(1, some { (default : Freeze) with role := r })] }

theorem test_HostSfi_hyps :
    (2 ^ 64 - 2 ^ 48) % 2 ^ 48 = 0 ∧ (at_ up 0xC12).on F.CQ_CFG_EN 7 = false ∧ (at_ up 0xC12).on F.RING_CFG_EN 135 = false ∧
    may (frozen1 2) 0xC16 0 false = true ∧ ((at_ (frozen1 2) 0xC16).frozen.get 1).isSome = true ∧ (at_ (frozen1 2) 0xC16).sender rq.ch ≠ 1 ∧
    mayRelease 3 2 = true ∧ mayRelease 0 2 = false := by
  decide +kernel

/-- An image that verifies, and one whose signature fails. -/
def good : ImageArgs := { cause := 0, svn := 1, version := 1, progs := [], bad := [] }
def bad : ImageArgs := { good with cause := 3 }

theorem test_Boot_hyps :
    (let u := ev Dev.reset 14
     u.get F.PROMPTER_STATUS_BOOT_STATE < 2 ∧ u.on F.STRAPS_TEST_EN = false ∧
     (let x := u.bootReady.bootSlot
      x.2.1 = 0 ∧ x.1.imageCause good = 0 ∧ x.1.imageCause bad ≠ 0 ∧
      (let d := (x.1.raise F.PROMPTER_EVENT_BOOT_FALLBACK).fwRec 0x0E04 5 (x.1.imageCause bad) 0
       d.imageCause good = 0 ∧ d.imageCause bad ≠ 0))) ∧
    (let u := ev { Dev.reset with prefSlot := 1 } 14
     u.bootReady.bootSlot.2.1 = 1 ∧ u.bootReady.bootSlot.1.imageCause good = 0) := by
  decide +kernel

/-- A trial firmware that has run for the longest CONFIRM_TIME. -/
def trial : Dev := { up.set F.PROMPTER_STATUS_TRIAL 0 1 with cycle := 1023 * secCycles }

theorem test_Resets_hyps :
    Writes (st (keyed up .PROMPTER_CMD 0)) 24 .PROMPTER_CMD 0 1 ∧
    (let u := ev trial 14
     u.core0Up = true ∧ u.readyAt + 50 * msCycles ≤ u.cycle ∧ u.beatAt + 10 * msCycles ≤ u.cycle ∧
     (u.restarts.filter (fun t => decide (u.cycle < t + 600 * secCycles)) ++ [u.cycle]).length < 3) ∧
    (let u := ev { trial with restarts := [1000 * secCycles, 1001 * secCycles] } 14
     3 ≤ (u.restarts.filter (fun t => decide (u.cycle < t + 600 * secCycles)) ++ [u.cycle]).length) ∧
    (ev (up.set F.PROMPTER_STATUS_CORE_UP 0 7) 14).bit F.PROMPTER_STATUS_CORE_UP 0 3 = false ∧
    (let u := (st trial).due atExpiry
     u.on F.PROMPTER_STATUS_TRIAL = true ∧ u.core0Up = true ∧ u.readyAt + u.get F.PROMPTER_CTRL_CONFIRM_TIME * secCycles ≤ u.cycle) ∧
    (let u := (st (up.set F.PROMPTER_STATUS_TRIAL 0 1)).due atExpiry
     u.on F.PROMPTER_STATUS_TRIAL = true ∧ u.core0Up = true ∧ u.cycle < u.readyAt + u.get F.PROMPTER_CTRL_CONFIRM_TIME * secCycles) := by
  refine ⟨writes_of ?_, ?_⟩ <;> decide +kernel

/-- A request of channel 23 waits for core 0. -/
def asked : Dev := { up.set F.GATE_STATUS_1_CORE_CLK_ON 0 15 with chans := [(23, { (default : Chan) with req := [⟨2, [1], false⟩] })] }

/-- Channel 24 belongs to cluster 0. -/
def reporting : Dev := (st (up.set F.MB_CFG_SENDER 24 8)).due (untied 13 20)

theorem test_FirmwareWork_hyps :
    (let u := ev { up.set F.PROMPTER_STATUS_CFG_STATE 0 1 with startup := some default, cycle := secCycles } 14
     u.core0Up = true ∧ u.startup.isSome = true ∧ u.get F.PROMPTER_STATUS_CFG_STATE = 1 ∧ u.heldAt + secCycles ≤ u.cycle) ∧
    (let u := ev up 14; u.core0Up = true ∧ u.cycle < u.heldAt + secCycles) ∧
    (let u := (st { up with frames := toHost.frames, queues := [(8 * 257 + 7, [{ (default : Copy) with frame := 9, port := 257, tc := 7 }])],
                            tokens := [(8 * 257 + 7, 1)] }).due atSend
     u.bit F.PROMPTER_STATUS_CORE_UP 0 0 = true ∧ u.on F.DOM_CFG_DOM_EN = false ∧ (u.takeHead 257 192 []).2.isSome = true) ∧
    (let u := ev { port0 1 with lldp := [(0, 3600)], cycle := 3600 * secCycles } 14
     u.lldp.get 0 ≠ 0 ∧ u.core0Up = true ∧ u.lldpAt.get 0 + u.lldp.get 0 * secCycles ≤ u.cycle ∧
     { u with lldpAt := u.lldpAt.put 0 u.cycle }.linkState 0 = 1 ∧ { u with lldpAt := u.lldpAt.put 0 u.cycle }.linkState 1 ≠ 1) ∧
    (let u := (st asked).due atTake
     (u.chans.get 23).req.map Msg.stale = [false] ∧ u.sfiUp = true ∧ u.get F.PROMPTER_STATUS_BOOT_STATE = 2 ∧
     u.bit F.PROMPTER_STATUS_CORE_UP 0 (u.rxCore 23) = true ∧ u.bit F.GATE_STATUS_1_CORE_CLK_ON 0 (u.rxCore 23) = true) ∧
    (let j : Job := { (default : Job) with ch := 31, tag := 255 }
     let u := (st { up with jobs := [j] }).due atSfi
     u.jobs.find? (fun j => j.ch == 31 && j.tag == 255) = some j ∧ u.jobs.find? (fun j => j.ch == 31 && j.tag == 0) = none) ∧
    (reporting.isFrozen (8 + 0) = false ∧ reporting.sender 24 = 8 + 0 ∧ reporting.sender 25 ≠ 8 + 0) := by
  decide +kernel

/-- The firmware of a trial, an update begun, another image staged. -/
def updating : Dev := { up.set F.PROMPTER_STATUS_TRIAL 0 1 with fwBegun := true, stagedSlot := some (1, 2) }

theorem test_SystemSfi_hyps :
    F.PROMPTER_CTRL_CONFIRM_TIME.ok 1023 = true ∧ rq.ch.val = 0 ∧ rq.tag.val ≠ 0 ∧
    (∀ op ∈ [0x0F0, 0x0F1], ((st (up.set F.PROMPTER_STATUS_BOOT_STATE 0 3)).sfiDue op).get F.PROMPTER_STATUS_BOOT_STATE = 3) ∧
    0x900000 - 4 * 13 + 4 * (List.replicate 13 0).length ≤ 0x900000 := by
  decide +kernel

theorem test_FirmwareUpdate_hyps :
    (∀ x ∈ [(0x007, 3, false), (0x008, 3, true), (0x009, 3, false)], may updating x.1 x.2.1 x.2.2 = true) ∧
    (at_ updating 0x007).fwBegun = true ∧ (at_ updating 0x008).stagedSlot.isSome = true ∧
    (at_ updating 0x009).on F.PROMPTER_STATUS_TRIAL = true ∧
    (Granted (st updating) { rq with ring := true } 0x006 3 false 3 ∧ ((st updating).start { rq with ring := true } 0x006).fwBegun = true) ∧
    4194304 - 4 * 16384 + 4 * (List.replicate 16384 0).length ≤ 4194304 := by
  refine ⟨?_, ?_, ?_, ?_, ⟨⟨?_, ?_, ?_, ?_, ?_⟩, ?_⟩, ?_⟩ <;> first | decide +kernel | rfl

/-- Channel 0 has been given a nonce for CONDUCTOR; its session is older than the idle limit. -/
def authing : Dev :=
  { up with sess := [(0, { (default : Session) with isOpen := true, role := 3, nonce := some ([1], 2, 9) })], creds := [(2, [1])] }

theorem test_SessionSfi_hyps :
    ((at_ up 0xC00).sess.get rq.ch).lockUntil ≤ (at_ up 0xC00).cycle ∧
    (may authing 0xC01 0 false = true ∧ ((at_ authing 0xC01).sess.get rq.ch).nonce = some ([1], 2, 9) ∧ (at_ authing 0xC01).cycle < 9 ∧
     ((at_ authing 0xC01).creds.get 2).isEmpty = false) ∧
    (Granted (st up) { rq with ring := true } 0xC20 3 true 3) ∧
    (let u := (st { up with cycle := 65535 * secCycles }).due atExpiry
     (u.sess.get 0).isOpen = true ∧ u.get F.PROMPTER_CTRL_SESSION_IDLE ≠ 0 ∧ u.core0Up = true ∧
     (u.sess.get 0).lastUse ≠ u.cycle ∧ (u.sess.get 0).lastUse + u.get F.PROMPTER_CTRL_SESSION_IDLE * secCycles ≤ u.cycle) ∧
    (let u := (st { up with sess := [(0, { (default : Session) with isOpen := true, lastUse := 7, prevUse := 7 })], cycle := 7 }).due atExpiry
     (u.sess.get 0).isOpen = true ∧ u.cycle < 7 + u.get F.PROMPTER_CTRL_SESSION_IDLE * secCycles) := by
  refine ⟨?_, ?_, ⟨?_, ?_, ?_, ?_, ?_⟩, ?_⟩ <;> first | decide +kernel | rfl
/-! ## The Promptbook, statistics, counters -/

/-- The register raised the curtain at cycle 0; the limit has passed. -/
def curtained : Dev := { up with curtain := some (32, 0), cycle := 3600 * secCycles }

theorem test_BookEvents_hyps :
    (∀ w ∈ [1, 2, 4 + 256 * 255 + 65536 * 3], WritesAt (st (keyed up .BOOK_CMD 0)) atCurtain 24 .BOOK_CMD 0 w) ∧
    (∀ w ∈ [1, 2], ((st up).passedAt atCurtain 24 .BOOK_CMD 0 w).writeEvents.curtain = none ∧
      ((st curtained).passedAt atCurtain 24 .BOOK_CMD 0 w).writeEvents.curtain.isSome = true) ∧
    (let u := (st curtained).due atCurtain; u.curtain = some (32, 0) ∧ 0 + u.get F.BOOK_CFG_CURTAIN_LIMIT * secCycles ≤ u.cycle) ∧
    (let u := (st { up with curtain := some (32, 0) }).due atCurtain
     u.curtain = some (32, 0) ∧ u.cycle < 0 + u.get F.BOOK_CFG_CURTAIN_LIMIT * secCycles) ∧
    ((st up).due atCurtain).curtain = none ∧
    (let d := ev { folio.set F.BOOK_STATUS_MODE_ACTIVE 0 1 with staged := [2 ^ 32 - 1] } 15
     d.on F.BOOK_STATUS_MODE_ACTIVE = true ∧ 2 ≤ d.get F.FOLIO_STATUS_STATE ∧ d.staged = [2 ^ 32 - 1] ∧
     d.bookDrive ((2 ^ 32 - 1) % 67108864) = some 0) ∧
    (let n : Nat × Rec × Nat := (23, default, 0)
     let d := ev { up with notes := [n] } 15
     d.sfiUp = true ∧ d.notes.find? (fun n => n.1 == 23) = some n ∧
     (d.subs.get 23).lastMs ≠ d.cycle / msCycles + 1 ∧ msgWords (d.chans.get 23).rsp + 10 ≤ 16 ∧ (d.chans.get 23).wait.isEmpty = true ∧
     (({ d with subs := [(23, { (default : Sub) with lastMs := 1 })] } : Dev).subs.get 23).lastMs = d.cycle / msCycles + 1) := by
  have h : ∀ w ∈ [1, 2, 4 + 256 * 255 + 65536 * 3], (!(keyed up .BOOK_CMD 0).stopped &&
      ((st (keyed up .BOOK_CMD 0)).wrDue atCurtain 24 .BOOK_CMD 0 w).mayWrite 24 .BOOK_CMD 0 w) = true := by decide +kernel
  exact ⟨fun w hw => writesAt_of (h w hw), by decide +kernel⟩

theorem test_BookSfi_hyps :
    (at_ dma 0x801).sender rq.ch < 8 ∧ (at_ dma 0x801).dmaOk ((at_ dma 0x801).sender rq.ch) (2 ^ 48 - 64) 64 true = true ∧
    may dma 0x801 0 false = true ∧ (at_ up 0x802).curtain = none ∧ (at_ up 0x802).writeEvents.curtain = none ∧
    may curtained 0x802 1 false = true ∧ (at_ curtained 0x802).curtain = some (32, 0) ∧ 32 ≠ rq.ch.val ∧
    (at_ { up with curtain := some (0, 0) } 0x802).curtain = some (rq.ch.val, 0) ∧
    F.BOOK_CFG_RECORD_MIN_SEV.ok 7 = true ∧ F.BOOK_CFG_CURTAIN_LIMIT.ok 60 = true ∧ isSource 0x13 = true ∧
    inBlock 0x600000 = true ∧ 0x600000 % 4 = 0 ∧ F.TRIG_CTRL_NOTIFY_CHAN.ok 23 = true := by
  decide +kernel

/-- Function 0 receives dumps; PT has no validity, and a period has passed. -/
def dumping : Dev :=
  { sets dma [(F.DUMP_CFG_DUMP_EN, 0, 1), (F.DUMP_CFG_DUMP_PERIOD, 0, 100), (F.PERF_ALLOW_ALLOW, 0, 255)] with cycle := 100 * msCycles }

theorem test_Statistics_hyps :
    ((st dumping).due atLatch).latchDue = true ∧ ((st up).due atLatch).latchDue = false ∧
    (let x : DumpRec := default
     ∀ d ∈ [dma, { dma with frozen := [(0, some default)] }, up], ((st { d with dump := some x }).due (untied 16 0)).dump = some x) ∧
    (let d : Dev := { (st { dma with dump := some default }).due (untied 16 0) with dump := none }.set F.PERF_STATUS_DUMP_BUSY 0 0
     (d.dmaCheck 0 0 64 true).2 = true) ∧
    (let d : Dev := { (st { up with dump := some default }).due (untied 16 0) with dump := none }.set F.PERF_STATUS_DUMP_BUSY 0 0
     (d.dmaCheck 0 0 64 true).2 = false) ∧
    Writes (st (keyed up .PERF_CMD 0)) 0 .PERF_CMD 0 1 ∧ WritesAt (st (keyed up .PERF_CMD 0)) atLatch 0 .PERF_CMD 0 2 ∧
    (let d := (st dumping).passed 0 .PERF_CMD 0 1; d.perfAllowed (d.get F.DUMP_FN_DUMP_FN) = true) ∧
    (let d := (st up).passed 0 .PERF_CMD 0 1; d.perfAllowed (d.get F.DUMP_FN_DUMP_FN) = false) ∧
    ((st (up.set F.PERF_STATUS_SNAP_BUSY 0 1)).due (untied 16 30)).on F.PERF_STATUS_SNAP_BUSY = true ∧
    ((st up).due (untied 16 30)).on F.PERF_STATUS_SNAP_BUSY = false ∧
    WritesAt (st (keyed up .PC_CLEAR 0x60)) atPcClear 24 .PC_CLEAR 0x60 255 ∧ (blockAt 0x60).isSome = true ∧ 260 ∈ classPorts := by
  refine ⟨?_, ?_, ?_, ?_, ?_, writes_of ?_, writesAt_of ?_, ?_, ?_, ?_, ?_, writesAt_of ?_, ?_⟩ <;> decide +kernel

theorem test_Statistics_sfi_hyps :
    may dumping 0x901 1 false = true ∧
    (let d := at_ dumping 0x901
     let fn := d.sender rq.ch
     fn < 8 ∧ F.DUMP_CFG_DUMP_PERIOD.ok 3600000 = true ∧ d.dmaOk fn 0 (imageLen 15 65535) true = true ∧
     d.dmaOk fn (2 ^ 48 - 2 ^ 24) (imageLen 15 65535) true = true) ∧
    (at_ up 0x902).dump = none ∧ may { up with dump := some default } 0x902 1 false = true ∧
    (at_ { up with dump := some default } 0x902).dump.isSome = true ∧
    (∀ x ∈ [(0x903, 2), (0x904, 0), (0x905, 2)], may dumping x.1 x.2 false = true ∧
      (at_ dumping x.1).perfAllowed ((at_ dumping x.1).sender rq.ch) = true) ∧
    (at_ up 0x904).perfAllowed ((at_ up 0x904).sender rq.ch) = false := by
  decide +kernel

/-! ## The pair -/

/-- A paired die in state `x`, its link up, its peer seen in state `y` with the other UNIT_ID, both inputs healthy. -/
def paired (x y : Nat) : Dev :=
  sets up [(F.PAIR_STATUS_PAIR_EN, 0, 1), (F.PAIR_STATUS_STATE, 0, x), (F.PAIR_STATUS_LINK_UP, 0, 1), (F.PAIR_STATUS_ULK_UP, 0, 3),
    (F.PAIR_STATUS_ARB_GO, 0, 1), (F.PAIR_STATUS_EFF_PREFERRED, 0, 1), (F.PEER_STATUS_PEER_VALID, 0, 1),
    (F.PEER_STATUS_PEER_UNIT_ID, 0, 1), (F.PEER_STATUS_PEER_STATE, 0, y), (F.PWR_STATUS_CORE_PLL_LOCK, 0, 1), (F.PWR_STATUS_RAIL_OK, 0, 7)]

theorem test_PairInputs_hyps :
    (ev up 17).pst = 0 ∧
    (let u := ev { paired 5 4 with cycle := secCycles } 17
     u.on F.PAIR_STATUS_PAIR_EN = true ∧ u.unhealthy false false = 0 ∧ u.past u.hbAt u.hbHalf = true ∧ u.unhealthy true false ≠ 0) ∧
    (ev { paired 5 4 with hbRun := true } 17).hbRun = true ∧
    (let u := ev (paired 5 4) 17; u.unhealthy false false = 0 ∧ u.past u.hbAt u.hbHalf = false) ∧
    (let u := ev up 17; (127 : Fin 128).val ≠ u.pins7 ∧ (0 : Fin 128).val = u.pins7 ∧ u.on F.PAIR_STATUS_LINK_UP = false ∧
      u.on F.PAIR_STATUS_PAIR_EN = false ∧ u.cycle < u.initAt + u.get F.PAIR_CFG_START_WAIT * 100 * msCycles) ∧
    (let u := ev (paired 5 4) 17
     u.on F.PAIR_STATUS_LINK_UP = true ∧ u.bit F.PAIR_STATUS_ULK_UP 0 0 = true ∧ u.bit F.PAIR_STATUS_ULK_UP 0 1 = true) ∧
    (let d := ev { paired 1 4 with cycle := 255 * 100 * msCycles } 17
     d.initAt + d.get F.PAIR_CFG_START_WAIT * 100 * msCycles ≤ d.cycle ∧ d.pst = 1 ∧ d.on F.PAIR_STATUS_EFF_PREFERRED = true ∧
     d.on F.PAIR_STATUS_ARB_GO = true ∧ d.peerActive = false) ∧
    (let u := (st (paired 5 4)).due (untied 13 20); u.on F.PAIR_STATUS_LINK_UP = true ∧ u.isFrozen 29 = false) := by
  decide +kernel

/-- A die in handover from 0 on, one second and more later. -/
def handing (x y : Nat) : Dev := ev { paired x y with handover := some 0, overlapSeen := true, tb0 := 2 ^ 90 } 17

theorem test_PairProtocol_hyps :
    (ev (paired 3 5) 17).pst = 3 ∧ (ev (paired 4 5) 17).pst = 4 ∧
    (let u := ev { paired 4 5 with rxGaps := [(0, 1, 0)], cycle := 3000 } 17
     u.pst = 4 ∧ u.rxGaps.any (fun g => decide (g.2.2 + 3000 ≤ u.cycle)) = true) ∧
    (let u := ev (paired 4 5) 17; u.rxGaps.any (fun g => decide (g.2.2 + 3000 ≤ u.cycle)) = false ∧ u.mirrors = false) ∧
    (let u := ev { paired 5 4 with cycle := msCycles } 17; u.mirrors = true ∧ u.past u.mirTbAt msCycles = true) ∧
    (let u := ev { paired 3 5 with retryAt := some 0 } 17; u.retryAt = some 0 ∧ u.pst = 3) ∧
    (let d := ev { sets (paired 4 5) [(F.PAIR_CFG_REVERT_EN, 0, 1), (F.PAIR_STATUS_HEALTH_OK, 0, 1)] with
       revertSince := some 0, cycle := 65535 * 100 * msCycles } 17
     d.revertSince = some 0 ∧ d.revertReady = true ∧ d.proposed = none ∧ d.handover = none ∧
     0 + d.get F.PAIR_TIMERS_REVERT_HOLD * 100 * msCycles ≤ d.cycle) ∧
    (let u := ev (paired 5 4) 17; u.proposed = none ∧ u.handover = none ∧ u.pst = 5) ∧
    (let u := ev (paired 3 5) 17; u.proposed = none ∧ u.handover = none ∧ u.pst ≠ 5 ∧ u.pst ≠ 4) ∧
    (let u := ev { paired 5 4 with proposed := some 5, cycle := 150000 } 17; u.proposed.isSome = true ∧ u.past u.proposedAt 150000 = true) := by
  decide +kernel

theorem test_PairProtocol_handover_hyps :
    (let d := handing 8 7
     d.handover = some 0 ∧ 0 ≤ d.pt ∧ d.trOpen = false ∧ d.pst = 8 ∧ d.overlapSeen = true ∧
     0 + d.get F.PAIR_TIMERS_OVERLAP * usLt ≤ d.pt ∧ d.on F.PAIR_STATUS_LINK_UP = true) ∧
    (let d := handing 7 8; d.handover = some 0 ∧ 0 ≤ d.pt ∧ d.trOpen = false ∧ d.pst = 7 ∧ 0 + d.get F.PAIR_TIMERS_OVERLAP * usLt ≤ d.pt) ∧
    (let d := ev { paired 8 7 with handover := some 0, tb0 := 2 ^ 90 } 17
     d.handover = some 0 ∧ d.pst = 8 ∧ d.overlapSeen = false ∧ 0 + d.get F.PAIR_TIMERS_OVERLAP * usLt ≤ d.pt) := by
  decide +kernel

theorem test_PairProtocol_sfi_hyps :
    F.PAIR_CFG_CLAIM_LEVEL.ok 7 = true ∧ F.PAIR_CFG_HB_HALF.ok 10 = true ∧ F.PAIR_CFG_START_WAIT.ok 255 = true ∧
    F.PAIR_TIMERS_REVERT_HOLD.ok 1 = true ∧ F.PAIR_TIMERS_OVERLAP.ok 4095 = true ∧ (at_ up 0xA02).pst = 0 ∧
    (may (paired 4 5) 0xA02 1 false = true ∧ (at_ (paired 4 5) 0xA02).pst = 4 ∧ (at_ (paired 4 5) 0xA02).on F.PAIR_STATUS_LINK_UP = true ∧
     (at_ (paired 4 5) 0xA02).peerActive = true ∧ (at_ (paired 4 5) 0xA02).unitClash = false) ∧
    (may (paired 6 4) 0xA03 2 false = true ∧ (at_ (paired 6 4) 0xA03).proposed = none ∧ (at_ (paired 6 4) 0xA03).handover = none ∧
     (at_ (paired 6 4) 0xA03).pst = 6 ∧ (at_ (paired 6 4) 0xA03).on F.PEER_STATUS_PEER_VALID = true ∧
     (at_ (paired 6 4) 0xA03).get F.PEER_STATUS_PEER_STATE = 4) ∧
    (let d : Dev := { paired 5 4 with proposed := some 1 }
     may d 0xA04 1 false = true ∧ (at_ d 0xA04).proposed = some 1 ∧ (at_ d 0xA04).pt < 1 ∧ 1 ≤ ({ d with tb0 := 2 ^ 32 } : Dev).pt) := by
  decide +kernel

/-- A standby die whose bulk copy runs, its peer's digest being `v`. -/
def copying (v : Nat) : Dev :=
  { up with regs := [(regAddr .PAIR_STATUS 0, 3), (regAddr .MIRROR_STATUS 0, 0), (regAddr .PEER_CFG_DIGEST 0, BitVec.ofNat 32 v)] }.set
    F.MIRROR_STATUS_RESYNC_BUSY 0 1

/-- The device whose digest RESYNC_COPY_DONE takes. -/
def copied (v : Nat) : Dev :=
  (((ev (copying v) 17).set F.MIRROR_STATUS_RESYNC_BUSY 0 0).set F.MIRROR_STATUS_RESYNC_PCT 0 100).set F.MIRROR_STATUS_OVERFLOWED 0 0

theorem ev_reg (d : Dev) (b : Nat) (r : RegName) (h : d.place = 0) : (ev d b).reg r = d.reg r := by
  have h' : ¬ untied b 0 < (st d).toDev.place := by simp [st, h]
  unfold ev State.due Dev.turn
  simp only [h']; rfl

theorem copied_perf (v : Nat) : (copied v).digest.perf.get (0x58 * 8 + 5) + 1 < 2 ^ 48 := by
  rw [show (copied v).digest.perf = up.perf from rfl]
  decide +kernel

theorem copied_digest (v : Nat) (h : ((copied v).regs.filter (fun e => isPairCfg e.1)).isEmpty = true) :
    ((copied v).digest.count 0x58 5).reg .CFG_DIGEST = Config.cfgDigest [] % 2 ^ 32 := by
  rw [Laws.count_reg _ _ _ _ _ _ _ (by decide) (copied_perf v)]
  unfold Dev.digest
  rw [Laws.reg_setReg, Nat.mod_mod, List.isEmpty_iff.mp h]
  rfl

theorem copied_peer (v : Nat) : ((copied v).digest.count 0x58 5).reg .PEER_CFG_DIGEST = v % 2 ^ 32 := by
  rw [Laws.count_reg _ _ _ _ _ _ _ (by decide) (copied_perf v)]
  unfold Dev.digest copied Dev.set
  simp only [F.MIRROR_STATUS_RESYNC_BUSY, F.MIRROR_STATUS_RESYNC_PCT, F.MIRROR_STATUS_OVERFLOWED]
  rw [Laws.reg_setReg_ne _ _ _ _ _ _ (by decide), Laws.reg_setReg_ne _ _ _ _ _ _ (by decide), Laws.reg_setReg_ne _ _ _ _ _ _ (by decide),
    Laws.reg_setReg_ne _ _ _ _ _ _ (by decide), ev_reg _ _ _ rfl]
  unfold copying Dev.set
  rw [Laws.reg_setReg_ne _ _ _ _ _ _ (by decide)]
  exact BitVec.toNat_ofNat v 32

theorem test_PairProtocol_digest_hyps :
    ((ev (copying (Config.cfgDigest [])) 17).pst = 3 ∧ (ev (copying (Config.cfgDigest [])) 17).on F.MIRROR_STATUS_RESYNC_BUSY = true) ∧
    (let d := (copied (Config.cfgDigest [])).digest.count 0x58 5
     d.reg .CFG_DIGEST = d.reg .PEER_CFG_DIGEST) ∧
    (let d := (copied (Config.cfgDigest [] + 1)).digest.count 0x58 5
     d.reg .CFG_DIGEST ≠ d.reg .PEER_CFG_DIGEST) := by
  refine ⟨by decide +kernel, ?_, ?_⟩
  · dsimp only; rw [copied_digest _ (by decide +kernel), copied_peer]
  · dsimp only; rw [copied_digest _ (by decide +kernel), copied_peer]; omega

/-! ## The domain agent -/

/-- A member with a key, its child 7 live on place 0; member 1 of depth 1 under member 0. -/
def member : Dev :=
  { sets dma [(F.DOM_CFG_DOM_EN, 0, 1), (F.DOM_CFG_DEPTH, 0, 1), (F.DOM_CFG_DEPTH_LIMIT, 0, 3), (F.DOM_CFG_DOM_TC, 0, 5),
      (F.DOM_ID_INDEX, 0, 1), (F.DOM_MAC_1_ADDR, 0, 2)] with
      domKey := [1, 2, 3, 4, 5, 6, 7, 8], domTx := true, children := [(0, { (default : DomChild) with used := true, index := 7, live := true })] }

/-- The root of a domain. -/
def root : Dev := sets member [(F.DOM_CFG_ROOT, 0, 1), (F.DOM_CFG_DEPTH, 0, 0), (F.DOM_ID_INDEX, 0, 0)]

/-- A frame of 64 bytes with an EtherType waits for the agent at port 257. -/
def mgmt (etype : List Byte) : Dev :=
  let b : List Byte := [0, 2, 0, 0, 0, 0] ++ List.replicate 6 0 ++ etype ++ List.replicate 50 0
  { member with
      frames := [(9, { (default : FrameRec) with live := true, ended := true, bytes := b, head := b })]
      queues := [(8 * 257 + 5, [{ (default : Copy) with frame := 9, port := 257, tc := 5 }])]
      tokens := [(8 * 257 + 5, 2 ^ 30)] }

/-- What the agent takes of a device. -/
def agentTakes (d : Dev) : Dev × Option Copy := let u := (st d).due atSend; u.takeHead 257 u.domMask []

theorem test_DomainTree_hyps :
    (let u := ev member 18
     u.domEn = true ∧ u.domRoot = false ∧ u.domTx = true ∧ u.helloAt = none ∧ u.parentStamp = 0) ∧
    (let d := ev { member with helloAt := some 0, cycle := member.helloPeriod } 18
     d.domEn = true ∧ d.domRoot = false ∧ d.domTx = true ∧ d.parentStamp = 0 ∧ d.helloAt = some 0 ∧ 0 + d.helloPeriod ≤ d.cycle) ∧
    (let d := ev { member with cycle := 3 * member.helloPeriod } 18
     (d.children.get 0).live = true ∧ (d.children.get 0).hello + 3 * d.helloPeriod ≤ d.cycle ∧ (d.children.get 63).live = false ∧
     d.domEn = true ∧ d.domRoot = false ∧ d.parentLost = false ∧ d.parentAt + 3 * d.helloPeriod ≤ d.cycle) ∧
    (let d := ev { member with validSince := some 0, cycle := 300 * msCycles } 18
     d.validSince = some 0 ∧ d.domEn = true ∧ 0 + 300 * msCycles ≤ d.cycle) ∧
    (let d := ev { member with domHeld := [{ (default : DomMsg) with mseq := 4096 }, { (default : DomMsg) with mseq := 4097 }] } 18
     (d.domHeld.takeWhile (fun m => d.mseqDue m.mseq)).length = 1) ∧
    (let d := ev { member with domSeen := [(16383, 5, 2 ^ 32 - 2 ^ 30)] } 18
     (d.domSeen.get 16383).1 ≠ 0 ∧ 2 ^ 30 ≤ (d.ptCount + 2 ^ 32 - (d.domSeen.get 16383).2) % 2 ^ 32) := by
  decide +kernel

theorem test_DomainTree_frames_hyps :
    (let x := agentTakes (mgmt [0x08, 0x00])
     x.2.map Copy.frame = some 9 ∧ (((x.1.delivered (x.2.getD default)).frames.get 9).parsed).etype ≠ 0x88B5) ∧
    (let x := agentTakes (mgmt [0x88, 0xB5])
     let e := x.1.delivered (x.2.getD default)
     let p := (e.frames.get 9).parsed
     x.2.map Copy.frame = some 9 ∧ p.etype = 0x88B5 ∧ p.da = e.domMac ∧ e.domKey ≠ []) := by
  decide +kernel

theorem test_DomainOperations_hyps :
    (let p : DomProof := { (default : DomProof) with t := 0 }
     let d := (st { member with proof := some p }).due atLatch
     d.proof = some p ∧ p.latched = false ∧ p.t ≤ d.pt ∧ d.pt < 1) ∧
    (let p : DomProof := { (default : DomProof) with latched := true }
     let d := ev { member with proof := some p, tb0 := 2 ^ 110 } 18
     d.proof = some p ∧ p.latched = true ∧ p.t + d.levels * d.hopWait ≤ d.pt) ∧
    (∀ k ∈ [1, 2, 3, 4], (let a : DomAction := { (default : DomAction) with kind := k, armed := true }
      let d := ev { member with action := some a } 18
      d.action = some a ∧ a.armed = true ∧ a.t ≤ d.pt ∧ d.heldT.any (fun h => h.kind == 3) = false ∧ a.kind = k)) ∧
    (let a : DomAction := { (default : DomAction) with t := 1, armed := true }
     a.armed = true ∧ (ev { member with action := some a } 18).pt < a.t) ∧
    (∀ m ∈ [member, root], (let a : DomAction := default
      let d := ev { m with action := some a, tb0 := 2 ^ 110 } 18
      d.actionTake.action = some a ∧
      a.t + (if d.actionTake.domRoot then d.actionTake.get F.DOM_CFG_DEPTH_LIMIT + 1 else d.actionTake.levels) * d.actionTake.hopWait ≤
        d.actionTake.pt)) := by
  decide +kernel

theorem test_DomainOperations_barrier_hyps :
    (∀ m ∈ [member, root], (let b : DomBarrier := { (default : DomBarrier) with until_ := 1 }
      (ev { m with barrier := some b } 18).ptNs < b.until_ ∧ b.until_ ≤ (ev { m with barrier := some b, tb0 := 2 ^ 110 } 18).ptNs)) ∧
    (ev member 18).domRoot = false ∧ (ev root 18).domRoot = true ∧
    (let j : Job := { (default : Job) with op := 0xB04, data := [1, 0] }
     let d := ev { member with jobs := [j] } 18
     d.jobs.filter (fun j => (j.op == 0xB04 || j.op == 0xB05) && decide (j.data.getD 1 0 ≤ d.cycle)) = [j] ∧ j.op = 0xB04) := by
  decide +kernel

theorem test_DomainSfi_hyps :
    F.DOM_RATE_RATE.ok 1000 = true ∧ F.DOM_RATE_RATE.ok 10000000 = true ∧ F.DOM_TIMERS_HOP_WAIT.ok 1 = true ∧
    F.DOM_TIMERS_HOP_WAIT.ok 255 = true ∧ F.DOM_TIMERS_ARM_MIN.ok 1 = true ∧ F.DOM_TIMERS_SKEW_MAX.ok 0 = true ∧
    F.DOM_TIMERS_HELLO_PERIOD.ok 255 = true ∧ F.DOM_LEAD_LEAD.ok 65535 = true ∧
    (may member 0xB04 0 false = true ∧ (at_ member 0xB04).domEn = true ∧ 16383 ≠ (at_ member 0xB04).domIndex) ∧
    (may member 0xB05 2 false = true ∧ (at_ member 0xB05).domEn = true) ∧
    (may root 0xB06 1 false = true ∧ (at_ root 0xB06).domEn = true ∧ (at_ root 0xB06).domRoot = true ∧ (at_ root 0xB06).proof = none ∧
     (at_ root 0xB06).sender rq.ch < 8 ∧ (at_ root 0xB06).dmaOk ((at_ root 0xB06).sender rq.ch) (2 ^ 48 - 64) 64 true = true) ∧
    (may root 0xB07 2 false = true ∧ (at_ root 0xB07).domEn = true ∧ (at_ root 0xB07).domRoot = true ∧ (at_ root 0xB07).action = none ∧
     actionRole 4 = 3 ∧ (∀ k ∈ [1, 2, 3], actionRole k = 2) ∧
     (at_ root 0xB07).pt + (at_ root 0xB07).get F.DOM_LEAD_LEAD * msLt ≤ (at_ root 0xB07).pt + 3600000 * msLt) ∧
    (let d : Dev := { root with action := some default }
     may d 0xB08 2 false = true ∧ (at_ d 0xB08).action = some default ∧ (at_ d 0xB08).domRoot = true) ∧
    (may root 0xB09 2 false = true ∧ (at_ root 0xB09).domEn = true ∧ (at_ root 0xB09).domRoot = true ∧ (at_ root 0xB09).barrier = none) ∧
    (let d : Dev := { member with barrier := some default }
     may d 0xB0A 1 false = true ∧ (at_ d 0xB0A).barrier = some default) := by
  decide +kernel

/-- CURTAIN_ARM of KIND 4 asks for SECURITY_ADMIN: a DIRECTOR channel is granted the command and lacks the role. -/
theorem test_DomainSfi_denied_hyp :
    (let d : Dev := { root with sess := [(0, { (default : Session) with isOpen := true, role := 2 })] }
     Granted (st d) rq 0xB07 2 false 2 ∧ (at_ d 0xB07).domEn = true ∧ (at_ d 0xB07).domRoot = true ∧ 2 < actionRole 4) := by
  refine ⟨⟨?_, ?_, ?_, ?_, ?_⟩, ?_⟩ <;> first | decide +kernel | rfl

/-! ## Power, clocks, resets -/

/-- Every PLL of PWR_STATUS is locked. -/
def locked : Dev := (up.set F.PWR_STATUS_CORE_PLL_LOCK 0 1).setReg .PWR_STATUS 0 (31 * 64 + 63)

theorem test_PowerMonitors_hyps :
    (st locked).live ∧ (∀ pll : Fin 5, bitsOf ((ev locked 19).reg .PWR_STATUS) (6 + pll.val) (6 + pll.val) = 1 ∧
      bitsOf ((ev (up.setReg .PWR_STATUS 0 0) 19).reg .PWR_STATUS) (6 + pll.val) (6 + pll.val) = 0) ∧
    locked.tripped = false ∧ ({ locked with tripped := true } : Dev).tripped = true := by
  refine ⟨by unfold State.live; decide +kernel, by decide +kernel⟩

theorem test_DeviceResets_hyps :
    up.inReset = false ∧ ({ up with inReset := true } : Dev).inReset = true ∧
    (let d : Dev := { up with inReset := true, tripped := true }
     d.inReset = true ∧ d.tripped = true ∧ d.powerOn = false ∧ (∃ t ∈ [(0 : Int), 1600], 1600 ≤ t) ∧ (∀ t ∈ [(0 : Int), 1599], t < 1600)) ∧
    Writes (st (keyed up .RESET_CTRL 0)) 24 .RESET_CTRL 0 1 ∧
    (({ up with intReset := true } : Dev).intReset = true ∧ ({ up with intReset := true } : Dev).inReset = false) ∧
    Granted (st up) rq 0x004 2 false 3 := by
  exact ⟨by decide +kernel, by decide +kernel, by decide +kernel, writes_of (by decide +kernel), by decide +kernel, granted_of (by decide +kernel)⟩

/-- The bounds of THERMAL_SET in its statement. -/
theorem test_PowerSfi_hyps :
    (∀ x ∈ [(0x00D, 0), (0x00E, 2), (0x00F, 2)], may up x.1 x.2 false = true) ∧ 60 ≤ 60 ∧ 60 < 61 ∧ 119 < 120 ∧ 120 ≤ 120 := by
  decide +kernel
/-! ## Register commands -/

/-- The device as a write of master `m` to an address finds it. -/
def addressed (d : Dev) (m addr w : Nat) : Dev :=
  (st d).toDev.turn (fun d => d.addrPlace m addr w (ownPlace addr (untied (addrBlock addr) (8 + masterOrder m))))

theorem test_RegisterCommands_hyps :
    (st up).live ∧ (∃ a ∈ [0x00000C, 0xFFFFFC], regAt (a % 2 ^ 24 / 4 * 4) = none) ∧
    (regAt (regAddr .BOOK_CFG 0) = some (.BOOK_CFG, 0) ∧ regAddr .BOOK_CFG 0 % 2 ^ 24 / 4 * 4 = regAddr .BOOK_CFG 0 ∧
     regUnused .BOOK_CFG 0 = false ∧
     ((addressed (keyed up .BOOK_CFG 0) 24 (regAddr .BOOK_CFG 0) 9).gateBe 24 .BOOK_CFG 0 9 15).2.isSome = true ∧
     ((addressed up 0 (regAddr .RING_DB 0) 9).gateBe 0 .RING_DB 0 9 1).2.isSome = true ∧
     ((addressed up 0 (regAddr .BOOK_CFG 0) 9).gateBe 0 .BOOK_CFG 0 9 15).2.isNone = true) ∧
    ((blockAt 0).isSome = true ∧ (blockAt 96).isSome = true ∧
     (let u := (st up).toDev.turn (fun d => d.regPlace 24 .GUARD_UNLOCK 96 0xC3A5)
      (u.gateReg 24 .GUARD_UNLOCK 96 0xC3A5).2.isNone = true)) ∧
    (regAt (regAddr .PROMPTER_EVENT 0) = some (.PROMPTER_EVENT, 0) ∧ (regInfo .PROMPTER_EVENT).kind = .rsq ∧
     regAddr .PROMPTER_EVENT 0 < 2 ^ 24 ∧ regAddr .PROMPTER_EVENT 0 % 4 = 0 ∧
     WritesAt (st (keyed up .PROMPTER_EVENT 0)) atClear 24 .PROMPTER_EVENT 0 0x01000001) ∧
    hasParity .BOOK_CFG 0 = true ∧
    ((st up).due (untied (addrBlock (regAddr .BOOK_CFG 0)) 40)).regWrote.contains (regAddr .BOOK_CFG 0) = false ∧
    ((st { up with regWrote := [regAddr .BOOK_CFG 0] }).due (untied (addrBlock (regAddr .BOOK_CFG 0)) 40)).regWrote.contains
      (regAddr .BOOK_CFG 0) = true ∧
    ((st up).due atSfi).core0Up = true ∧ ((st Dev.reset).due atSfi).core0Up = false := by
  exact ⟨by unfold State.live; decide +kernel, by decide +kernel, by decide +kernel, by decide +kernel,
    ⟨by decide +kernel, by decide +kernel, by decide +kernel, by decide +kernel, writesAt_of (by decide +kernel)⟩, by decide +kernel⟩
/-! ## The block as a whole -/

/-- A device whose thermal trip holds. -/
def trippedDev : Dev := { up with tripped := true }

theorem test_whole_hyps :
    (st up).pending = [] ∧ (st up).live ∧ ¬ (st trippedDev).live ∧ alwaysOn .thermClear = false ∧
    trippedDev.tripped = true ∧ (∀ c ∈ [Instr.thermClear, .thermalTrip, .lifeHoursUpdate 1520], resets c = false) ∧
    observes .thermClear = true := by
  unfold State.live
  decide +kernel

theorem test_QueueStaysLegal_hyps :
    ({ st up with pending := [.tbTick 0, .powerQuery rq 0] } : State).QueueOk ∧
    (∃ t, step { st up with pending := [.tbTick 0, .powerQuery rq 0] } = .next t) ∧
    (∃ t, exec (.bookQuery rq 0) (st up) = .next t) ∧ observes (.bookQuery rq 0) = true := by
  refine ⟨fun c hc => ?_, ⟨_, rfl⟩, ⟨_, rfl⟩, rfl⟩
  simp only [List.mem_cons, List.not_mem_nil, or_false] at hc
  rcases hc with rfl | rfl <;> rfl

theorem test_OrderOfACycle_hyps :
    inPipe 127 = inPipe 0 ∧ inPipe 0 = 0 ∧ inPipe 255 = 1 ∧ up.cycle % 2 = 0 ∧ ({ up with cycle := 1 } : Dev).cycle % 2 = 1 ∧
    up.place ≤ atSend ∧ atReceive < ({ up with place := atSend } : Dev).place := by
  decide +kernel

/-- The device as a command of channel 0 with the operation `op` finds it. -/
def found (d : Dev) (op : Nat) : Dev := (st d).sfiDue op

/-- SYS_QUERY and THERMAL_SET of a device that serves, one whose session is closed, one frozen, one whose core's queue is full, one
with eight requests in flight, and one whose core has another request to execute first. -/
theorem test_SfiSettling_hyps :
    (∃ x, sfiOf (.sysQuery rq) = some x ∧ x.need = 0 ∧ x.op < 0xD00) ∧ (∃ x, sfiOf (.thermalSet rq 60 61) = some x ∧ x.need = 2) ∧
    (found Dev.reset 3).served 0 = false ∧ (found up 3).served 0 = true ∧ ((found up 3).request rq 3).isNone = true ∧
    (let d := found { up with sess := [] } 0x00E
     d.served 0 = true ∧ (match d.sfiRole rq 0x00E 2 false with | .ok _ => false | .error _ => true) = true ∧
     d.request rq 0x00E = none ∧ d.isFrozen (d.sender rq.ch) = false ∧ rq.ch.val < 24 ∧ d.roleOf 0 < 2) ∧
    (let d := found { up with frozen := [(up.sender 0, some default)] } 3
     d.isFrozen (d.sender rq.ch) = true ∧ d.request rq 3 = none) ∧
    (let d := found up 0x00E
     2 ≤ d.roleOf 0 ∧ d.coreQ (d.rxCore 0) < prioLimit (d.get F.MB_CFG_PRIO 0) ∧ d.inFlight 0 < 8) ∧
    (let d := found { up with pendQ := List.replicate 64 { (default : PendReq) with core := up.rxCore 0, ch := 1, tag := 9 } } 3
     prioLimit (d.get F.MB_CFG_PRIO 0) ≤ d.coreQ (d.rxCore 0) ∧ (d.request rq 3).isNone = true) ∧
    (let d := found { up with jobs := List.replicate 8 { (default : Job) with ch := 0, tag := 9 } } 3
     d.request rq 3 = none ∧ 8 ≤ d.inFlight 0 ∧ d.coreQ (d.rxCore 0) < prioLimit (d.get F.MB_CFG_PRIO 0)) := by
  refine ⟨⟨_, rfl, rfl, by decide⟩, ⟨_, rfl, rfl⟩, ?_⟩
  decide +kernel

/-- A request of another channel is the core's next; this one joins the queue, or is in it. -/
theorem test_SfiSettling_turn_hyps :
    (let d := found { up with pendQ := [{ (default : PendReq) with core := up.rxCore 0, ch := 0, tag := 9, role := 3 }] } 3
     d.served 0 = true ∧ (match d.sfiRole rq 3 0 false with | .ok _ => true | .error _ => false) = true ∧ d.myTurn rq 3 = false ∧
     d.request rq 3 = none) ∧
    (let d := found up 3
     let e := d.enqueueReq { (d.asReq rq 3 3) with tag := 9 }
     let f := e.enqueueReq (d.asReq rq 3 3)
     f.served 0 = true ∧ (match f.sfiRole rq 3 0 false with | .ok _ => true | .error _ => false) = true ∧ f.myTurn rq 3 = false ∧
     (f.request rq 3).isSome = true) := by
  decide +kernel

/-- CREDENTIAL_SET wants the key; this request brings none. -/
theorem test_UnlockKeyOfCommands_hyps :
    (let r : Sfi := { rq with key := 0 }
     r.key.toNat ≠ 0xC3A5 ∧
     (∀ op ∈ [0xC04, 0x008], (found up op).served 0 = true ∧ (found up op).isFrozen ((found up op).sender r.ch) = false ∧
       3 ≤ (found up op).roleOf r.ch ∧ ((found up op).request r op).isNone = true) ∧
     (∃ x, sfiOf (.credentialSet r 3 []) = some x ∧ x.rq = r ∧ x.key = true ∧ x.op = 0xC04)) ∧
    Granted (st up) { rq with key := 0 } 0x004 2 false 3 := by
  exact ⟨⟨by decide, by decide +kernel, _, rfl, rfl, rfl, rfl⟩, (by unfold State.live; decide +kernel), by decide +kernel, rfl, by decide +kernel, by decide⟩

/-- A request with TAG 0. -/
theorem test_Replies_hyps :
    (∃ x, sfiOf (.sysQuery { rq with tag := 0 }) = some x ∧ x.rq.tag.val = 0) ∧ (st up).live ∧ (found up 3).served 0 = true ∧
    (match (found up 3).sfiRole { rq with tag := 0 } 0x003 0 false with | .ok r => r | .error _ => 9) = 3 ∧
    (found up 3).myTurn { rq with tag := 0 } 3 = true ∧ (Ans.busy 31 65535).cause < 32 ∧ (Ans.busy 31 65535).hint < 65536 := by
  refine ⟨⟨_, rfl, rfl⟩, ?_⟩
  unfold State.live
  decide +kernel

theorem test_EventRegisters_hyps :
    up.evMark.get (regAddr .PORT_EVENT 112) ≠ up.cycle + 1 ∧
    (up.raiseBits .PORT_EVENT 112 1).evMark.get (regAddr .PORT_EVENT 112) = (up.raiseBits .PORT_EVENT 112 1).cycle + 1 ∧
    (regInfo .PORT_EVENT).kind = .rsq := by
  decide +kernel

theorem test_ReservedFields_hyps :
    (∃ f ∈ regFields .BOOK_CFG, f.soft = true ∧ f.ok (bitsOf 9 f.hi f.lo) = true) ∧
    (∃ f ∈ regFields .BOOK_CFG, f.soft = true ∧ f.ok (bitsOf 0 f.hi f.lo) = false) ∧
    (∃ k < 32, ∀ f ∈ regFields .BOOK_CFG, k < f.lo ∨ f.hi < k) ∧ regAddr .BOOK_STATUS 0 ≠ regAddr .BOOK_CFG 0 := by
  decide +kernel

theorem test_UnlockStates_hyps :
    up.isFrozen 24 = false ∧ ({ up with frozen := [(24, some default)] } : Dev).isFrozen 24 = true ∧
    (up.writeKind 24 .GUARD_UNLOCK 0x50 0xC3A5).isNone = true ∧ (regInfo .BOOK_CFG).kind = .rwk ∧
    (up.writeKind 24 .BOOK_CFG 0 9).isNone = true ∧ (keyed up .BOOK_CFG 0).unlock.get (unlockSlot 24 .BOOK_CFG 0) = true ∧
    up.unlock.get (unlockSlot 24 .BOOK_CFG 0) = false ∧ (up.writeKind 0 .RING_CFG 0 9).isNone = true := by
  decide +kernel

theorem test_RecordTakesSeq_hyps :
    trigHits up 0x0F01 1 = [] ∧ 1 < (up.set F.BOOK_CFG_RECORD_MIN_SEV 0 2).get F.BOOK_CFG_RECORD_MIN_SEV ∧
    up.get F.BOOK_CFG_RECORD_MIN_SEV ≤ 1 ∧ up.curtain = none ∧ up.on F.BOOK_STATUS_MODE_ACTIVE = false ∧
    up.book.length + 1 < up.bookCap ∧ up.staged.length < 16384 := by
  decide +kernel

theorem test_Claims_hyps :
    1 ≤ (paired 5 4).get F.PAIR_CFG_CLAIM_LEVEL ∧ ([0, 1, 2, 3, 4, 5, 6].all (fun x => (paired x 4).pst == x)) = true ∧
    (paired 5 4).get F.PAIR_STATUS_UNIT_ID ≠ ((paired 5 4).set F.PAIR_STATUS_UNIT_ID 0 1).get F.PAIR_STATUS_UNIT_ID ∧
    ({ paired 5 4 with arbGo := true } : Dev).arbGo = true ∧ up.arbGo = false := by
  decide +kernel

/-! ## Worked examples of the spec -/

/-- A stored record by SEQ and severity. -/
def recOf (seq sev : Nat) : Rec := { (default : Rec) with seq := seq, sev := sev }

/-- A book of nine slots (all but nine of the large book's are lost), filled as R388's example fills the small book:
CRITICAL 53,601, four FATAL from 53,602, MAJOR 53,977, WARNING 55,040 and 55,041, INFO 60,215. -/
def vellmarsh : Dev :=
  { up.set F.BOOK_STATUS_MODE_ACTIVE 0 1 with
      slotsLost := 67108855, nextSeq := 70001,
      book := [recOf 53601 6, recOf 53602 7, recOf 53603 7, recOf 53604 7, recOf 53605 7, recOf 53977 5, recOf 55040 3, recOf 55041 3,
               recOf 60215 1] }

/-- The SEQ numbers in the book. -/
def seqs (d : Dev) : List Nat := d.book.map Rec.seq

/-- R388's table: MINOR displaces WARNING 55,040; INFO is dropped; FATAL displaces CRITICAL 53,601; CRITICAL displaces MAJOR 53,977. -/
theorem test_R388_full_book :
    (let a := storeRec vellmarsh (recOf 70001 4)
     let b := storeRec a.1 (recOf 70002 1)
     let c := storeRec b.1 (recOf 70003 7)
     let e := storeRec c.1 (recOf 70004 6)
     vellmarsh.book.length = vellmarsh.bookCap ∧ [a.2, b.2, c.2, e.2] = [true, false, true, true] ∧
     seqs a.1 = [53601, 53602, 53603, 53604, 53605, 53977, 55041, 60215, 70001] ∧
     seqs b.1 = seqs a.1 ∧
     seqs c.1 = [53602, 53603, 53604, 53605, 53977, 55041, 60215, 70001, 70003] ∧
     seqs e.1 = [53602, 53603, 53604, 53605, 55041, 60215, 70001, 70003, 70004] ∧
     [e.1.reg .OVERWRITTEN 3, e.1.reg .DROPPED 1, e.1.reg .OVERWRITTEN 6, e.1.reg .OVERWRITTEN 5] = [1, 1, 1, 1]) := by
  decide +kernel

/-- The book of the example meets the premises of FullBook. -/
theorem test_FullBook_hyps :
    (∀ x ∈ vellmarsh.book, x.sev < 8) ∧ vellmarsh.staged.length < 16384 ∧
    vellmarsh.book.Pairwise (fun a b => seqAfter b.seq a.seq = true) ∧ vellmarsh.bookCap ≤ vellmarsh.book.length ∧
    (∃ x ∈ vellmarsh.book, x.sev < 4) ∧ (∀ x ∈ vellmarsh.book, (recOf 70002 1).sev ≤ x.sev) ∧ up.book.length < up.bookCap := by
  decide +kernel

/-- FATAL records alone. -/
theorem test_FullBook_fatal_hyp :
    (let d : Dev := { vellmarsh with book := (List.range 9).map (fun k => recOf k 7) }
     d.bookCap ≤ d.book.length ∧ (∀ x ∈ d.book, 7 ≤ x.sev) ∧ d.book ≠ []) := by
  decide +kernel

/-- R373's example: PORT_EVENT of P_112 at 0x1700_0001; LINK_UP; a clear for the value read before, and one for the value now. -/
theorem test_R373_port_event :
    (let d := up.setReg .PORT_EVENT 112 0x17000001
     let e := d.raiseBits .PORT_EVENT 112 2
     e.reg .PORT_EVENT 112 = 0x18000003 ∧ (e.rsqClear .PORT_EVENT 112 0x17000001).reg .PORT_EVENT 112 = 0x18000003 ∧
     (e.rsqClear .PORT_EVENT 112 0x18000003).reg .PORT_EVENT 112 = 0x18000000) := by
  decide +kernel

/-- R398's example: the image at Vellmarsh. -/
theorem test_R398_image : imageLen 15 1 = 282816 := by decide +kernel

/-- The table gives no row bits, so no word spells a command. -/
theorem test_decode_none : decodeTableWord 16 0 = none ∧ decodeTableWord 32 0xFFFFFFFF = none := by decide

/-- RFC 4231, test case 2: the key "Jefe", the data "what do ya want for nothing?". -/
theorem test_hmac :
    hmacSha256 [0x4A, 0x65, 0x66, 0x65]
      [0x77, 0x68, 0x61, 0x74, 0x20, 0x64, 0x6F, 0x20, 0x79, 0x61, 0x20, 0x77, 0x61, 0x6E, 0x74, 0x20, 0x66, 0x6F, 0x72, 0x20,
       0x6E, 0x6F, 0x74, 0x68, 0x69, 0x6E, 0x67, 0x3F] =
      [0x5BDCC146, 0xBF60754E, 0x6A042426, 0x089575C7, 0x5A003F08, 0x9D273983, 0x9DEC58B9, 0x64EC3843] := by
  decide +kernel

end Sys2Proof.Tests
end

section
/-! PROOF. A written word taken into a register field by field (R7, R8), and what `Dev.store` makes of it. -/

namespace Sys2Proof.Proofs

open Sys2Proof Sys2Proof.Machine Sys2Proof.Laws

/-! ## One field, then the fields of a list -/

/-- What one field of a register makes of its word `v` when `w` is written (R7, R8). -/
def takeWritten (w v : Nat) (f : Fld) : Nat :=
  if f.soft && f.ok (bitsOf w f.hi f.lo) then withBits v f.hi f.lo (bitsOf w f.hi f.lo) else v

theorem bitsOf_takeWritten (w v : Nat) (f : Fld) (h : f.lo ≤ f.hi) :
    bitsOf (takeWritten w v f) f.hi f.lo =
      if f.soft = true ∧ f.ok (bitsOf w f.hi f.lo) = true then bitsOf w f.hi f.lo else bitsOf v f.hi f.lo := by
  simp only [takeWritten, Bool.and_eq_true]
  split
  · rw [bitsOf_withBits _ _ _ _ h, Nat.mod_eq_of_lt (bitsOf_lt _ _ _)]
  · rfl

theorem bitsOf_takeWritten_other (w v : Nat) (f g : Fld) (h : f.lo ≤ f.hi) (a : f.hi < g.lo ∨ g.hi < f.lo) :
    bitsOf (takeWritten w v f) g.hi g.lo = bitsOf v g.hi g.lo := by
  unfold takeWritten
  split
  · exact bitsOf_withBits_other _ _ _ _ _ _ h a
  · rfl

theorem testBit_takeWritten_outside (w v k : Nat) (f : Fld) (h : f.lo ≤ f.hi) (a : k < f.lo ∨ f.hi < k) :
    (takeWritten w v f).testBit k = v.testBit k := by
  unfold takeWritten
  split
  · rw [testBit_withBits _ _ _ _ _ h, if_neg (by omega)]
  · rfl

theorem takeWritten_lt (w v : Nat) (f : Fld) (h : f.lo ≤ f.hi) (h32 : f.hi < 32) (hv : v < 2 ^ 32) :
    takeWritten w v f < 2 ^ 32 := by
  unfold takeWritten
  split
  · exact withBits_lt _ _ _ _ h h32 hv
  · exact hv

/-- A field keeps its bits when fields that share none with it take theirs. -/
theorem bitsOf_foldl_takeWritten_other (w : Nat) (g : Fld) (fs : List Fld) (v : Nat)
    (h : ∀ f ∈ fs, f.lo ≤ f.hi ∧ (f.hi < g.lo ∨ g.hi < f.lo)) :
    bitsOf (fs.foldl (takeWritten w) v) g.hi g.lo = bitsOf v g.hi g.lo := by
  induction fs generalizing v with
  | nil => rfl
  | cons f fs ih =>
    obtain ⟨⟨hle, apart⟩, hfs⟩ := List.forall_mem_cons.mp h
    rw [List.foldl_cons, ih _ hfs, bitsOf_takeWritten_other _ _ _ _ hle apart]

/-- Of fields that share no bit, each takes what was written to it alone, or keeps what it held. -/
theorem bitsOf_foldl_takeWritten (w : Nat) (fs : List Fld) (v : Nat) (hle : ∀ f ∈ fs, f.lo ≤ f.hi)
    (apart : fs.Pairwise (fun f g => f.hi < g.lo ∨ g.hi < f.lo)) : ∀ f ∈ fs,
    bitsOf (fs.foldl (takeWritten w) v) f.hi f.lo =
      if f.soft = true ∧ f.ok (bitsOf w f.hi f.lo) = true then bitsOf w f.hi f.lo else bitsOf v f.hi f.lo := by
  induction fs generalizing v with
  | nil => simp
  | cons g fs ih =>
    obtain ⟨hg, hfs⟩ := List.forall_mem_cons.mp hle
    obtain ⟨gApart, fsApart⟩ := List.pairwise_cons.mp apart
    intro f hf
    rw [List.foldl_cons]
    rcases List.mem_cons.mp hf with rfl | hf
    · rw [bitsOf_foldl_takeWritten_other w f fs _ (fun x hx => ⟨hfs x hx, (gApart x hx).symm⟩), bitsOf_takeWritten _ _ _ hg]
    · rw [ih _ hfs fsApart f hf, bitsOf_takeWritten_other _ _ _ _ hg (gApart f hf)]

/-- A bit of no field keeps its value. -/
theorem testBit_foldl_takeWritten_outside (w k : Nat) (fs : List Fld) (v : Nat)
    (h : ∀ f ∈ fs, f.lo ≤ f.hi ∧ (k < f.lo ∨ f.hi < k)) : (fs.foldl (takeWritten w) v).testBit k = v.testBit k := by
  induction fs generalizing v with
  | nil => rfl
  | cons f fs ih =>
    obtain ⟨⟨hle, outside⟩, hfs⟩ := List.forall_mem_cons.mp h
    rw [List.foldl_cons, ih _ hfs, testBit_takeWritten_outside _ _ _ _ hle outside]

theorem foldl_takeWritten_lt (w : Nat) (fs : List Fld) (v : Nat) (h : ∀ f ∈ fs, f.lo ≤ f.hi ∧ f.hi < 32) (hv : v < 2 ^ 32) :
    fs.foldl (takeWritten w) v < 2 ^ 32 := by
  induction fs generalizing v with
  | nil => exact hv
  | cons f fs ih =>
    obtain ⟨⟨hle, h32⟩, hfs⟩ := List.forall_mem_cons.mp h
    exact ih _ hfs (takeWritten_lt _ _ _ hle h32 hv)

/-! ## The registers after a stored write -/

/-- The shadow log is no register. -/
theorem postShadow_reg (d : Dev) (a : Nat) (r : RegName) (i : Nat) : (d.postShadow a).reg r i = d.reg r i := by
  unfold Dev.postShadow
  split <;> rfl

/-- What a stored write does to the registers: it sets one word, in which each field has taken its part. -/
theorem store_reg_eq_setReg (d : Dev) (r : RegName) (i w : Nat) (r' : RegName) (i' : Nat) :
    (d.store r i w).reg r' i' =
      (d.setReg r i ((regFields r).foldl (takeWritten (arrayWord r i w)) (d.reg r i))).reg r' i' := by
  unfold Dev.store
  dsimp only
  split
  · rfl
  · rw [postShadow_reg]; rfl

theorem store_reg_same (d : Dev) (r : RegName) (i w : Nat) :
    (d.store r i w).reg r i = (regFields r).foldl (takeWritten (arrayWord r i w)) (d.reg r i) := by
  have hlt := foldl_takeWritten_lt (arrayWord r i w) (regFields r) (d.reg r i)
    (fun f hf => (regFields_inside r f hf).2) (reg_lt d r i)
  rw [store_reg_eq_setReg, reg_setReg, Nat.mod_eq_of_lt hlt]

theorem store_reg_ne (d : Dev) (r r' : RegName) (i i' w : Nat) (h : regAddr r' i' ≠ regAddr r i) :
    (d.store r i w).reg r' i' = d.reg r' i' := by
  rw [store_reg_eq_setReg, reg_setReg_ne _ _ _ _ _ _ h]

/-- Settles O55: the fields of a register lie inside its word and share no bit, so taking the written word field by field
changes each field by its own part alone and no bit beside the fields. -/
theorem reservedFields : Obligations.ReservedFields := by
  unfold Obligations.ReservedFields
  intro d r i w _
  have hle : ∀ f ∈ regFields r, f.lo ≤ f.hi := fun f hf => (regFields_inside r f hf).2.1
  rw [store_reg_same]
  refine ⟨?_, ?_, ?_⟩
  · exact bitsOf_foldl_takeWritten (arrayWord r i w) _ _ hle (regFields_disjoint r)
  · exact fun k _ outside => testBit_foldl_takeWritten_outside _ k _ _ (fun f hf => ⟨hle f hf, outside f hf⟩)
  · exact fun r' i' => store_reg_ne d r r' i i' w

end Sys2Proof.Proofs
end

section
/-! PROOF. What a step is (R18, R20, R357): every command is one effect on the device, so a queue is carried out in order. -/

namespace Sys2Proof.Proofs

open Sys2Proof Sys2Proof.Machine Sys2Proof.Laws

/-! ## One step -/

/-- Every command is carried out: whichever of the shared operations its arm calls, it ends in `State.actAo`. -/
theorem exists_does (c : Instr) (s : State) : ∃ d, Does c s d := by
  cases c <;> exact ⟨_, rfl⟩

/-- Settles O42: `step` takes the front of the queue by its definition. -/
theorem stepRunsCommand : Obligations.StepRunsCommand := by
  unfold Obligations.StepRunsCommand
  intro c s rest
  rfl

theorem idle_of_live {d : Dev} (h : d.stopped = false) : d.idle = d.coreCycle.domCycle := by
  unfold Dev.idle
  rw [h, if_neg Bool.false_ne_true]

theorem idle_of_stopped {d : Dev} (h : d.stopped = true) : d.idle = d := by
  unfold Dev.idle
  rw [if_pos h]

theorem step_of_pending_nil {s : State} (h : s.pending = []) : step s = .next (s.withDev s.toDev.idle) := by
  obtain ⟨d, _⟩ := s
  subst h
  rfl

/-- Settles O43: an idle step is `Dev.idle`, and the decoder spells no command. -/
theorem stepWithoutCommand : Obligations.StepWithoutCommand := by
  unfold Obligations.StepWithoutCommand
  intro s hs
  rw [step_of_pending_nil hs]
  refine ⟨fun live => ?_, fun stopped => ?_, fun n w => rfl⟩
  · rw [idle_of_live live]
  · rw [idle_of_stopped (eq_true_of_ne_false stopped)]
    rfl

/-! ## Many steps -/

theorem run_succ_of_does {s : State} {c : Instr} {rest : List Instr} {d : Dev} (h : s.pending = c :: rest)
    (hd : Does c { s with pending := rest } d) (n : Nat) : run (n + 1) s = run n { toDev := d, pending := rest } := by
  have hstep : step s = .next { toDev := d, pending := rest } := by
    unfold step
    rw [h]
    exact hd
  simp only [run, hstep]

/-- As many steps as commands wait carry the queue out. -/
theorem exists_run_queue (q : List Instr) (d : Dev) :
    ∃ t, run q.length { toDev := d, pending := q } = some t ∧ t.pending = [] := by
  induction q generalizing d with
  | nil => exact ⟨_, rfl, rfl⟩
  | cons c rest ih =>
    obtain ⟨e, he⟩ := exists_does c { toDev := d, pending := rest }
    obtain ⟨t, ht, empty⟩ := ih e
    exact ⟨t, by rw [List.length_cons, run_succ_of_does rfl he, ht], empty⟩

/-- Settles O49: a queue is carried out by induction on its commands, each of which answers a next state. -/
theorem queueIsCarriedOut : Obligations.QueueIsCarriedOut := by
  unfold Obligations.QueueIsCarriedOut
  intro s
  obtain ⟨t, ht, empty⟩ := exists_run_queue s.pending s.toDev
  refine ⟨t, ht, empty, fun c rest hs => ?_⟩
  obtain ⟨d, hd⟩ := exists_does c { s with pending := rest }
  refine ⟨d, hd, ?_⟩
  rw [← run_succ_of_does hs hd, ← List.length_cons (a := c), ← hs]
  exact ht

end Sys2Proof.Proofs
end

section
/-! PROOF. The order of a core cycle (R18 to R20): places, and what a command finds. -/

namespace Sys2Proof.Proofs

open Sys2Proof Sys2Proof.Machine Sys2Proof.Laws

/-! ## Places -/

theorem pipeRank_lt (d : Dev) (pipe : Nat) : d.pipeRank pipe < 2 := Nat.mod_lt _ Nat.two_pos

/-- Pipe A wins on even cycles, pipe B on odd ones. -/
theorem pipeRank_of_even {d : Dev} (h : d.cycle % 2 = 0) : d.pipeRank 0 = 0 ∧ d.pipeRank 1 = 1 := by
  unfold Dev.pipeRank
  omega

theorem pipeRank_of_odd {d : Dev} (h : d.cycle % 2 = 1) : d.pipeRank 0 = 1 ∧ d.pipeRank 1 = 0 := by
  unfold Dev.pipeRank
  omega

/-- Within a pipe the lower port comes first. -/
theorem rxPlace_lt_iff (d : Dev) {p q : Nat} (h : inPipe p = inPipe q) : d.rxPlace p < d.rxPlace q ↔ p < q := by
  unfold Dev.rxPlace
  rw [h]
  omega

/-- What arrives on the pipe that wins comes before what arrives on the other. -/
theorem rxPlace_lt_of_pipeRank (d : Dev) {p q : Nat} (hp : p < 512) (h0 : d.pipeRank (inPipe p) = 0)
    (h1 : d.pipeRank (inPipe q) = 1) : d.rxPlace p < d.rxPlace q := by
  unfold Dev.rxPlace
  rw [h0, h1]
  omega

theorem slotPlace_lt_of_pipeRank (d : Dev) {a b : Nat} (h0 : d.pipeRank a = 0) (h1 : d.pipeRank b = 1) :
    d.slotPlace a < d.slotPlace b := by
  unfold Dev.slotPlace
  rw [h0, h1]
  omega

theorem rxPlace_lt_slotPlace (d : Dev) {p : Nat} (hp : p < 512) (pipe : Nat) : d.rxPlace p < d.slotPlace pipe := by
  have := pipeRank_lt d (inPipe p)
  unfold Dev.rxPlace Dev.slotPlace atReceive atSlot
  omega

theorem slotPlace_lt_untied (d : Dev) (pipe block sub : Nat) : d.slotPlace pipe < untied block sub := by
  have := pipeRank_lt d pipe
  unfold Dev.slotPlace untied atSlot atUntied
  omega

theorem untied_lt_of_block {a b j : Nat} (h : a < b) (hj : j < 64) (k : Nat) : untied a j < untied b k := by
  unfold untied
  omega

theorem untied_lt_of_sub (block : Nat) {j k : Nat} (h : j < k) : untied block j < untied block k := by
  unfold untied
  omega

/-! ## The end of a cycle -/

theorem leaveInit_cycle (d : Dev) (p : Nat) : (d.leaveInit p).cycle = d.cycle := by
  unfold Dev.leaveInit Dev.verifySend Dev.preSet
  split
  · rfl
  · split
    · rw [emit_cycle, set_cycle, set_cycle]
    · rw [set_cycle, set_cycle]

theorem foldl_leaveInit_cycle (ps : List Nat) (d : Dev) : (ps.foldl Dev.leaveInit d).cycle = d.cycle := by
  induction ps generalizing d with
  | nil => rfl
  | cons p ps ih => rw [List.foldl_cons, ih, leaveInit_cycle]

theorem nextCycle_cycle (d : Dev) : d.nextCycle.cycle = d.cycle + 1 := by
  unfold Dev.nextCycle
  rw [foldl_leaveInit_cycle]

theorem turn_of_le {d : Dev} {x : Dev → Nat} (h : d.place ≤ x d) : d.turn x = { d with place := x d } := by
  unfold Dev.turn
  rw [if_neg (Nat.not_lt.mpr h)]

theorem turn_of_lt {d : Dev} {x : Dev → Nat} (h : x d < d.place) :
    d.turn x = { d.nextCycle with place := x d.nextCycle } := by
  unfold Dev.turn
  rw [if_pos h]

/-- Settles O44: the places are numbers laid out by the pipe that wins, the port and the block, and `Dev.turn` begins the
next cycle where a command's place has passed. -/
theorem orderOfACycle : Obligations.OrderOfACycle := by
  unfold Obligations.OrderOfACycle
  intro d p q a b j k hp hq hj _
  refine ⟨rxPlace_lt_iff d, fun pA qB => ⟨fun even => ?_, fun odd => ?_⟩, fun even => ?_, fun odd => ?_, fun pipe => ?_,
    fun hab => untied_lt_of_block hab hj k, untied_lt_of_sub a, nextCycle_cycle d, ?_⟩
  · obtain ⟨hA, hB⟩ := pipeRank_of_even even
    exact rxPlace_lt_of_pipeRank d hp (pA ▸ hA) (qB ▸ hB)
  · obtain ⟨hA, hB⟩ := pipeRank_of_odd odd
    exact rxPlace_lt_of_pipeRank d hq (qB ▸ hB) (pA ▸ hA)
  · obtain ⟨hA, hB⟩ := pipeRank_of_even even
    exact slotPlace_lt_of_pipeRank d hA hB
  · obtain ⟨hA, hB⟩ := pipeRank_of_odd odd
    exact slotPlace_lt_of_pipeRank d hB hA
  · exact ⟨rxPlace_lt_slotPlace d hp pipe, slotPlace_lt_untied d pipe a j⟩
  · rintro s x f rfl live
    rw [live_act live]
    exact ⟨fun h => by rw [turn_of_le h], fun h => by rw [turn_of_lt h]⟩

end Sys2Proof.Proofs
end

section
/-! PROOF. A frame is decided and a copy leaves (R15, R16, R44, R47, R189, R232): what each operation of the data path does on
the device that its command finds. -/

namespace Sys2Proof.Proofs

open Sys2Proof Sys2Proof.Machine Sys2Proof.Laws

/-! ## The decision slot -/

section Slot

variable {d : Dev} {pipe : Nat} {us : List Upset} (free : d.slotAt.get pipe ≠ d.cycle + 1)
include free

/-- A slot that grants nobody changes nothing but what memory's upsets have left. -/
theorem slotGrant_of_none (h : (d.memUpset us).grant pipe = none) : d.slotGrant pipe us = d.memUpset us := by
  unfold Dev.slotGrant
  simp only [if_neg free, h]

theorem slotGrant_of_some {q id : Nat} (h : (d.memUpset us).grant pipe = some (q, id)) :
    d.slotGrant pipe us =
      (let e := d.memUpset us
       ({ e with hold := e.hold.put q ((e.hold.get q).filter (fun w => w.1 != id)),
                 slotAt := e.slotAt.put pipe (e.cycle + 1) }.refillHold q).decideFrame id) := by
  unfold Dev.slotGrant
  simp only [if_neg free, h]

end Slot

/-! ## The MACs -/

/-- A port that is up, awake and between frames lets its selectors choose. -/
theorem egressSelect_eq_selectPort {d e : Dev} {us : List Upset} (he : d.memUpset us = e) {p : Nat} (hp : p < 256)
    (up : e.linkState p = 1) (opened : e.ingressOpen = true) (express : (e.tx.get (2 * p)).live = false)
    (preemptable : (e.tx.get (2 * p + 1)).live = false) (lpi : e.on F.PORT_STATUS_TX_LPI p = false)
    (awake : e.wake.get p = false) : d.egressSelect p us = e.selectPort p := by
  have front : ¬ 256 ≤ p := Nat.not_le.mpr hp
  unfold Dev.egressSelect
  simp [he, up, front, opened, express, preemptable, lpi, awake]

/-- The preemptable MAC as it stands after it has yielded. -/
theorem yieldPort_of_mayYield {d : Dev} {p : Nat} (active : d.preActive p = true) (live : (d.tx.get (2 * p + 1)).live = true)
    (sends : (d.tx.get (2 * p + 1)).yielded = false) (want : d.on F.TM_PORT_STATUS_HOLD p = true ∨ d.expressWaits p = true)
    (may : d.mayYield p (d.tx.get (2 * p + 1)) = true) :
    d.yieldPort p =
      (let t := d.tx.get (2 * p + 1)
       let e := (if t.preempted then d else d.stat p 19).shapeSync t.queue
       let t' := e.tx.get (2 * p + 1)
       { e with tx := e.tx.put (2 * p + 1)
                        { t' with yielded := true, preempted := true, sent := t'.sent + e.fragBytes p t' } }) := by
  unfold Dev.yieldPort
  have hwant : (d.on F.TM_PORT_STATUS_HOLD p || d.expressWaits p) = true := by rwa [Bool.or_eq_true]
  simp only [active, live, sends, may, hwant, Bool.and_self, Bool.not_false, if_true]

theorem yieldPort_of_not_mayYield {d : Dev} {p : Nat} (may : d.mayYield p (d.tx.get (2 * p + 1)) = false) :
    d.yieldPort p = d := by
  unfold Dev.yieldPort
  simp [may]

section LastByte

variable {d : Dev} {p mac : Nat} (us : List Upset) (live : (d.tx.get (2 * p + mac)).live = true)
  (sends : (d.tx.get (2 * p + mac)).yielded = false)
include live sends

theorem copyEnd_of_burin (burin : (d.tx.get (2 * p + mac)).burin = true) :
    d.copyEnd p mac us = d.burinEnd p (d.tx.get (2 * p + mac)) us := by
  unfold Dev.copyEnd
  simp [live, sends, burin]

theorem copyEnd_of_ended (plain : (d.tx.get (2 * p + mac)).burin = false)
    (ended : (d.frames.get (d.tx.get (2 * p + mac)).copy.frame).ended = true) :
    d.copyEnd p mac us = d.copySent p mac (d.tx.get (2 * p + mac)) us := by
  unfold Dev.copyEnd
  simp [live, sends, plain, ended]

end LastByte

/-! ## Commands: the operation on the device that the command finds -/

section Commands

variable {s : State} (live : s.live)
include live

theorem does_decisionSlotGrant (pipe : Fin 2) (us : List Upset) :
    Does (.decisionSlotGrant pipe us) s ((s.toDev.turn (fun d => d.slotPlace pipe)).slotGrant pipe us) :=
  live_act live _ (·.slotGrant pipe us)

theorem does_egressSelect (p : Fin 261) (us : List Upset) : Does (.egressSelect p us) s ((s.due atSend).egressSelect p us) :=
  live_due live _ (·.egressSelect p us)

theorem does_preemptableYield (p : Fin 256) : Does (.preemptableYield p) s ((s.due atSend).yieldPort p) :=
  live_due live _ (·.yieldPort p)

theorem does_copyTxEnd (p : Fin 261) (mac : Fin 2) (us : List Upset) :
    Does (.copyTxEnd p mac us) s ((s.due atSend).copyEnd p mac us) :=
  live_due live _ (·.copyEnd p mac us)

end Commands

/-- Settles O19: each command finds the device at its place, and there its operation takes the branch that the hypotheses
name. -/
theorem frameTransmission : Obligations.FrameTransmission := by
  unfold Obligations.FrameTransmission
  intro s pipe p mac us live
  refine ⟨fun free => ⟨fun nobody => ?_, fun q id granted => ?_⟩, fun up opened express preemptable lpi awake => ?_,
    fun active busy sends want => ⟨fun may => ?_, fun may => ?_⟩, fun busy sends => ⟨fun burin => ?_, fun plain ended => ?_⟩⟩
  · exact slotGrant_of_none free nobody ▸ does_decisionSlotGrant live pipe us
  · exact slotGrant_of_some free granted ▸ does_decisionSlotGrant live pipe us
  · exact egressSelect_eq_selectPort rfl p.isLt up opened express preemptable lpi awake ▸ does_egressSelect live _ us
  · exact yieldPort_of_mayYield active busy sends want may ▸ does_preemptableYield live p
  · exact yieldPort_of_not_mayYield may ▸ does_preemptableYield live p
  · exact copyEnd_of_burin us busy sends burin ▸ does_copyTxEnd live ⟨p, by omega⟩ mac us
  · exact copyEnd_of_ended us busy sends plain ended ▸ does_copyTxEnd live ⟨p, by omega⟩ mac us

end Sys2Proof.Proofs
end

section
/-! PROOF. A record from its event to the book (R20, R382, R383, R388, R393): it joins the records of its core cycle, which are
put in order as the cycle ends, and each is filtered or takes a SEQ. -/

namespace Sys2Proof.Proofs

open Sys2Proof Sys2Proof.Machine Sys2Proof.Laws

/-! ## Counting an event leaves the book and the time alone -/

@[simp] theorem countQ_toBookSt (d : Dev) (s i n : Nat) (a : Attr) : (d.countQ s i n a).toBookSt = d.toBookSt := by
  unfold Dev.countQ
  split
  · dsimp only
    split
    · rfl
    · split
      · rfl
      · rw [raise_toBookSt]
  · rfl

@[simp] theorem countQ_toTimeSt (d : Dev) (s i n : Nat) (a : Attr) : (d.countQ s i n a).toTimeSt = d.toTimeSt := by
  unfold Dev.countQ
  split
  · dsimp only
    split
    · rfl
    · split
      · rfl
      · rw [raise_toTimeSt]
  · rfl

theorem countQ_get (d : Dev) (s i n : Nat) (a : Attr) (f : Fld) (j : Nat) (h : regAddr f.reg j ≠ regAddr .PERF_EVENT 0) :
    (d.countQ s i n a).get f j = d.get f j := by
  unfold Dev.get
  rw [countQ_reg _ _ _ _ _ _ _ h]

theorem countQ_on (d : Dev) (s i n : Nat) (a : Attr) (f : Fld) (j : Nat) (h : regAddr f.reg j ≠ regAddr .PERF_EVENT 0) :
    (d.countQ s i n a).on f j = d.on f j := by
  unfold Dev.on
  rw [countQ_get _ _ _ _ _ _ _ h]

/-- PT is made of the bases, OFF and the choice of the active base. -/
theorem pt_congr {d e : Dev} (ht : e.toTimeSt = d.toTimeSt) (hb : e.get F.TIME_STATUS_PT_TB = d.get F.TIME_STATUS_PT_TB) :
    e.pt = d.pt := by
  unfold Dev.pt Dev.ptFull Dev.tb
  rw [hb, ht]

theorem countQ_pt (d : Dev) (s i n : Nat) (a : Attr) : (d.countQ s i n a).pt = d.pt :=
  pt_congr (countQ_toTimeSt d s i n a) (countQ_get d s i n a _ _ (by decide))

/-! ## An event's record joins those of its cycle -/

theorem recArgs_toBookSt (d : Dev) (e : Evt) : (recArgs d e).1.toBookSt = d.toBookSt := by
  unfold recArgs
  split <;> rfl

theorem recArgs_pt (d : Dev) (e : Evt) : (recArgs d e).1.pt = d.pt := by
  unfold recArgs
  split <;> rfl

theorem recArgs_code (d : Dev) (e : Evt) : (recArgs d e).2.code = e.code := by
  unfold recArgs
  split <;> rfl

theorem recArgs_sev (d : Dev) (e : Evt) : (recArgs d e).2.sev = e.sev := by
  unfold recArgs
  split <;> rfl

/-- The device with a FATAL event noted for the heartbeat (R416). -/
def noteFatal (d : Dev) (e : Evt) : Dev := if e.sev = 7 then { d with fatalSeen := true } else d

theorem noteFatal_toBookSt (d : Dev) (e : Evt) : (noteFatal d e).toBookSt = d.toBookSt := by
  unfold noteFatal
  split <;> rfl

theorem noteFatal_pt (d : Dev) (e : Evt) : (noteFatal d e).pt = d.pt := by
  unfold noteFatal
  split <;> rfl

/-- The device and the event that the record of `e` is made of. -/
def sampled (d : Dev) (e : Evt) : Dev × Evt := recArgs ((noteFatal d e).countQ 0x50 0) e

theorem record_eq (d : Dev) (e : Evt) :
    d.record e = { (sampled d e).1 with evq := (sampled d e).1.evq ++ [mkRec (sampled d e).1 (sampled d e).2] } := rfl

theorem sampled_toBookSt (d : Dev) (e : Evt) : (sampled d e).1.toBookSt = d.toBookSt := by
  unfold sampled
  rw [recArgs_toBookSt, countQ_toBookSt, noteFatal_toBookSt]

theorem sampled_pt (d : Dev) (e : Evt) : (sampled d e).1.pt = d.pt := by
  unfold sampled
  rw [recArgs_pt, countQ_pt, noteFatal_pt]

/-- Of the book an event changes the records of its cycle alone. -/
theorem record_toBookSt (d : Dev) (e : Evt) :
    (d.record e).toBookSt = { d.toBookSt with evq := d.evq ++ [mkRec (sampled d e).1 (sampled d e).2] } := by
  rw [record_eq, ← sampled_toBookSt d e]

/-! ## The records of a cycle in order -/

theorem insRec_perm (r : Rec) (l : List Rec) : (insRec r l).Perm (r :: l) := by
  induction l with
  | nil => exact .refl _
  | cons x l ih =>
    unfold insRec
    split
    · exact (ih.cons x).trans (.swap r x l)
    · exact .refl _

theorem pairwise_insRec (r : Rec) {l : List Rec} (h : l.Pairwise (fun a b => a.code ≤ b.code)) :
    (insRec r l).Pairwise (fun a b => a.code ≤ b.code) := by
  induction l with
  | nil => exact List.pairwise_singleton _ _
  | cons x l ih =>
    obtain ⟨hx, hl⟩ := List.pairwise_cons.mp h
    unfold insRec
    split
    case isTrue hle =>
      refine List.pairwise_cons.mpr ⟨fun y hy => ?_, ih hl⟩
      rcases List.mem_cons.mp ((insRec_perm r l).mem_iff.mp hy) with rfl | hy
      · exact hle
      · exact hx y hy
    case isFalse hgt =>
      have hr : r.code ≤ x.code := Nat.le_of_not_le hgt
      refine List.pairwise_cons.mpr ⟨fun y hy => ?_, h⟩
      rcases List.mem_cons.mp hy with rfl | hy
      · exact hr
      · exact Nat.le_trans hr (hx y hy)

theorem foldl_insRec_perm (q l : List Rec) : (q.foldl (fun l r => insRec r l) l).Perm (q ++ l) := by
  induction q generalizing l with
  | nil => exact .refl _
  | cons r q ih => exact (ih _).trans (((insRec_perm r l).append_left q).trans List.perm_middle)

theorem pairwise_foldl_insRec (q : List Rec) {l : List Rec} (h : l.Pairwise (fun a b => a.code ≤ b.code)) :
    (q.foldl (fun l r => insRec r l) l).Pairwise (fun a b => a.code ≤ b.code) := by
  induction q generalizing l with
  | nil => exact h
  | cons r q ih => exact ih (pairwise_insRec r h)

/-- The records of a cycle before they take the first one's time. -/
def sortedRecs (q : List Rec) : List Rec := q.foldl (fun l r => insRec r l) []

theorem sortedRecs_perm (q : List Rec) : (sortedRecs q).Perm q := by
  have := foldl_insRec_perm q []
  rwa [List.append_nil] at this

theorem pairwise_cycleRecs (q : List Rec) : (cycleRecs q).Pairwise (fun a b => a.code ≤ b.code) :=
  List.pairwise_map.mpr (pairwise_foldl_insRec q .nil)

theorem length_cycleRecs (q : List Rec) : (cycleRecs q).length = q.length :=
  (List.length_map _).trans (sortedRecs_perm q).length_eq

/-- A record as it is written is one of the cycle's, with the first one's time. -/
theorem of_mem_cycleRecs {q : List Rec} {r : Rec} (h : r ∈ cycleRecs q) :
    q.head?.map (fun x => x.pt) = some r.pt ∧ ∃ x ∈ q, r = { x with pt := r.pt } := by
  obtain ⟨x, hx, rfl⟩ := List.mem_map.mp h
  have hq : x ∈ q := (sortedRecs_perm q).mem_iff.mp hx
  refine ⟨?_, x, hq, rfl⟩
  cases q with
  | nil => cases hq
  | cons y q => rfl

/-! ## Triggers -/

/-- Which triggers a record matches lies in the registers of the triggers. -/
theorem trigHits_congr {d e : Dev} (hctrl : ∀ k, e.reg .TRIG_CTRL k = d.reg .TRIG_CTRL k)
    (hmatch : ∀ k, e.reg .TRIG_MATCH k = d.reg .TRIG_MATCH k) (code sev : Nat) : trigHits e code sev = trigHits d code sev := by
  have getCtrl : ∀ f : Fld, f.reg = .TRIG_CTRL → ∀ k, e.get f k = d.get f k := fun f hf k => by
    unfold Dev.get
    rw [hf, hctrl]
  have getMatch : ∀ f : Fld, f.reg = .TRIG_MATCH → ∀ k, e.get f k = d.get f k := fun f hf k => by
    unfold Dev.get
    rw [hf, hmatch]
  unfold trigHits Dev.on
  simp only [getCtrl F.TRIG_CTRL_EN rfl, getCtrl F.TRIG_CTRL_MIN_SEV rfl, getMatch F.TRIG_MATCH_CODE rfl,
    getMatch F.TRIG_MATCH_MASK rfl]

theorem regAddr_TRIG_CTRL (k : Nat) : regAddr .TRIG_CTRL k = 0x500104 + k * 0x10 := by
  simp [regAddr, regInfo, Nat.mod_one]

theorem regAddr_TRIG_MATCH (k : Nat) : regAddr .TRIG_MATCH k = 0x500100 + k * 0x10 := by
  simp [regAddr, regInfo, Nat.mod_one]

theorem trigHits_countQ (d : Dev) (s i n : Nat) (a : Attr) (code sev : Nat) :
    trigHits (d.countQ s i n a) code sev = trigHits d code sev := by
  have hp : regAddr .PERF_EVENT 0 = 0x540018 := rfl
  exact trigHits_congr (fun k => countQ_reg _ _ _ _ _ _ _ (by rw [regAddr_TRIG_CTRL, hp]; omega))
    (fun k => countQ_reg _ _ _ _ _ _ _ (by rw [regAddr_TRIG_MATCH, hp]; omega)) code sev

theorem trigHits_satCount_FILTERED (d : Dev) (n code sev : Nat) :
    trigHits (d.satCount .FILTERED 0 n) code sev = trigHits d code sev := by
  have hp : regAddr .FILTERED 0 = 0x500090 := rfl
  exact trigHits_congr (fun k => reg_setReg_ne _ _ _ _ _ _ (by rw [regAddr_TRIG_CTRL, hp]; omega))
    (fun k => reg_setReg_ne _ _ _ _ _ _ (by rw [regAddr_TRIG_MATCH, hp]; omega)) code sev

/-- Nothing but notifications follows a record that matches no trigger. -/
theorem exists_afterRec_of_no_trigger {r : Rec} {x : Dev × Bool} (h : trigHits x.1 r.code r.sev = []) :
    ∃ notes, afterRec r x = { x.1 with notes := notes } := by
  unfold afterRec
  rw [h]
  exact ⟨_, rfl⟩

/-! ## Filtered, or numbered and stored -/

theorem reg_satCount (d : Dev) (r : RegName) (i n : Nat) : (d.satCount r i n).reg r i = satAdd (d.reg r i) n := by
  have hlt : satAdd (d.reg r i) n < 2 ^ 32 := Nat.lt_of_le_of_lt (Nat.min_le_right _ _) (by decide)
  unfold Dev.satCount
  rw [reg_setReg, Nat.mod_eq_of_lt hlt]

theorem bookAs_of_filtered {d : Dev} {r : Rec} (f : Dev → Rec → Dev × Bool)
    (low : r.sev < d.get F.BOOK_CFG_RECORD_MIN_SEV) :
    bookAs d r f = afterRec { r with seq := (d.draw 8).1 % 2 ^ 32 } ((d.draw 8).2.satCount .FILTERED 0, false) := by
  have hnum : r.numbered d = ({ r with seq := (d.draw 8).1 % 2 ^ 32 }, (d.draw 8).2) := if_pos low
  have hseq : withSeq (d.draw 8).2 r f = ((d.draw 8).2.satCount .FILTERED 0, false) := if_pos low
  simp only [bookAs, hnum, hseq]

/-- The device with the next SEQ taken (R383). -/
def takeSeq (d : Dev) : Dev := { d with nextSeq := (d.nextSeq + 1) % 2 ^ 32 }

theorem bookAs_of_kept {d : Dev} {r : Rec} (f : Dev → Rec → Dev × Bool)
    (high : d.get F.BOOK_CFG_RECORD_MIN_SEV ≤ r.sev) :
    bookAs d r f = afterRec { r with seq := d.nextSeq } (f (takeSeq d) { r with seq := d.nextSeq }) := by
  have kept : ¬ r.sev < d.get F.BOOK_CFG_RECORD_MIN_SEV := Nat.not_lt.mpr high
  have hnum : r.numbered d = ({ r with seq := d.nextSeq }, d) := if_neg kept
  have hseq : withSeq d r f = f (takeSeq d) { r with seq := d.nextSeq } := if_neg kept
  simp only [bookAs, hnum, hseq]

/-- With the curtain up or down, a record below RECORD_MIN_SEV takes no SEQ. -/
theorem bookOne_of_filtered {d : Dev} {r : Rec} (hits : trigHits d r.code r.sev = [])
    (low : r.sev < d.get F.BOOK_CFG_RECORD_MIN_SEV) :
    (bookOne d r).nextSeq = d.nextSeq ∧ (bookOne d r).book = d.book ∧
      (bookOne d r).reg .FILTERED = satAdd (d.reg .FILTERED) 1 := by
  have h : ∃ f, bookOne d r = bookAs d r f := by
    unfold bookOne
    split
    · exact ⟨_, rfl⟩
    · rw [if_neg (fun h => absurd h.2 (Nat.not_le.mpr low))]
      exact ⟨_, rfl⟩
  obtain ⟨f, hf⟩ := h
  obtain ⟨notes, hn⟩ := exists_afterRec_of_no_trigger (r := { r with seq := (d.draw 8).1 % 2 ^ 32 })
    (x := ((d.draw 8).2.satCount .FILTERED 0, false)) ((trigHits_satCount_FILTERED _ _ _ _).trans hits)
  rw [hf, bookAs_of_filtered f low, hn]
  exact ⟨rfl, rfl, reg_satCount _ _ _ _⟩

/-- A small book has a free slot while it holds fewer than 16,384 records. -/
theorem freeSlot_of_small {d : Dev} (small : d.on F.BOOK_STATUS_MODE_ACTIVE = false) :
    d.freeSlot = decide (d.book.length < d.bookCap) := by
  unfold Dev.freeSlot
  rw [small, Bool.not_false, Bool.true_or, Bool.and_true]

theorem bookCap_of_small {d : Dev} (small : d.on F.BOOK_STATUS_MODE_ACTIVE = false) : d.bookCap = 16384 := by
  unfold Dev.bookCap
  rw [small, if_neg Bool.false_ne_true]

theorem length_insertRec (b : List Rec) (r : Rec) : (insertRec b r).length = b.length + 1 := by
  have split := List.length_eq_countP_add_countP (fun x => seqAfter x.seq r.seq) (l := b)
  simp only [List.countP_eq_length_filter, Bool.not_eq_true, Bool.decide_eq_false] at split
  simp only [insertRec, List.length_append, List.length_singleton]
  omega

/-- The device with a record put into a free slot of the small book. -/
def stored (d : Dev) (r : Rec) : Dev := { d with book := insertRec d.book r }.countQ 0x50 1

theorem stored_toBookSt (d : Dev) (r : Rec) :
    (stored d r).toBookSt = { d.toBookSt with book := insertRec d.book r } := countQ_toBookSt _ _ _ _ _

theorem stored_on_MODE_ACTIVE (d : Dev) (r : Rec) :
    (stored d r).on F.BOOK_STATUS_MODE_ACTIVE = d.on F.BOOK_STATUS_MODE_ACTIVE := countQ_on _ _ _ _ _ _ _ (by decide)

theorem storeRec_of_small {d : Dev} (r : Rec) (small : d.on F.BOOK_STATUS_MODE_ACTIVE = false)
    (room : d.book.length < d.bookCap) : storeRec d r = (stored d r, true) := by
  have free : d.freeSlot = true := (freeSlot_of_small small).trans (decide_eq_true room)
  unfold storeRec
  simp only [free, small, if_true, Bool.false_eq_true, if_false]
  rfl

/-- Where one more slot stays free, a small book takes the record and nothing else is done. -/
theorem writeRec_of_small {d : Dev} (r : Rec) (small : d.on F.BOOK_STATUS_MODE_ACTIVE = false)
    (room : d.book.length + 1 < d.bookCap) : writeRec d r = (stored d r, true) := by
  have hstore := storeRec_of_small r small (Nat.lt_of_succ_lt room)
  have small' : (stored d r).on F.BOOK_STATUS_MODE_ACTIVE = false := (stored_on_MODE_ACTIVE d r).trans small
  have still : (stored d r).freeSlot = true := by
    rw [freeSlot_of_small small', bookCap_of_small small', stored_toBookSt, length_insertRec, ← bookCap_of_small small]
    exact decide_eq_true room
  unfold writeRec
  simp only [hstore, still, Bool.not_true, Bool.and_false, Bool.false_eq_true, if_false]

/-- A record of RECORD_MIN_SEV and above takes the next SEQ and its place in the book. -/
theorem bookOne_of_kept {d : Dev} {r : Rec} (hits : trigHits d r.code r.sev = [])
    (high : d.get F.BOOK_CFG_RECORD_MIN_SEV ≤ r.sev) (down : d.curtain = none)
    (small : d.on F.BOOK_STATUS_MODE_ACTIVE = false) (room : d.book.length + 1 < d.bookCap) :
    (bookOne d r).nextSeq = (d.nextSeq + 1) % 2 ^ 32 ∧ (bookOne d r).book = insertRec d.book { r with seq := d.nextSeq } := by
  have hone : bookOne d r = bookAs d r writeRec := if_pos (by rw [down]; rfl)
  obtain ⟨notes, hn⟩ := exists_afterRec_of_no_trigger (r := { r with seq := d.nextSeq })
    (x := (stored (takeSeq d) { r with seq := d.nextSeq }, true)) ((trigHits_countQ _ _ _ _ _ _ _).trans hits)
  rw [hone, bookAs_of_kept writeRec high, writeRec_of_small (d := takeSeq d) _ small room, hn]
  dsimp only
  rw [stored_toBookSt]
  exact ⟨rfl, rfl⟩

/-- Settles O57: an event appends its record to those of its cycle, insertion by code keeps them in order, and
RECORD_MIN_SEV divides what is counted from what takes a SEQ. -/
theorem recordTakesSeq : Obligations.RecordTakesSeq := by
  unfold Obligations.RecordTakesSeq
  intro d
  refine ⟨fun e => ?_, fun q => ?_, fun r hits => ⟨fun low => ?_, fun high down small room _ => ?_⟩⟩
  · rw [record_toBookSt]
    exact ⟨rfl, rfl, _, rfl, sampled_pt d e, recArgs_code _ e, recArgs_sev _ e, rfl⟩
  · exact ⟨pairwise_cycleRecs q, length_cycleRecs q, fun r => of_mem_cycleRecs⟩
  · exact bookOne_of_filtered hits low
  · exact bookOne_of_kept hits high down small room

end Sys2Proof.Proofs
end

section
/-! PROOF. A port's link, its auto-negotiation words, preemption verification and EEE (R29, R43, R48, R51, R52): what each
operation does in the branches that its command can meet. -/

namespace Sys2Proof.Proofs

open Sys2Proof Sys2Proof.Machine Sys2Proof.Laws

/-- A command is carried out with what its operation's result equals. -/
theorem does_of_eq {c : Instr} {s : State} {d e : Dev} (h : d = e) (hd : Does c s d) : Does c s e := h ▸ hd

/-! ## The PCS and the link (R51, R52) -/

section Pcs

variable {d : Dev} {p : Nat}

theorem pcsUpOp_of_down (present : d.present p = true) (lanes : d.lanesOn p = true) (down : d.pcsUp.get p = false) :
    d.pcsUpOp p = d.pcsSet p true := by
  unfold Dev.pcsUpOp
  simp [present, lanes, down]

/-- A port that is UP waits in HOLD while LINK_HOLD gives it time. -/
theorem pcsLost_of_up_held (up : (d.pcsSet p false).linkState p = 1)
    (hold : (d.pcsSet p false).get F.PORT_LINK_LINK_HOLD p ≠ 0) : d.pcsLost p = (d.pcsSet p false).leaveUp p 2 := by
  unfold Dev.pcsLost
  simp only [if_pos up, if_neg hold]

theorem pcsLost_of_up_unheld (up : (d.pcsSet p false).linkState p = 1)
    (hold : (d.pcsSet p false).get F.PORT_LINK_LINK_HOLD p = 0) :
    d.pcsLost p = ((d.pcsSet p false).leaveUp p 0).enterDown p := by
  unfold Dev.pcsLost
  simp only [if_pos up, if_pos hold]

/-- In HOLD past its end, only the window that has now stopped kept the port from DOWN. -/
theorem pcsLost_of_hold_over (held : (d.pcsSet p false).linkState p = 2) (past : (d.pcsSet p false).holdOver.get p = true) :
    d.pcsLost p =
      ((((d.pcsSet p false).enterDown p).raise F.PORT_EVENT_HOLD_EXPIRED p).portRec 0x0203 3 p) := by
  unfold Dev.pcsLost
  simp [held, past]

theorem pcsLost_of_down (down : (d.pcsSet p false).linkState p = 0) : d.pcsLost p = d.pcsSet p false := by
  unfold Dev.pcsLost
  simp [down]

/-- A port that shares its lane with no other goes down alone. -/
theorem pcsDown_of_alone (qsgmii : d.portMode p ≠ 5) (qxgmii : d.portMode p ≠ 7) : d.pcsDown p = d.pcsLost p :=
  if_neg (not_or.mpr ⟨qsgmii, qxgmii⟩)

theorem pcsDown_of_shared (shared : d.portMode p = 5 ∨ d.portMode p = 7) :
    d.pcsDown p = ((List.range 4).map (p / 4 * 4 + ·)).foldl (fun d k => if d.pcsUp.get k then d.pcsLost k else d)
      (d.pcsLost p) := if_pos shared

theorem linkUp_of_window (state : d.linkState p = 0 ∨ d.linkState p = 2) (window : d.window.get p = true)
    (past : d.past (d.windowAt.get p) (d.get F.PORT_LINK_LINK_UP_TIME p * usCycles) = true) (up : d.pcsUp.get p = true)
    (enabled : d.on F.PORT_CFG_PORT_EN p = true) (speed : d.portSpeed p ≠ 0) : d.linkUp p = d.enterUp p := by
  have hstate : (d.linkState p == 0 || d.linkState p == 2) = true := by simpa using state
  unfold Dev.linkUp
  simp [hstate, window, past, up, enabled, speed]

/-- The hold ends while a window runs: the window decides. -/
theorem holdExpire_of_window (held : d.linkState p = 2)
    (past : d.past (d.holdAt.get p) (d.get F.PORT_LINK_LINK_HOLD p * usCycles) = true) (window : d.window.get p = true) :
    d.holdExpire p = { d with holdOver := d.holdOver.put p true } := by
  unfold Dev.holdExpire
  simp [held, past, window]

theorem holdExpire_of_no_window (held : d.linkState p = 2)
    (past : d.past (d.holdAt.get p) (d.get F.PORT_LINK_LINK_HOLD p * usCycles) = true) (window : d.window.get p = false) :
    d.holdExpire p = ((d.enterDown p).raise F.PORT_EVENT_HOLD_EXPIRED p).portRec 0x0203 3 p := by
  unfold Dev.holdExpire
  simp [held, past, window]

theorem holdExpire_of_not_held (free : d.linkState p ≠ 2) : d.holdExpire p = d := by
  unfold Dev.holdExpire
  simp [free]

end Pcs

/-! ## Auto-negotiation words (R29, R51) -/

section AnWord

variable {d : Dev} {p speed : Nat} {link : Bool} (present : d.present p = true)
  (enabled : d.on F.LANE_CFG_AN_EN (p / 4) = true)
include present enabled

/-- On QSGMII and 10G-QXGMII the sub-port's link bit moves its PCS. -/
theorem anWord_of_shared (shared : d.portMode p = 5 ∨ d.portMode p = 7) (carried : speed ∈ modeSpeeds (d.portMode p)) :
    d.anWord p speed link =
      (let e := (d.set F.LANE_STATUS_AN_DONE (p / 4) 1).speedTaken p speed
       if link then e.pcsUpOp p else e.pcsLost p) := by
  have an : modeAn (d.portMode p) = true := by rcases shared with h | h <;> simp [h, modeAn]
  unfold Dev.anWord
  simp only [present, an, enabled, Bool.and_self, if_true, if_pos carried, if_pos shared]

theorem anWord_of_alone (alone : d.portMode p = 2 ∨ d.portMode p = 3) (carried : speed ∈ modeSpeeds (d.portMode p)) :
    d.anWord p speed link = (d.set F.LANE_STATUS_AN_DONE (p / 4) 1).speedTaken p speed := by
  have an : modeAn (d.portMode p) = true := by rcases alone with h | h <;> simp [h, modeAn]
  have unshared : ¬ (d.portMode p = 5 ∨ d.portMode p = 7) := by omega
  unfold Dev.anWord
  simp only [present, an, enabled, Bool.and_self, if_true, if_pos carried, if_neg unshared]

theorem anWord_of_refused (an : modeAn (d.portMode p) = true) (refused : speed ∉ modeSpeeds (d.portMode p)) :
    d.anWord p speed link = (d.set F.LANE_STATUS_AN_DONE (p / 4) 1).speedRefused p speed := by
  unfold Dev.anWord
  simp only [present, an, enabled, Bool.and_self, if_true, if_neg refused]

end AnWord

/-! ## Preemption verification (R43) -/

section Verify

variable {d : Dev} {p : Nat}

theorem verifyTimeout_of_sent_few (verifying : d.get F.PORT_STATUS_PRE_STATE p = 2)
    (past : d.past (d.verAt.get p) (d.verCfg.get p / 16 * msCycles) = true) (few : d.verSent.get p < 3) :
    d.verifyTimeout p = d.verifySend p (d.verSent.get p + 1) := by
  unfold Dev.verifyTimeout
  simp [verifying, past, few]

/-- The verify mPacket that leaves with INIT is the first of three (R43), so the third timeout finds all of them sent. -/
theorem verifyTimeout_of_sent_all (verifying : d.get F.PORT_STATUS_PRE_STATE p = 2)
    (past : d.past (d.verAt.get p) (d.verCfg.get p / 16 * msCycles) = true) (all : 3 ≤ d.verSent.get p) :
    d.verifyTimeout p = ((d.preSet p 4).raise F.PORT_EVENT_PRE_VERIFY_FAILED p).portRec 0x0204 4 p := by
  unfold Dev.verifyTimeout
  simp [verifying, past, Nat.not_lt.mpr all]

theorem verifyRx_of_enabled (enabled : d.get F.PORT_STATUS_PRE_STATE p ≠ 0) : d.verifyRx p = d.emit (.mac p 1) :=
  if_neg enabled

theorem verifyRx_of_disabled (disabled : d.get F.PORT_STATUS_PRE_STATE p = 0) : d.verifyRx p = d := if_pos disabled

theorem respondRx_of_verifying (verifying : d.get F.PORT_STATUS_PRE_STATE p = 2) :
    d.respondRx p = (d.preSet p 3).checkBounds p := if_pos verifying

end Verify

/-! ## EEE (R48 to R50) -/

section Eee

variable {d : Dev} {p : Nat}

theorem eeeIdle_of_agreed (up : d.linkState p = 1) (carries : modeLpi (d.portMode p) = true)
    (enabled : d.on F.PORT_EEE_EEE_EN p = true)
    (past : d.past (d.busyAt.get p) (d.get F.PORT_EEE_EEE_IDLE p * usCycles) = true)
    (free : d.on F.PORT_STATUS_EEE_INHIBIT p = false) (agreed : d.eeeRes.get p = true ∨ d.eeeOver.get p = true)
    (idle : d.portIdle p = true) (awake : d.on F.PORT_STATUS_TX_LPI p = false) :
    d.eeeIdle p = (d.set F.PORT_STATUS_TX_LPI p 1).stat p 23 := by
  have hagreed : (d.eeeRes.get p || d.eeeOver.get p) = true := by rwa [Bool.or_eq_true]
  unfold Dev.eeeIdle
  simp [up, carries, enabled, past, free, hagreed, idle, awake]

theorem twTx_of_past (past : d.past (d.wakeAt.get p) (d.get F.PORT_EEE_TW_TX p * usCycles) = true) :
    d.twTx p = { d with wake := d.wake.put p false } := if_pos past

theorem partnerLpi_of_up (on : Bool) (up : d.linkState p = 1) (carries : modeLpi (d.portMode p) = true) :
    d.partnerLpi p on = d.set F.PORT_STATUS_RX_LPI p (b2n on) := by
  unfold Dev.partnerLpi
  simp [up, carries]

end Eee

/-! ## Commands: the operation on the device that the command finds -/

section Commands

variable {s : State} (live : s.live) (p : Fin 256)
include live

theorem does_pcsUp : Does (.pcsUp p) s ((s.due (untied 2 0)).pcsUpOp p) :=
  live_later live 2 0 (·.pcsUpOp p)

theorem does_pcsDown : Does (.pcsDown p) s ((s.due (untied 2 0)).pcsDown p) :=
  live_later live 2 0 (·.pcsDown p)

theorem does_linkUpTimeExpire : Does (.linkUpTimeExpire p) s ((s.due (untied 2 0)).linkUp p) :=
  live_later live 2 0 (·.linkUp p)

theorem does_linkHoldExpire : Does (.linkHoldExpire p) s ((s.due (untied 2 0)).holdExpire p) :=
  live_later live 2 0 (·.holdExpire p)

theorem does_verifyTimeout : Does (.verifyTimeout p) s ((s.due (untied 2 0)).verifyTimeout p) :=
  live_later live 2 0 (·.verifyTimeout p)

theorem does_verifyMpacketRx : Does (.verifyMpacketRx p) s ((s.due (untied 2 0)).verifyRx p) :=
  live_later live 2 0 (·.verifyRx p)

theorem does_respondMpacketRx : Does (.respondMpacketRx p) s ((s.due (untied 2 0)).respondRx p) :=
  live_later live 2 0 (·.respondRx p)

theorem does_anWordRx (speed : Fin 16) (link : Bool) :
    Does (.anWordRx p speed link) s ((s.due (untied 2 0)).anWord p speed link) :=
  live_later live 2 0 (·.anWord p speed link)

theorem does_eeeIdleExpire : Does (.eeeIdleExpire p false) s ((s.due (untied 2 0)).eeeIdle p) :=
  live_later live 2 0 (·.eeeIdle p)

theorem does_eeeIdleExpire_partner : Does (.eeeIdleExpire p true) s ((s.due (untied 2 0)).partnerLpi p true) :=
  live_later live 2 0 (·.partnerLpi p true)

theorem does_twTxExpire : Does (.twTxExpire p false) s ((s.due (untied 2 0)).twTx p) :=
  live_later live 2 0 (·.twTx p)

theorem does_twTxExpire_partner : Does (.twTxExpire p true) s ((s.due (untied 2 0)).partnerLpi p false) :=
  live_later live 2 0 (·.partnerLpi p false)

end Commands

/-- Settles O1: every command finds the device at its place among the timers of block 2, and its operation takes the branch that
the hypotheses name. -/
theorem linkEvents : Obligations.LinkEvents := by
  unfold Obligations.LinkEvents
  refine ⟨⟨fun s p live => ⟨fun present lanes down => ?_, fun qsgmii qxgmii =>
        ⟨fun up hold => ?_, fun up hold => ?_, fun held past => ?_, fun down => ?_⟩,
      fun shared => ?_, fun state window past up enabled speed => ?_,
      fun held past => ⟨fun window => ?_, fun window => ?_⟩, fun free => ?_⟩,
    fun s p speed live present enabled =>
      ⟨fun shared carried => ⟨?_, ?_⟩, fun link alone carried => ?_, fun link an refused => ?_⟩⟩,
    fun s p live => ⟨fun verifying past => ⟨fun few => ?_, fun all => ?_⟩, fun enabled => ?_, fun disabled => ?_,
      fun verifying => ?_, fun up carries enabled past free agreed idle awake => ?_, fun past => ?_,
      fun up carries => ⟨?_, ?_⟩⟩⟩
  · exact pcsUpOp_of_down present lanes down ▸ does_pcsUp live p
  · exact does_of_eq ((pcsDown_of_alone qsgmii qxgmii).trans (pcsLost_of_up_held up hold)) (does_pcsDown live p)
  · exact does_of_eq ((pcsDown_of_alone qsgmii qxgmii).trans (pcsLost_of_up_unheld up hold)) (does_pcsDown live p)
  · exact does_of_eq ((pcsDown_of_alone qsgmii qxgmii).trans (pcsLost_of_hold_over held past)) (does_pcsDown live p)
  · exact does_of_eq ((pcsDown_of_alone qsgmii qxgmii).trans (pcsLost_of_down down)) (does_pcsDown live p)
  · exact pcsDown_of_shared shared ▸ does_pcsDown live p
  · exact linkUp_of_window state window past up enabled speed ▸ does_linkUpTimeExpire live p
  · exact holdExpire_of_window held past window ▸ does_linkHoldExpire live p
  · exact holdExpire_of_no_window held past window ▸ does_linkHoldExpire live p
  · exact holdExpire_of_not_held free ▸ does_linkHoldExpire live p
  · exact does_of_eq (anWord_of_shared present enabled shared carried) (does_anWordRx live p speed true)
  · exact does_of_eq (anWord_of_shared present enabled shared carried) (does_anWordRx live p speed false)
  · exact anWord_of_alone present enabled alone carried ▸ does_anWordRx live p speed link
  · exact anWord_of_refused present enabled an refused ▸ does_anWordRx live p speed link
  · exact verifyTimeout_of_sent_few verifying past few ▸ does_verifyTimeout live p
  · exact verifyTimeout_of_sent_all verifying past all ▸ does_verifyTimeout live p
  · exact verifyRx_of_enabled enabled ▸ does_verifyMpacketRx live p
  · exact verifyRx_of_disabled disabled ▸ does_verifyMpacketRx live p
  · exact respondRx_of_verifying verifying ▸ does_respondMpacketRx live p
  · exact eeeIdle_of_agreed up carries enabled past free agreed idle awake ▸ does_eeeIdleExpire live p
  · exact twTx_of_past past ▸ does_twTxExpire live p
  · exact partnerLpi_of_up true up carries ▸ does_eeeIdleExpire_partner live p
  · exact partnerLpi_of_up false up carries ▸ does_twTxExpire_partner live p

end Sys2Proof.Proofs
end

section
/-! PROOF. A quad's mode, lanes, ports, PLLs and FEC (R26, R28, R32, R37, R58, R60): what each operation does in the branches
that its command can meet. -/

namespace Sys2Proof.Proofs

open Sys2Proof Sys2Proof.Machine Sys2Proof.Laws

/-! ## Modes (R26, R28, R32) -/

/-- A four-lane mode needs no check of rates (R26). -/
theorem quadMode_of_four_lanes {d : Dev} {q v : Nat} (four : v = 1 ∨ v = 2) (new : v ≠ d.get F.QUAD_MODE_QMODE q) :
    d.quadMode q v = (d.quadModeTake q v, true) := by
  unfold Dev.quadMode
  rw [if_neg (by omega), if_neg (by omega)]

theorem laneCfg_of_third_rate {d : Dev} {l w : Nat}
    (third : d.thirdRate l (pickField (d.reg .LANE_CFG l) w F.LANE_CFG_LMODE) (w % 2 == 1) = true) :
    d.laneCfg l w = (d.modeConflict (l / 4) (.lane l), 1) := if_pos third

theorem laneCfg_of_two_rates {d : Dev} {l w : Nat}
    (two : d.thirdRate l (pickField (d.reg .LANE_CFG l) w F.LANE_CFG_LMODE) (w % 2 == 1) = false) :
    d.laneCfg l w = d.laneTake l w (pickField (d.reg .LANE_CFG l) w F.LANE_CFG_LMODE) :=
  if_neg (Bool.eq_false_iff.mp two)

/-! ## PORT_CFG (R37, R52) -/

section PortCfg

variable {d : Dev} {p w : Nat}

/-- Clearing PORT_EN takes the port to DOWN. -/
theorem portCfg_of_cleared (was : d.on F.PORT_CFG_PORT_EN p = true)
    (now : (d.store .PORT_CFG p w).on F.PORT_CFG_PORT_EN p = false) :
    d.portCfg p w = ((d.store .PORT_CFG p w).forceDown p).checkAllBounds := by
  unfold Dev.portCfg
  simp [was, now]

theorem portCfg_of_unmoved (same : d.on F.PORT_CFG_PORT_EN p = (d.store .PORT_CFG p w).on F.PORT_CFG_PORT_EN p) :
    d.portCfg p w = (d.store .PORT_CFG p w).checkAllBounds := by
  unfold Dev.portCfg
  simp [same]

/-- Setting PORT_EN with the PCS down begins no window. -/
theorem portCfg_of_set (was : d.on F.PORT_CFG_PORT_EN p = false) (down : (d.store .PORT_CFG p w).pcsUp.get p = false) :
    d.portCfg p w = (d.store .PORT_CFG p w).checkAllBounds := by
  unfold Dev.portCfg
  simp [was, down]

end PortCfg

/-! ## PLLs (R60, R465) -/

theorem quadPll_lock (d : Dev) (q pll : Nat) : d.quadPll q pll true = d.set (pllLock pll) q 1 := by
  unfold Dev.quadPll
  simp [b2n]

/-- A PLL that had no lock, or that serves no lane, loses its lock bit and nothing is recorded. -/
theorem quadPll_unlock_of_unheard {d : Dev} {q pll : Nat}
    (unheard : d.on (pllLock pll) q = false ∨ (d.set (pllLock pll) q 0).pllServes q pll = false) :
    d.quadPll q pll false = d.set (pllLock pll) q 0 := by
  unfold Dev.quadPll
  rcases unheard with was | serves
  · simp [b2n, was]
  · simp [b2n, serves]

theorem quadPll_unlock_of_serving {d : Dev} {q pll : Nat} (was : d.on (pllLock pll) q = true)
    (serves : (d.set (pllLock pll) q 0).pllServes q pll = true) :
    d.quadPll q pll false = ((d.set (pllLock pll) q 0).raise (pllFlag pll) q).record
      { code := 0x020B, sev := 5, a0 := q, a1 := pll, obj := .quad q } := by
  unfold Dev.quadPll
  simp [b2n, was, serves]

/-! ## FEC (R58) -/

section Fec

variable {d : Dev} {l : Nat} (single : d.get F.QUAD_MODE_QMODE (l / 4) = 0) (corr : Nat)
include single

theorem fecWords_of_corrected : d.fecWords l corr 0 = d.satCount .FEC_CORR l corr := by
  unfold Dev.fecWords
  simp [single]

theorem fecWords_of_uncorrected {uncorr : Nat} (lost : uncorr ≠ 0) : d.fecWords l corr uncorr =
    (((d.satCount .FEC_CORR l corr).satCount .FEC_UNCORR l uncorr).raiseFirst F.QUAD_EVENT_FEC_UNCORR (l / 4) (l % 4)
      msCycles).recordLim msCycles { code := 0x0208, sev := 3, a0 := l, obj := .lane l } := by
  unfold Dev.fecWords
  simp [single, lost]

end Fec

/-! ## Commands: a write's operation on the word let through, another command's on the device that it finds -/

section Writes

variable {s : State} {m : Fin 32} {w : Word}

theorem does_quadModeWrite {q : Fin 16} (passes : Writes s m .QUAD_MODE q w.toNat) : Does (.quadModeWrite m q w) s
    ((s.passed m .QUAD_MODE q w.toNat).quadMode q (w.toNat % 4)).1 :=
  writes_act passes (fun d w => (d.quadMode q (w % 4)).1)

theorem does_laneCfgWrite {l : Fin 64} (passes : Writes s m .LANE_CFG l w.toNat) : Does (.laneCfgWrite m l w) s
    ((s.passed m .LANE_CFG l w.toNat).laneCfg l w.toNat).1 :=
  writes_act passes (fun d w => (d.laneCfg l w).1)

theorem does_portCfgWrite {p : Fin 256} (passes : Writes s m .PORT_CFG p w.toNat) : Does (.portCfgWrite m p w) s
    ((s.passed m .PORT_CFG p w.toNat).portCfg p w.toNat) :=
  writes_act passes (fun d w => d.portCfg p w)

end Writes

section Lanes

variable {s : State} (live : s.live)
include live

theorem does_quadPllLock (q : Fin 16) (pll : Fin 2) :
    Does (.quadPllLock q pll) s ((s.due (untied 2 0)).quadPll q pll true) := live_later live 2 0 (·.quadPll q pll true)

theorem does_quadPllUnlock (q : Fin 16) (pll : Fin 2) :
    Does (.quadPllUnlock q pll) s ((s.due (untied 2 0)).quadPll q pll false) := live_later live 2 0 (·.quadPll q pll false)

theorem does_fecUncorrCodeword (l : Fin 64) (corr uncorr : Nat) :
    Does (.fecUncorrCodeword l corr uncorr) s ((s.due (untied 2 0)).fecWords l corr uncorr) :=
  live_later live 2 0 (·.fecWords l corr uncorr)

end Lanes

/-- Settles O2: a write that is let through reaches its operation on the written word, the other commands find the device at
their place, and each operation takes the branch that the hypotheses name. -/
theorem quadCommands : Obligations.QuadCommands := by
  unfold Obligations.QuadCommands
  refine ⟨fun s m q l p w => ⟨fun passes four new => ?_, fun passes => ⟨fun third => ?_, fun two => ?_⟩,
    fun passes => ⟨fun was now => ?_, fun same => ?_, fun was _ down => ?_⟩⟩,
    fun s q pll l live => ⟨?_, ⟨fun was => ?_, fun idle => ?_, fun was serves => ?_⟩,
      fun corr uncorr single lost => ?_, fun corr single => ?_⟩⟩
  · exact does_of_eq (congrArg Prod.fst (quadMode_of_four_lanes four new)) (does_quadModeWrite passes)
  · exact does_of_eq (congrArg Prod.fst (laneCfg_of_third_rate third)) (does_laneCfgWrite passes)
  · exact does_of_eq (congrArg Prod.fst (laneCfg_of_two_rates two)) (does_laneCfgWrite passes)
  · exact portCfg_of_cleared was now ▸ does_portCfgWrite passes
  · exact portCfg_of_unmoved same ▸ does_portCfgWrite passes
  · exact portCfg_of_set was down ▸ does_portCfgWrite passes
  · exact quadPll_lock _ q pll ▸ does_quadPllLock live q pll
  · exact quadPll_unlock_of_unheard (.inl was) ▸ does_quadPllUnlock live q pll
  · exact quadPll_unlock_of_unheard (.inr idle) ▸ does_quadPllUnlock live q pll
  · exact quadPll_unlock_of_serving was serves ▸ does_quadPllUnlock live q pll
  · exact fecWords_of_uncorrected single corr lost ▸ does_fecUncorrCodeword live l corr uncorr
  · exact fecWords_of_corrected single corr ▸ does_fecUncorrCodeword live l corr 0

end Sys2Proof.Proofs
end

section
/-! PROOF. A frame comes in (R59, R92, R186, R203): what each operation of a receiving MAC does on the device that its command
finds. -/

namespace Sys2Proof.Proofs

open Sys2Proof Sys2Proof.Machine Sys2Proof.Laws

/-! ## The 18th byte (R186) -/

section Express

variable {d : Dev} {p mac : Nat} {b : List Byte} {us : List Upset} (takes : (d.memUpset us).takesFrames p = true)
  (unmatched : (d.memUpset us).rxCur.get (rxKey p mac) = 0) (unopened : (d.memUpset us).rxOpen.get (rxKey p mac) = 0)
include takes unmatched unopened

theorem exprMatch_nil : d.exprMatch p mac [] us = (d.memUpset us).latchSof p mac := by
  unfold Dev.exprMatch
  simp [takes, unmatched, unopened]

theorem exprMatch_of_no_entry (len : b.length = 18) (unfound : (d.memUpset us).exprFind p b = none) :
    d.exprMatch p mac b us = d.memUpset us := by
  have nonempty : b ≠ [] := fun h => by simp [h] at len
  unfold Dev.exprMatch
  simp [takes, unmatched, unopened, nonempty, len, unfound]

/-- The entry that matches acts, where neither it nor its stream's entry has failed its parity. -/
theorem exprMatch_of_entry (len : b.length = 18) {i : Nat} (found : (d.memUpset us).exprFind p b = some i)
    (entry : (d.memUpset us).bad 6 i = false)
    (stream : (d.memUpset us).bad 5 ((d.memUpset us).express.get i).stream = false) :
    d.exprMatch p mac b us = (d.memUpset us).exprAct i p mac b := by
  have nonempty : b ≠ [] := fun h => by simp [h] at len
  unfold Dev.exprMatch
  simp [takes, unmatched, unopened, nonempty, len, found, entry, stream]

end Express

/-! ## The header (R92) -/

section Header

variable {d : Dev} {p mac : Nat} {b : List Byte} (room : (d.hold.get p).length < 16)
include room

theorem headerComplete_of_ended (cur : d.rxCur.get (rxKey p mac) ≠ 0)
    (ended : (d.frames.get (d.rxCur.get (rxKey p mac))).ended = true) :
    d.headerComplete p mac b = d.headerEnded p mac (d.rxCur.get (rxKey p mac)) := by
  unfold Dev.headerComplete
  simp only [if_neg (Nat.not_le.mpr room), if_pos (And.intro cur ended)]

/-- 256 bytes of a frame that no express entry has matched make a new frame, which joins the holding queue. -/
theorem headerComplete_of_new (cur : d.rxCur.get (rxKey p mac) = 0) (takes : d.takesFrames p = true)
    (unopened : d.rxOpen.get (rxKey p mac) = 0) (plain : d.prpLan p = false) (len : b.length = 256)
    (data : isMacCtl b = false) :
    d.headerComplete p mac b =
      (let x := d.newFrame p (inPipe p) mac
       let e := x.1.frameSet x.2.1 { x.2.2 with bytes := b, head := b }
       { e with rxCur := e.rxCur.put (rxKey p mac) 0, rxOpen := e.rxOpen.put (rxKey p mac) x.2.1 }.hold16 p x.2.1) := by
  unfold Dev.headerComplete Dev.headerOpen
  simp [Nat.not_le.mpr room, cur, takes, unopened, plain, len, data]

end Header

/-! ## The next buffer (R203) -/

/-- The next buffer of a decided frame of which more has arrived than its chain holds is chosen; a frame that finds none is
given up (R204). -/
theorem nextBuffer_of_growChain {d e d' : Dev} {p mac : Nat} {b : List Byte} {us : List Upset} {f f' : FrameRec} {grown : Bool}
    (he : d.memUpset us = e) (hf : e.frames.get (e.rxOpen.get (rxKey p mac)) = f)
    (opened : e.rxOpen.get (rxKey p mac) ≠ 0) (decided : f.decided = true) (alive : f.dead = false)
    (chain : f.bufs.isEmpty = false) (beyond : chainBytes f.bufs < b.length) (fits : b.length ≤ e.maxFrame p)
    (extension : b.take f.bytes.length = f.bytes)
    (grows : e.growChain { f with bytes := b } f.parsed.l3End false = (d', f', grown)) :
    d.nextBuffer p mac b us =
      if grown then d'.frameSet (e.rxOpen.get (rxKey p mac)) f'
      else (d'.frameSet (e.rxOpen.get (rxKey p mac)) f').killFrame (e.rxOpen.get (rxKey p mac)) := by
  have plain : (e.prpLan p && e.rxOpen.get (rxKey p mac) == 0) = false := by simp [opened]
  have guard : ¬ (e.rxOpen.get (rxKey p mac) = 0 ∨ f.decided = false ∨ f.dead = true ∨ f.bufs.isEmpty = true ∨
      b.length ≤ chainBytes f.bufs ∨ e.maxFrame p < b.length ∨ b.take f.bytes.length ≠ f.bytes) := by
    simp [opened, decided, alive, chain, Nat.not_le.mpr beyond, Nat.not_lt.mpr fits, extension]
  unfold Dev.nextBuffer
  simp only [he, hf, plain, Bool.false_eq_true, if_false, if_neg guard, grows]
  cases grown <;> rfl

/-! ## The last byte (R36, R59) -/

/-- Whatever the last byte brings, the stamp latched for the MAC's frame is gone, and the mark that no entry binds it. -/
theorem rxEnd_of_rxLast {d e : Dev} {p mac frags : Nat} {b : List Byte} {pcsErr assyErr : Bool} {us : List Upset}
    (h : d.rxLast p mac b pcsErr frags assyErr us = e) :
    d.rxEnd p mac b pcsErr frags assyErr us =
      { e with sof := e.sof.put (rxKey p mac) none, noBind := e.noBind.put (rxKey p mac) false } := by
  subst h
  rfl

theorem maxFrame_rxOpen (d : Dev) (opened : Tbl Nat) (p : Nat) : ({ d with rxOpen := opened } : Dev).maxFrame p = d.maxFrame p :=
  rfl

section LastByte

variable {d : Dev} {p : Nat} {b : List Byte} (us : List Upset) (front : p < 256) (takes : d.takesFrames p = true)
  (unmatched : d.rxCur.get (rxKey p 0) = 0) (unopened : d.rxOpen.get (rxKey p 0) = 0)
include front takes unmatched unopened

/-- A runt of which nothing is known is counted and leaves nothing else. -/
theorem rxLast_of_runt (short : (settleRx b false (d.maxFrame p)).len < 64) :
    d.rxLast p 0 b false 0 false us = { d with rxOpen := d.rxOpen.put (rxKey p 0) 0 }.stat p 3 := by
  unfold Dev.rxLast
  simp [takes, unmatched, unopened, front, maxFrame_rxOpen, short]

/-- A frame that no express entry has matched, and that is no good MAC control frame, is counted and waits for its header. -/
theorem rxLast_of_frame (long : 64 ≤ (settleRx b false (d.maxFrame p)).len)
    (kept : (settleRx b false (d.maxFrame p)).bad = true ∨ isMacCtl b = false) :
    d.rxLast p 0 b false 0 false us =
      (let r := settleRx b false (d.maxFrame p)
       let x := ({ d with rxOpen := d.rxOpen.put (rxKey p 0) 0 }.rxCount p b r.len r.bad r.long).newFrame p (inPipe p) 0
       (x.1.frameSet x.2.1 (rxFrame x.2.2 r false)).rxWaits (rxKey p 0) x.2.1 (rxFrame x.2.2 r false) us) := by
  have notCtl : (!(settleRx b false (d.maxFrame p)).bad && isMacCtl b) = false := by
    rcases kept with bad | data
    · rw [bad]; rfl
    · rw [data, Bool.and_false]
  unfold Dev.rxLast
  simp [takes, unmatched, unopened, front, maxFrame_rxOpen, Nat.not_lt.mpr long, notCtl]

end LastByte

/-! ## Commands: the operation on the device that the command finds -/

section Commands

variable {s : State} (live : s.live)
include live

theorem does_expressMatch (p : Fin 256) (mac : Fin 2) (b : List Byte) (us : List Upset) :
    Does (.expressMatch p mac b us) s ((s.toDev.turn (fun d => d.rxPlace p)).exprMatch p mac b us) :=
  live_act live _ (·.exprMatch p mac b us)

theorem does_headerComplete (p : Fin 261) (mac : Fin 2) (b : List Byte) :
    Does (.headerComplete p mac b) s ((s.toDev.turn (fun d => d.rxPlace p)).headerComplete p mac b) :=
  live_act live _ (·.headerComplete p mac b)

theorem does_nextBufferAlloc (p : Fin 256) (mac : Fin 2) (b : List Byte) (us : List Upset) :
    Does (.nextBufferAlloc p mac b us) s ((s.toDev.turn (fun d => d.rxPlace p)).nextBuffer p mac b us) :=
  live_act live _ (·.nextBuffer p mac b us)

theorem does_frameRxEnd (p : Fin 261) (mac : Fin 2) (b : List Byte) (pcsErr : Bool) (frags : Nat) (assyErr : Bool)
    (us : List Upset) : Does (.frameRxEnd p mac b pcsErr frags assyErr us) s
      ((s.toDev.turn (fun d => d.rxPlace p)).rxEnd p mac b pcsErr frags assyErr us) :=
  live_act live _ (·.rxEnd p mac b pcsErr frags assyErr us)

end Commands

/-- Settles O18: each command finds the device at its MAC's place, and there its operation takes the branch that the hypotheses
name. -/
theorem frameReception : Obligations.FrameReception := by
  unfold Obligations.FrameReception
  intro s p mac b us live
  refine ⟨fun takes unmatched unopened => ⟨?_, fun len unfound => ?_, fun len i found entry stream => ?_⟩,
    fun q room => ⟨fun cur ended => ?_, fun cur takes unopened plain len data => ?_⟩,
    fun opened decided alive chain beyond fits extension d' f' => ⟨fun grown => ?_, fun full => ?_⟩,
    fun takes unmatched unopened => ⟨fun short => ?_, fun long kept => ?_⟩⟩
  · rintro rfl
    exact exprMatch_nil takes unmatched unopened ▸ does_expressMatch live p mac [] us
  · exact exprMatch_of_no_entry takes unmatched unopened len unfound ▸ does_expressMatch live p mac b us
  · exact exprMatch_of_entry takes unmatched unopened len found entry stream ▸ does_expressMatch live p mac b us
  · exact headerComplete_of_ended room cur ended ▸ does_headerComplete live q mac b
  · exact headerComplete_of_new room cur takes unopened plain len data ▸ does_headerComplete live q mac b
  · exact does_of_eq
      ((nextBuffer_of_growChain rfl rfl opened decided alive chain beyond fits extension grown).trans (if_pos rfl))
      (does_nextBufferAlloc live p mac b us)
  · exact does_of_eq
      ((nextBuffer_of_growChain rfl rfl opened decided alive chain beyond fits extension full).trans
        (if_neg Bool.false_ne_true))
      (does_nextBufferAlloc live p mac b us)
  · exact does_of_eq (rxEnd_of_rxLast (rxLast_of_runt us p.isLt takes unmatched unopened short))
      (does_frameRxEnd live ⟨p, by omega⟩ 0 b false 0 false us)
  · exact does_of_eq (rxEnd_of_rxLast (rxLast_of_frame us p.isLt takes unmatched unopened long kept))
      (does_frameRxEnd live ⟨p, by omega⟩ 0 b false 0 false us)

end Sys2Proof.Proofs
end

section
/-! PROOF. The time bases and presented time (R62 to R68, R76, R78, R79): what each operation does in the branches that its
command can meet. -/

namespace Sys2Proof.Proofs

open Sys2Proof Sys2Proof.Machine Sys2Proof.Laws

/-! ## Ticks and timers of a base (R63, R65, R76) -/

section Timers

variable {d : Dev} {n : Nat}

/-- A tick that leaves OFF at zero has nothing to slew. -/
theorem tbTick_of_aligned (ticks : d.ticking.get n = true) (aligned : (d.tbMove n).off = 0) : d.tbTick n = d.tbMove n := by
  unfold Dev.tbTick
  simp [ticks, aligned]

theorem tbTick_of_not_ticking (stands : d.ticking.get n = false) : d.tbTick n = d := by
  unfold Dev.tbTick
  simp [stands]

theorem servoTimeout_of_locked (locked : d.get F.TB_STATE_STATE n = 2)
    (past : d.past (d.servoAt.get n) (d.get F.TB_TIMERS_SERVO_TIMEOUT n * msCycles) = true) :
    d.servoTimeout n = d.enterHoldover n := by
  unfold Dev.servoTimeout
  simp [locked, past]

theorem servoTimeout_of_not_locked (unlocked : d.get F.TB_STATE_STATE n ≠ 2) : d.servoTimeout n = d := by
  unfold Dev.servoTimeout
  simp [unlocked]

/-- The device with a base in HOLDOVER and the event recorded, before R78 looks for another base. -/
def heldOver (d : Dev) (n : Nat) : Dev :=
  let e := ({ d with holdoverAt := d.holdoverAt.put n d.cycle }.set F.TB_STATE_STATE n 3).raise F.TIME_EVENT_TB_HOLDOVER 0 n
  e.timeRec 0x0902 3 n 0 (e.tbLt n) (.base n)

theorem enterHoldover_of_selecting (selects : (heldOver d n).on F.TIME_CTRL_SEL_ON_HOLDOVER = true) :
    d.enterHoldover n = (heldOver d n).autoSelect n := if_pos selects

theorem enterHoldover_of_not_selecting (keeps : (heldOver d n).on F.TIME_CTRL_SEL_ON_HOLDOVER = false) :
    d.enterHoldover n = heldOver d n := if_neg (Bool.eq_false_iff.mp keeps)

theorem holdoverLimit_of_past (holds : d.get F.TB_STATE_STATE n = 3) (limited : d.on F.TB_TIMERS_HOLDOVER_LIMIT n = true)
    (past : d.past (d.holdoverAt.get n) (d.get F.TB_TIMERS_HOLDOVER_LIMIT n * secCycles) = true) :
    d.holdoverLimit n = d.enterFree n := by
  unfold Dev.holdoverLimit
  simp [holds, limited, past]

theorem holdoverLimit_of_unlimited (unlimited : d.on F.TB_TIMERS_HOLDOVER_LIMIT n = false) : d.holdoverLimit n = d := by
  unfold Dev.holdoverLimit
  simp [unlimited]

end Timers

/-! ## Time PLLs (R62, R64, R65) -/

section Tpll

variable {d : Dev} {n : Nat}

theorem tpllUnlock_of_locked (locked : d.bit F.TIME_STATUS_TPLL_LOCK 0 n = true) :
    d.tpllUnlock n =
      ((d.setBit F.TIME_STATUS_TPLL_LOCK 0 n false).timeRec 0x090C 5 n 0 (d.tbLt n) (.base n)).enterFree n := if_pos locked

theorem tpllRefLoss_of_present (present : d.bit F.TIME_STATUS_TPLL_REF_LOSS 0 n = false) :
    d.tpllRefLoss n = (d.setBit F.TIME_STATUS_TPLL_REF_LOSS 0 n true).timeRec 0x090C 5 n 1 (d.tbLt n) (.base n) :=
  if_neg (Bool.eq_false_iff.mp present)

end Tpll

/-! ## Presented time (R76, R78, R79) -/

section Presented

variable {d : Dev} {w : Nat}

theorem ptAligned_of_slewEnds (valid : d.on F.TIME_STATUS_PT_VALID = true) (off : d.off ≠ 0) (ends : d.slewEnds = true) :
    d.ptAligned = d.aligned := by
  unfold Dev.ptAligned
  simp [valid, off, ends]

theorem ptJam_of_outputs (driven : d.ptOutputs = true) : d.ptJam = d.timeRec 0x090E 4 0 0 d.pt .none := if_pos driven

/-- With every output disabled OFF is set to 0, and PT steps by what it held. -/
theorem ptJam_of_no_outputs (idle : d.ptOutputs = false) :
    d.ptJam =
      (let j := { d with off := 0 }
       let step := ((-d.off) / 2 ^ 32).emod (2 ^ 64)
       (j.timeRec 0x090D 2 (step % 2 ^ 32).toNat (step / 2 ^ 32).toNat j.pt .none).ptStepped d.pt) :=
  if_neg (Bool.eq_false_iff.mp idle)

/-- The device with TIME_CTRL written and the outputs off that it no longer allows (R77), before the base is selected. -/
def timeCtrlStored (d : Dev) (w : Nat) : Dev :=
  let x := d.store .TIME_CTRL 0 w
  if x.outputsOn then x else x.outputsOff

theorem timeCtrl_of_selected
    (same : (timeCtrlStored d w).get F.TIME_CTRL_ACTIVE_TB = (timeCtrlStored d w).get F.TIME_STATUS_PT_TB) :
    d.timeCtrl w = timeCtrlStored d w := if_pos same

theorem timeCtrl_of_other
    (other : (timeCtrlStored d w).get F.TIME_CTRL_ACTIVE_TB ≠ (timeCtrlStored d w).get F.TIME_STATUS_PT_TB) :
    d.timeCtrl w = (timeCtrlStored d w).switchPt ((timeCtrlStored d w).get F.TIME_CTRL_ACTIVE_TB) := if_neg other

end Presented

/-! ## TB_CMD (R65, R66) -/

section TbCmd

variable {d : Dev} {n : Nat}

theorem tbStart_of_free (free : d.get F.TB_STATE_STATE n = 0) :
    d.tbStart n = ((d.set F.TB_STATE_STATE n 1).set F.TB_STATE_STEP_AVAIL n 1).set F.TB_STATE_EPOCH n
      ((d.get F.TB_STATE_EPOCH n + 1) % 256) := if_pos free

theorem tbLock_of_acquiring (abs : Bool) (acquiring : d.get F.TB_STATE_STATE n = 1) :
    d.tbLock n abs =
      (((((d.tbLocked n).lockRecs n (d.lockStep n abs)).tbStep n (d.lockStep n abs)).ptStepped d.pt).steppedOver
        (fun src => d.srcLt src)).checkValid := if_neg (not_not_intro acquiring)

theorem tbLock_of_not_acquiring (abs : Bool) (elsewhere : d.get F.TB_STATE_STATE n ≠ 1) :
    d.tbLock n abs = (d.raise F.TIME_EVENT_STEP_REFUSED).timeRec 0x0905 4 n 0 (d.tbLt n) (.base n) := if_pos elsewhere

theorem tbRelock_of_holdover (holds : d.get F.TB_STATE_STATE n = 3) :
    d.tbRelock n = ({ d with servoAt := d.servoAt.put n d.cycle }.set F.TB_STATE_STATE n 2).checkValid := if_pos holds

theorem tbEpochEnd_of_epoch (epoch : d.get F.TB_STATE_STATE n ≠ 0) : d.tbEpochEnd n = d.enterFree n := if_neg epoch

end TbCmd

/-! ## RATE (R63) -/

/-- The RATE that a write of TB_RATE_1 forms with the low word. -/
def writtenRate (d : Dev) (n w : Nat) : Int := signed 48 (w % 65536 * 2 ^ 32 + d.reg .TB_RATE_0 n)

section Rate

variable {d : Dev} {n w : Nat}

/-- A RATE within 500 ppm is the one its base waits to commit. -/
theorem tbRate1_of_inside (inside : -rateLimit ≤ writtenRate d n w ∧ writtenRate d n w ≤ rateLimit) :
    d.tbRate1 n w =
      (let e := d.store .TB_RATE_1 n w
       if n = 0 then { e with pend0 := some (writtenRate d n w) } else { e with pend1 := some (writtenRate d n w) }) :=
  if_neg (not_or.mpr ⟨Int.not_lt.mpr inside.1, Int.not_lt.mpr inside.2⟩)

theorem tbRate1_of_outside (outside : writtenRate d n w < -rateLimit ∨ rateLimit < writtenRate d n w) :
    d.tbRate1 n w = d := if_pos outside

end Rate

/-! ## Commands: the operation on the device that the command finds -/

section Events

variable {s : State} (live : s.live)
include live

theorem does_tbTick (n : Fin 2) : Does (.tbTick n) s ((s.due atTime).tbTick n) := live_due live _ (·.tbTick n)

theorem does_servoTimeout (n : Fin 2) : Does (.servoTimeout n) s ((s.due (untied 9 0)).servoTimeout n) :=
  live_later live 9 0 (·.servoTimeout n)

theorem does_holdoverLimit (n : Fin 2) : Does (.holdoverLimit n) s ((s.due (untied 9 0)).holdoverLimit n) :=
  live_later live 9 0 (·.holdoverLimit n)

theorem does_tpllLock (n : Fin 2) : Does (.tpllLock n) s ((s.due (untied 9 0)).tpllLock n) :=
  live_later live 9 0 (·.tpllLock n)

theorem does_tpllUnlock (n : Fin 2) : Does (.tpllUnlock n) s ((s.due (untied 9 0)).tpllUnlock n) :=
  live_later live 9 0 (·.tpllUnlock n)

theorem does_tpllRefLoss (n : Fin 2) : Does (.tpllRefLoss n) s ((s.due (untied 9 0)).tpllRefLoss n) :=
  live_later live 9 0 (·.tpllRefLoss n)

theorem does_tpllRefReturn (n : Fin 2) :
    Does (.tpllRefReturn n) s ((s.due (untied 9 0)).setBit F.TIME_STATUS_TPLL_REF_LOSS 0 n false) :=
  live_later live 9 0 (·.setBit F.TIME_STATUS_TPLL_REF_LOSS 0 n false)

theorem does_ptAligned : Does .ptAligned s (s.due atTime).ptAligned := live_due live _ (·.ptAligned)

end Events

section BaseWrites

variable {s : State} {m : Fin 32} {n : Fin 2} {w : Word}

theorem does_timeSnap (passes : Writes s m .TIME_CMD 0 1) : Does (.timeSnap m) s (s.passed m .TIME_CMD 0 1).timeSnap :=
  writes_act passes (fun d _ => d.timeSnap)

theorem does_timeCmdPtJam (passes : WritesAt s atTime m .TIME_CMD 0 2) :
    Does (.timeCmdPtJam m) s (s.passedAt atTime m .TIME_CMD 0 2).ptJam :=
  writesAt_act passes (fun d _ => d.ptJam)

theorem does_activeTbWrite (passes : WritesAt s atSelect m .TIME_CTRL 0 w.toNat) :
    Does (.activeTbWrite m w) s ((s.passedAt atSelect m .TIME_CTRL 0 w.toNat).timeCtrl w.toNat) :=
  writesAt_act passes (fun d w => d.timeCtrl w)

theorem does_tbStart (passes : Writes s m .TB_CMD n 1) : Does (.tbStart m n) s ((s.passed m .TB_CMD n 1).tbStart n) :=
  writes_act passes (fun d _ => d.tbStart n)

theorem does_tbLock {abs : Bool} (passes : WritesAt s atTime m .TB_CMD n (2 + 4 * b2n abs)) :
    Does (.tbLock m n abs) s ((s.passedAt atTime m .TB_CMD n (2 + 4 * b2n abs)).tbLock n abs) :=
  writesAt_act passes (fun d _ => d.tbLock n abs)

theorem does_tbRelock (passes : Writes s m .TB_CMD n 8) : Does (.tbRelock m n) s ((s.passed m .TB_CMD n 8).tbRelock n) :=
  writes_act passes (fun d _ => d.tbRelock n)

theorem does_tbEpochEnd (passes : Writes s m .TB_CMD n 16) :
    Does (.tbEpochEnd m n) s ((s.passed m .TB_CMD n 16).tbEpochEnd n) :=
  writes_act passes (fun d _ => d.tbEpochEnd n)

theorem does_tbRate1Write (passes : Writes s m .TB_RATE_1 n w.toNat) :
    Does (.tbRate1Write m n w) s ((s.passed m .TB_RATE_1 n w.toNat).tbRate1 n w.toNat) :=
  writes_act passes (fun d w => d.tbRate1 n w)

end BaseWrites

/-- Settles O4: ticks, LOCK, PT_JAM and the selection have a place of their own, the timers and the other writes that of block 9,
and each operation takes the branch that the base's state, OFF or the RATE names. -/
theorem timeEvents : Obligations.TimeEvents := by
  unfold Obligations.TimeEvents
  refine ⟨⟨fun s n live => ⟨fun ticks aligned => ?_, fun stands => ?_,
        fun locked past => ⟨fun keeps => ?_, fun selects => ?_⟩, fun unlocked => ?_, fun holds limited past => ?_,
        fun unlimited => ?_⟩,
      fun s m n live => ⟨?_, fun locked => ?_, fun present => ?_, ?_, fun valid off ends => ?_, fun passes => ?_,
        fun passes => ⟨fun driven => ?_, fun idle => ?_⟩, fun w passes => ⟨fun same => ?_, fun other => ?_⟩⟩⟩,
    fun s m n => ⟨fun passes free => ?_, fun abs passes => ⟨fun acquiring => ?_, fun elsewhere => ?_⟩,
      fun passes holds => ?_, fun passes epoch => ?_,
      fun w passes => ⟨fun inside => ?_, fun inside => ?_, fun outside => ?_⟩⟩⟩
  · exact tbTick_of_aligned ticks aligned ▸ does_tbTick live n
  · exact does_of_eq (tbTick_of_not_ticking stands) (does_tbTick live n)
  · exact does_of_eq ((servoTimeout_of_locked locked past).trans (enterHoldover_of_not_selecting keeps))
      (does_servoTimeout live n)
  · exact does_of_eq ((servoTimeout_of_locked locked past).trans (enterHoldover_of_selecting selects))
      (does_servoTimeout live n)
  · exact does_of_eq (servoTimeout_of_not_locked unlocked) (does_servoTimeout live n)
  · exact does_of_eq (holdoverLimit_of_past holds limited past) (does_holdoverLimit live n)
  · exact does_of_eq (holdoverLimit_of_unlimited unlimited) (does_holdoverLimit live n)
  · exact does_tpllLock live n
  · exact does_of_eq (tpllUnlock_of_locked locked) (does_tpllUnlock live n)
  · exact does_of_eq (tpllRefLoss_of_present present) (does_tpllRefLoss live n)
  · exact does_tpllRefReturn live n
  · exact does_of_eq (ptAligned_of_slewEnds valid off ends) (does_ptAligned live)
  · exact does_timeSnap passes
  · exact does_of_eq (ptJam_of_outputs driven) (does_timeCmdPtJam passes)
  · exact does_of_eq (ptJam_of_no_outputs idle) (does_timeCmdPtJam passes)
  · exact does_of_eq (timeCtrl_of_selected same) (does_activeTbWrite passes)
  · exact does_of_eq (timeCtrl_of_other other) (does_activeTbWrite passes)
  · exact does_of_eq (tbStart_of_free free) (does_tbStart passes)
  · exact does_of_eq (tbLock_of_acquiring abs acquiring) (does_tbLock passes)
  · exact does_of_eq (tbLock_of_not_acquiring abs elsewhere) (does_tbLock passes)
  · exact does_of_eq (tbRelock_of_holdover holds) (does_tbRelock passes)
  · exact does_of_eq (tbEpochEnd_of_epoch epoch) (does_tbEpochEnd passes)
  · rintro rfl
    exact does_of_eq (tbRate1_of_inside inside) (does_tbRate1Write passes)
  · rintro rfl
    exact does_of_eq (tbRate1_of_inside inside) (does_tbRate1Write passes)
  · exact does_of_eq (tbRate1_of_outside outside) (does_tbRate1Write passes)

end Sys2Proof.Proofs
end

section
/-! PROOF. The time pins, PPS, SyncE outputs and follow-up entries (R72, R80, R83, R86 to R88): what each operation does in the
branches that its command can meet. -/

namespace Sys2Proof.Proofs

open Sys2Proof Sys2Proof.Machine Sys2Proof.Laws

/-! ## Compares and pulses (R80, R83, R87) -/

section Compares

variable {d : Dev} {n t : Nat}

/-- A TIO_CFG write disarms the compare of a pin; channel 8, PPS_IN, has none. -/
theorem tioCfg_of_pin (pin : n < 8) (w : Nat) :
    d.tioCfg n w =
      (let e := d.store .TIO_CFG n w
       { e with cmp := e.cmp.put n none, pulses := e.pulses.put n 0 }.tioDriver n) := if_neg (Nat.ne_of_lt pin)

theorem compareFire_of_reached (armed : d.cmp.get n = some t)
    (reached : cmpDiff t (d.srcLt (d.get F.TIO_CFG_CMP_SRC n)) ≤ 0) : d.compareFire n = d.fire n := by
  unfold Dev.compareFire
  simp only [armed, if_pos reached]

theorem compareFire_of_ahead (armed : d.cmp.get n = some t)
    (ahead : 0 < cmpDiff t (d.srcLt (d.get F.TIO_CFG_CMP_SRC n))) : d.compareFire n = d := by
  unfold Dev.compareFire
  simp only [armed, if_neg (Int.not_le.mpr ahead)]

theorem tioPulseEnd_of_reached (active : d.pulseEnd.get n = some t)
    (reached : cmpDiff t (d.srcLt (d.get F.TIO_CFG_CMP_SRC n)) ≤ 0) :
    d.tioPulseEnd n = { d with pulseEnd := d.pulseEnd.put n none }.drivePin n false t := by
  unfold Dev.tioPulseEnd
  simp only [active, if_pos reached]

theorem ppsOutEnd_of_reached (active : d.ppsEnd = some t) (reached : t ≤ d.pt) :
    d.ppsOutEnd = { d with ppsEnd := none }.emit (.pin 1 0 0) := by
  unfold Dev.ppsOutEnd
  simp only [active, if_pos reached]

end Compares

/-! ## Captured edges (R86, R87) -/

section Captures

variable {d : Dev} {n : Nat} {rising : Bool}

theorem capture_of_room {size : Nat} (room : (d.capQ.get n).length < size) :
    d.capture n rising size =
      { d with capQ := d.capQ.put n (d.capQ.get n ++
          [{ pt := d.pt, tb0 := d.tbLt 0, tb1 := d.tbLt 1, rising := rising }]) } := if_pos room

theorem tioEdge_of_selected (captures : d.get F.TIO_CFG_MODE n = 1)
    (selected : edgeOk (d.get F.TIO_CFG_EDGE n) rising = true) : d.tioEdge n rising = d.capture n rising 16 := by
  unfold Dev.tioEdge
  simp [captures, selected]

/-- PPS_IN_EDGE 0 selects the rising edge, 1 the falling one. -/
theorem ppsIn_of_selected (enabled : d.on F.PPS_CFG_PPS_IN_EN = true) (selected : rising ≠ d.on F.PPS_CFG_PPS_IN_EDGE) :
    d.ppsIn rising = ((d.ppsSource 0).ppsSource 1).capture 8 rising 4 := by
  unfold Dev.ppsIn
  rw [enabled, bne_iff_ne.mpr selected]
  rfl

end Captures

/-! ## PPS_OUT (R77, R87) -/

section PpsOut

variable {d : Dev}

theorem ppsOutSecond_of_due (enabled : d.on F.PPS_CFG_PPS_OUT_EN = true) (allowed : d.outputsOn = true)
    (due : d.ppsDue = true) :
    d.ppsOutSecond =
      { d with ppsSec := d.ppsNow / 65536000000000,
               ppsEnd := some (d.pt + d.get F.PPS_CFG_PPS_WIDTH * 65536000) }.emit (.pin 1 0 1) := by
  unfold Dev.ppsOutSecond
  simp only [enabled, allowed, due, Bool.and_self, if_true]

theorem ppsOutSecond_of_outputs_off (off : d.outputsOn = false) : d.ppsOutSecond = d := by
  unfold Dev.ppsOutSecond
  simp [off]

end PpsOut

/-! ## SyncE outputs and follow-up entries (R72, R88) -/

section SyncE

variable {d : Dev} {n : Nat}

theorem synceSquelch_of_lost (enabled : d.synceOn n = true) (runs : d.squelched.get n = false)
    (lost : d.synceLock n = false) :
    d.synceSquelch n =
      (let e := ({ d with squelched := d.squelched.put n true }.emit (.pin 2 n 0)).raise F.TIME_EVENT_SYNCE_SQUELCH
       e.timeRec 0x090B 3 n 0 e.pt .none) := by
  unfold Dev.synceSquelch
  simp [enabled, runs, lost]

theorem synceResume_of_locked (squelched : d.squelched.get n = true) (locked : d.synceLock n = true)
    (past : d.past (d.cdrAt.get (d.synceLane n)) (10 * msCycles) = true) :
    d.synceResume n = { d with squelched := d.squelched.put n false }.emit (.pin 2 n (d.synceDiv n)) := by
  unfold Dev.synceResume
  simp [squelched, locked, past]

theorem fuExpire_of_past {i : Nat} {e : FuEntry} (entry : d.fu[i]? = some e)
    (past : d.past e.made (100 * msCycles) = true) : d.fuExpire i = { d with fu := d.fu.eraseIdx i } := by
  unfold Dev.fuExpire
  simp only [entry, if_pos past]

end SyncE

/-! ## Commands: the operation on the device that the command finds -/

section PinWrites

variable {s : State} {m : Fin 32} {w : Word}

theorem does_tioStart1Write {n : Fin 8} (passes : Writes s m .TIO_START_1 n w.toNat) :
    Does (.tioStart1Write m n w) s ((s.passed m .TIO_START_1 n w.toNat).tioStart1 n w.toNat) :=
  writes_act passes (fun d w => d.tioStart1 n w)

theorem does_tioModeWrite {n : Fin 8} (passes : Writes s m .TIO_CFG n w.toNat) :
    Does (.tioModeWrite m n w) s ((s.passed m .TIO_CFG n w.toNat).tioCfg n w.toNat) :=
  writes_act passes (fun d w => d.tioCfg n w)

theorem does_tioCapPop {n : Fin 9} (passes : Writes s m .TIO_CAP_POP n 1) :
    Does (.tioCapPop m n) s ((s.passed m .TIO_CAP_POP n 1).capPop n) :=
  writes_act passes (fun d _ => d.capPop n)

end PinWrites

section PinEvents

variable {s : State} (live : s.live)
include live

theorem does_compareFire (n : Fin 8) : Does (.compareFire n) s ((s.due (untied 9 0)).compareFire n) :=
  live_later live 9 0 (·.compareFire n)

theorem does_tioPulseEnd_of_pin (n : Fin 8) :
    Does (.tioPulseEnd n.castSucc) s ((s.due (untied 9 0)).tioPulseEnd n) :=
  does_of_eq (if_neg (Nat.ne_of_lt n.isLt))
    (live_later live 9 0 (fun d => if n.val = 8 then d.ppsOutEnd else d.tioPulseEnd n))

theorem does_tioPulseEnd_of_pps : Does (.tioPulseEnd 8) s (s.due (untied 9 0)).ppsOutEnd :=
  live_later live 9 0 (·.ppsOutEnd)

theorem does_tioInputEdge (n : Fin 8) (rising : Bool) :
    Does (.tioInputEdge n rising) s ((s.due (untied 9 0)).tioEdge n rising) := live_later live 9 0 (·.tioEdge n rising)

theorem does_ppsInEdge (rising : Bool) : Does (.ppsInEdge rising) s ((s.due (untied 9 0)).ppsIn rising) :=
  live_later live 9 0 (·.ppsIn rising)

theorem does_ppsOutSecond : Does .ppsOutSecond s (s.due (untied 9 0)).ppsOutSecond :=
  live_later live 9 0 (·.ppsOutSecond)

theorem does_synceSquelch (n : Fin 2) : Does (.synceSquelch n) s ((s.due (untied 9 0)).synceSquelch n) :=
  live_later live 9 0 (·.synceSquelch n)

theorem does_synceResume (n : Fin 2) : Does (.synceResume n) s ((s.due (untied 9 0)).synceResume n) :=
  live_later live 9 0 (·.synceResume n)

theorem does_fuEntryExpire (i : Nat) : Does (.fuEntryExpire i) s ((s.due (untied 9 0)).fuExpire i) :=
  live_later live 9 0 (·.fuExpire i)

end PinEvents

/-- Settles O5: a write that is let through reaches its operation on the written word, the other commands find the device at their
place among the timers of block 9, and each operation takes the branch that the compare, the queue or the output names. -/
theorem timePins : Obligations.TimePins := by
  unfold Obligations.TimePins
  refine ⟨fun s m n live => ⟨fun w passes => ?_, fun w passes => ?_, fun t armed reached => ?_, fun t armed ahead => ?_,
      fun t active reached => ?_, fun t active reached => ?_, fun rising captures selected room => ?_,
      fun rising enabled selected => ?_, fun k passes => ?_, fun enabled allowed due => ?_, fun off => ?_⟩,
    fun s n i live => ⟨fun enabled runs lost => ?_, fun squelched locked past => ?_, fun e entry past => ?_⟩⟩
  · exact does_tioStart1Write passes
  · exact does_of_eq (tioCfg_of_pin n.isLt w.toNat) (does_tioModeWrite passes)
  · exact does_of_eq (compareFire_of_reached armed reached) (does_compareFire live n)
  · exact does_of_eq (compareFire_of_ahead armed ahead) (does_compareFire live n)
  · exact does_of_eq (tioPulseEnd_of_reached active reached) (does_tioPulseEnd_of_pin live n)
  · exact does_of_eq (ppsOutEnd_of_reached active reached) (does_tioPulseEnd_of_pps live)
  · exact does_of_eq ((tioEdge_of_selected captures selected).trans (capture_of_room room)) (does_tioInputEdge live n rising)
  · exact does_of_eq (ppsIn_of_selected enabled selected) (does_ppsInEdge live rising)
  · exact does_tioCapPop passes
  · exact does_of_eq (ppsOutSecond_of_due enabled allowed due) (does_ppsOutSecond live)
  · exact does_of_eq (ppsOutSecond_of_outputs_off off) (does_ppsOutSecond live)
  · exact does_of_eq (synceSquelch_of_lost enabled runs lost) (does_synceSquelch live n)
  · exact does_of_eq (synceResume_of_locked squelched locked past) (does_synceResume live n)
  · exact does_of_eq (fuExpire_of_past entry past) (does_fuEntryExpire live i)

end Sys2Proof.Proofs
end

section
/-! PROOF. The SFI commands of the time group (R74, R364): the values that each takes, and what it answers to them. -/

namespace Sys2Proof.Proofs

open Sys2Proof Sys2Proof.Machine Sys2Proof.Laws

/-! ## An admitted request is answered (R348, R351) -/

theorem okIf_of_true {c : Bool} (ok : c = true) (d d' : Dev) : okIf c d d' = (d', .ok) := if_pos ok

/-- A command answers what its operation's result equals, on the device that it starts from. -/
theorem answers_of_eq {c : Instr} {s : State} {rq : Sfi} {op role : Nat} {e e' : Dev → Dev × Ans}
    (effect : e (s.start rq op) = e' (s.start rq op)) (answers : Answers c s rq op role e) : Answers c s rq op role e' :=
  answers_of answers effect

/-! ## The bases (R74) -/

section Bases

variable {d : Dev} {base : Nat}

/-- Profile 0 takes either transport, the others only that of bit 0 of TRANSPORTS. -/
theorem tbProfileSet_of_ok {profile domain transports refSel lane : Nat} (hbase : base < 2) (hprofile : profile < 3)
    (hdomain : domain < 256) (href : refSel < 4) (hlane : lane < 64) (carries : transports < (if profile = 0 then 4 else 2))
    (roles : ∀ p < 256, roleOk profile (d.ptpRole p base) = true) :
    d.tbProfileSet base profile domain transports refSel lane =
      ({ d with profile := d.profile.put base profile }.cfg .TB_CFG base
        (refSel + 4 * lane + 256 * domain + 65536 + 131072 * transports), .ok) := by
  have permitted : (List.range 256).all (fun p => roleOk profile (d.ptpRole p base)) = true :=
    List.all_eq_true.mpr fun p hp => roles p (List.mem_range.mp hp)
  have inRange : base < 2 ∧ profile < 3 ∧ domain < 256 ∧ transports < 8 ∧ refSel < 4 ∧ lane < 64 ∧
      (profile = 0 → transports < 4) ∧ (0 < profile → transports / 2 = 0) := by
    split at carries <;> omega
  exact okIf_of_true (Bool.and_eq_true_iff.mpr ⟨decide_eq_true inRange, permitted⟩) _ _

theorem ptpRoleSet_of_ok {port role : Nat} (hport : port < 256) (hbase : base < 2) (hrole : role < 4)
    (permitted : roleOk (d.profile.get base) role = true) :
    d.ptpRoleSet port base role =
      (if base = 0 then d.cfgF F.PTP_PORT_CFG_ROLE_0 port role else d.cfgF F.PTP_PORT_CFG_ROLE_1 port role, .ok) :=
  okIf_of_true (Bool.and_eq_true_iff.mpr ⟨decide_eq_true ⟨hport, hbase, hrole⟩, permitted⟩) _ _

theorem tbControl_of_ok {start epochEnd : Bool} {timeout limit : Nat} (servo : Bool) (hbase : base < 2)
    (one : ¬ (start = true ∧ epochEnd = true)) (htimeout : F.TB_TIMERS_SERVO_TIMEOUT.ok timeout = true)
    (hlimit : F.TB_TIMERS_HOLDOVER_LIMIT.ok limit = true) :
    d.tbControl base start epochEnd servo timeout limit =
      (let e := { d with servoOn := d.servoOn.put base servo }.cfg .TB_TIMERS base (timeout + 65536 * limit)
       if start then e.tbStart base else if epochEnd then e.tbEpochEnd base else e, .ok) := by
  have single : (start && epochEnd) = false := Bool.eq_false_iff.mpr (fun both => one (Bool.and_eq_true_iff.mp both))
  exact okIf_of_true (by simp [hbase, single, htimeout, hlimit]) _ _

theorem ptSelect_of_ok {slew : Nat} (auto hold free : Bool) (hbase : base < 2) (hslew : F.TIME_CTRL_PT_SLEW.ok slew = true) :
    d.ptSelect base auto hold slew free =
      (d.timeCtrl (base + 2 * b2n auto + 4 * b2n hold + 8 * b2n free + 16 * slew), .ok) :=
  okIf_of_true (Bool.and_eq_true_iff.mpr ⟨decide_eq_true hbase, hslew⟩) _ _

theorem timeOfDaySet_of_ok {secs : Nat} (hbase : base < 2) (hsecs : secs < 2 ^ 48) (enabled : d.on F.PPS_CFG_PPS_IN_EN = true) :
    d.timeOfDaySet base secs = ({ d with tod := d.tod.put base (some secs) }, .ok) :=
  okIf_of_true (Bool.and_eq_true_iff.mpr ⟨enabled, decide_eq_true ⟨hbase, hsecs⟩⟩) _ _

end Bases

/-! ## TIO_SET (R81, R83) -/

section TioSet

variable {d : Dev} {x : TioArgs} (rq : Sfi) (ok : tioArgsOk x = true)
include ok

/-- A mode without a compare leaves the pin configured and disarmed. -/
theorem tioSet_of_unarmed (unarmed : x.mode < 2) : d.tioSet rq x = (d.tioConfig x, .ok) := by
  unfold Dev.tioSet
  simp [ok, unarmed]

theorem tioSet_of_near (arms : 2 ≤ x.mode) (near : x.target ≤ (d.tioConfig x).srcLt x.src + 512000000000 * 65536) :
    d.tioSet rq x = ((d.tioConfig x).tioTarget x.pin x.target, .ok) := by
  unfold Dev.tioSet
  simp only [ok, Bool.not_true, Bool.false_eq_true, if_false, if_neg (Nat.not_lt.mpr arms), if_neg (Nat.not_lt.mpr near)]

/-- A target more than 512 s ahead is kept in core 0, which answers PENDING (R81). -/
theorem tioSet_of_far (arms : 2 ≤ x.mode) (far : (d.tioConfig x).srcLt x.src + 512000000000 * 65536 < x.target) :
    d.tioSet rq x =
      (let e := d.tioConfig x
       { e with heldT := e.heldT ++ [{ kind := 0, obj := x.pin, src := x.src, target := x.target, ch := rq.ch.val,
                                       tag := rq.tag.val }] }, .pending) := by
  unfold Dev.tioSet
  simp only [ok, Bool.not_true, Bool.false_eq_true, if_false, if_neg (Nat.not_lt.mpr arms), if_pos far]

end TioSet

/-! ## Captures, PPS and SyncE (R86 to R88) -/

section Outputs

variable {d : Dev}

theorem tioCapturePop_of_head {pin : Nat} {c : Capture} (hpin : pin < 9) (head : (d.capQ.get pin).head? = some c) :
    d.tioCapturePop pin = (d.capPop pin, .okW ((List.range 9).map (capWord c) ++ [(d.capQ.get pin).length])) := by
  unfold Dev.tioCapturePop
  simp only [if_neg (Nat.not_le.mpr hpin), head]

theorem tioCapturePop_of_empty {pin : Nat} (hpin : pin < 9) (empty : d.capQ.get pin = []) :
    d.tioCapturePop pin = (d, { detail := 1 }) := by
  unfold Dev.tioCapturePop
  simp only [if_neg (Nat.not_le.mpr hpin), empty, List.head?_nil]

theorem ppsSet_of_ok {width trim : Nat} (out inEn edge : Bool) (hwidth : F.PPS_CFG_PPS_WIDTH.ok width = true)
    (htrim : trim < 2 ^ 32) :
    d.ppsSet out width trim inEn edge =
      ((d.cfg .PPS_CFG 0 (b2n out + 2 * width + 2 ^ 20 * b2n inEn + 2 ^ 21 * b2n edge)).cfg .PPS_OUT_TRIM 0 trim, .ok) :=
  okIf_of_true (Bool.and_eq_true_iff.mpr ⟨hwidth, decide_eq_true htrim⟩) _ _

theorem synceSet_of_ok {o lane div : Nat} (en : Bool) (ho : o < 2) (hlane : lane < 64) (least : 1 ≤ div) (most : div ≤ 256) :
    d.synceSet o lane div en =
      ((if o = 0
        then ((d.cfgF F.SYNCE_CFG_SYNCE_0_LANE 0 lane).cfgF F.SYNCE_CFG_SYNCE_0_DIV 0 (div - 1)).cfgF F.SYNCE_CFG_SYNCE_0_EN 0 (b2n en)
        else ((d.cfgF F.SYNCE_CFG_SYNCE_1_LANE 0 lane).cfgF F.SYNCE_CFG_SYNCE_1_DIV 0 (div - 1)).cfgF F.SYNCE_CFG_SYNCE_1_EN 0
          (b2n en)).synceDrive o, .ok) :=
  okIf_of_true (decide_eq_true ⟨ho, hlane, least, most⟩) _ _

theorem synceSet_zero_of_ok {lane div : Nat} (en : Bool) (hlane : lane < 64) (least : 1 ≤ div) (most : div ≤ 256) :
    d.synceSet 0 lane div en =
      ((((d.cfgF F.SYNCE_CFG_SYNCE_0_LANE 0 lane).cfgF F.SYNCE_CFG_SYNCE_0_DIV 0 (div - 1)).cfgF F.SYNCE_CFG_SYNCE_0_EN 0
        (b2n en)).synceDrive 0, .ok) := by
  rw [synceSet_of_ok en Nat.zero_lt_two hlane least most, if_pos rfl]

theorem synceSet_one_of_ok {lane div : Nat} (en : Bool) (hlane : lane < 64) (least : 1 ≤ div) (most : div ≤ 256) :
    d.synceSet 1 lane div en =
      ((((d.cfgF F.SYNCE_CFG_SYNCE_1_LANE 0 lane).cfgF F.SYNCE_CFG_SYNCE_1_DIV 0 (div - 1)).cfgF F.SYNCE_CFG_SYNCE_1_EN 0
        (b2n en)).synceDrive 1, .ok) := by
  rw [synceSet_of_ok en Nat.one_lt_two hlane least most, if_neg Nat.one_ne_zero]

end Outputs

/-! ## Commands: the operation on the device that the command starts from -/

section TimeCommands

variable {s : State} {rq : Sfi} {role : Nat}

theorem answers_timeQuery (granted : Granted s rq 0x200 0 false role) :
    Answers (.timeQuery rq) s rq 0x200 role (fun d =>
      (d, .okW [d.view .TIME_STATUS, d.reg .TB_STATE 0, d.reg .TB_STATE 1, d.view .PT_OFF,
        ltWord d.pt 0, ltWord d.pt 1, ltWord d.pt 2])) :=
  granted_sfi granted _

theorem answers_tbProfileSet (granted : Granted s rq 0x201 2 false role)
    (base profile domain transports refSel lane : Nat) :
    Answers (.tbProfileSet rq base profile domain transports refSel lane) s rq 0x201 role
      (fun d => d.tbProfileSet base profile domain transports refSel lane) :=
  granted_sfi granted (fun d _ => d.tbProfileSet base profile domain transports refSel lane)

theorem answers_ptpPortRoleSet (granted : Granted s rq 0x202 2 false role) (port base ptp : Nat) :
    Answers (.ptpPortRoleSet rq port base ptp) s rq 0x202 role (fun d => d.ptpRoleSet port base ptp) :=
  granted_sfi granted (fun d _ => d.ptpRoleSet port base ptp)

theorem answers_tbControl (granted : Granted s rq 0x203 2 false role) (base : Nat) (start epochEnd servo : Bool)
    (timeout limit : Nat) :
    Answers (.tbControl rq base start epochEnd servo timeout limit) s rq 0x203 role
      (fun d => d.tbControl base start epochEnd servo timeout limit) :=
  granted_sfi granted (fun d _ => d.tbControl base start epochEnd servo timeout limit)

theorem answers_ptSelect (granted : Granted s rq 0x204 2 false role) (base : Nat) (auto hold : Bool) (slew : Nat)
    (free : Bool) :
    Answers (.ptSelect rq base auto hold slew free) s rq 0x204 role (fun d => d.ptSelect base auto hold slew free) :=
  granted_sfi granted (fun d _ => d.ptSelect base auto hold slew free)

theorem answers_ptJam (granted : Granted s rq 0x205 2 false role) :
    Answers (.ptJam rq) s rq 0x205 role (fun d => (d.ptJam, if d.ptOutputs then .invalid else .ok)) :=
  granted_sfi granted (fun d _ => (d.ptJam, if d.ptOutputs then .invalid else .ok))

theorem answers_timeOfDaySet (granted : Granted s rq 0x20A 2 false role) (base secs : Nat) :
    Answers (.timeOfDaySet rq base secs) s rq 0x20A role (fun d => d.timeOfDaySet base secs) :=
  granted_sfi granted (fun d _ => d.timeOfDaySet base secs)

theorem answers_tioSet (granted : Granted s rq 0x206 2 false role) (x : TioArgs) :
    Answers (.tioSet rq x) s rq 0x206 role (fun d => d.tioSet rq x) :=
  granted_sfi granted (fun d _ => d.tioSet rq x)

theorem answers_tioCapturePop (granted : Granted s rq 0x207 1 false role) (pin : Nat) :
    Answers (.tioCapturePop rq pin) s rq 0x207 role (fun d => d.tioCapturePop pin) :=
  granted_sfi granted (fun d _ => d.tioCapturePop pin)

theorem answers_ppsSet (granted : Granted s rq 0x208 2 false role) (out : Bool) (width trim : Nat) (inEn edge : Bool) :
    Answers (.ppsSet rq out width trim inEn edge) s rq 0x208 role (fun d => d.ppsSet out width trim inEn edge) :=
  granted_sfi granted (fun d _ => d.ppsSet out width trim inEn edge)

theorem answers_synceSet (granted : Granted s rq 0x209 2 false role) (o lane div : Nat) (en : Bool) :
    Answers (.synceSet rq o lane div en) s rq 0x209 role (fun d => d.synceSet o lane div en) :=
  granted_sfi granted (fun d _ => d.synceSet o lane div en)

end TimeCommands

/-- Settles O6: an admitted command answers what its operation makes of the device it starts from, and on values in range that is
the change of its listing, with the answer OK where R364 names no other. -/
theorem timeSfi : Obligations.TimeSfi := by
  unfold Obligations.TimeSfi
  refine ⟨fun s rq role base => ⟨fun granted => ?_,
      fun profile domain transports refSel lane granted hbase hprofile hdomain href hlane carries roles => ?_,
      fun port ptp granted hport hptp permitted => ⟨?_, ?_⟩,
      fun start epochEnd servo timeout limit granted hbase one htimeout hlimit => ?_,
      fun auto hold slew free granted hbase hslew => ?_, fun granted idle => ?_,
      fun secs granted hbase hsecs enabled => ?_⟩,
    fun s rq role => ⟨fun x granted ok => ⟨fun unarmed => ?_, fun arms near => ?_, fun arms far => ?_⟩,
      fun pin c granted hpin head => ?_, fun pin granted hpin empty => ?_,
      fun out width trim inEn edge granted hwidth htrim => ?_,
      fun lane div en granted hlane least most => ⟨?_, ?_⟩⟩⟩
  · exact answers_timeQuery granted
  · exact answers_of_eq (tbProfileSet_of_ok hbase hprofile hdomain href hlane carries roles)
      (answers_tbProfileSet granted base profile domain transports refSel lane)
  · rintro rfl
    exact answers_of_eq (ptpRoleSet_of_ok hport Nat.zero_lt_two hptp permitted) (answers_ptpPortRoleSet granted port 0 ptp)
  · rintro rfl
    exact answers_of_eq (ptpRoleSet_of_ok hport Nat.one_lt_two hptp permitted) (answers_ptpPortRoleSet granted port 1 ptp)
  · exact answers_of_eq (tbControl_of_ok servo hbase one htimeout hlimit)
      (answers_tbControl granted base start epochEnd servo timeout limit)
  · exact answers_of_eq (ptSelect_of_ok auto hold free hbase hslew) (answers_ptSelect granted base auto hold slew free)
  · exact answers_of_eq (congrArg (Prod.mk _) (if_neg (Bool.eq_false_iff.mp idle))) (answers_ptJam granted)
  · exact answers_of_eq (timeOfDaySet_of_ok hbase hsecs enabled) (answers_timeOfDaySet granted base secs)
  · exact answers_of_eq (tioSet_of_unarmed rq ok unarmed) (answers_tioSet granted x)
  · exact answers_of_eq (tioSet_of_near rq ok arms near) (answers_tioSet granted x)
  · exact answers_of_eq (tioSet_of_far rq ok arms far) (answers_tioSet granted x)
  · exact answers_of_eq (tioCapturePop_of_head hpin head) (answers_tioCapturePop granted pin)
  · exact answers_of_eq (tioCapturePop_of_empty hpin empty) (answers_tioCapturePop granted pin)
  · exact answers_of_eq (ppsSet_of_ok out inEn edge hwidth htrim) (answers_ppsSet granted out width trim inEn edge)
  · exact answers_of_eq (synceSet_zero_of_ok en hlane least most) (answers_synceSet granted 0 lane div en)
  · exact answers_of_eq (synceSet_one_of_ok en hlane least most) (answers_synceSet granted 1 lane div en)

end Sys2Proof.Proofs
end

section
/-! PROOF. Plates (R111 to R119, R123): what PLATE_CMD, PLATE_AT_1 and the moments of a plate's life do in the branches that
their commands can meet. -/

namespace Sys2Proof.Proofs

open Sys2Proof Sys2Proof.Machine Sys2Proof.Laws

/-! ## PLATE_CMD (R113, R114) -/

/-- What a PLATE_CMD command does that no cause refuses. -/
def plateEffect (d : Dev) : PlateOp → Dev
  | .open_ => d.plateOpen 33
  | .commit => d.plateCommit
  | .commitAt => d.plateArm d.plateAt
  | .disarm => d.plateDisarm 32
  | .abort => d.plateAbort

section PlateCmd

variable {d : Dev} {diff : Int} {hold : Bool}

theorem plateReg_of_unrefused {op : PlateOp}
    (unrefused : d.plateReason op (cmpDiff d.plateAt d.pt) (d.on F.PLATE_AT_1_HOLD) = 0) :
    d.plateReg op = plateEffect d op := by
  unfold Dev.plateReg
  rw [if_neg (not_not_intro unrefused)]
  cases op <;> rfl

theorem plateReason_disarm_of_armed (armed : d.on F.PLATE_STATUS_COMMIT_ARMED = true) :
    d.plateReason .disarm diff hold = 0 := if_pos armed

/-- With no sweep running, an abort wants an open shadow alone. -/
theorem plateReason_abort_of_open (unswept : d.sweep = 0) (shadow : d.on F.PLATE_STATUS_SHADOW_OPEN = true) :
    d.plateReason .abort diff hold = 0 := by
  unfold Dev.plateReason
  simp [unswept, shadow]

end PlateCmd

/-! ## PLATE_AT_1 (R115) -/

section PlateAt1

variable {d : Dev} (w : Nat)

theorem plateAt1_of_disarmed (disarmed : d.on F.PLATE_STATUS_COMMIT_ARMED = false) :
    d.plateAt1 w = d.store .PLATE_AT_1 0 w := by
  unfold Dev.plateAt1
  simp [disarmed]

/-- With a commit armed and HOLD clear, the write moves the HOLD bit alone. -/
theorem plateAt1_of_armed (armed : d.on F.PLATE_STATUS_COMMIT_ARMED = true) (unheld : d.on F.PLATE_AT_1_HOLD = false) :
    d.plateAt1 w =
      d.store .PLATE_AT_1 0 (withBits (d.reg .PLATE_AT_1) 24 24 (b2n (decide (bitsOf w 24 24 = 1)))) := by
  unfold Dev.plateAt1
  simp [armed, unheld]

theorem plateAt1_of_release (armed : d.on F.PLATE_STATUS_COMMIT_ARMED = true) (held : d.on F.PLATE_AT_1_HOLD = true)
    (clears : bitsOf w 24 24 = 0) :
    d.plateAt1 w = (d.store .PLATE_AT_1 0 (withBits (d.reg .PLATE_AT_1) 24 24 0)).plateUnhold := by
  unfold Dev.plateAt1
  simp [armed, held, clears, b2n]

end PlateAt1

/-! ## Sweeps, the timed commit, retirement (R111, R115, R117 to R119) -/

/-- The device with its open sweep ended, before a held abort or an admission's staging goes on. -/
def openSwept (d : Dev) : Dev :=
  ((({ d.openSweep with sweep := 0 }.set F.PLATE_STATUS_SWEEP_BUSY 0 0).raise F.PLATE_EVENT_OPENED).record
    { code := 0x0501, sev := 1 }).finishOp 0x301 .ok

section PlateLife

variable {d : Dev}

theorem openDone_of_plain (opening : d.sweep = 1) (unheld : (openSwept d).abortHeld = false)
    (session : (openSwept d).autoPlate = 0) : d.openDone = openSwept d := by
  unfold openSwept at unheld session ⊢
  unfold Dev.openDone
  simp [opening, unheld, session]

theorem timedCommit_of_reached (armed : d.on F.PLATE_STATUS_COMMIT_ARMED = true)
    (unheld : d.on F.PLATE_AT_1_HOLD = false) (reached : cmpDiff d.commitAt d.pt ≤ 0) :
    d.timedCommit = d.plateCommit.finishOp 0x305 .ok := by
  unfold Dev.timedCommit
  simp [armed, unheld, reached]

theorem plateRetire_of_unused (retiring : d.on F.PLATE_STATUS_RETIRING = true)
    (drained : d.inflight.get (d.get F.PLATE_STATUS_RETIRING_PLATE) = 0)
    (unnamed : d.fragNames (d.get F.PLATE_STATUS_RETIRING_PLATE) = false) :
    d.plateRetire =
      (({ d with sweep := 2 }.set F.PLATE_STATUS_RETIRING 0 0).set F.PLATE_STATUS_SWEEP_BUSY 0 1).admitsRetire := by
  unfold Dev.plateRetire
  simp [retiring, drained, unnamed]

/-- A copy in flight keeps its plate from retiring. -/
theorem plateRetire_of_inflight (inflight : d.inflight.get (d.get F.PLATE_STATUS_RETIRING_PLATE) ≠ 0) :
    d.plateRetire = d := by
  unfold Dev.plateRetire
  simp [inflight]

theorem retireDone_of_retiring (retires : d.sweep = 2) :
    d.retireDone =
      (({ d.clearSweep (d.get F.PLATE_STATUS_RETIRING_PLATE) with sweep := 0 }.set F.PLATE_STATUS_SWEEP_BUSY 0 0).raise
        F.PLATE_EVENT_RETIRED).record { code := 0x0503, sev := 1 } := if_neg (not_not_intro retires)

theorem abortDone_of_aborting (aborts : d.sweep = 3) :
    d.abortDone =
      (((({ d.clearSweep d.shadowPlate with sweep := 0, owner := 0, autoPlate := 0 }.set F.PLATE_STATUS_SWEEP_BUSY 0 0).set
        F.PLATE_STATUS_SHADOW_OPEN 0 0).raise F.PLATE_EVENT_ABORTED).record { code := 0x0504, sev := 2 }).admitsAbort
          (.invalid 33) := if_neg (not_not_intro aborts)

theorem retireLimit_of_late (retiring : d.on F.PLATE_STATUS_RETIRING = true) (late : d.overLimit = true) :
    d.retireLimit =
      (let r := d.flushRetiring (d.get F.PLATE_STATUS_RETIRING_PLATE)
       (r.1.raise F.PLATE_EVENT_RETIRE_LIMIT).record { code := 0x0506, sev := 5, a0 := r.2 }) :=
  if_pos (Bool.and_eq_true_iff.mpr ⟨retiring, late⟩)

theorem fragExpire_of_past {i : Nat} (written : (d.frags.get i).ver ≠ 0) (past : d.fragLive i = false) :
    d.fragExpire i = { d with frags := d.frags.put i default }.count 0x24 6 := if_pos ⟨written, past⟩

end PlateLife

/-! ## Commands: the operation on the device that the command finds -/

section PlateWrites

variable {s : State} {m : Fin 32}

theorem does_plateCmdOpen (passes : Writes s m .PLATE_CMD 0 1) :
    Does (.plateCmdOpen m) s ((s.passed m .PLATE_CMD 0 1).plateReg .open_) :=
  writes_act passes (fun d _ => d.plateReg .open_)

theorem does_plateCmdCommit (passes : Writes s m .PLATE_CMD 0 2) :
    Does (.plateCmdCommit m) s ((s.passed m .PLATE_CMD 0 2).plateReg .commit) :=
  writes_act passes (fun d _ => d.plateReg .commit)

theorem does_plateCmdCommitAt (passes : Writes s m .PLATE_CMD 0 4) :
    Does (.plateCmdCommitAt m) s ((s.passed m .PLATE_CMD 0 4).plateReg .commitAt) :=
  writes_act passes (fun d _ => d.plateReg .commitAt)

theorem does_plateCmdDisarm (passes : Writes s m .PLATE_CMD 0 8) :
    Does (.plateCmdDisarm m) s ((s.passed m .PLATE_CMD 0 8).plateReg .disarm) :=
  writes_act passes (fun d _ => d.plateReg .disarm)

theorem does_plateCmdAbort (passes : Writes s m .PLATE_CMD 0 16) :
    Does (.plateCmdAbort m) s ((s.passed m .PLATE_CMD 0 16).plateReg .abort) :=
  writes_act passes (fun d _ => d.plateReg .abort)

theorem does_plateAt1Write {w : Word} (passes : Writes s m .PLATE_AT_1 0 w.toNat) :
    Does (.plateAt1Write m w) s ((s.passed m .PLATE_AT_1 0 w.toNat).plateAt1 w.toNat) :=
  writes_act passes (fun d w => d.plateAt1 w)

end PlateWrites

section PlateTimers

variable {s : State} (live : s.live)
include live

theorem does_openSweepDone : Does .openSweepDone s (s.due (untied 5 0)).openDone := live_later live 5 0 (·.openDone)

theorem does_timedCommitFire : Does .timedCommitFire s (s.due (untied 5 0)).timedCommit :=
  live_later live 5 0 (·.timedCommit)

theorem does_plateRetire : Does .plateRetire s (s.due (untied 5 0)).plateRetire := live_later live 5 0 (·.plateRetire)

theorem does_retireSweepDone : Does .retireSweepDone s (s.due (untied 5 0)).retireDone :=
  live_later live 5 0 (·.retireDone)

theorem does_abortSweepDone : Does .abortSweepDone s (s.due (untied 5 0)).abortDone := live_later live 5 0 (·.abortDone)

theorem does_retireLimitExpire : Does .retireLimitExpire s (s.due (untied 5 0)).retireLimit :=
  live_later live 5 0 (·.retireLimit)

theorem does_fragEntryExpire (i : Fin 4096) : Does (.fragEntryExpire i) s ((s.due (untied 5 0)).fragExpire i) :=
  live_later live 5 0 (·.fragExpire i)

end PlateTimers

/-- Settles O7: a write that is let through reaches its operation, the moments of a plate's life find the device at their place
in block 5, and each operation takes the branch that PLATE_STATUS and the sweep name. -/
theorem plateEvents : Obligations.PlateEvents := by
  unfold Obligations.PlateEvents
  refine ⟨fun s m => ⟨fun passes unrefused => ?_, fun passes unrefused => ?_, fun passes unrefused => ?_,
      fun passes armed => ?_, fun passes unswept shadow => ?_,
      fun w passes => ⟨fun disarmed => ?_, fun armed unheld => ?_, fun armed held clears => ?_⟩⟩,
    fun s i live => ⟨fun opening _ _ unheld session => ?_, fun armed unheld reached => ?_,
      fun retiring drained unnamed => ?_, fun inflight => ?_, fun retires => ?_, fun aborts => ?_,
      fun retiring late => ?_, fun written past => ?_⟩⟩
  · exact does_of_eq (plateReg_of_unrefused unrefused) (does_plateCmdOpen passes)
  · exact does_of_eq (plateReg_of_unrefused unrefused) (does_plateCmdCommit passes)
  · exact does_of_eq (plateReg_of_unrefused unrefused) (does_plateCmdCommitAt passes)
  · exact does_of_eq (plateReg_of_unrefused (plateReason_disarm_of_armed armed)) (does_plateCmdDisarm passes)
  · exact does_of_eq (plateReg_of_unrefused (plateReason_abort_of_open unswept shadow)) (does_plateCmdAbort passes)
  · exact does_of_eq (plateAt1_of_disarmed _ disarmed) (does_plateAt1Write passes)
  · exact does_of_eq (plateAt1_of_armed _ armed unheld) (does_plateAt1Write passes)
  · exact does_of_eq (plateAt1_of_release _ armed held clears) (does_plateAt1Write passes)
  · exact does_of_eq (openDone_of_plain opening unheld session) (does_openSweepDone live)
  · exact does_of_eq (timedCommit_of_reached armed unheld reached) (does_timedCommitFire live)
  · exact does_of_eq (plateRetire_of_unused retiring drained unnamed) (does_plateRetire live)
  · exact does_of_eq (plateRetire_of_inflight inflight) (does_plateRetire live)
  · exact does_of_eq (retireDone_of_retiring retires) (does_retireSweepDone live)
  · exact does_of_eq (abortDone_of_aborting aborts) (does_abortSweepDone live)
  · exact does_of_eq (retireLimit_of_late retiring late) (does_retireLimitExpire live)
  · exact does_of_eq (fragExpire_of_past written past) (does_fragEntryExpire live i)

end Sys2Proof.Proofs
end

section
/-! PROOF. The SFI commands of plates and fragments (R127): a session that no other's shadow keeps out, and whose command no
cause of R113 refuses, gets its command's effect. -/

namespace Sys2Proof.Proofs

open Sys2Proof Sys2Proof.Machine Sys2Proof.Laws

/-! ## The table group's own checks (R127) -/

section TableGroup

variable {d : Dev} {rq : Sfi}

theorem tabCmd_of_unowned {ch : Nat} (owns : d.otherOwns ch = false) (k : Dev → Dev × Ans) : d.tabCmd ch k = k d :=
  if_neg (Bool.eq_false_iff.mp owns)

theorem plateSfi_of_unrefused {op : PlateOp} {target : Nat}
    (unrefused : d.plateReason op ((target : Int) - d.pt) (decide (d.pt + 512000000000 * 65536 < target)) = 0)
    (k : Dev → Dev × Ans) : d.plateSfi rq op target k = k d := if_pos unrefused

/-- A commit's target of 80 bits is one that R115 knows. -/
theorem plateCommitSfi_of_target {t : Nat} (inRange : t < 2 ^ 80)
    (unrefused : d.plateReason .commitAt ((t : Int) - d.pt) (decide (d.pt + 512000000000 * 65536 < t)) = 0) :
    (if 2 ^ 80 ≤ t then (d, .invalid) else d.plateSfi rq .commitAt t (fun d => d.plateCommitAt rq t)) =
      d.plateCommitAt rq t :=
  (if_neg (Nat.not_le.mpr inRange)).trans (plateSfi_of_unrefused unrefused _)

end TableGroup

/-! ## Commands: the operation on the device that the command starts from -/

section PlateCommands

variable {s : State} {rq : Sfi} {role : Nat}

/-- A command of the table group that a session may give is carried out as if no shadow had an owner. -/
theorem answers_of_owns {c : Instr} {op : Nat} {k : Dev → Dev × Ans} (owns : Owns s rq op)
    (answers : Answers c s rq op role (fun d => d.tabCmd rq.ch k)) : Answers c s rq op role k :=
  answers_of_eq (tabCmd_of_unowned owns k) answers

theorem answers_plateQuery (granted : Granted s rq 0x300 2 false role) :
    Answers (.plateQuery rq) s rq 0x300 role (fun d => d.tabCmd rq.ch (fun d => (d, .okW d.plateQuery))) :=
  granted_sfi granted _

theorem answers_plateOpen (granted : Granted s rq 0x301 2 false role) :
    Answers (.plateOpen rq) s rq 0x301 role
      (fun d => d.plateSfi rq .open_ 0 (fun d => (d.plateOpen (rq.ch + 1), .wait))) :=
  granted_sfi granted _

theorem answers_plateCommit (granted : Granted s rq 0x305 2 false role) :
    Answers (.plateCommit rq none) s rq 0x305 role
      (fun d => d.tabCmd rq.ch (fun d => d.plateSfi rq .commit 0 (fun d => (d.plateCommit, .ok)))) :=
  granted_sfi granted _

theorem answers_plateCommit_at (granted : Granted s rq 0x305 2 false role) (t : Nat) :
    Answers (.plateCommit rq (some t)) s rq 0x305 role
      (fun d => d.tabCmd rq.ch (fun d =>
        if 2 ^ 80 ≤ t then (d, .invalid) else d.plateSfi rq .commitAt t (fun d => d.plateCommitAt rq t))) :=
  granted_sfi granted _

theorem answers_plateAbort (granted : Granted s rq 0x306 2 false role) :
    Answers (.plateAbort rq) s rq 0x306 role
      (fun d => d.tabCmd rq.ch (fun d => d.plateSfi rq .abort 0 (fun d => (d.plateAbort, .ok)))) :=
  granted_sfi granted _

theorem answers_fragConfig (granted : Granted s rq 0x307 2 false role) (life : Nat) :
    Answers (.fragConfig rq life) s rq 0x307 role
      (fun d => d.tabCmd rq.ch (fun d => okIf (F.FRAG_CFG_FRAG_LIFE.ok life) d (d.cfg .FRAG_CFG 0 life))) :=
  granted_sfi granted _

theorem answers_plateDisarm (granted : Granted s rq 0x308 2 false role) :
    Answers (.plateDisarm rq) s rq 0x308 role
      (fun d => d.tabCmd rq.ch (fun d => d.plateSfi rq .disarm 0 (fun d => (d.plateDisarm 32, .ok)))) :=
  granted_sfi granted _

end PlateCommands

/-- Settles O8: an admitted command of the table group passes the check of the shadow's owner, then that of R113's causes, and
answers with its effect on the device it starts from. -/
theorem plateSfi : Obligations.PlateSfi := by
  unfold Obligations.PlateSfi
  refine fun s rq role => ⟨fun granted owns => ?_, fun granted unrefused => ?_,
    fun granted owns => ⟨fun unrefused => ?_, fun t inRange unrefused => ?_⟩, fun granted owns unrefused => ?_,
    fun life granted owns ok => ?_, fun granted owns unrefused => ?_⟩
  · exact answers_of_owns owns (answers_plateQuery granted)
  · exact answers_of_eq (plateSfi_of_unrefused unrefused _) (answers_plateOpen granted)
  · exact answers_of_eq (plateSfi_of_unrefused unrefused _) (answers_of_owns owns (answers_plateCommit granted))
  · exact answers_of_eq (plateCommitSfi_of_target inRange unrefused)
      (answers_of_owns owns (answers_plateCommit_at granted t))
  · exact answers_of_eq (plateSfi_of_unrefused unrefused _) (answers_of_owns owns (answers_plateAbort granted))
  · exact answers_of_eq (okIf_of_true ok _ _) (answers_of_owns owns (answers_fragConfig granted life))
  · exact answers_of_eq (plateSfi_of_unrefused unrefused _) (answers_of_owns owns (answers_plateDisarm granted))

end Sys2Proof.Proofs
end

section
/-! PROOF. The SFI commands that stage into the shadow (R112, R127, R162): profiles, rules, static FDB entries, groups, prefixes,
next hops. -/

namespace Sys2Proof.Proofs

open Sys2Proof Sys2Proof.Machine Sys2Proof.Laws

/-! ## Profiles and rules (R101, R127) -/

section Rules

variable {d : Dev} {prof : Nat}

/-- An enabled profile that meets none of the causes 3 to 5 of R113 is written as it stands. -/
theorem profileSet_of_legal {en : Bool} {table types groups : Nat} {slots : List KeySlot} (hprof : prof < 32)
    (htable : table < 8) (htypes : types < 65536) (hgroups : groups < 65536) (len : slots.length = 10)
    (inRange : ∀ x ∈ slots, x.1 < 256 ∧ x.2.1 < 128 ∧ x.2.2 < 256)
    (legal : en = true → keyBits slots ≤ 320 ∧ slots.all slotOk = true ∧ d.tableUse table prof < 4) :
    d.profileSet prof en table types groups slots =
      ((List.range 10).foldl (fun d k => let x := slots.getD k (0, 0, 0)
          d.cfg .PROF_SLOT (10 * prof + k) (x.1 + 256 * x.2.1 + 32768 * x.2.2))
        ((d.cfg .PROF_CFG prof (b2n en + 2 * table + 16 * types)).cfg .PROF_GRP prof groups), .ok) := by
  have narrow : ¬ slots.any (fun x => decide (256 ≤ x.1 ∨ 128 ≤ x.2.1 ∨ 256 ≤ x.2.2)) = true := by
    intro wide
    obtain ⟨x, hx, out⟩ := List.any_eq_true.mp wide
    have bounds := inRange x hx
    have beyond := of_decide_eq_true out
    omega
  have fits : ¬ (32 ≤ prof ∨ 8 ≤ table ∨ 65536 ≤ types ∨ 65536 ≤ groups ∨ slots.length ≠ 10 ∨
      slots.any (fun x => decide (256 ≤ x.1 ∨ 128 ≤ x.2.1 ∨ 256 ≤ x.2.2)) = true) := by
    simp only [narrow, Bool.false_eq_true, or_false]
    omega
  have key : ¬ (en ∧ 320 < keyBits slots) := by
    rintro ⟨on, long⟩
    obtain ⟨short, -, -⟩ := legal on
    exact Nat.not_lt.mpr short long
  have used : ¬ (en ∧ slots.all slotOk = false) := by
    rintro ⟨on, broken⟩
    obtain ⟨-, whole, -⟩ := legal on
    exact Bool.eq_false_iff.mp broken whole
  have shared : ¬ (en ∧ 4 ≤ d.tableUse table prof) := by
    rintro ⟨on, full⟩
    obtain ⟨-, -, room⟩ := legal on
    exact Nat.not_le.mpr room full
  unfold Dev.profileSet
  rw [if_neg fits, if_neg key, if_neg used, if_neg shared]

/-- What PROFILE_SET makes of `x`, with a stored profile carried to the peer die (R428). -/
def profileMirrored (prof : Nat) (x : Dev × Ans) : Dev × Ans := (if x.2.st = 0 then x.1.mirrorProf prof else x.1, x.2)

theorem profileMirrored_ok (d : Dev) (prof : Nat) : profileMirrored prof (d, .ok) = (d.mirrorProf prof, .ok) := rfl

theorem stageRule_of_place {key action : Nat} (hprof : prof < 32) (hkey : key < 2 ^ 320) (legal : actionOk action = true)
    (new : d.ruleFind (d.get F.PROF_CFG_TABLE prof) prof key d.shadowPlate = none) {d' : Dev} {i : Nat}
    (inserts : d.ruleInsert (d.get F.PROF_CFG_TABLE prof)
      { prof := prof, key := key, mask := 2 ^ d.shadowPlate, action := action } = (d', some i)) :
    d.stageRule prof key action = (d'.mirrorTbl (1 + i / 8192) (i % 8192), .ok) := by
  unfold Dev.stageRule
  simp only [hprof, hkey, legal, new, inserts, and_self, decide_true, Bool.and_self, Bool.not_true, Bool.false_eq_true,
    if_false, Option.isSome_none]

theorem unstageRule_of_found {key i : Nat} (hprof : prof < 32)
    (found : d.ruleFind (d.get F.PROF_CFG_TABLE prof) prof key d.shadowPlate = some i) :
    d.unstageRule prof key =
      ({ d with rules := d.rules.put i (if maskSet (d.rules.get i).mask d.shadowPlate false = 0 then default
          else { d.rules.get i with mask := maskSet (d.rules.get i).mask d.shadowPlate false }) }.mirrorTbl
            (1 + i / 8192) (i % 8192), .ok) := by
  unfold Dev.unstageRule
  simp only [if_pos hprof, found]

end Rules

/-! ## Static FDB entries (R137 to R140) -/

section Statics

variable {d : Dev} {mac fid : Nat}

/-- An insertion that finds a place is not refused. -/
theorem fdbPlace_of_place {e : Fdb} {port : Nat} {d' : Dev} {i : Nat} (inserts : d.fdbInsert e port = (d', some i)) :
    d.fdbPlace e port = (d', some i) := by
  unfold Dev.fdbPlace
  simp only [inserts]

theorem stageStatic_of_place {dtype dest : Nat} (legal : staticOk mac fid dtype dest = true)
    (new : d.shadowStatic mac fid = none) {d' : Dev} {i : Nat}
    (inserts : d.fdbInsert { (default : Fdb) with valid := true, isStatic := true, mac := mac, fid := fid, dtype := dtype,
                                                  dest := dest, mask := 2 ^ d.shadowPlate } 0 = (d', some i)) :
    d.stageStatic mac fid dtype dest = (d'.mirrorTbl 0 i, .ok) := by
  obtain ⟨bits, -⟩ := Bool.and_eq_true_iff.mp legal
  unfold Dev.stageStatic
  simp only [bits, new, fdbPlace_of_place inserts, Bool.not_true, Option.isSome_none, Bool.or_self, Bool.false_eq_true,
    if_false]

theorem unstageStatic_of_found {i : Nat} (found : d.shadowStatic mac fid = some i) :
    d.unstageStatic mac fid = (d.clearStatic i, .ok) := by
  unfold Dev.unstageStatic
  simp only [found]

end Statics

/-! ## Routes (R155) -/

section Routes

variable {d : Dev} {v6 : Bool} {pfx len : Nat}

/-- A new route takes the lowest free result entry of its family, where the family's trie holds its nodes. -/
theorem stageRoute_of_place {nh i : Nat} (hlen : len ≤ addrBits v6) (hpfx : pfx < 2 ^ addrBits v6) (hnh : nh < 8192)
    (new : d.routeFind v6 (cleanPfx v6 pfx len) len d.shadowPlate = none)
    (free : (List.range (routeMax v6)).find? (fun i => (d.routes.get (routeBase v6 + i)).mask == 0) = some i)
    (fits : trieFits v6 ({ pfx := cleanPfx v6 pfx len, len := len, mask := 2 ^ d.shadowPlate, nh := nh } ::
      (d.famRoutes v6).map Prod.snd) = true) :
    d.stageRoute v6 pfx len nh =
      (let r : Route := { pfx := cleanPfx v6 pfx len, len := len, mask := 2 ^ d.shadowPlate, nh := nh }
       { d with routes := d.routes.put (routeBase v6 + i) r }.mirrorTbl (if v6 then 11 else 10) i, .ok) := by
  have inRange : ¬ (addrBits v6 < len ∨ 2 ^ addrBits v6 ≤ pfx ∨ 8192 ≤ nh) := by omega
  unfold Dev.stageRoute
  simp only [if_neg inRange, new, free, fits, Option.isSome_none, Bool.false_eq_true, if_false, if_true]

theorem unstageRoute_of_found {k : Nat} (hlen : len ≤ addrBits v6)
    (found : d.routeFind v6 (cleanPfx v6 pfx len) len d.shadowPlate = some k) :
    d.unstageRoute v6 pfx len =
      ({ d with routes := d.routes.put k (if maskSet (d.routes.get k).mask d.shadowPlate false = 0 then default
          else { d.routes.get k with mask := maskSet (d.routes.get k).mask d.shadowPlate false }) }.mirrorTbl
            (if v6 then 11 else 10) (k - routeBase v6), .ok) := by
  unfold Dev.unstageRoute
  simp only [if_neg (Nat.not_lt.mpr hlen), found]

end Routes

/-! ## Commands: the staging on the device that the command starts from -/

section StageCommands

variable {s : State} {rq : Sfi} {role : Nat}

theorem stageCmd_of_accepting {d : Dev} {ch : Nat} (owns : d.otherOwns ch = false) (can : d.canStage = none)
    (k : Dev → Dev × Ans) : d.stageCmd ch k = k d := by
  unfold Dev.stageCmd
  rw [tabCmd_of_unowned owns, can]

/-- A command of a session that may stage is carried out on the open shadow. -/
theorem answers_of_stages {c : Instr} {op : Nat} {k : Dev → Dev × Ans} (stages : Stages s rq op)
    (answers : Answers c s rq op role (fun d => d.stageCmd rq.ch k)) : Answers c s rq op role k :=
  answers_of_eq (stageCmd_of_accepting stages.owns stages.can k) answers

theorem answers_profileSet (granted : Granted s rq 0x302 2 false role) (prof : Nat) (en : Bool)
    (table types groups : Nat) (slots : List KeySlot) :
    Answers (.profileSet rq prof en table types groups slots) s rq 0x302 role
      (fun d => d.stageCmd rq.ch (fun d => profileMirrored prof (d.profileSet prof en table types groups slots))) :=
  granted_sfi granted _

theorem answers_ruleAdd (granted : Granted s rq 0x303 2 false role) (prof key action : Nat) :
    Answers (.ruleAdd rq prof key action) s rq 0x303 role (fun d => d.stageCmd rq.ch (·.stageRule prof key action)) :=
  granted_sfi granted _

theorem answers_ruleDelete (granted : Granted s rq 0x304 2 false role) (prof key : Nat) :
    Answers (.ruleDelete rq prof key) s rq 0x304 role (fun d => d.stageCmd rq.ch (·.unstageRule prof key)) :=
  granted_sfi granted _

theorem answers_fdbStaticAdd (granted : Granted s rq 0x311 2 false role) (mac fid dtype dest : Nat) :
    Answers (.fdbStaticAdd rq mac fid dtype dest) s rq 0x311 role (fun d => d.stageCmd rq.ch (fun d =>
      if staticOk mac fid dtype dest then d.stageStatic mac fid dtype dest else (d, .invalid))) :=
  granted_sfi granted _

theorem answers_fdbStaticDelete (granted : Granted s rq 0x312 2 false role) (mac fid : Nat) :
    Answers (.fdbStaticDelete rq mac fid) s rq 0x312 role (fun d => d.stageCmd rq.ch (·.unstageStatic mac fid)) :=
  granted_sfi granted _

theorem answers_groupSet (granted : Granted s rq 0x317 2 false role) (group bitmap : Nat) :
    Answers (.groupSet rq group bitmap) s rq 0x317 role (fun d => d.stageCmd rq.ch (fun d =>
      okIf (decide (group < 16384) && groupOk bitmap) d (d.stageGroup group bitmap))) :=
  granted_sfi granted _

theorem answers_routeAdd (granted : Granted s rq 0x318 2 false role) (v6 : Bool) (pfx len nh : Nat) :
    Answers (.routeAdd rq v6 pfx len nh) s rq 0x318 role (fun d => d.stageCmd rq.ch (·.stageRoute v6 pfx len nh)) :=
  granted_sfi granted _

theorem answers_routeDelete (granted : Granted s rq 0x319 2 false role) (v6 : Bool) (pfx len : Nat) :
    Answers (.routeDelete rq v6 pfx len) s rq 0x319 role (fun d => d.stageCmd rq.ch (·.unstageRoute v6 pfx len)) :=
  granted_sfi granted _

theorem answers_nexthopSet (granted : Granted s rq 0x31A 2 false role) (index dtype dest : Nat) (edit : Option Nat) :
    Answers (.nexthopSet rq index dtype dest edit) s rq 0x31A role (fun d => d.stageCmd rq.ch (fun d =>
      okIf (decide (index < 8192 ∧ dtype < 4 ∧ dest < 16384 ∧ edit.getD 0 < 16384 ∧ (dtype = 0 → dest ≤ 260))) d
        (d.stageHop index (hopWord dtype dest edit)))) :=
  granted_sfi granted _

end StageCommands

/-- Settles O9: an admitted command of a session that may stage reaches its table, and on operands in range that find their entry,
or a place for it, it answers OK with the shadow's entry changed and mirrored. -/
theorem tableStaging : Obligations.TableStaging := by
  unfold Obligations.TableStaging
  refine ⟨fun s rq role prof => ⟨fun en table types groups slots granted stages hprof htable htypes hgroups len inRange
        legal => ?_,
      fun key action granted stages hprof hkey legal new d' i inserts => ?_,
      fun key granted stages hprof i found => ?_⟩,
    fun s rq role => ⟨fun mac fid dtype dest granted stages legal new d' i inserts => ?_,
      fun mac fid i granted stages found => ?_, fun group bitmap granted stages hgroup legal => ?_,
      fun v6 pfx len nh granted stages hlen hpfx hnh new i free fits => ?_,
      fun v6 pfx len k granted stages hlen found => ?_,
      fun index dtype dest edit granted stages hindex hdtype hdest hedit port => ?_⟩⟩
  · have stored := profileSet_of_legal hprof htable htypes hgroups len inRange legal
    exact answers_of_eq ((congrArg (profileMirrored prof) stored).trans (profileMirrored_ok _ _))
      (answers_of_stages stages (answers_profileSet granted prof en table types groups slots))
  · exact answers_of_eq (stageRule_of_place hprof hkey legal new inserts)
      (answers_of_stages stages (answers_ruleAdd granted prof key action))
  · exact answers_of_eq (unstageRule_of_found hprof found)
      (answers_of_stages stages (answers_ruleDelete granted prof key))
  · exact answers_of_eq ((if_pos legal).trans (stageStatic_of_place legal new inserts))
      (answers_of_stages stages (answers_fdbStaticAdd granted mac fid dtype dest))
  · exact answers_of_eq (unstageStatic_of_found found)
      (answers_of_stages stages (answers_fdbStaticDelete granted mac fid))
  · exact answers_of_eq (okIf_of_true (Bool.and_eq_true_iff.mpr ⟨decide_eq_true hgroup, legal⟩) _ _)
      (answers_of_stages stages (answers_groupSet granted group bitmap))
  · exact answers_of_eq (stageRoute_of_place hlen hpfx hnh new free fits)
      (answers_of_stages stages (answers_routeAdd granted v6 pfx len nh))
  · exact answers_of_eq (unstageRoute_of_found hlen found)
      (answers_of_stages stages (answers_routeDelete granted v6 pfx len))
  · exact answers_of_eq (okIf_of_true (decide_eq_true ⟨hindex, hdtype, hdest, hedit, port⟩) _ _)
      (answers_of_stages stages (answers_nexthopSet granted index dtype dest edit))

end Sys2Proof.Proofs
end

section
/-! PROOF. The SFI commands of the FDB, the VLAN table and the learn ring (R149, R162): what each answers to operands in range. -/

namespace Sys2Proof.Proofs

open Sys2Proof Sys2Proof.Machine Sys2Proof.Laws

/-! ## Flushes (R149) -/

section Flush

variable {d : Dev}

/-- With no sweep running, a flush begins at once with the specification that was given. -/
theorem flushStart_of_idle (idle : d.flushBusy = false) (spec : Nat) (sfi : Bool) :
    d.flushStart spec sfi = ({ d with flushRun := some (spec % 2 ^ 24 + 2 ^ 24 * b2n sfi) }.sweepBegin, true) := by
  unfold Dev.flushStart
  simp only [idle, Bool.not_false, if_true]

theorem fdbFlush_of_idle {port fid : Option Nat} (hport : port.getD 0 ≤ 260) (hfid : fid.getD 0 < 4096)
    (idle : d.flushBusy = false) (report : Bool) :
    d.fdbFlush port fid report =
      ((d.flushStart (port.getD 0 + 512 * fid.getD 0 + 2 ^ 21 * b2n port.isSome + 2 ^ 22 * b2n fid.isSome +
        2 ^ 23 * b2n report) true).1, .pending) := by
  have inRange : ¬ (260 < port.getD 0 ∨ 4096 ≤ fid.getD 0) := by omega
  unfold Dev.fdbFlush
  simp only [if_neg inRange, flushStart_of_idle idle]

end Flush

/-! ## VLAN_SET and LEARN_RING_SET (R133, R154) -/

section TableSet

variable {d : Dev}

/-- A VLAN_SET of mask 255 leaves no field of the old entry. -/
theorem vlanSet_of_all {vid : Nat} {x : VlanArgs} (hvid : vid < 4096) (hfid : x.fid < 4096) (hgroup : x.group < 16384)
    (huc : x.unkUc < 3) (hmc : x.unkMc < 3) :
    d.vlanSet vid 255 x =
      ({ d with vlans := d.vlans.put vid { valid := x.valid, fid := x.fid, group := x.group, memberAll := x.memberAll,
                                           filter := x.filter, learn := x.learn, unkUc := x.unkUc,
                                           unkMc := x.unkMc } }, .ok) := by
  have indices : vid < 4096 ∧ 255 < 256 := ⟨hvid, by decide⟩
  have legal : x.fid < 4096 ∧ x.group < 16384 ∧ x.unkUc < 3 ∧ x.unkMc < 3 := ⟨hfid, hgroup, huc, hmc⟩
  exact okIf_of_true (Bool.and_eq_true_iff.mpr ⟨decide_eq_true indices, decide_eq_true legal⟩) _ _

theorem learnRingSet_of_ok {fn base size mask : Nat} (en : Bool) (hfn : fn < 8) (hbase : base < 2 ^ 64)
    (aligned : base % 16 = 0) (hmask : mask < 65536) (hsize : F.LR_CFG_LR_SIZE.ok size = true)
    (granted : d.dmaOk fn base (16 * 2 ^ size) true = true) :
    d.learnRingSet fn base size mask en =
      ((((d.cfg .LR_BASE_LO 0 (base % 2 ^ 32)).cfg .LR_BASE_HI 0 (base / 2 ^ 32)).cfg .LR_CFG 0
        (b2n en + 2 * size + 32 * fn + 256 * mask)).lrSettle, .ok) := by
  have inRange : (decide (fn < 8 ∧ base < 2 ^ 64 ∧ base % 16 = 0 ∧ mask < 65536) && F.LR_CFG_LR_SIZE.ok size) = true :=
    Bool.and_eq_true_iff.mpr ⟨decide_eq_true ⟨hfn, hbase, aligned, hmask⟩, hsize⟩
  unfold Dev.learnRingSet
  simp only [inRange, granted, Bool.not_true, Bool.false_eq_true, if_false]

end TableSet

/-! ## Commands: the operation on the device that the command starts from -/

section FdbCommands

variable {s : State} {rq : Sfi} {role : Nat}

/-- FDB_QUERY of a range of places: its valid entries of the kind that the filter names (R162). -/
def fdbRange (d : Dev) (rq : Sfi) (start count filter : Nat) : Ans :=
  d.listing rq 0x310 4 ((d.fdb.filter (fun x => decide (start ≤ x.1 ∧ x.1 < start + count) && x.2.valid &&
    (filter == 0 || x.2.isStatic == (filter == 2)))).map (fun x => (x.1, fdbWords x.2 (d.bad 1 x.1))))

theorem answers_fdbQuery_range (granted : Granted s rq 0x310 0 false role) (start count filter : Nat) :
    Answers (.fdbQuery rq none start count filter) s rq 0x310 role (fun d => d.tabCmd rq.ch (fun d =>
      if 262144 < start + count ∨ 2 < filter then (d, .invalid) else (d, fdbRange d rq start count filter))) :=
  granted_sfi granted _

theorem answers_fdbFlush (granted : Granted s rq 0x313 1 false role) (port fid : Option Nat) (report : Bool) :
    Answers (.fdbFlush rq port fid report) s rq 0x313 role (fun d => d.tabCmd rq.ch (·.fdbFlush port fid report)) :=
  granted_sfi granted _

theorem answers_fdbConfig (granted : Granted s rq 0x314 2 false role) (age hold evict miss : Nat) :
    Answers (.fdbConfig rq age hold evict miss) s rq 0x314 role (fun d => d.tabCmd rq.ch (fun d =>
      okIf (F.FDB_CFG_AGE_TIME.ok age && F.FDB_CFG_MOVE_HOLD.ok hold && decide (evict < 2 ∧ miss < 2)) d
        ((((d.cfgF F.FDB_CFG_AGE_TIME 0 age).cfgF F.FDB_CFG_MOVE_HOLD 0 hold).cfgF F.FDB_CFG_EVICT_POLICY 0 evict).cfgF
          F.FDB_CFG_ROUTE_MISS_ACT 0 miss))) :=
  granted_sfi granted _

theorem answers_portLearnSet (granted : Granted s rq 0x315 2 false role) (port : Nat) (learn flush : Bool) (as : Nat) :
    Answers (.portLearnSet rq port learn flush as) s rq 0x315 role (fun d => d.tabCmd rq.ch (fun d =>
      okIf (decide (port < 256) && F.FDB_PORT_CFG_LEARN_AS.ok as) d
        (d.cfg .FDB_PORT_CFG port (b2n learn + 2 * b2n flush + 4 * as)))) :=
  granted_sfi granted _

theorem answers_vlanSet (granted : Granted s rq 0x316 2 false role) (vid mask : Nat) (x : VlanArgs) :
    Answers (.vlanSet rq vid mask x) s rq 0x316 role (fun d => d.tabCmd rq.ch (·.vlanSet vid mask x)) :=
  granted_sfi granted _

theorem answers_learnRingSet (granted : Granted s rq 0x31B 1 false role) (fn base size mask : Nat) (en : Bool) :
    Answers (.learnRingSet rq fn base size mask en) s rq 0x31B role
      (fun d => d.tabCmd rq.ch (·.learnRingSet fn base size mask en)) :=
  granted_sfi granted _

end FdbCommands

/-- Settles O10: an admitted command that no other session's shadow keeps out takes operands in range, and answers with its
table, its registers or its flush changed; the query lists and changes nothing. -/
theorem tableSfi : Obligations.TableSfi := by
  unfold Obligations.TableSfi
  refine fun s rq role => ⟨fun start count filter granted owns places kinds => ?_,
    fun port fid report granted owns hport hfid idle => ?_,
    fun age hold evict miss granted owns hage hhold hevict hmiss => ?_,
    fun port learn flush as granted owns hport has => ?_,
    fun vid x granted owns hvid hfid hgroup huc hmc => ?_,
    fun fn base size mask en granted owns hfn hbase aligned hmask hsize allowed => ?_⟩
  · have inRange : ¬ (262144 < start + count ∨ 2 < filter) := by omega
    exact answers_of_eq (if_neg inRange) (answers_of_owns owns (answers_fdbQuery_range granted start count filter))
  · exact answers_of_eq (fdbFlush_of_idle hport hfid idle report)
      (answers_of_owns owns (answers_fdbFlush granted port fid report))
  · have inRange : (F.FDB_CFG_AGE_TIME.ok age && F.FDB_CFG_MOVE_HOLD.ok hold && decide (evict < 2 ∧ miss < 2)) = true := by
      simp only [hage, hhold, hevict, hmiss, and_self, decide_true, Bool.and_self]
    refine answers_of_eq ?_ (answers_of_owns owns (answers_fdbConfig granted age hold evict miss))
    exact okIf_of_true inRange _ _
  · exact answers_of_eq (okIf_of_true (Bool.and_eq_true_iff.mpr ⟨decide_eq_true hport, has⟩) _ _)
      (answers_of_owns owns (answers_portLearnSet granted port learn flush as))
  · exact answers_of_eq (vlanSet_of_all hvid hfid hgroup huc hmc)
      (answers_of_owns owns (answers_vlanSet granted vid 255 x))
  · exact answers_of_eq (learnRingSet_of_ok en hfn hbase aligned hmask hsize allowed)
      (answers_of_owns owns (answers_learnRingSet granted fn base size mask en))

end Sys2Proof.Proofs
end

section
/-! PROOF. Indirect table access (R160, R161), the learn engine, the ager, the flush sweeps and the learn ring (R144, R147, R149,
R153): what each does in the branches that its command can meet. -/

namespace Sys2Proof.Proofs

open Sys2Proof Sys2Proof.Machine Sys2Proof.Laws

/-! ## Indirect access (R160, R161) -/

/-- What a command of a TABLES context makes of the table and the place in TBL_SEL. -/
def indirectAccess (d : Dev) (c w : Nat) : IndRes :=
  let id := d.get F.TBL_SEL_TBL_ID c
  let i := d.get F.TBL_SEL_INDEX c
  let ws := d.dataWords .TBL_DATA (16 * c) 16
  if w = 1 then d.tblRead c id i
  else if w = 2 then d.tblWrite id i ws
  else if w = 4 then d.tblLookup id ws
  else if w = 8 then d.tblInsert id ws
  else if w = 16 then d.tblDelete id ws
  else (d, 3, i)

section Indirect

variable {d : Dev} {c : Nat}

/-- A command of an idle context, on an entry that its table has and the data path has not met in this cycle (R152), is carried
out, and its outcome waits behind BUSY. -/
theorem tblCmd_of_ready {w : Nat} (ready : d.on F.TBL_STATUS_BUSY c = false ∧ d.tblMeets c w = false ∧
      tblSize (d.get F.TBL_SEL_TBL_ID c) ≠ 0 ∧ d.get F.TBL_SEL_INDEX c < tblSize (d.get F.TBL_SEL_TBL_ID c)) :
    d.tblCmd c w = d.tblShow c (indirectAccess d c w) := by
  obtain ⟨idle, apart, known, inside⟩ := ready
  unfold Dev.tblCmd indirectAccess
  simp only [idle, apart, if_neg known, if_neg (Nat.not_le.mpr inside), Bool.false_eq_true, if_false]
  by_cases read : w = 1
  · simp only [read, true_or, if_true]
  · simp only [read, false_or, if_false]

/-- The access done, its outcome is the status word, with BUSY clear. -/
theorem indDone_of_waiting {blk : Nat} (waits : d.tblRes.get (2 * blk + c) ≠ 0) :
    d.indDone blk c =
      { d with tblRes := d.tblRes.put (2 * blk + c) 0 }.setReg (indStatus blk) c (d.tblRes.get (2 * blk + c) - 1) :=
  if_neg waits

end Indirect

/-! ## The learn engine and the ager (R144, R147) -/

section Learning

variable {d : Dev}

theorem learnProcess_of_request {r : LearnReq} {q : List LearnReq} (head : d.learnQ.get d.learnPipe = r :: q) :
    d.learnProcess = { d with learnQ := d.learnQ.put d.learnPipe q }.learn r := by
  unfold Dev.learnProcess
  simp only [head]

/-- While a plate retires no static entry supersedes a learned one: the ager only counts the entry's age. -/
theorem agerVisit_of_retiring {i : Nat} (sound : d.bad 1 i = false) (valid : (d.fdb.get i).valid = true)
    (learned : (d.fdb.get i).isStatic = false) (unrefreshed : d.freshNow.fresh.any (fun x => x.1 == i) = false)
    (retiring : d.on F.PLATE_STATUS_RETIRING = true) :
    d.agerVisit i =
      if d.get F.FDB_CFG_AGE_TIME ≠ 0 ∧ (d.fdb.get i).age = 4 then
        (d.fdbCnt 2).fdbRemove i 3 0 (d.fdb.get i).lstamp true
      else d.fdbEngine i { d.fdb.get i with age := min ((d.fdb.get i).age + 1) 7 } := by
  unfold Dev.agerVisit
  simp only [sound, valid, learned, unrefreshed, retiring, Bool.and_false, Bool.not_true, Bool.or_self, Bool.false_eq_true,
    if_false, if_true]

end Learning

/-! ## Flush sweeps (R149) -/

section Sweeps

variable {d : Dev}

theorem downStart_of_waiting (idle : d.flushBusy = false) (waits : d.downSet ≠ []) :
    d.downStart = { d with downRun := d.downSet, downSet := [] }.sweepBegin := by
  unfold Dev.downStart
  simp [idle, waits]

theorem sweepDone_of_down (down : (d.sweepVisit 262144).downRun ≠ []) :
    d.sweepDone = { d.sweepVisit 262144 with downRun := [] }.nextSweep := by
  unfold Dev.sweepDone
  simp [down]

/-- The sweep of a FLUSH_START, which no SFI command waits for, is recorded when it ends. -/
theorem sweepDone_of_flush {v : Nat} (noDown : (d.sweepVisit 262144).downRun = [])
    (runs : (d.sweepVisit 262144).flushRun = some v) (unawaited : v < 2 ^ 24) :
    d.sweepDone =
      { ((d.sweepVisit 262144).raise F.FDB_EVENT_FLUSH_DONE).fdbRec 0 0x050F 1 (d.sweepVisit 262144).flushCnt 0 0 0 with
        flushRun := none }.nextSweep := by
  unfold Dev.sweepDone
  simp only [noDown, runs, if_neg (Nat.not_le.mpr unawaited), List.isEmpty_nil, Bool.not_true, Bool.false_eq_true, if_false]

end Sweeps

/-! ## Commands: the operation on the device that the command finds -/

section FdbWrites

variable {s : State} {m : Fin 32}

theorem does_tblRead {c : Fin 2} (passes : Writes s m .TBL_CMD c 1) :
    Does (.tblRead m c) s ((s.passed m .TBL_CMD c 1).tblCmd c 1) := writes_act passes (fun d _ => d.tblCmd c 1)

theorem does_tblWrite {c : Fin 2} (passes : Writes s m .TBL_CMD c 2) :
    Does (.tblWrite m c) s ((s.passed m .TBL_CMD c 2).tblCmd c 2) := writes_act passes (fun d _ => d.tblCmd c 2)

theorem does_tblLookup {c : Fin 2} (passes : Writes s m .TBL_CMD c 4) :
    Does (.tblLookup m c) s ((s.passed m .TBL_CMD c 4).tblCmd c 4) := writes_act passes (fun d _ => d.tblCmd c 4)

theorem does_tblInsert {c : Fin 2} (passes : Writes s m .TBL_CMD c 8) :
    Does (.tblInsert m c) s ((s.passed m .TBL_CMD c 8).tblCmd c 8) := writes_act passes (fun d _ => d.tblCmd c 8)

theorem does_tblDelete {c : Fin 2} (passes : Writes s m .TBL_CMD c 16) :
    Does (.tblDelete m c) s ((s.passed m .TBL_CMD c 16).tblCmd c 16) := writes_act passes (fun d _ => d.tblCmd c 16)

theorem does_flushStart (passes : Writes s m .FDB_CMD 0 1) :
    Does (.flushStart m) s
      ((s.passed m .FDB_CMD 0 1).flushStart ((s.passed m .FDB_CMD 0 1).reg .FDB_FLUSH_SPEC) false).1 :=
  writes_act passes (fun d _ => (d.flushStart (d.reg .FDB_FLUSH_SPEC) false).1)

theorem does_lrConsWrite {w : Word} (passes : Writes s m .LR_CONS 0 w.toNat) :
    Does (.lrConsWrite m w) s ((s.passed m .LR_CONS 0 w.toNat).lrCons w.toNat) :=
  writes_act passes (fun d w => d.lrCons w)

end FdbWrites

section FdbEvents

variable {s : State} (live : s.live)
include live

theorem does_indirectAccessDone (blk : Fin 3) (c : Fin 2) :
    Does (.indirectAccessDone blk c) s
      ((s.due (untied (if blk.val = 0 then 5 else if blk.val = 1 then 6 else 8) 3)).indDone blk c) :=
  live_later live _ 3 (·.indDone blk c)

theorem does_learnRequestProcess : Does .learnRequestProcess s (s.due (untied 5 0)).learnProcess :=
  live_later live 5 0 (·.learnProcess)

theorem does_downFlushSweepStart : Does .downFlushSweepStart s (s.due (untied 5 0)).downStart :=
  live_later live 5 0 (·.downStart)

theorem does_agerVisit (i : Fin 262144) (us : List Upset) :
    Does (.agerVisit i us) s (((s.due (untied 5 1)).upset us).agerVisit i) :=
  live_later live 5 1 (fun d => (d.upset us).agerVisit i)

theorem does_flushSweepDone : Does .flushSweepDone s (s.due (untied 5 2)).sweepDone := live_later live 5 2 (·.sweepDone)

end FdbEvents

/-- Settles O11: a write that is let through reaches its operation, the engines find the device at their place in block 5, and each
operation takes the branch that the context, the entry's age, or the sweep under way names. -/
theorem fdbEngines : Obligations.FdbEngines := by
  unfold Obligations.FdbEngines
  refine ⟨fun s m c => ⟨⟨fun ⟨passes, ready⟩ => ?_, fun ⟨passes, ready⟩ => ?_, fun ⟨passes, ready⟩ => ?_,
      fun ⟨passes, ready⟩ => ?_, fun ⟨passes, ready⟩ => ?_⟩, fun blk live waits => ?_⟩,
    fun s m live => ⟨⟨fun r q head => ?_, fun idle waits => ?_⟩,
      fun i us sound valid learned unrefreshed retiring => ⟨fun ages old => ?_, fun young => ?_⟩,
      fun passes idle => ?_, ⟨fun down => ?_, fun noDown v runs unawaited => ?_⟩, fun w passes => ?_⟩⟩
  · exact does_of_eq (tblCmd_of_ready ready) (does_tblRead passes)
  · exact does_of_eq (tblCmd_of_ready ready) (does_tblWrite passes)
  · exact does_of_eq (tblCmd_of_ready ready) (does_tblLookup passes)
  · exact does_of_eq (tblCmd_of_ready ready) (does_tblInsert passes)
  · exact does_of_eq (tblCmd_of_ready ready) (does_tblDelete passes)
  · exact does_of_eq (indDone_of_waiting waits) (does_indirectAccessDone live blk c)
  · exact does_of_eq (learnProcess_of_request head) (does_learnRequestProcess live)
  · exact does_of_eq (downStart_of_waiting idle waits) (does_downFlushSweepStart live)
  · exact does_of_eq ((agerVisit_of_retiring sound valid learned unrefreshed retiring).trans (if_pos ⟨ages, old⟩))
      (does_agerVisit live i us)
  · have unexpired := agerVisit_of_retiring sound valid learned unrefreshed retiring
    exact does_of_eq (unexpired.trans (if_neg (fun ⟨_, old⟩ => young old))) (does_agerVisit live i us)
  · exact does_of_eq (congrArg Prod.fst (flushStart_of_idle idle _ false)) (does_flushStart passes)
  · exact does_of_eq (sweepDone_of_down down) (does_flushSweepDone live)
  · exact does_of_eq (sweepDone_of_flush noDown runs unawaited) (does_flushSweepDone live)
  · exact does_lrConsWrite passes

end Sys2Proof.Proofs
end

section
/-! PROOF. Streams: indirect access, silence and rate supervision, forgotten sources (R174, R175, R179, R192), admission and
withdrawal (R166 to R169, R184, R185): what each operation does in the branches that its command can meet. -/

namespace Sys2Proof.Proofs

open Sys2Proof Sys2Proof.Machine Sys2Proof.Laws

/-! ## Mirror messages leave the fabric alone (R428) -/

theorem mirror_fabric (d : Dev) (same : Bool) (m : List Nat) : (d.mirror same m).fabric = d.fabric := by
  unfold Dev.mirror
  split
  · rfl
  · split
    · rfl
    · split
      · rfl
      · rw [record_fabric, raise_fabric, set_fabric]
        rfl

theorem mirrorExpr_fabric (d : Dev) (ks : List Nat) : (d.mirrorExpr ks).fabric = d.fabric :=
  foldl_fabric _ (fun d _ => mirror_fabric d _ _) ks d

theorem mirrorExpr_owner (d : Dev) (ks : List Nat) : (d.mirrorExpr ks).owner = d.owner :=
  congrArg (fun x => x.1.owner) (mirrorExpr_fabric d ks)

/-! ## Indirect access (R192) -/

/-- A command of an idle context is carried out at once, and its RESULT waits behind BUSY. -/
theorem sacCmd_of_idle {d : Dev} {c : Nat} (idle : d.on F.SAC_STATUS_BUSY c = false) (write : Bool) :
    d.sacCmd c write =
      (let r := d.sacAccess c write
       { r.1 with tblRes := r.1.tblRes.put (2 + c) (1 + 2 * r.2) }.set F.SAC_STATUS_BUSY c 1) :=
  if_neg (Bool.eq_false_iff.mp idle)

/-! ## What time does to streams and sources (R174, R175, R179) -/

section Supervision

variable {d : Dev} {st i : Nat}

theorem ddForget_of_unused (used : (d.dd.get i).used = true) (unused : d.ddUsed i = false) :
    d.ddForget i = { d with dd := d.dd.put i default }.mirrorSac 4 i := by
  unfold Dev.ddForget
  simp only [used, unused, Bool.not_false, Bool.and_self, if_true]

theorem ddForget_of_used (used : d.ddUsed i = true) : d.ddForget i = d := by
  unfold Dev.ddForget
  simp only [used, Bool.not_true, Bool.and_false, Bool.false_eq_true, if_false]

/-- A supervised stream that is not silent yet falls silent at its deadline. -/
theorem silence_of_reached (valid : (d.streams.get st).valid = true) (typed : (d.streams.get st).type ≠ 0)
    (opened : d.ingressOpen = true) (enabled : d.on F.STREAM_CTRL_SUPV_EN = true)
    (timed : (d.streams.get st).deadline ≠ 0) (heard : (d.streams.get st).silent = false)
    (reached : (d.streams.get st).deadline ≤ d.ptNs) :
    d.silence st =
      ((((d.streamPut st { d.streams.get st with silent := true }).sstat st 5).raise F.STREAM_EVENT_SILENCE).anomaly st 4).1 := by
  unfold Dev.silence
  simp only [valid, bne_iff_ne.mpr typed, opened, enabled, bne_iff_ne.mpr timed, heard, decide_eq_true reached, Bool.not_false,
    Bool.and_self, if_true]

theorem silence_of_before (before : d.ptNs < (d.streams.get st).deadline) : d.silence st = d := by
  unfold Dev.silence
  simp only [decide_eq_false (Nat.not_le.mpr before), Bool.and_false, Bool.false_eq_true, if_false]

/-- At a second boundary a supervised SV stream's count begins anew, and a count off its rate is an anomaly. -/
theorem rateCheck_of_supervised (valid : (d.streams.get st).valid = true)
    (sampled : (d.streams.get st).type = 2 ∨ (d.streams.get st).type = 4) (opened : d.ingressOpen = true)
    (enabled : d.on F.STREAM_CTRL_SUPV_EN = true) :
    d.rateCheck st =
      if (d.streams.get st).seen + (d.streams.get st).rateTol < (d.streams.get st).smpRate ∨
          (d.streams.get st).smpRate + (d.streams.get st).rateTol < (d.streams.get st).seen then
        ((d.streamPut st { d.streams.get st with seen := 0 }).anomaly st 5).1
      else d.streamPut st { d.streams.get st with seen := 0 } := by
  have sv : ((d.streams.get st).type == 2 || (d.streams.get st).type == 4) = true := by
    simpa only [Bool.or_eq_true, beq_iff_eq] using sampled
  unfold Dev.rateCheck
  simp only [valid, sv, opened, enabled, Bool.and_self, if_true, decide_eq_true_eq]

end Supervision

/-! ## Admission and withdrawal (R166 to R169, R184, R185) -/

/-- What the Prompter keeps of a session's admission or withdrawal until its plate commits. -/
def admitOf (rq : Sfi) (st : Nat) (isAdmit : Bool) : Admit :=
  { id := rq.tag.val, stream := st, isAdmit := isAdmit, owner := rq.ch + 1, ch := rq.ch.val, tag := rq.tag.val }

/-- A plate of its own is opened for an admission or withdrawal, which waits for its commit (R166). -/
def plateFor (d : Dev) (a : Admit) : Dev :=
  { d with autoPlate := 1 + a.id, admits := d.admits ++ [a] }.plateOpen 33

/-- The stream takes the burin path: it asks for it, and R185 lets it. -/
def takesBurin (d : Dev) (x : AdmitArgs) : Bool := x.express != 0 && d.burinOk x

/-- The express entries that the stream takes (R184). -/
def burinIngs (d : Dev) (x : AdmitArgs) : List (Nat × Nat) := if takesBurin d x then exprIngs x.ing else []

/-- The group that the stream takes: a stream of at most one egress port takes none (`some none`); with no group free there is no
answer (`none`). -/
def admitGroup (d : Dev) (x : AdmitArgs) : Option (Option Nat) :=
  if x.egress.length ≤ 1 then some none else d.freeGroup.map some

/-- No condition refuses the admission (R127, R167 to R169, R179, R185); `st`, `places` and `group` are the entry, the express
places and the group that it then takes (R166, R184). -/
structure Admits (d : Dev) (ch : Nat) (x : AdmitArgs) (st : Nat) (places : List (Nat × Nat)) (group : Option Nat) : Prop where
  unbusy : d.admitBusy ch = none
  unkeyed : x.hmac = false
  legal : d.admitArgsOk x = true
  express : x.express = 2 → takesBurin d x = true
  share : x.tc = 7 → x.egress.all (fun p => d.admitFits p (max 1 (burinIngs d x).length) x) = true
  entry : (List.range 16384).find? (fun i => !(d.streams.get i).valid) = some st
  places : d.exprPlaces (burinIngs d x) = some places
  group : admitGroup d x = some group
  source : x.cb = true → (d.ddAlloc true st default).2.isSome = true

section Admission

variable {d : Dev} {rq : Sfi} {st : Nat}

theorem admitGo_of_unowned {a : Admit} (unowned : d.owner ≠ a.owner) :
    d.admitGo a = (plateFor d a, .pending [a.stream]) := if_neg unowned

/-- A request that no condition refuses writes its entry and goes to a plate. -/
theorem streamAdmit_of_admits {x : AdmitArgs} {places : List (Nat × Nat)} {group : Option Nat}
    (admits : Admits d rq.ch x st places group) :
    d.streamAdmit rq x = (d.admitWrite st x group places).admitGo (admitOf rq st true) := by
  obtain ⟨unbusy, unkeyed, legal, express, share, entry, hplaces, hgroup, source⟩ := admits
  have sourced : (x.cb && (d.ddAlloc true st default).2.isNone) = false := by
    simp only [Bool.and_eq_false_imp, Option.isNone_eq_false_iff]
    exact source
  have permitted : ((x.express == 2 && !takesBurin d x) ||
      (x.tc == 7 && !x.egress.all (fun p => d.admitFits p (max 1 (burinIngs d x).length) x))) = false := by
    simp only [Bool.or_eq_false_iff, Bool.and_eq_false_imp, beq_iff_eq, Bool.not_eq_false']
    exact ⟨express, share⟩
  unfold burinIngs takesBurin at permitted hplaces
  unfold admitGroup at hgroup
  unfold Dev.streamAdmit
  simp only [unbusy, unkeyed, legal, entry, hplaces, hgroup, sourced, permitted, Bool.not_true, Bool.false_eq_true, if_false]
  rfl

/-- The device with the stream's express entries marked to leave the matcher with the commit. -/
def exprLeaving (d : Dev) (st : Nat) : Dev :=
  let ex : Tbl Expr := d.express.map (fun e => (e.1, if e.2.stream = st then { e.2 with leaving := true } else e.2))
  { d with express := ex }.mirrorExpr ((ex.filter (fun (e : Nat × Expr) => e.2.stream == st)).map Prod.fst : List Nat)

theorem exprLeaving_owner (d : Dev) (st : Nat) : (exprLeaving d st).owner = d.owner := mirrorExpr_owner _ _

/-- A stream whose admission is over, and that does not leave yet, goes to a plate that withdraws it. -/
theorem withdraw_of_admitted (unbusy : d.admitBusy rq.ch = none) (inside : st < 16384)
    (valid : (d.streams.get st).valid = true) (stays : (d.streams.get st).leaving = false)
    (settled : d.admits.any (fun a => a.stream == st) = false) :
    d.withdraw rq st = (exprLeaving d st).admitGo (admitOf rq st false) := by
  have admitted : ¬ (16384 ≤ st ∨ (d.streams.get st).valid = false ∨ (d.streams.get st).leaving = true ∨
      d.admits.any (fun a => a.stream == st) = true) := by
    simp [inside, valid, stays, settled]
  unfold Dev.withdraw
  simp only [unbusy, if_neg admitted]
  rfl

end Admission

/-! ## Commands: the operation on the device that the command finds, or starts from -/

section StreamWrites

variable {s : State} {m : Fin 32} {c : Fin 2}

theorem does_sacRead (passes : Writes s m .SAC_CMD c 1) :
    Does (.sacRead m c) s ((s.passed m .SAC_CMD c 1).sacCmd c false) := writes_act passes (fun d _ => d.sacCmd c false)

theorem does_sacWrite (passes : Writes s m .SAC_CMD c 2) :
    Does (.sacWrite m c) s ((s.passed m .SAC_CMD c 2).sacCmd c true) := writes_act passes (fun d _ => d.sacCmd c true)

end StreamWrites

section StreamMoments

variable {s : State} (live : s.live)
include live

theorem does_ddSourceForget (i : Fin 65536) : Does (.ddSourceForget i) s ((s.due (untied 6 0)).ddForget i) :=
  live_later live 6 0 (·.ddForget i)

theorem does_silenceDeadline (st : Fin 16384) : Does (.silenceDeadline st) s ((s.due (untied 6 0)).silence st) :=
  live_later live 6 0 (·.silence st)

theorem does_smpRateCheck (st : Fin 16384) : Does (.smpRateCheck st) s ((s.due (untied 6 0)).rateCheck st) :=
  live_later live 6 0 (·.rateCheck st)

end StreamMoments

section Admissions

variable {s : State} {rq : Sfi} {role : Nat}

theorem answers_streamAdmit (granted : Granted s rq 0x400 2 false role) (x : AdmitArgs) :
    Answers (.streamAdmit rq x) s rq 0x400 role (fun d => d.streamAdmit rq x) :=
  granted_sfi granted (fun d _ => d.streamAdmit rq x)

theorem answers_streamWithdraw (granted : Granted s rq 0x401 2 false role) (st : Nat) :
    Answers (.streamWithdraw rq st) s rq 0x401 role (fun d => d.withdraw rq st) :=
  granted_sfi granted (fun d _ => d.withdraw rq st)

end Admissions

/-- Settles O12: indirect accesses reach their operation on an idle context, the moments of block 6 find the stream or source that
their branch names, and an admission or withdrawal that nothing refuses goes to a plate of its own, the shadow being no one's. -/
theorem streamEvents : Obligations.StreamEvents := by
  unfold Obligations.StreamEvents
  refine ⟨fun s m c st i => ⟨fun passes idle => ?_, fun passes idle => ?_,
      fun live => ⟨fun used unused => ?_, fun used => ?_⟩,
      fun live => ⟨fun valid typed opened enabled timed heard reached => ?_, fun before => ?_,
        fun valid sampled opened enabled => ⟨fun off => ?_, fun low high => ?_⟩⟩⟩,
    fun s rq role => ⟨fun x granted unbusy unkeyed legal express share st places group entry hplaces hgroup source unowned => ?_,
      fun st granted unbusy inside valid stays settled unowned => ?_⟩⟩
  · exact does_of_eq (sacCmd_of_idle idle false) (does_sacRead passes)
  · exact does_of_eq (sacCmd_of_idle idle true) (does_sacWrite passes)
  · exact does_of_eq (ddForget_of_unused used unused) (does_ddSourceForget live i)
  · exact does_of_eq (ddForget_of_used used) (does_ddSourceForget live i)
  · exact does_of_eq (silence_of_reached valid typed opened enabled timed heard reached) (does_silenceDeadline live st)
  · exact does_of_eq (silence_of_before before) (does_silenceDeadline live st)
  · exact does_of_eq ((rateCheck_of_supervised valid sampled opened enabled).trans (if_pos off)) (does_smpRateCheck live st)
  · have inRate := not_or.mpr ⟨Nat.not_lt.mpr low, Nat.not_lt.mpr high⟩
    exact does_of_eq ((rateCheck_of_supervised valid sampled opened enabled).trans (if_neg inRate)) (does_smpRateCheck live st)
  · have admits : Admits (s.start rq 0x400) rq.ch x st places group :=
      { unbusy, unkeyed, legal, express, share, entry, places := hplaces, group := hgroup, source }
    exact answers_of_eq ((streamAdmit_of_admits admits).trans (admitGo_of_unowned unowned)) (answers_streamAdmit granted x)
  · have released : (exprLeaving (s.start rq 0x401) st).owner ≠ rq.ch + 1 := by
      rw [exprLeaving_owner]
      exact unowned
    exact answers_of_eq ((withdraw_of_admitted unbusy inside valid stays settled).trans (admitGo_of_unowned released))
      (answers_streamWithdraw granted st)

end Sys2Proof.Proofs
end

section
/-! PROOF. The other SFI commands of the stream group (R178, R180, R191): the values that each takes, and what it answers to
them. -/

namespace Sys2Proof.Proofs

open Sys2Proof Sys2Proof.Machine Sys2Proof.Laws

/-! ## STREAM_ACTIONS and STREAM_LIMITS (R169, R191) -/

section StreamSet

variable {d : Dev}

theorem streamActions_of_ok {st acts : Nat} (rec : Bool) (inside : st < 16384) (hacts : acts < 2 ^ 14)
    (valid : (d.streams.get st).valid = true) (known : ∀ k < 7, acts / 4 ^ k % 4 < 3) :
    d.streamActions st acts rec =
      ({ d with streams := d.streams.put st { d.streams.get st with acts := acts, stateRec := rec } }.mirrorSac 0 st, .ok) := by
  have actions : (List.range 7).all (fun k => decide (acts / 4 ^ k % 4 < 3)) = true :=
    List.all_eq_true.mpr fun k hk => decide_eq_true (known k (List.mem_range.mp hk))
  refine okIf_of_true ?_ _ _
  rw [decide_eq_true ⟨inside, hacts⟩, valid, actions]
  rfl

/-- A share that every port with an admitted TRIP stream bears (R169) is taken, and every bound is checked against it. -/
theorem streamLimits_of_fits {share : Nat} (hshare : F.STREAM_CTRL_TC7_SHARE.ok share = true)
    (fits : ∀ p < 256, (d.tripStreams p).isEmpty = true ∨ d.tripFits p (kbps (d.lowSpeed p)) share = true) :
    d.streamLimits share = ((d.cfgF F.STREAM_CTRL_TC7_SHARE 0 share).checkAllBounds, .ok) := by
  have borne : (List.range 256).any
      (fun p => !(d.tripStreams p).isEmpty && !d.tripFits p (kbps (d.lowSpeed p)) share) = false :=
    List.any_eq_false.mpr fun p hp => by
      simp only [Bool.and_eq_true, Bool.not_eq_true', not_and, Bool.not_eq_false]
      exact fun used => (fits p (List.mem_range.mp hp)).resolve_left (Bool.eq_false_iff.mp used)
  unfold Dev.streamLimits
  simp only [hshare, borne, Bool.not_true, Bool.false_eq_true, if_false]

end StreamSet

/-! ## Commands: the operation on the device that the command starts from -/

section StreamCommands

variable {s : State} {rq : Sfi} {role : Nat}

/-- STREAM_QUERY of an entry: its words from word START on, as many as fit (R350; log entry 115). -/
def streamListing (d : Dev) (rq : Sfi) (st start : Nat) : Ans :=
  d.listing rq 0x402 1 (((d.streamQuery st).zipIdx.map (fun w => (w.2, [w.1]))).drop start)

theorem answers_streamQuery (granted : Granted s rq 0x402 0 false role) (st start : Nat) :
    Answers (.streamQuery rq st start) s rq 0x402 role (fun d =>
      if st < 16384 ∧ (d.streams.get st).valid then (d, streamListing d rq st start) else (d, .invalid)) :=
  granted_sfi granted _

theorem answers_streamActions (granted : Granted s rq 0x403 1 false role) (st acts : Nat) (rec : Bool) :
    Answers (.streamActions rq st acts rec) s rq 0x403 role (fun d => d.streamActions st acts rec) :=
  granted_sfi granted (fun d _ => d.streamActions st acts rec)

theorem answers_rpairSet (granted : Granted s rq 0x404 2 false role) (k mode a b : Nat) (inter : Option Nat) (quad : Bool)
    (peer : Nat) :
    Answers (.rpairSet rq k mode a b inter quad peer) s rq 0x404 role (fun d =>
      d.rpairSet k { mode := mode, a := a, b := b, inter := inter.getD 511, quad := quad, peer := peer }) :=
  granted_sfi granted _

theorem answers_ddConfig (granted : Granted s rq 0x405 2 false role) (forget : Nat) :
    Answers (.ddConfig rq forget) s rq 0x405 role (fun d =>
      okIf (F.STREAM_CTRL_DD_FORGET.ok forget) d (d.cfgF F.STREAM_CTRL_DD_FORGET 0 forget)) :=
  granted_sfi granted _

theorem answers_streamLimits (granted : Granted s rq 0x406 2 false role) (share : Nat) :
    Answers (.streamLimits rq share) s rq 0x406 role (fun d => d.streamLimits share) :=
  granted_sfi granted (fun d _ => d.streamLimits share)

end StreamCommands

/-- Settles O13: an admitted command answers what its operation makes of the device it starts from; on a valid entry and values
in range that is the change of its listing, and a pair that R178 forbids changes nothing. -/
theorem streamSfi : Obligations.StreamSfi := by
  unfold Obligations.StreamSfi
  refine fun s rq role => ⟨fun st start granted inside valid => ?_, fun st acts rec granted inside hacts valid known => ?_,
    fun k mode a b inter quad peer granted => ⟨fun ok => ?_, fun bad => ?_⟩, fun forget granted hforget => ?_,
    fun share granted hshare fits => ?_⟩
  · exact answers_of_eq (if_pos ⟨inside, valid⟩) (answers_streamQuery granted st start)
  · exact answers_of_eq (streamActions_of_ok rec inside hacts valid known) (answers_streamActions granted st acts rec)
  · exact answers_of_eq (if_pos ok) (answers_rpairSet granted k mode a b inter quad peer)
  · exact answers_of_eq (if_neg (Bool.eq_false_iff.mp bad)) (answers_rpairSet granted k mode a b inter quad peer)
  · exact answers_of_eq (okIf_of_true hforget _ _) (answers_ddConfig granted forget)
  · exact answers_of_eq (streamLimits_of_fits hshare fits) (answers_streamLimits granted share)

end Sys2Proof.Proofs
end

section
/-! PROOF. Packet memory (R199, R209, R210, R220, R224): what the carve, the pause repeats, the reclaim sweep and the SFI
commands do in the branches that each can meet. -/

namespace Sys2Proof.Proofs

open Sys2Proof Sys2Proof.Machine Sys2Proof.Laws

/-! ## The carve (R199, R200) -/

section Carve

variable {d : Dev}

/-- Sizes that keep R199, with no buffer allocated, begin a carve. -/
theorem carveApply_of_empty (sizes : carveOk d.carveSizes = true) (empty : d.noBuffers = true) :
    d.carveApply = d.carveStart d.carveSizes := if_pos (Bool.and_eq_true_iff.mpr ⟨sizes, empty⟩)

theorem carveApply_of_allocated (allocated : d.noBuffers = false) : d.carveApply = d.carveRefused := by
  unfold Dev.carveApply
  simp only [allocated, Bool.and_false, Bool.false_eq_true, if_false]

theorem carveDone_of_busy (busy : d.on F.BPM_STATUS_CARVE_BUSY = true) :
    d.carveDone =
      ((({ d with mib := (List.range 4).foldl (fun t k => t.put k (d.carveTo.getD k 0)) [], carveTo := [], owners := [],
                  badWords := [] }.set F.BPM_STATUS_CARVE_BUSY 0 0).raise F.BPM_EVENT_CARVE_DONE).bpmRec 0x070F 1 0).finishOp
        0x5C0 .ok := if_pos busy

theorem bpmCarve_of_empty {mib : List Nat} (sizes : carveOk mib = true) (each : ∀ x ∈ mib, x ≤ 60)
    (empty : d.noBuffers = true) :
    d.bpmCarve mib =
      ((d.cfg .CARVE 0 (mib.getD 0 0 + 2 ^ 8 * mib.getD 1 0 + 2 ^ 16 * mib.getD 2 0 + 2 ^ 24 * mib.getD 3 0)).carveStart mib,
        .wait) := by
  have inRange : mib.all (fun x => decide (x ≤ 60)) = true := List.all_eq_true.mpr fun x hx => decide_eq_true (each x hx)
  unfold Dev.bpmCarve
  simp only [sizes, inRange, empty, Bool.and_self, Bool.not_true, Bool.false_eq_true, if_false]

end Carve

/-! ## Pause repeats (R210) -/

section Pause

variable {d : Dev} {p : Nat}

/-- Half the quanta time of the port's pause frames has passed since its last one. -/
abbrev PauseDue (d : Dev) (p : Nat) : Prop :=
  d.get F.PORT_FC_PAUSE_QUANTA p * 256 * 1500000 ≤ (d.cycle - d.pauseAt.get p) * kbps (d.portSpeed p)

theorem pauseRepeat_of_due (xoff : d.portXoff p = true) (due : PauseDue d p) : d.pauseRepeat p = d.pauseSend p :=
  if_pos (Bool.and_eq_true_iff.mpr ⟨xoff, decide_eq_true due⟩)

theorem pauseRepeat_of_not_due (early : d.portXoff p = false ∨ ¬ PauseDue d p) : d.pauseRepeat p = d := by
  refine if_neg (fun repeats => ?_)
  obtain ⟨xoff, due⟩ := Bool.and_eq_true_iff.mp repeats
  rcases early with unpaused | undue
  · exact absurd xoff (Bool.eq_false_iff.mp unpaused)
  · exact undue (of_decide_eq_true due)

end Pause

/-! ## The reclaim sweep (R220) -/

section Reclaim

variable {d : Dev} {us : List Upset}

/-- A sweep that runs comes to its end, the buffers that it has not come to visited. -/
theorem reclaim_of_busy (busy : (d.memUpset us).on F.BPM_STATUS_RECLAIM_BUSY = true) :
    d.reclaim us = ((d.memUpset us).reclaimVisit (d.memUpset us).allBufs).set F.BPM_STATUS_RECLAIM_BUSY 0 0 := if_pos busy

variable (idle : (d.memUpset us).on F.BPM_STATUS_RECLAIM_BUSY = false)
include idle

theorem reclaim_of_due (due : (d.memUpset us).reclaimDue = true) :
    d.reclaim us =
      ({ d.memUpset us with reclaimAsk := false, reclaimAt := (d.memUpset us).cycle, reclaimPos := 0 }.set
        F.BPM_STATUS_RECLAIM_BUSY 0 1) :=
  (if_neg (Bool.eq_false_iff.mp idle)).trans (if_pos due)

theorem reclaim_of_not_due (undue : (d.memUpset us).reclaimDue = false) : d.reclaim us = d.memUpset us :=
  (if_neg (Bool.eq_false_iff.mp idle)).trans (if_neg (Bool.eq_false_iff.mp undue))

end Reclaim

/-! ## Quotas (R209, R224) -/

section Quotas

variable {d : Dev}

theorem quotaSet_of_ok {prof min alpha max headroom hyst warn : Nat} (hprof : prof < 16) (hmin : F.QP_MIN_MIN.ok min = true)
    (halpha : F.QP_MIN_ALPHA.ok alpha = true) (hmax : F.QP_MAX_MAX.ok max = true)
    (hheadroom : F.QP_FC_HEADROOM.ok headroom = true) (hhyst : F.QP_FC_XON_HYST.ok hyst = true)
    (hwarn : F.QP_WARN_WARN_PCT.ok warn = true) :
    d.quotaSet prof min alpha max headroom hyst warn =
      ((((d.cfg .QP_MIN prof (min + 2 ^ 18 * alpha)).cfg .QP_MAX prof max).cfg .QP_FC prof (headroom + 65536 * hyst)).cfg
        .QP_WARN prof warn, .ok) :=
  okIf_of_true (by simp only [decide_eq_true hprof, hmin, halpha, hmax, hheadroom, hhyst, hwarn, Bool.and_self]) _ _

/-- A range of accounts is bound where packet memory still has room for every account's MIN (R224). -/
theorem quotaBind_of_fits {lo hi prof : Nat} {lossless : Bool} (ordered : lo ≤ hi) (inside : hi < 2052) (hprof : prof < 16)
    (fits : (d.bindRange lo hi prof lossless).sumMin ≤ 262144 - 8192 - d.retiredCells) :
    d.quotaBind lo hi prof lossless = (d.bindRange lo hi prof lossless, .ok) := by
  have inRange : lo ≤ hi ∧ hi < 2052 ∧ prof < 16 := ⟨ordered, inside, hprof⟩
  unfold Dev.quotaBind
  simp only [decide_eq_true inRange, Bool.not_true, Bool.false_eq_true, if_false, if_neg (Nat.not_lt.mpr fits)]

end Quotas

/-! ## BPM_QUERY and EDIT_SET (R221, R224) -/

/-- What BPM_QUERY lists: the pools alone, or the pools and a range of accounts from START on. -/
def bpmListing (d : Dev) (rq : Sfi) (range : Option (Nat × Nat)) (start : Nat) : Dev × Ans :=
  match range with
  | none => (d, d.listing rq 0x5C4 2 d.poolRows)
  | some (lo, hi) =>
    if lo ≤ hi ∧ hi < 2052 then
      (d, d.listing rq 0x5C4 2 ((d.poolRows ++ d.acctRows lo hi).filter (fun e => decide (start ≤ e.1))))
    else (d, .invalid)

theorem bpmListing_of_range {lo hi : Nat} (ordered : lo ≤ hi) (inside : hi < 2052) (d : Dev) (rq : Sfi) (start : Nat) :
    bpmListing d rq (some (lo, hi)) start =
      (d, d.listing rq 0x5C4 2 ((d.poolRows ++ d.acctRows lo hi).filter (fun e => decide (start ≤ e.1)))) :=
  if_pos ⟨ordered, inside⟩

/-- EDIT_SET on the open shadow: eight words of an entry that R221 allows are staged. -/
def editSet (d : Dev) (index : Nat) (words : List Nat) : Dev × Ans :=
  okIf (decide (index < 16384 ∧ words.length = 8) && editOk words && words.all (fun w => decide (w < 2 ^ 32))) d
    (d.stageEdit index words)

theorem editSet_of_ok {index : Nat} {words : List Nat} (hindex : index < 16384) (len : words.length = 8)
    (legal : editOk words = true) (each : ∀ w ∈ words, w < 2 ^ 32) (d : Dev) :
    editSet d index words = (d.stageEdit index words, .ok) := by
  have inRange : words.all (fun w => decide (w < 2 ^ 32)) = true :=
    List.all_eq_true.mpr fun w hw => decide_eq_true (each w hw)
  exact okIf_of_true (by rw [decide_eq_true ⟨hindex, len⟩, legal, inRange]; rfl) _ _

/-! ## Commands: the operation on the device that the command finds, or starts from -/

theorem does_carveApply {s : State} {m : Fin 32} (passes : Writes s m .CARVE_CMD 0 1) :
    Does (.carveApply m) s (s.passed m .CARVE_CMD 0 1).carveApply := writes_act passes (fun d _ => d.carveApply)

section MemoryMoments

variable {s : State} (live : s.live)
include live

theorem does_carveDone : Does .carveDone s (s.due (untied 7 0)).carveDone := live_later live 7 0 (·.carveDone)

theorem does_reclaimSweep (us : List Upset) : Does (.reclaimSweep us) s ((s.due (untied 7 0)).reclaim us) :=
  live_later live 7 0 (·.reclaim us)

theorem does_pauseRepeat (p : Fin 256) : Does (.pauseRepeat p) s ((s.due (untied 2 0)).pauseRepeat p) :=
  live_later live 2 0 (·.pauseRepeat p)

end MemoryMoments

section MemoryCommands

variable {s : State} {rq : Sfi} {role : Nat}

theorem answers_bpmCarve (granted : Granted s rq 0x5C0 2 false role) (mib : List Nat) :
    Answers (.bpmCarve rq mib) s rq 0x5C0 role (fun d => d.bpmCarve mib) :=
  granted_sfi granted (fun d _ => d.bpmCarve mib)

theorem answers_quotaProfileSet (granted : Granted s rq 0x5C1 2 false role) (prof min alpha max headroom hyst warn : Nat) :
    Answers (.quotaProfileSet rq prof min alpha max headroom hyst warn) s rq 0x5C1 role
      (fun d => d.quotaSet prof min alpha max headroom hyst warn) :=
  granted_sfi granted (fun d _ => d.quotaSet prof min alpha max headroom hyst warn)

theorem answers_quotaBind (granted : Granted s rq 0x5C2 2 false role) (lo hi prof : Nat) (lossless : Bool) :
    Answers (.quotaBind rq lo hi prof lossless) s rq 0x5C2 role (fun d => d.quotaBind lo hi prof lossless) :=
  granted_sfi granted (fun d _ => d.quotaBind lo hi prof lossless)

theorem answers_portFlowSet (granted : Granted s rq 0x5C3 2 false role) (port mode quanta : Nat) :
    Answers (.portFlowSet rq port mode quanta) s rq 0x5C3 role (fun d =>
      okIf (decide (port < 256) && F.PORT_FC_FC_MODE.ok mode && F.PORT_FC_PAUSE_QUANTA.ok quanta) d
        (d.cfg .PORT_FC port (mode + 65536 * quanta))) :=
  granted_sfi granted _

theorem answers_bpmQuery (granted : Granted s rq 0x5C4 0 false role) (range : Option (Nat × Nat)) (start : Nat) :
    Answers (.bpmQuery rq range start) s rq 0x5C4 role (fun d => bpmListing d rq range start) :=
  granted_sfi granted (fun d _ => bpmListing d rq range start)

theorem answers_editSet (granted : Granted s rq 0x5C5 2 false role) (index : Nat) (words : List Nat) :
    Answers (.editSet rq index words) s rq 0x5C5 role (fun d => d.stageCmd rq.ch (fun d => editSet d index words)) :=
  granted_sfi granted (fun d _ => d.stageCmd rq.ch (fun d => editSet d index words))

end MemoryCommands

/-- Settles O14: CARVE_APPLY reaches its operation on the sizes of CARVE, the moments of blocks 2 and 7 take the branch that
the carve, the port's pause or the sweep names, and an admitted command on operands in range has the effect of its listing. -/
theorem bufferPools : Obligations.BufferPools := by
  unfold Obligations.BufferPools
  refine ⟨fun s m p us => ⟨fun passes => ⟨fun sizes empty => ?_, fun allocated => ?_⟩,
      fun live => ⟨fun busy => ?_, fun busy => ?_, fun idle due => ?_, fun idle undue => ?_⟩,
      fun live => ⟨fun xoff due => ?_, fun early => ?_⟩⟩,
    fun s rq role => ⟨fun mib granted sizes each empty => ?_,
      fun prof min alpha max headroom hyst warn granted hprof hmin halpha hmax hheadroom hhyst hwarn => ?_,
      fun lo hi prof lossless granted ordered inside hprof fits => ?_,
      fun port mode quanta granted hport hmode hquanta => ?_,
      fun start granted => ⟨?_, fun lo hi ordered inside => ?_⟩,
      fun index words granted stages hindex len legal each => ?_⟩⟩
  · exact does_of_eq (carveApply_of_empty sizes empty) (does_carveApply passes)
  · exact does_of_eq (carveApply_of_allocated allocated) (does_carveApply passes)
  · exact does_of_eq (carveDone_of_busy busy) (does_carveDone live)
  · exact does_of_eq (reclaim_of_busy busy) (does_reclaimSweep live us)
  · exact does_of_eq (reclaim_of_due idle due) (does_reclaimSweep live us)
  · exact does_of_eq (reclaim_of_not_due idle undue) (does_reclaimSweep live us)
  · exact does_of_eq (pauseRepeat_of_due xoff due) (does_pauseRepeat live p)
  · exact does_of_eq (pauseRepeat_of_not_due early) (does_pauseRepeat live p)
  · exact answers_of_eq (bpmCarve_of_empty sizes each empty) (answers_bpmCarve granted mib)
  · refine answers_of_eq ?_ (answers_quotaProfileSet granted prof min alpha max headroom hyst warn)
    exact quotaSet_of_ok hprof hmin halpha hmax hheadroom hhyst hwarn
  · exact answers_of_eq (quotaBind_of_fits ordered inside hprof fits) (answers_quotaBind granted lo hi prof lossless)
  · exact answers_of_eq (okIf_of_true (by rw [decide_eq_true hport, hmode, hquanta]; rfl) _ _)
      (answers_portFlowSet granted port mode quanta)
  · exact answers_bpmQuery granted none start
  · exact answers_of_eq (bpmListing_of_range ordered inside _ rq start) (answers_bpmQuery granted (some (lo, hi)) start)
  · exact answers_of_eq (editSet_of_ok hindex len legal each _)
      (answers_of_stages stages (answers_editSet granted index words))

end Sys2Proof.Proofs
end

section
/-! PROOF. The traffic manager's moments (R240, R242, R246, R247, R258): what indirect access, a gate's entry boundary, hold, the
takeover of a cue list and the end of a received pause do in the branches that each can meet. -/

namespace Sys2Proof.Proofs

open Sys2Proof Sys2Proof.Machine Sys2Proof.Laws

/-! ## Indirect access (R258) -/

/-- A command of an idle context is carried out at once, and its RESULT waits behind BUSY. -/
theorem tmCmd_of_idle {d : Dev} {c : Nat} (idle : d.on F.TM_ACC_STATUS_BUSY c = false) (write : Bool) :
    d.tmCmd c write =
      (let r := d.tmAccess c write
       { r.1 with tblRes := r.1.tblRes.put (4 + c) (1 + 2 * r.2) }.set F.TM_ACC_STATUS_BUSY c 1) :=
  if_neg (Bool.eq_false_iff.mp idle)

/-! ## Gates and hold (R242, R246) -/

section Gates

variable {d : Dev} {p : Nat} {us : List Upset}

theorem gateChange_of_boundary {x : CueSlot} {t : Nat} (inForce : d.cueNow p = some (x, t)) (other : d.entryAt.get p ≠ t) :
    d.gateChange p us = (d.upset us).enterCue p := by
  unfold Dev.gateChange
  simp only [inForce, if_neg other]

theorem gateChange_of_same {x : CueSlot} {t : Nat} (inForce : d.cueNow p = some (x, t)) (same : d.entryAt.get p = t) :
    d.gateChange p us = d := by
  unfold Dev.gateChange
  simp only [inForce, if_pos same]

theorem gateChange_of_no_entry (noEntry : d.cueNow p = none) : d.gateChange p us = d := by
  unfold Dev.gateChange
  simp only [noEntry]

/-- On a gated port hold follows the start of the next Set-And-Hold-MAC entry, HOLD_ADVANCE ahead of it. -/
theorem holdAssert_of_next {e : Nat} (gated : d.on F.TM_PORT_GATE_GATE_EN p = true)
    (next : d.nextCue p d.pt (fun s => s.op == 1) = some e) :
    d.holdAssert p = if e ≤ d.pt + d.get F.TM_PORT_GATE_HOLD_ADVANCE p * 65536 then d.hold_ p true else d := by
  unfold Dev.holdAssert
  simp only [gated, next, if_true]

end Gates

/-! ## Takeover (R247) -/

section Takeover

variable {d : Dev} {p : Nat}

theorem cueArmReg_of_unarmed (unarmed : d.on F.TM_PORT_STATUS_ARMED p = false) :
    d.cueArmReg p = d.cueArm p ((d.pt : Int) + cmpDiff (d.adminBase p) d.pt) := if_neg (Bool.eq_false_iff.mp unarmed)

theorem takeover_of_reached (armed : d.on F.TM_PORT_STATUS_ARMED p = true) (reached : d.clTc.get p - 1 ≤ d.pt) :
    d.takeover p =
      (let tc := d.clTc.get p - 1
       let e := ((d.listsMove p tc).raise F.TM_EVENT_TAKEOVER_DONE).tmRec 0x0804 2 (tc / 65536 % 2 ^ 32)
         (tc / 65536 / 2 ^ 32) p
       ((e.enterCue p).checkBounds p).armsEnd p .ok) :=
  if_pos (Bool.and_eq_true_iff.mpr ⟨armed, decide_eq_true reached⟩)

theorem takeover_of_ahead (ahead : d.pt < d.clTc.get p - 1) : d.takeover p = d := by
  unfold Dev.takeover
  simp only [decide_eq_false (Nat.not_le.mpr ahead), Bool.and_false, Bool.false_eq_true, if_false]

end Takeover

/-! ## Received pause (R240) -/

section ReceivedPause

variable {d : Dev} {p c : Nat}

/-- The bit times of the class's pause have passed at the port's speed since the end of the frame that gave it. -/
abbrev PauseOver (d : Dev) (p c : Nat) : Prop :=
  (d.paused.get (8 * p + c)).1 * 512 * 1500000 ≤ (d.cycle - (d.paused.get (8 * p + c)).2) * kbps (d.portSpeed p)

theorem pauseExpire_of_elapsed (elapsed : PauseOver d p c) : d.pauseExpire p c = d.pauseStop p c := if_pos elapsed

theorem pauseExpire_of_running (runs : ¬ PauseOver d p c) : d.pauseExpire p c = d := if_neg runs

end ReceivedPause

/-! ## Commands: the operation on the device that the command finds -/

section ManagerWrites

variable {s : State} {m : Fin 32}

theorem does_tmRead {c : Fin 2} (passes : Writes s m .TM_CMD c 1) :
    Does (.tmRead m c) s ((s.passed m .TM_CMD c 1).tmCmd c false) := writes_act passes (fun d _ => d.tmCmd c false)

theorem does_tmWrite {c : Fin 2} (passes : WritesAt s atRelease m .TM_CMD c 2) :
    Does (.tmWrite m c) s ((s.passedAt atRelease m .TM_CMD c 2).tmCmd c true) :=
  writesAt_act passes (fun d _ => d.tmCmd c true)

theorem does_clCmdArm {p : Fin 256} (passes : Writes s m .CL_CMD p 1) :
    Does (.clCmdArm m p) s ((s.passed m .CL_CMD p 1).cueArmReg p) := writes_act passes (fun d _ => d.cueArmReg p)

theorem does_clCmdDisarm {p : Fin 256} (passes : Writes s m .CL_CMD p 2) :
    Does (.clCmdDisarm m p) s ((s.passed m .CL_CMD p 2).cueDisarm p .invalid) :=
  writes_act passes (fun d _ => d.cueDisarm p .invalid)

end ManagerWrites

section ManagerMoments

variable {s : State} (live : s.live) (p : Fin 256)
include live

theorem does_gateEntryChange (us : List Upset) : Does (.gateEntryChange p us) s ((s.due atGate).gateChange p us) :=
  live_due live _ (·.gateChange p us)

theorem does_holdAssert : Does (.holdAssert p) s ((s.due atHold).holdAssert p) := live_due live _ (·.holdAssert p)

theorem does_cueTakeover : Does (.cueTakeover p) s ((s.due atTakeover).takeover p) := live_due live _ (·.takeover p)

theorem does_pauseExpire (c : Fin 8) : Does (.pauseExpire p c) s ((s.due (untied 2 0)).pauseExpire p c) :=
  live_later live 2 0 (·.pauseExpire p c)

end ManagerMoments

/-- Settles O15: a write that is let through reaches its operation on an idle context or an unarmed list, the gates' moments have
places of their own, and each takes the branch that the entry in force, the next one, T_c or the pause time names. -/
theorem cueEvents : Obligations.CueEvents := by
  unfold Obligations.CueEvents
  refine fun s m p => ⟨fun c => ⟨fun passes idle => ?_, fun passes idle => ?_⟩,
    fun live => ⟨fun us x t inForce => ⟨fun other => ?_, fun same => ?_⟩, fun us noEntry => ?_⟩,
    fun live e gated next => ⟨fun reached => ?_, fun ahead => ?_⟩,
    fun passes unarmed => ?_, fun passes => ?_,
    fun live armed => ⟨fun reached => ?_, fun ahead => ?_⟩,
    fun c live => ⟨fun elapsed => ?_, fun runs => ?_⟩⟩
  · exact does_of_eq (tmCmd_of_idle idle false) (does_tmRead passes)
  · exact does_of_eq (tmCmd_of_idle idle true) (does_tmWrite passes)
  · exact does_of_eq (gateChange_of_boundary inForce other) (does_gateEntryChange live p us)
  · exact does_of_eq (gateChange_of_same inForce same) (does_gateEntryChange live p us)
  · exact does_of_eq (gateChange_of_no_entry noEntry) (does_gateEntryChange live p us)
  · exact does_of_eq ((holdAssert_of_next gated next).trans (if_pos reached)) (does_holdAssert live p)
  · exact does_of_eq ((holdAssert_of_next gated next).trans (if_neg (Nat.not_le.mpr ahead))) (does_holdAssert live p)
  · exact does_of_eq (cueArmReg_of_unarmed unarmed) (does_clCmdArm passes)
  · exact does_clCmdDisarm passes
  · exact does_of_eq (takeover_of_reached armed reached) (does_cueTakeover live p)
  · exact does_of_eq (takeover_of_ahead ahead) (does_cueTakeover live p)
  · exact does_of_eq (pauseExpire_of_elapsed elapsed) (does_pauseExpire live p c)
  · exact does_of_eq (pauseExpire_of_running runs) (does_pauseExpire live p c)

end Sys2Proof.Proofs
end

section
/-! PROOF. The SFI commands of queues, schedulers, policers, WRED profiles and mirrors (R257): the values that each takes, and what
it answers to them. -/

namespace Sys2Proof.Proofs

open Sys2Proof Sys2Proof.Machine Sys2Proof.Laws

/-! ## Queues and schedulers (R229, R238, R240) -/

section Queues

variable {d : Dev}

/-- Port 257's queues shape every frame: there TBS_EN = 0 is refused (R238). -/
theorem queueSet_of_ok {port q : Nat} {x : QueueArgs} (queues : hasQueues port = true) (hq : q < 8)
    (legal : queueArgsOk x = true) (shaped : port = 257 → x.tbsEn = true) :
    d.queueSet port q x = (d.queueTake (8 * port + q) x, .ok) := by
  have unshaped : ¬ (port = 257 ∧ x.tbsEn = false) := fun ⟨agent, off⟩ => Bool.eq_false_iff.mp off (shaped agent)
  unfold Dev.queueSet
  simp only [queues, hq, decide_true, legal, if_neg unshaped, Bool.and_self, Bool.not_true, Bool.false_eq_true, if_false]

theorem portSchedSet_of_ok {port sp overhead exempt : Nat} (queues : hasQueues port = true)
    (hsp : F.TM_PORT_CFG_SP_LEVEL.ok sp = true) (hoverhead : F.TM_PORT_CFG_OVERHEAD.ok overhead = true)
    (hexempt : exempt < 256) :
    d.portSchedSet port sp overhead exempt =
      (d.cfg .TM_PORT_CFG port (sp + 16 * overhead + 2 ^ 16 * (exempt % 128) + 2 ^ 23), .ok) :=
  okIf_of_true (by simp only [queues, hsp, hoverhead, hexempt, decide_true, Bool.and_self]) _ _

/-- QUEUE_QUERY's rows from START on, as many as fit (R350; log entry 115). -/
def queueListing (d : Dev) (rq : Sfi) (start : Nat) (rows : List (Nat × List Nat)) : Ans :=
  d.listing rq 0x502 2 (rows.filter (fun e => decide (start ≤ e.1)))

/-- QUEUE_QUERY on one queue of a port, or on all eight, with credit and tokens brought up to date. -/
def queueQuery (d : Dev) (rq : Sfi) (port : Nat) (queue : Option Nat) (start : Nat) : Dev × Ans :=
  if !hasQueues port then (d, .invalid)
  else
    let e := d.syncPort port
    match queue with
    | some q => if q < 8 then (e, queueListing e rq start (e.queueRows (8 * port + q) 0)) else (e, .invalid)
    | none => (e, queueListing e rq start ((List.range 8).flatMap (fun q => e.queueRows (8 * port + q) (13 * q))))

theorem queueQuery_of_queue {port q : Nat} (queues : hasQueues port = true) (hq : q < 8) (rq : Sfi) (start : Nat) :
    queueQuery d rq port (some q) start =
      (d.syncPort port, queueListing (d.syncPort port) rq start ((d.syncPort port).queueRows (8 * port + q) 0)) := by
  unfold queueQuery
  simp only [queues, Bool.not_true, Bool.false_eq_true, if_false, if_pos hq]

theorem queueQuery_of_port {port : Nat} (queues : hasQueues port = true) (rq : Sfi) (start : Nat) :
    queueQuery d rq port none start =
      (d.syncPort port, queueListing (d.syncPort port) rq start
        ((List.range 8).flatMap (fun q => (d.syncPort port).queueRows (8 * port + q) (13 * q)))) := by
  unfold queueQuery
  simp only [queues, Bool.not_true, Bool.false_eq_true, if_false]

end Queues

/-! ## Policers (R250, R257) -/

section Policers

variable {d : Dev} {n : Nat}

/-- The control word of a policer (R259). -/
abbrev policerCtl (x : PolicerArgs) : Nat := b2n x.en + 2 * x.type + 4 * b2n x.aware + 8 * b2n x.redAct

theorem policerSet_of_ok {x : PolicerArgs} (hn : n < 4096) (htype : x.type < 2) (hpir : x.pir < 2 ^ 32)
    (legal : polOk (policerCtl x) x.cir x.pir x.cbs x.ebs = true) :
    d.policerSet n x =
      ({ d with policers := d.policers.put (16384 + n) (polOf (policerCtl x) x.cir x.pir x.cbs x.ebs d.cycle) }.mend 7 (16384 + n),
        .ok) :=
  okIf_of_true (Bool.and_eq_true_iff.mpr ⟨decide_eq_true ⟨hn, htype, hpir⟩, legal⟩) _ _

/-- A POLICER_SET that succeeds is noted where a TC_7 stream names the policer (R257). -/
def policerNoted (n ch : Nat) (r : Dev × Ans) : Dev × Ans := (if r.2.st = 0 then r.1.policerNote n ch else r.1, r.2)

theorem policerNoted_ok (d : Dev) (n ch : Nat) : policerNoted n ch (d, .ok) = (d.policerNote n ch, .ok) := rfl

end Policers

/-! ## WRED and mirrors (R241, R257) -/

section Profiles

variable {d : Dev}

/-- A profile's curves of green, yellow and red, each in range and no reserved encoding. -/
theorem wredSet_of_ok {prof weight : Nat} {g y r : Nat × Nat × Nat} (hprof : prof < 16)
    (hweight : F.WRED_CFG_WEIGHT.ok weight = true)
    (legal : ∀ c ∈ [g, y, r], F.WRED_MIN_MIN_TH.ok c.1 = true ∧ F.WRED_MAX_MAX_TH.ok c.2.1 = true ∧
      F.WRED_MAX_MAX_P.ok c.2.2 = true ∧ wredOk c.1 c.2.1 = true) :
    d.wredSet prof weight [g, y, r] =
      (((((((d.cfg .WRED_CFG prof weight).cfg .WRED_MIN (3 * prof) g.1).cfg .WRED_MAX (3 * prof) (g.2.1 + 2 ^ 19 * g.2.2)).cfg
        .WRED_MIN (3 * prof + 1) y.1).cfg .WRED_MAX (3 * prof + 1) (y.2.1 + 2 ^ 19 * y.2.2)).cfg
        .WRED_MIN (3 * prof + 2) r.1).cfg .WRED_MAX (3 * prof + 2) (r.2.1 + 2 ^ 19 * r.2.2), .ok) := by
  have curves : [g, y, r].all (fun c => F.WRED_MIN_MIN_TH.ok c.1 && F.WRED_MAX_MAX_TH.ok c.2.1 &&
      F.WRED_MAX_MAX_P.ok c.2.2 && wredOk c.1 c.2.1) = true :=
    List.all_eq_true.mpr fun c hc => by
      obtain ⟨hmin, hmax, hp, ordered⟩ := legal c hc
      simp only [hmin, hmax, hp, ordered, Bool.and_self]
  have len : prof < 16 ∧ [g, y, r].length = 3 := ⟨hprof, rfl⟩
  unfold Dev.wredSet
  rw [decide_eq_true len, hweight, curves]
  simp only [Bool.and_self, okIf_of_true, show List.range 3 = [0, 1, 2] from rfl, List.foldl_cons, List.foldl_nil,
    List.getD_cons_zero, List.getD_cons_succ, Nat.add_zero]

theorem mirrorSet_of_ok {session dest tc : Nat} (en : Bool) (least : 1 ≤ session) (most : session ≤ 7)
    (hdest : F.MIR_CFG_DEST.ok dest = true) (htc : F.MIR_CFG_MIR_TC.ok tc = true) :
    d.mirrorSet session dest tc en = (d.cfg .MIR_CFG (session - 1) (dest + 2 ^ 9 * tc + 2 ^ 12 * b2n en), .ok) :=
  okIf_of_true (by rw [decide_eq_true ⟨least, most⟩, hdest, htc]; rfl) _ _

end Profiles

/-! ## Commands: the operation on the device that the command starts from -/

section QueueCommands

variable {s : State} {rq : Sfi} {role : Nat}

theorem answers_queueSet (granted : Granted s rq 0x500 2 false role) (port q : Nat) (x : QueueArgs) :
    Answers (.queueSet rq port q x) s rq 0x500 role (fun d => d.queueSet port q x) :=
  granted_sfi granted (fun d _ => d.queueSet port q x)

theorem answers_portSchedSet (granted : Granted s rq 0x501 2 false role) (port sp overhead exempt : Nat) :
    Answers (.portSchedSet rq port sp overhead exempt) s rq 0x501 role (fun d => d.portSchedSet port sp overhead exempt) :=
  granted_sfi granted (fun d _ => d.portSchedSet port sp overhead exempt)

theorem answers_queueQuery (granted : Granted s rq 0x502 0 false role) (port : Nat) (queue : Option Nat) (start : Nat) :
    Answers (.queueQuery rq port queue start) s rq 0x502 role (fun d => queueQuery d rq port queue start) :=
  granted_sfi granted (fun d _ => queueQuery d rq port queue start)

theorem answers_policerSet (granted : Granted s rq 0x520 2 false role) (n : Nat) (x : PolicerArgs) :
    Answers (.policerSet rq n x) s rq 0x520 role (fun d => policerNoted n rq.ch (d.policerSet n x)) :=
  granted_sfi granted (fun d _ => policerNoted n rq.ch (d.policerSet n x))

theorem answers_policerQuery (granted : Granted s rq 0x521 0 false role) (i : Nat) :
    Answers (.policerQuery rq i) s rq 0x521 role
      (fun d => if i < 20480 then (d, .okW (polWords (d.policers.get i))) else (d, .invalid)) :=
  granted_sfi granted _

theorem answers_wredProfileSet (granted : Granted s rq 0x530 2 false role) (prof weight : Nat)
    (curves : List (Nat × Nat × Nat)) :
    Answers (.wredProfileSet rq prof weight curves) s rq 0x530 role (fun d => d.wredSet prof weight curves) :=
  granted_sfi granted (fun d _ => d.wredSet prof weight curves)

theorem answers_mirrorSet (granted : Granted s rq 0x540 2 false role) (session dest tc : Nat) (en : Bool) :
    Answers (.mirrorSet rq session dest tc en) s rq 0x540 role (fun d => d.mirrorSet session dest tc en) :=
  granted_sfi granted (fun d _ => d.mirrorSet session dest tc en)

end QueueCommands

/-- Settles O16: an admitted command answers what its operation makes of the device it starts from; on values in range that is the
change of its listing, noted for a policer that a TC_7 stream names, and a query brings the port's shapers up to date. -/
theorem queueSfi : Obligations.QueueSfi := by
  unfold Obligations.QueueSfi
  refine fun s rq role => ⟨fun port q x granted queues hq legal shaped => ?_,
    fun port sp overhead exempt granted queues hsp hoverhead hexempt => ?_,
    fun port q start granted queues hq => ⟨?_, ?_⟩,
    fun n x granted hn htype hpir legal => ?_, fun i granted inside => ?_,
    fun prof weight g y r granted hprof hweight legal => ?_,
    fun session dest tc en granted least most hdest htc => ?_⟩
  · exact answers_of_eq (queueSet_of_ok queues hq legal shaped) (answers_queueSet granted port q x)
  · exact answers_of_eq (portSchedSet_of_ok queues hsp hoverhead hexempt)
      (answers_portSchedSet granted port sp overhead exempt)
  · exact answers_of_eq (queueQuery_of_queue queues hq rq start) (answers_queueQuery granted port (some q) start)
  · exact answers_of_eq (queueQuery_of_port queues rq start) (answers_queueQuery granted port none start)
  · exact answers_of_eq ((congrArg _ (policerSet_of_ok hn htype hpir legal)).trans (policerNoted_ok _ n rq.ch))
      (answers_policerSet granted n x)
  · exact answers_of_eq (if_pos inside) (answers_policerQuery granted i)
  · refine answers_of_eq ?_ (answers_wredProfileSet granted prof weight [g, y, r])
    exact wredSet_of_ok hprof hweight legal
  · exact answers_of_eq (mirrorSet_of_ok en least most hdest htc) (answers_mirrorSet granted session dest tc en)

end Sys2Proof.Proofs
end

section
/-! PROOF. The SFI commands of cue lists and gates (R242, R247, R257): a list is loaded and armed while no takeover of its port
waits, and disarmed while one does. -/

namespace Sys2Proof.Proofs

open Sys2Proof Sys2Proof.Machine Sys2Proof.Laws

/-! ## Cue lists (R247) -/

/-- A takeover of the port is held in core 0 until its base comes within 512 s. -/
abbrev heldTakeover (d : Dev) (port : Nat) : Bool := d.heldT.any (fun h => h.kind == 1 && h.obj == port)

section CueLists

variable {d : Dev} {port : Nat} (hport : port < 256)
include hport

theorem okIf_of_takeover_waits (waits : d.on F.TM_PORT_STATUS_ARMED port = true ∨ heldTakeover d port = true) (d' : Dev) :
    okIf (decide (port < 256) && (d.on F.TM_PORT_STATUS_ARMED port || heldTakeover d port)) d d' = (d', .ok) :=
  okIf_of_true (Bool.and_eq_true_iff.mpr ⟨decide_eq_true hport, (Bool.or_eq_true _ _).mpr waits⟩) _ _

variable (unarmed : d.on F.TM_PORT_STATUS_ARMED port = false) (unheld : heldTakeover d port = false)
include unarmed unheld

theorem cueLoad_of_ok {es : List (Nat × Nat)} {cycle : Nat} (ch : Nat) (least : 1 ≤ es.length) (most : es.length ≤ 256)
    (hcycle : F.CL_ADMIN_CYCLE_0_NS.ok (cycle / 65536) = true) (legal : ∀ e ∈ es, cueOk e = true ∧ e.2 < 2048) :
    d.cueLoad ch port es cycle = ((d.cueTake port es cycle).tripNote port ch, .ok) := by
  have inRange : port < 256 ∧ 1 ≤ es.length ∧ es.length ≤ 256 ∧ cycle % 65536 < 65536 :=
    ⟨hport, least, most, Nat.mod_lt _ (by decide)⟩
  have entries : es.all (fun e => cueOk e && decide (e.2 < 2048)) = true :=
    List.all_eq_true.mpr fun e he => Bool.and_eq_true_iff.mpr ⟨(legal e he).1, decide_eq_true (legal e he).2⟩
  unfold heldTakeover at unheld
  unfold Dev.cueLoad
  simp only [decide_eq_true inRange, hcycle, entries, unarmed, unheld, Bool.and_self, Bool.or_self, Bool.not_true,
    Bool.false_eq_true, if_false]

/-- The device with BASE of the administrative list written, its change noted (R257). -/
def baseTaken (d : Dev) (port ch base : Nat) : Dev :=
  ((d.cfg .CL_ADMIN_BASE_0 port (base % 2 ^ 32)).cfg .CL_ADMIN_BASE_1 port (base / 2 ^ 32 % 2 ^ 24)).tripNote port ch

section Arm

variable {a : Dev} {base : Nat} (rq : Sfi) (hbase : base < 2 ^ 80) (len : d.adminLen port ≠ 0) (cycle : d.adminCycle port ≠ 0)
  (taken : baseTaken d port rq.ch base = a)
include hbase len cycle taken

/-- A list of entries and a cycle is armed at once, or its base is held in core 0. -/
theorem cueArmSfi_of_list :
    d.cueArmSfi rq port base =
      if a.pt + 512000000000 * 65536 < base then
        ({ a with heldT := a.heldT ++ [{ kind := 1, obj := port, src := 0, target := base, ch := rq.ch.val, tag := rq.tag.val }] },
          { Ans.pending [port] with words := (List.range 3).map (ltWord base) })
      else (a.cueArm port base,
        { Ans.pending [port] with words := (List.range 3).map (ltWord ((a.cueArm port base).clTc.get port - 1)) }) := by
  have listed : ¬ (256 ≤ port ∨ 2 ^ 80 ≤ base ∨ d.adminLen port = 0 ∨ d.adminCycle port = 0) := by
    simp only [len, cycle, or_self, or_false, not_or, Nat.not_le]
    exact ⟨hport, hbase⟩
  unfold heldTakeover at unheld
  subst taken
  unfold Dev.cueArmSfi baseTaken
  simp only [if_neg listed, unarmed, unheld, Bool.or_self, Bool.false_eq_true, if_false]

/-- A base more than 512 s ahead is kept in core 0, which answers PENDING with it. -/
theorem cueArmSfi_of_far (far : a.pt + 512000000000 * 65536 < base) :
    d.cueArmSfi rq port base =
      ({ a with heldT := a.heldT ++ [{ kind := 1, obj := port, src := 0, target := base, ch := rq.ch.val, tag := rq.tag.val }] },
        { Ans.pending [port] with words := (List.range 3).map (ltWord base) }) :=
  (cueArmSfi_of_list hport unarmed unheld rq hbase len cycle taken).trans (if_pos far)

/-- A nearer base arms the list at once, and PENDING answers with T_c. -/
theorem cueArmSfi_of_near (near : base ≤ a.pt + 512000000000 * 65536) :
    d.cueArmSfi rq port base =
      (a.cueArm port base,
        { Ans.pending [port] with words := (List.range 3).map (ltWord ((a.cueArm port base).clTc.get port - 1)) }) :=
  (cueArmSfi_of_list hport unarmed unheld rq hbase len cycle taken).trans (if_neg (Nat.not_lt.mpr near))

end Arm

end CueLists

/-! ## Commands: the operation on the device that the command starts from -/

section CueCommands

variable {s : State} {rq : Sfi} {role : Nat} (port : Nat)

theorem answers_cueListLoad (granted : Granted s rq 0x510 2 false role) (es : List (Nat × Nat)) (cycle : Nat) :
    Answers (.cueListLoad rq port es cycle) s rq 0x510 role (fun d => d.cueLoad rq.ch port es cycle) :=
  granted_sfi granted (fun d _ => d.cueLoad rq.ch port es cycle)

theorem answers_cueListArm (granted : Granted s rq 0x511 2 false role) (base : Nat) :
    Answers (.cueListArm rq port base) s rq 0x511 role (fun d => d.cueArmSfi rq port base) :=
  granted_sfi granted (fun d _ => d.cueArmSfi rq port base)

theorem answers_cueListDisarm (granted : Granted s rq 0x512 2 false role) :
    Answers (.cueListDisarm rq port) s rq 0x512 role (fun d =>
      okIf (decide (port < 256) && (d.on F.TM_PORT_STATUS_ARMED port || heldTakeover d port)) d
        ((d.cueDisarm port .invalid).tripNote port rq.ch)) :=
  granted_sfi granted _

theorem answers_gateConfig (granted : Granted s rq 0x513 2 false role) (en la guard : Bool) (hold : Nat) :
    Answers (.gateConfig rq port en la guard hold) s rq 0x513 role (fun d => okIf (decide (port < 256 ∧ hold < 4096)) d
      ((d.portGate port (b2n en + 2 * b2n la + 4 * b2n guard + 16 * hold)).tripNote port rq.ch)) :=
  granted_sfi granted _

theorem answers_cueListQuery (granted : Granted s rq 0x514 0 false role) (start : Nat) :
    Answers (.cueListQuery rq port start) s rq 0x514 role (fun d =>
      if 256 ≤ port then (d, .invalid)
      else (d, d.listing rq 0x514 2 ((d.cueRows port).filter (fun e => decide (start ≤ e.1))))) :=
  granted_sfi granted _

end CueCommands

/-- Settles O17: an admitted command answers what its operation makes of the device it starts from: a list is loaded, or armed now
or later by the distance of its base, while no takeover waits, a takeover that waits is cancelled, and the gates' settings and the
query ask only for values in range. -/
theorem cueSfi : Obligations.CueSfi := by
  unfold Obligations.CueSfi
  refine fun s rq role port hport => ⟨fun es cycle granted least most hcycle legal unarmed unheld => ?_,
    fun base granted hbase len cycle unarmed unheld => ⟨fun far => ?_, fun near => ?_⟩,
    fun granted waits => ?_, fun en la guard hold granted hhold => ?_, fun start granted => ?_⟩
  · exact answers_of_eq (cueLoad_of_ok hport unarmed unheld rq.ch least most hcycle legal)
      (answers_cueListLoad port granted es cycle)
  · refine answers_of_eq ?_ (answers_cueListArm port granted base)
    exact cueArmSfi_of_far hport unarmed unheld rq hbase len cycle rfl far
  · refine answers_of_eq ?_ (answers_cueListArm port granted base)
    exact cueArmSfi_of_near hport unarmed unheld rq hbase len cycle rfl near
  · exact answers_of_eq (okIf_of_takeover_waits hport waits _) (answers_cueListDisarm port granted)
  · exact answers_of_eq (okIf_of_true (decide_eq_true ⟨hport, hhold⟩) _ _) (answers_gateConfig port granted en la guard hold)
  · exact answers_of_eq (if_neg (Nat.not_le.mpr hport)) (answers_cueListQuery port granted start)

end Sys2Proof.Proofs
end

section
/-! PROOF. The stagehand array at work (R263, R267, R268, R270, R272, R275, R278): what each operation of an engine, a cluster, the
supervision generator and the profiler does in the branches that its command can meet. -/

namespace Sys2Proof.Proofs

open Sys2Proof Sys2Proof.Machine Sys2Proof.Laws

/-! ## A program begins on an engine (R267) -/

section Start

variable {d : Dev} {e : Nat} (idle : d.engRun.get e = none) (serves : d.on F.ENG_STATUS_STOPPED e = false)
  (clocked : d.clFreq (e / 8) ≠ 0)
include idle serves clocked

/-- An idle engine, in service, in a cluster whose clock runs, may take work. -/
theorem engine_free : ((d.engRun.get e).isSome || d.on F.ENG_STATUS_STOPPED e || d.clFreq (e / 8) == 0) = false := by
  simp only [idle, serves, Option.isSome_none, beq_false_of_ne clocked, Bool.or_self]

theorem progStart_of_frame {x : EngItem} {r : List EngItem} (queued : d.engQ.get e = x :: r) :
    d.progStart e = { d with engQ := d.engQ.put e r }.runItem e x := by
  unfold Dev.progStart
  simp only [engine_free idle serves clocked, Bool.false_eq_true, if_false, queued]

theorem progStart_of_supervision {j : Nat × Nat × Nat} (empty : d.engQ.get e = [])
    (waits : d.supvJobs.find? (fun j => j.1 == e) = some j) :
    d.progStart e =
      { d with supvJobs := d.supvJobs.erase j }.runItem e { frame := 0, prog := 4, pin := 0, info := [j.2.1, j.2.2] } := by
  unfold Dev.progStart
  simp only [engine_free idle serves clocked, Bool.false_eq_true, if_false, empty, waits]

end Start

/-! ## A program ends (R268, R270, R272) -/

section End

variable {d : Dev} {e : Nat} {x : EngItem} (runs : d.engRun.get e = some x)
include runs

/-- A program that has read what it must returns its verdict, and its frame's pin entry is free again; the AES blocks of program 2
are the model's count (log entry 37). -/
theorem endInstance_of_ended (ended : d.itemRuns x = false) (code : Nat) (res : List Nat) :
    d.endInstance e code res =
      (let a := { d with engRun := d.engRun.put e none }
       let a := if x.prog = 2 then a.count 0x3C 6 (((a.frames.get x.frame).len + 15) / 16) else a
       (a.itemDone x code res).itemReturn x) := by
  unfold Dev.endInstance
  simp only [runs, ended, Bool.false_eq_true, if_false]

theorem progOverrun_of_overran (overran : 2 * d.progMax x.prog * 15 < (d.cycle - x.began) * d.clFreq (e / 8)) :
    d.progOverrun e =
      (let a := (((d.count 0x3C 5).raise F.STAGE_EVENT_PROG_OVERRUN).stageRec 0x0A02 4 e).count 0x3C 1
       let a := { a with engRun := a.engRun.put e none }
       let a := if x.prog = 2 then (let b := a.draw 16; b.2.count 0x3C 6 b.1) else a
       (a.itemDefault x).itemReturn x) := by
  have ceiling : d.overCeiling e x = true := decide_eq_true overran
  unfold Dev.progOverrun
  simp only [runs, ceiling, Bool.not_true, Bool.false_eq_true, if_false]

end End

theorem progOverrun_of_idle {d : Dev} {e : Nat} (idle : d.engRun.get e = none) : d.progOverrun e = d := by
  unfold Dev.progOverrun
  simp only [idle]

/-! ## A cluster's clock (R263) -/

section Clock

variable {d : Dev} {c : Nat}

theorem clockStop_of_done (stopping : (d.clStopping.get c).isSome = true) (done : d.clBusy c = false) :
    d.clockStop c =
      (let a := ({ d with clStopping := d.clStopping.put c none }.setBit F.STAGE_STATUS_RUNNING 0 c false).count 0x60 7
       (a.jobs.filter (fun j => j.op == 0x601 && j.data == [c])).foldl (fun d j => d.finishJob j .ok) a) := by
  unfold Dev.clockStop
  simp only [Option.isNone_eq_false_iff.mpr stopping, done, Bool.or_self, Bool.false_eq_true, if_false]

theorem clockStop_of_busy (busy : d.clBusy c = true) : d.clockStop c = d := by
  unfold Dev.clockStop
  simp only [busy, Bool.or_true, if_true]

end Clock

/-! ## A supervision pass (R275) -/

section Pass

variable {d : Dev}

theorem supvPass_of_early (early : d.cycle < d.supvAt + d.get F.STAGE_CTRL_LIFE_CHECK * msCycles) : d.supvPass = d :=
  if_pos early

variable (due : d.supvAt + d.get F.STAGE_CTRL_LIFE_CHECK * msCycles ≤ d.cycle)
include due

/-- While the last pass still runs, the one that is due is skipped. -/
theorem supvPass_of_busy (busy : { d with supvAt := d.cycle }.supvBusy = true) :
    d.supvPass = ({ d with supvAt := d.cycle }.raise F.STAGE_EVENT_SUPV_LATE).record { code := 0x0A08, sev := 3 } := by
  unfold Dev.supvPass
  simp only [if_neg (Nat.not_lt.mpr due), busy, if_true]

theorem supvPass_of_loaded (free : { d with supvAt := d.cycle }.supvBusy = false)
    (loaded : { d with supvAt := d.cycle }.on F.PROG_CFG_LOADED 4 = true) :
    d.supvPass = { d with supvAt := d.cycle, supvJobs := { d with supvAt := d.cycle }.supvWork } := by
  unfold Dev.supvPass
  simp only [if_neg (Nat.not_lt.mpr due), free, loaded, Bool.true_eq_false, Bool.false_eq_true, if_false]

end Pass

/-! ## A sample of the profiler (R278) -/

/-- The buffer of the profiler with a sample of the item on an engine at its end. -/
def profiled (d : Dev) (x : EngItem) (e offset : Nat) : Dev :=
  { d with profBuf := d.profBuf ++ [[x.prog, e, offset, d.ptNs % 2 ^ 32]] }

theorem profSample_of_stopped {d : Dev} (stopped : d.profEvent = none) (e offset : Nat) : d.profSample e offset = d := by
  unfold Dev.profSample
  simp only [stopped]

section Sample

variable {d : Dev} {e : Nat} {x : EngItem} {ev : Nat × Nat} (started : d.profEvent = some ev) (runs : d.engRun.get e = some x)
  (unfilled : d.profFull = false) (offset : Nat)
include started runs unfilled

/-- The sample joins the buffer, and the one that leaves no room for another raises PROFILE_FULL. -/
theorem profSample_of_unfilled :
    d.profSample e offset =
      if d.profBuf.length + 1 < 4096 then profiled d x e offset
      else { profiled d x e offset with profFull := true }.raise F.STAGE_EVENT_PROFILE_FULL := by
  unfold Dev.profSample profiled
  simp only [started, runs, unfilled, Bool.false_eq_true, if_false, List.length_append, List.length_singleton]

theorem profSample_of_room (room : d.profBuf.length < 4095) : d.profSample e offset = profiled d x e offset :=
  (profSample_of_unfilled started runs unfilled offset).trans (if_pos (Nat.succ_lt_succ room))

theorem profSample_of_last (last : 4095 ≤ d.profBuf.length) :
    d.profSample e offset = { profiled d x e offset with profFull := true }.raise F.STAGE_EVENT_PROFILE_FULL :=
  (profSample_of_unfilled started runs unfilled offset).trans (if_neg (Nat.not_lt.mpr (Nat.succ_le_succ last)))

end Sample

/-! ## Commands: the operation on the device that the command finds -/

theorem does_clCfgWrite {s : State} {m : Fin 32} {c : Fin 16} {w : Word} (passes : Writes s m .CL_CFG c w.toNat) :
    Does (.clCfgWrite m c w) s
      (let d := s.passed m .CL_CFG c w.toNat
       let d' := d.store .CL_CFG c w.toNat
       d'.clChanged c (d.get F.CL_CFG_STEP c) (d'.get F.CL_CFG_STEP c)) := writes_act passes _

section StageMoments

variable {s : State} (live : s.live) (e : Fin 128) (c : Fin 16)
include live

theorem does_programStart : Does (.programStart e) s ((s.due (untied 10 0)).progStart e) := live_later live 10 0 (·.progStart e)

theorem does_verdictMerge (code : Fin 6) (res : List Nat) :
    Does (.verdictMerge e code res) s ((s.due atMerge).endInstance e code res) := live_due live _ (·.endInstance e code res)

theorem does_progOverrun : Does (.progOverrun e) s ((s.due (untied 10 0)).progOverrun e) :=
  live_later live 10 0 (·.progOverrun e)

theorem does_engineFault : Does (.engineFault e) s ((s.due (untied 10 0)).engineFault e) :=
  live_later live 10 0 (·.engineFault e)

theorem does_engineReloadDone : Does (.engineReloadDone c) s ((s.due (untied 10 0)).engineReload c) :=
  live_later live 10 0 (·.engineReload c)

theorem does_clusterClockStop : Does (.clusterClockStop c) s ((s.due (untied 10 0)).clockStop c) :=
  live_later live 10 0 (·.clockStop c)

theorem does_supvGenPass : Does .supvGenPass s (s.due (untied 10 0)).supvPass := live_later live 10 0 (·.supvPass)

theorem does_profileSample (offset : Nat) :
    Does (.profileSample e offset) s ((s.due (untied 10 0)).profSample e offset) :=
  live_later live 10 0 (·.profSample e offset)

end StageMoments

/-- Settles O20: verdicts come with the merges, the other moments with those of block 10, and each takes the branch that the
engine's work, the cluster's, the last pass or the profiler's buffer names; a fault and a reload have one branch each. -/
theorem stagehands : Obligations.Stagehands := by
  unfold Obligations.Stagehands
  refine ⟨fun s e c live => ⟨fun idle serves clocked => ⟨fun x r queued => ?_, fun j empty waits => ?_⟩,
      fun x code res runs ended => ?_, ⟨fun x runs overran => ?_, fun idle => ?_, ?_, ?_⟩⟩,
    fun s m c e w offset => ⟨fun passes => ?_, fun live => ⟨fun stopping done => ?_, fun busy => ?_,
      ⟨fun due => ⟨fun busy => ?_, fun free loaded => ?_⟩, fun early => ?_⟩,
      fun x ev started runs unfilled => ⟨fun room => ?_, fun last => ?_⟩, fun stopped => ?_⟩⟩⟩
  · exact does_of_eq (progStart_of_frame idle serves clocked queued) (does_programStart live e)
  · exact does_of_eq (progStart_of_supervision idle serves clocked empty waits) (does_programStart live e)
  · exact does_of_eq (endInstance_of_ended runs ended code res) (does_verdictMerge live e code res)
  · exact does_of_eq (progOverrun_of_overran runs overran) (does_progOverrun live e)
  · exact does_of_eq (progOverrun_of_idle idle) (does_progOverrun live e)
  · exact does_engineFault live e
  · exact does_engineReloadDone live c
  · exact does_clCfgWrite passes
  · exact does_of_eq (clockStop_of_done stopping done) (does_clusterClockStop live c)
  · exact does_of_eq (clockStop_of_busy busy) (does_clusterClockStop live c)
  · refine does_of_eq ?_ (does_supvGenPass live)
    exact supvPass_of_busy due busy
  · refine does_of_eq ?_ (does_supvGenPass live)
    exact supvPass_of_loaded due free loaded
  · exact does_of_eq (supvPass_of_early early) (does_supvGenPass live)
  · exact does_of_eq (profSample_of_room started runs unfilled offset room) (does_profileSample live e offset)
  · exact does_of_eq (profSample_of_last started runs unfilled offset last) (does_profileSample live e offset)
  · exact does_of_eq (profSample_of_stopped stopped e offset) (does_profileSample live e offset)

end Sys2Proof.Proofs
end

section
/-! PROOF. The SFI commands of the stage group (R292): the values that each takes, and what it answers to them. -/

namespace Sys2Proof.Proofs

open Sys2Proof Sys2Proof.Machine Sys2Proof.Laws

/-! ## Steps of a cluster (R263) -/

/-- The forced step of a cluster succeeds at once, unless the cluster has frames to finish before its clock stops. -/
theorem clusterStepSet_of_settled {d a : Dev} {c step : Nat} (hc : c < 16) (hstep : step ≤ 4)
    (changed : (d.cfgF F.CL_CFG_STEP c step).clChanged c (d.get F.CL_CFG_STEP c) step = a)
    (settled : (a.clStopping.get c).isNone = true ∨ a.clBusy c = false) : d.clusterStepSet c step true = (a, .ok) := by
  have finished : ((a.clStopping.get c).isSome && a.clBusy c) = false := by
    rw [← Option.not_isNone]
    rcases settled with h | h <;> simp only [h, Bool.not_true, Bool.false_and, Bool.and_false]
  unfold Dev.clusterStepSet
  simp only [changed, hc, hstep, finished, and_self, not_true, if_false, Bool.not_true, Bool.false_and, Bool.false_eq_true]

/-! ## Programs and their pin tables (R265, R267) -/

/-- PROGRAM_ASSIGN: a loaded program takes its clusters, its pin table is filled anew, and every bound is checked. -/
def programAssign (d : Dev) (prog mask : Nat) : Dev × Ans :=
  if ¬ (1 ≤ prog ∧ prog < 64 ∧ mask < 65536) then (d, .invalid)
  else if d.on F.PROG_CFG_LOADED prog = false then (d, .unsupported)
  else (((d.cfgF F.PROG_CFG_CL_MASK prog mask).refillPins prog).checkAllBounds, .ok)

/-- PIN_REBALANCE before its completion. -/
def pinRebalance (d : Dev) (prog : Nat) : Dev × Ans :=
  if ¬ (1 ≤ prog ∧ prog < 64) then (d, .invalid)
  else if d.on F.PROG_CFG_LOADED prog = false then (d, .unsupported)
  else (d.refillPins prog, .pending [prog])

section Programs

variable {d : Dev} {prog : Nat} (least : 1 ≤ prog) (most : prog < 64)
include least most

theorem programAssign_of_loaded {mask : Nat} (hmask : mask < 65536) (loaded : d.on F.PROG_CFG_LOADED prog = true) :
    programAssign d prog mask = (((d.cfgF F.PROG_CFG_CL_MASK prog mask).refillPins prog).checkAllBounds, .ok) :=
  (if_neg (not_not_intro ⟨least, most, hmask⟩)).trans (if_neg (Bool.ne_false_iff.mpr loaded))

theorem programAssign_of_unloaded {mask : Nat} (hmask : mask < 65536) (unloaded : d.on F.PROG_CFG_LOADED prog = false) :
    programAssign d prog mask = (d, .unsupported) :=
  (if_neg (not_not_intro ⟨least, most, hmask⟩)).trans (if_pos unloaded)

theorem pinRebalance_of_loaded (loaded : d.on F.PROG_CFG_LOADED prog = true) :
    pinRebalance d prog = (d.refillPins prog, .pending [prog]) :=
  (if_neg (not_not_intro ⟨least, most⟩)).trans (if_neg (Bool.ne_false_iff.mpr loaded))

end Programs

/-! ## Supervision frames (R275) -/

/-- A pair's enable bit, LIFE_CHECK and the last byte of the address of supervision frames are set. -/
def supvGenTake (d : Dev) (pair : Nat) (en : Bool) (life last : Nat) : Dev :=
  let w := d.reg .SUPV_EN (pair / 32)
  ((d.cfg .SUPV_EN (pair / 32) (if en then w ||| 2 ^ (pair % 32) else dropBit w (pair % 32))).cfgF
    F.STAGE_CTRL_LIFE_CHECK 0 life).cfgF F.STAGE_CTRL_SUPV_LAST_BYTE 0 last

/-! ## Commands: the operation on the device that the command starts from -/

/-- Answering depends on an effect only at the device that the request starts from. -/
theorem devAnswers_congr {d : Dev} {rq : Sfi} {op role : Nat} {e e' : Dev → Dev × Ans}
    (effect : e (d.sfiStart rq op) = e' (d.sfiStart rq op)) : d.answers rq op role e = d.answers rq op role e' := by
  unfold Dev.answers
  rw [effect]

section StageCommands

variable {s : State} {rq : Sfi} {role : Nat}

theorem answers_stageQuery (granted : Granted s rq 0x600 0 false role) (start : Nat) :
    Answers (.stageQuery rq start) s rq 0x600 role (fun d =>
      (d, d.listing rq 0x600 1 (d.stageRows.filter (fun e => decide (start ≤ e.1))))) :=
  granted_sfi granted _

theorem answers_clusterStepSet (granted : Granted s rq 0x601 2 false role) (c step : Nat) (force : Bool) :
    Answers (.clusterStepSet rq c step force) s rq 0x601 role (fun d => d.clusterStepSet c step force) :=
  granted_sfi granted (fun d _ => d.clusterStepSet c step force)

theorem answers_programAssign (granted : Granted s rq 0x602 2 false role) (prog mask : Nat) :
    Answers (.programAssign rq prog mask) s rq 0x602 role (fun d => programAssign d prog mask) :=
  granted_sfi granted (fun d _ => programAssign d prog mask)

/-- Once PIN_REBALANCE is answered, a table of which no entry waits completes it. -/
theorem does_pinRebalance (granted : Granted s rq 0x603 1 false role) (prog : Nat) :
    Does (.pinRebalance rq prog) s
      (((s.sfiDue 0x603).answers rq 0x603 role (fun d => pinRebalance d prog)).pinsApplied prog) := by
  have run := live_due granted.live (sfiPlace 0x603)
    (fun d => (d.sfiRun rq 0x603 1 false (fun d _ => pinRebalance d prog)).pinsApplied prog)
  rw [show s.due (sfiPlace 0x603) = s.sfiDue 0x603 from rfl, sfiRun_granted granted] at run
  exact run

theorem answers_samplerSet (granted : Granted s rq 0x604 2 false role) (port n : Nat) (random en : Bool) (ring : Nat) :
    Answers (.samplerSet rq port n random en ring) s rq 0x604 role (fun d =>
      okIf (decide (port < 256 ∧ ring < 64) && F.SAMPLER_CFG_N.ok n) d
        (d.cfg .SAMPLER_CFG port (n + 2 ^ 24 * b2n random + 2 ^ 25 * b2n en + 2 ^ 26 * ring))) :=
  granted_sfi granted _

theorem answers_profileStop (granted : Granted s rq 0x605 2 false role) :
    Answers (.profileStart rq none) s rq 0x605 role (fun d => ({ d with profEvent := none }, .ok)) :=
  granted_sfi granted _

theorem answers_profileStart (granted : Granted s rq 0x605 2 false role) (ev p : Nat) :
    Answers (.profileStart rq (some (ev, p))) s rq 0x605 role (fun d =>
      okIf (decide (ev ≤ 2 ∧ 1000 ≤ p ∧ p < 2 ^ 32)) d { d with profEvent := some (ev, p) }) :=
  granted_sfi granted _

/-- PROFILE_READ takes up to 64 samples of three words, as many as the reply holds, out of the buffer. -/
theorem answers_profileRead (granted : Granted s rq 0x606 0 false role) :
    Answers (.profileRead rq) s rq 0x606 role (fun d =>
      (let n := min 64 (d.replyRoom rq 0x606 / 3)
       { d with profBuf := d.profBuf.drop n, profFull := d.profFull && !(d.profBuf.drop n).isEmpty },
       .okW ((d.profBuf.take (min 64 (d.replyRoom rq 0x606 / 3))).flatMap
        (fun x => [x.getD 0 0 + 256 * x.getD 1 0, x.getD 2 0 % 2 ^ 32, x.getD 3 0])))) :=
  granted_sfi granted _

theorem answers_supvGenSet (granted : Granted s rq 0x607 2 false role) (pair : Nat) (en : Bool) (life last : Nat) :
    Answers (.supvGenSet rq pair en life last) s rq 0x607 role (fun d =>
      okIf (decide (pair < 128 ∧ last < 256) && F.STAGE_CTRL_LIFE_CHECK.ok life) d (supvGenTake d pair en life last)) :=
  granted_sfi granted (fun d _ =>
    okIf (decide (pair < 128 ∧ last < 256) && F.STAGE_CTRL_LIFE_CHECK.ok life) d (supvGenTake d pair en life last))

end StageCommands

/-- Settles O21: an admitted command answers what its operation makes of the device it starts from: a query and the profiler's
buffer are read as they stand, a program is asked for as loaded, and values in range are the change of their listing. -/
theorem stageSfi : Obligations.StageSfi := by
  unfold Obligations.StageSfi
  refine fun s rq role => ⟨fun start granted => ?_, fun c step granted hc hstep settled => ?_,
    fun prog mask granted least most hmask => ⟨fun loaded => ?_, fun unloaded => ?_⟩,
    fun prog granted least most loaded => ?_, fun port n random en ring granted hport hring hn => ?_,
    fun granted => ⟨?_, fun ev p hev hleast hmost => ?_⟩, fun granted => ?_,
    fun pair en life last granted hpair hlast hlife => ?_⟩
  · exact answers_stageQuery granted start
  · refine answers_of_eq ?_ (answers_clusterStepSet granted c step true)
    exact clusterStepSet_of_settled hc hstep rfl settled
  · exact answers_of_eq (programAssign_of_loaded least most hmask loaded) (answers_programAssign granted prog mask)
  · exact answers_of_eq (programAssign_of_unloaded least most hmask unloaded) (answers_programAssign granted prog mask)
  · refine does_of_eq (congrArg (Dev.pinsApplied · prog) (devAnswers_congr ?_)) (does_pinRebalance granted prog)
    exact pinRebalance_of_loaded least most loaded
  · refine answers_of_eq (okIf_of_true ?_ _ _) (answers_samplerSet granted port n random en ring)
    exact Bool.and_eq_true_iff.mpr ⟨decide_eq_true ⟨hport, hring⟩, hn⟩
  · exact answers_profileStop granted
  · exact answers_of_eq (okIf_of_true (decide_eq_true ⟨hev, hleast, hmost⟩) _ _) (answers_profileStart granted ev p)
  · exact answers_profileRead granted
  · refine answers_of_eq ?_ (answers_supvGenSet granted pair en life last)
    exact okIf_of_true (Bool.and_eq_true_iff.mpr ⟨decide_eq_true ⟨hpair, hlast⟩, hlife⟩) _ (supvGenTake _ pair en life last)

end Sys2Proof.Proofs
end

section
/-! PROOF. The Folio at work (R280 to R291): what the formatter makes of a copy, and what the shed level, the assembly buffer, the
drives, the reads and the start do in the branches that their commands can meet. -/

namespace Sys2Proof.Proofs

open Sys2Proof Sys2Proof.Machine Sys2Proof.Laws

/-! ## Counting an event leaves the core cycle alone -/

@[simp] theorem countQ_cycle (d : Dev) (s i n : Nat) (a : Attr) : (d.countQ s i n a).cycle = d.cycle := by
  unfold Dev.countQ
  split
  · dsimp only
    split
    · rfl
    · split
      · rfl
      · rw [raise_cycle]
  · rfl

@[simp] theorem recArgs_cycle (d : Dev) (e : Evt) : (recArgs d e).1.cycle = d.cycle := by
  unfold recArgs
  split <;> rfl

@[simp] theorem record_cycle (d : Dev) (e : Evt) : (d.record e).cycle = d.cycle := by
  unfold Dev.record
  simp only [recArgs_cycle, countQ_cycle]
  split <;> rfl

@[simp] theorem recordLim_cycle (d : Dev) (n : Nat) (e : Evt) : (d.recordLim n e).cycle = d.cycle := by
  unfold Dev.recordLim
  dsimp only
  split
  · rw [record_cycle, mark_cycle]
  · rfl

@[simp] theorem count_cycle (d : Dev) (s i n : Nat) (a : Attr) : (d.count s i n a).cycle = d.cycle := by
  unfold Dev.count
  dsimp only
  split
  · rw [recordLim_cycle, countQ_cycle]
  · rw [countQ_cycle]

/-! ## A capture copy (R284, R285) -/

/-- What the formatter makes of a copy delivered to it: without capture nothing, else it sheds it or keeps it. -/
def formatted (d : Dev) (c : Copy) : Dev :=
  if d.folioRuns = false then d
  else if c.cls ≤ d.get F.FOLIO_STATUS_SHED_LEVEL ∧ c.cls < 7 then d.shed c.cls
  else d.formatCopy c

theorem formatterTake_of_taken {d a b : Dev} {c : Copy} {us : List Upset}
    (taken : { d.takeCycle with takeN := d.takeCycle.takeN + 1 }.takeHead 259 255 us = (a, some c))
    (result : formatted (a.delivered c) c = b) : d.formatterTake us = b.consume c.frame := by
  subst result
  unfold Dev.formatterTake formatted
  simp only [taken]

section Formatted

variable {d : Dev} {c : Copy}

theorem formatted_of_stopped (stopped : d.folioRuns = false) : formatted d c = d := if_pos stopped

variable (runs : d.folioRuns = true)
include runs

theorem formatted_of_shed (level : c.cls ≤ d.get F.FOLIO_STATUS_SHED_LEVEL) (sheddable : c.cls < 7) :
    formatted d c = d.shed c.cls :=
  (if_neg (Bool.ne_false_iff.mpr runs)).trans (if_pos ⟨level, sheddable⟩)

/-- Class 7 is kept at every level. -/
theorem formatted_of_kept (kept : d.get F.FOLIO_STATUS_SHED_LEVEL < c.cls ∨ 7 ≤ c.cls) : formatted d c = d.formatCopy c :=
  (if_neg (Bool.ne_false_iff.mpr runs)).trans
    (if_neg fun ⟨level, sheddable⟩ => kept.elim (Nat.not_lt.mpr level) (Nat.not_le.mpr sheddable))

end Formatted

/-! ## The shed level and the assembly buffer (R285, R286) -/

section Buffer

variable {d : Dev}

theorem shedDown_of_low {t : Nat} (low : d.lowSince = some t) (level : d.get F.FOLIO_STATUS_SHED_LEVEL ≠ 0)
    (stayed : max t d.shedAt + msCycles ≤ d.cycle) :
    d.shedDown =
      ({ d with shedAt := d.cycle }.set F.FOLIO_STATUS_SHED_LEVEL 0 (d.get F.FOLIO_STATUS_SHED_LEVEL - 1)).record
        { code := 0x0B02, sev := 1, a0 := d.get F.FOLIO_STATUS_SHED_LEVEL - 1 } := by
  unfold Dev.shedDown
  simp only [low]
  exact if_pos ⟨level, stayed⟩

theorem assemblyDrain_of_ready (runs : d.folioRuns = true) (ready : drainSize ≤ d.readyBytes)
    (room : d.nvmeRoom (d.segs.get d.wrPos).drive = true) : d.assemblyDrain = d.drainWrite := by
  unfold Dev.assemblyDrain
  simp only [runs, decide_eq_true ready, room, Bool.and_self, if_true]

theorem assemblyDrain_of_short (short : d.readyBytes < drainSize) : d.assemblyDrain = d := by
  unfold Dev.assemblyDrain
  simp only [decide_eq_false (Nat.not_le.mpr short), Bool.and_false, Bool.false_and, Bool.false_eq_true, if_false]

theorem headerTick_of_due (runs : d.folioRuns = true) (due : d.hdrAt + secCycles ≤ d.cycle) :
    d.headerTick = { d with hdrAt := d.cycle }.headerWrite := by
  unfold Dev.headerTick
  simp only [runs, decide_eq_true due, Bool.and_self, if_true]

end Buffer

/-! ## Drives (R280, R289) -/

section Drives

variable {d : Dev} {n : Nat}

section Completion

variable {write : Bool} {k : Nat} (opened : (d.nvmeOut.get n).findIdx? (fun x => nvmeWrites x.1 == write) = some k)
include opened

theorem nvmeDone_of_success :
    d.nvmeDone n write false false = { d with nvmeOut := d.nvmeOut.put n ((d.nvmeOut.get n).eraseIdx k) } := by
  unfold Dev.nvmeDone
  simp only [opened, Bool.false_and, Bool.false_eq_true, if_false]

/-- A write that fails is counted, raised and recorded. -/
theorem nvmeDone_of_error (wrote : write = true) :
    d.nvmeDone n write true false =
      (({ d with nvmeOut := d.nvmeOut.put n ((d.nvmeOut.get n).eraseIdx k) }.count 0x40 7).raise
        F.FOLIO_EVENT_WRITE_ERROR).record { code := 0x0B0A, sev := 5, a0 := n, obj := .drive n } := by
  subst wrote
  unfold Dev.nvmeDone
  simp only [opened, Bool.and_self, Bool.false_eq_true, if_true, if_false]

end Completion

/-- The command open for 100 ms is aborted; without a timeout in the second before, the drive stays. -/
theorem nvmeTimeout_of_first {x : Nat × Nat} {r : List (Nat × Nat)} (opened : d.nvmeOut.get n = x :: r)
    (late : x.2 + 100 * msCycles ≤ d.cycle) (first : d.nvmeTo.get n = 0 ∨ d.nvmeTo.get n + secCycles ≤ d.cycle + 1) :
    d.nvmeTimeout n =
      ({ d with nvmeOut := d.nvmeOut.put n r, nvmeTo := d.nvmeTo.put n (d.cycle + 1) }.emit (.nvme n 5 0 0)).count 0x40 7 := by
  have stays : ¬ (d.nvmeTo.get n ≠ 0 ∧ d.cycle + 1 < d.nvmeTo.get n + secCycles) :=
    fun ⟨again, soon⟩ => first.elim again (Nat.not_le.mpr soon)
  unfold Dev.nvmeTimeout
  simp only [opened, if_neg (Nat.not_lt.mpr late), count_cycle, emit_cycle, if_neg stays]

theorem nvmeTimeout_of_none (unopened : d.nvmeOut.get n = []) : d.nvmeTimeout n = d := by
  unfold Dev.nvmeTimeout
  simp only [unopened]

end Drives

/-! ## Reads and the start (R281, R288, R290) -/

/-- The oldest FOLIO_READ is looked at alone. -/
theorem folioReadEnd_of_waiting {d : Dev} {j : Job} (waits : d.jobs.find? (fun j => j.op == 0x709) = some j) :
    d.folioReadEnd = if d.readDue j then d.readDone j else d := by
  unfold Dev.folioReadEnd
  simp only [waits]

section Start

variable {d a : Dev} {ds : List DriveArgs} (hdr : Option (Nat × Nat × Nat)) (starting : d.get F.FOLIO_STATUS_STATE = 1)
  (ring : d.folioRing d.formatAsked ds = a)
include starting ring

/-- FOLIO_START fails without a drive in the ring. -/
theorem folioStarted_of_no_drive (empty : a.ringDrives.isEmpty = true) :
    d.folioStarted ds hdr = a.folioOff.finishOp 0x701 .invalid := by
  unfold Dev.folioStarted
  simp only [starting, ne_eq, not_true, if_false, ring, empty, Bool.true_or, if_true]

variable (drives : a.ringDrives.isEmpty = false)
include drives

theorem folioStarted_of_format (format : d.formatAsked = true) :
    d.folioStarted ds hdr = (a.folioFormat.set F.FOLIO_STATUS_STATE 0 2).headerWrite.finishOp 0x701 (.okW [2]) := by
  rw [format] at ring
  unfold Dev.folioStarted
  simp only [starting, ne_eq, not_true, if_false, ring, drives, format, Bool.not_true, Bool.and_false, Bool.or_self,
    Bool.false_eq_true, if_true]

variable (resume : d.formatAsked = false)
include resume

/-- Without a format, headers that agree on no Folio fail it. -/
theorem folioStarted_of_no_header : d.folioStarted ds none = a.folioOff.finishOp 0x701 .invalid := by
  rw [resume] at ring
  unfold Dev.folioStarted
  simp only [starting, ne_eq, not_true, if_false, ring, drives, resume, Option.isNone_none, Bool.not_false, Bool.and_self,
    Bool.or_true, if_true]

theorem folioStarted_of_header (h : Nat × Nat × Nat) :
    d.folioStarted ds (some h) =
      ((a.folioResume h).set F.FOLIO_STATUS_STATE 0 2).headerWrite.finishOp 0x701 (.okW [2]) := by
  rw [resume] at ring
  unfold Dev.folioStarted
  simp only [starting, ne_eq, not_true, if_false, ring, drives, resume, Option.isNone_some, Bool.false_and, Bool.or_self,
    Bool.false_eq_true]

end Start

/-! ## Commands: the operation on the device that the command finds -/

section FolioMoments

variable {s : State} (live : s.live)
include live

theorem does_folioFormatterTake (us : List Upset) :
    Does (.folioFormatterTake us) s ((s.toDev.turn Dev.takePlace).formatterTake us) := live_act live _ (·.formatterTake us)

theorem does_shedDown : Does .shedDown s (s.due (untied 11 0)).shedDown := live_later live 11 0 (·.shedDown)

theorem does_assemblyDrainWrite : Does .assemblyDrainWrite s (s.due (untied 11 0)).assemblyDrain :=
  live_later live 11 0 (·.assemblyDrain)

theorem does_folioLinkDown (n : Fin 4) : Does (.folioLinkDown n) s ((s.due (untied 11 0)).driveLost n) :=
  live_later live 11 0 (·.driveLost n)

theorem does_nvmeCompletion (n : Fin 4) (write err fatal : Bool) :
    Does (.nvmeCompletion n write err fatal) s ((s.due (untied 11 0)).nvmeDone n write err fatal) :=
  live_later live 11 0 (·.nvmeDone n write err fatal)

theorem does_nvmeTimeout (n : Fin 4) : Does (.nvmeTimeout n) s ((s.due (untied 11 0)).nvmeTimeout n) :=
  live_later live 11 0 (·.nvmeTimeout n)

theorem does_folioHeaderWrite : Does .folioHeaderWrite s (s.due (untied 11 0)).headerTick :=
  live_later live 11 0 (·.headerTick)

theorem does_smartPoll (wear : List Nat) : Does (.smartPoll wear) s ((s.due (untied 11 0)).smart wear) :=
  live_later live 11 0 (·.smart wear)

theorem does_folioReadDone : Does .folioReadDone s (s.due (untied 11 0)).folioReadEnd := live_later live 11 0 (·.folioReadEnd)

theorem does_folioStartDone (ds : List DriveArgs) (hdr : Option (Nat × Nat × Nat)) :
    Does (.folioStartDone ds hdr) s ((s.due (untied 11 0)).folioStarted ds hdr) :=
  live_later live 11 0 (·.folioStarted ds hdr)

end FolioMoments

/-- Settles O22: a copy is taken among those that leave the ports, the other moments come with those of block 11, and each takes
the branch that the shed level, the buffer, the drive's open commands, the oldest read or the ring found at the start names. -/
theorem folioEvents : Obligations.FolioEvents := by
  unfold Obligations.FolioEvents
  refine ⟨fun s n us live => ⟨fun a c taken => ⟨fun runs level sheddable => ?_, fun runs kept => ?_, fun stopped => ?_⟩,
      fun t low level stayed => ?_, fun runs ready room => ?_, fun short => ?_, ?_,
      fun write err k opened => ⟨fun ok => ?_, fun failed wrote => ?_⟩,
      fun x r opened late first => ?_, fun unopened => ?_, fun runs due => ?_⟩,
    fun s live => ⟨fun wear due => ?_, fun j waits => ⟨fun read => ?_, fun unread => ?_⟩,
      fun ds hdr starting => ⟨fun empty => ?_, fun drives format => ?_, fun drives resume missing => ?_,
        fun h drives resume found => ?_⟩⟩⟩
  · exact does_of_eq (formatterTake_of_taken taken (formatted_of_shed runs level sheddable)) (does_folioFormatterTake live us)
  · exact does_of_eq (formatterTake_of_taken taken (formatted_of_kept runs kept)) (does_folioFormatterTake live us)
  · exact does_of_eq (formatterTake_of_taken taken (formatted_of_stopped stopped)) (does_folioFormatterTake live us)
  · exact does_of_eq (shedDown_of_low low level stayed) (does_shedDown live)
  · exact does_of_eq (assemblyDrain_of_ready runs ready room) (does_assemblyDrainWrite live)
  · exact does_of_eq (assemblyDrain_of_short short) (does_assemblyDrainWrite live)
  · exact does_folioLinkDown live n
  · subst ok
    exact does_of_eq (nvmeDone_of_success opened) (does_nvmeCompletion live n write false false)
  · subst failed
    exact does_of_eq (nvmeDone_of_error opened wrote) (does_nvmeCompletion live n write true false)
  · exact does_of_eq (nvmeTimeout_of_first opened late first) (does_nvmeTimeout live n)
  · exact does_of_eq (nvmeTimeout_of_none unopened) (does_nvmeTimeout live n)
  · exact does_of_eq (headerTick_of_due runs due) (does_folioHeaderWrite live)
  · exact does_of_eq (if_neg (Nat.not_lt.mpr due)) (does_smartPoll live wear)
  · exact does_of_eq ((folioReadEnd_of_waiting waits).trans (if_pos read)) (does_folioReadDone live)
  · exact does_of_eq ((folioReadEnd_of_waiting waits).trans (if_neg (Bool.eq_false_iff.mp unread))) (does_folioReadDone live)
  · exact does_of_eq (folioStarted_of_no_drive hdr starting rfl empty) (does_folioStartDone live ds hdr)
  · exact does_of_eq (folioStarted_of_format hdr starting rfl drives format) (does_folioStartDone live ds hdr)
  · subst missing
    exact does_of_eq (folioStarted_of_no_header starting rfl drives resume) (does_folioStartDone live ds none)
  · subst found
    exact does_of_eq (folioStarted_of_header starting rfl drives resume h) (does_folioStartDone live ds (some h))

end Sys2Proof.Proofs
end

section
/-! PROOF. The SFI commands of the Folio, of capture and of pinned windows (R293): the values and the state that each asks for, and
what it answers to them. -/

namespace Sys2Proof.Proofs

open Sys2Proof Sys2Proof.Machine Sys2Proof.Laws

/-! ## The Folio's settings, start and stop (R280, R285, R288) -/

/-- FOLIO_CONFIG: BUSY 9 where a parameter that needs the Folio stopped changes while it is not. -/
def folioConfig (d : Dev) (links pin hi lo : Nat) (cap : Bool) (rb : Nat) : Dev × Ans :=
  if ¬ (links < 3 ∧ 1 ≤ pin ∧ pin ≤ 50 ∧ lo < hi ∧ hi ≤ 100 ∧ 1 ≤ rb ∧ rb ≤ 31) then (d, .invalid)
  else if d.get F.FOLIO_STATUS_STATE ≠ 0 ∧ d.folioFixed links hi lo cap = false then (d, .busy 9)
  else ((d.cfg .FOLIO_CTRL 0 (links + 4 * b2n cap + 256 * pin + 65536 * hi + 2 ^ 24 * rb)).set F.FOLIO_STATUS_SHED_LO 0 lo, .ok)

theorem folioConfig_of_ok {d : Dev} {links pin hi lo rb : Nat} {cap : Bool} (hlinks : links < 3) (hpin : 1 ≤ pin ∧ pin ≤ 50)
    (hshed : lo < hi ∧ hi ≤ 100) (hrb : 1 ≤ rb ∧ rb ≤ 31)
    (may : d.get F.FOLIO_STATUS_STATE = 0 ∨ d.folioFixed links hi lo cap = true) :
    folioConfig d links pin hi lo cap rb =
      ((d.cfg .FOLIO_CTRL 0 (links + 4 * b2n cap + 256 * pin + 65536 * hi + 2 ^ 24 * rb)).set F.FOLIO_STATUS_SHED_LO 0 lo,
        .ok) := by
  have unbusy : ¬ (d.get F.FOLIO_STATUS_STATE ≠ 0 ∧ d.folioFixed links hi lo cap = false) :=
    fun ⟨started, changed⟩ => may.elim started (fun fixed => Bool.eq_false_iff.mp changed fixed)
  exact (if_neg (not_not_intro ⟨hlinks, hpin.1, hpin.2, hshed.1, hshed.2, hrb⟩)).trans (if_neg unbusy)

/-- FOLIO_START before its completion: the links are powered, and the drives are waited for. -/
def folioStart (d : Dev) (format : Bool) : Dev × Ans :=
  if d.get F.FOLIO_STATUS_STATE ≠ 0 then (d, .invalid)
  else ((d.set F.FOLIO_STATUS_STATE 0 1).folioLinks (2 ^ d.get F.FOLIO_CTRL_BIFURCATION), .pending [b2n format])

/-! ## Read-back (R290) -/

/-- A read names a class outside 1 to 7, those of capture. -/
def badClass : Option Nat → Bool
  | some k => decide (k = 0 ∨ 8 ≤ k)
  | none => false

theorem badClass_of_legal {cls : Option Nat} (legal : ∀ k, cls = some k → 1 ≤ k ∧ k < 8) : badClass cls = false := by
  cases cls with
  | none => rfl
  | some k =>
    obtain ⟨least, most⟩ := legal k rfl
    exact decide_eq_false (by omega)

/-- FOLIO_READ before its completion: it is DENIED outside the windows of the channel's function. -/
def folioRead (d : Dev) (ch : Nat) (x : FolioReadArgs) : Dev × Ans :=
  let fn := d.sender ch
  if x.hi < x.lo ∨ x.len < 64 ∨ badClass x.cls = true ∨ d.folioRuns = false then (d, .invalid)
  else if 8 ≤ fn ∨ d.dmaOk fn x.addr x.len true = false then (d, .denied)
  else
    let b := d.readBuf
    ((d.readHits x).foldl (fun d e => d.nvme e.2.drive 8 e.1 4194304) b.1,
      .pending (readData x fn ++ [d.cycle, b.2] ++ (d.readHits x).flatMap (fun e => [e.1, e.2.seq])))

theorem folioRead_of_ok {d : Dev} {ch : Nat} {x : FolioReadArgs} (ordered : x.lo ≤ x.hi) (holdsHeader : 64 ≤ x.len)
    (hcls : ∀ k, x.cls = some k → 1 ≤ k ∧ k < 8) (runs : d.folioRuns = true) (function : d.sender ch < 8)
    (windowed : d.dmaOk (d.sender ch) x.addr x.len true = true) :
    folioRead d ch x =
      ((d.readHits x).foldl (fun d e => d.nvme e.2.drive 8 e.1 4194304) d.readBuf.1,
        .pending (readData x (d.sender ch) ++ [d.cycle, d.readBuf.2] ++ (d.readHits x).flatMap (fun e => [e.1, e.2.seq]))) := by
  have taken : ¬ (x.hi < x.lo ∨ x.len < 64 ∨ badClass x.cls = true ∨ d.folioRuns = false) := by
    simp only [badClass_of_legal hcls, runs, Nat.not_lt.mpr ordered, Nat.not_lt.mpr holdsHeader, Bool.false_eq_true,
      Bool.true_eq_false, or_self, not_false_eq_true]
  have allowed : ¬ (8 ≤ d.sender ch ∨ d.dmaOk (d.sender ch) x.addr x.len true = false) := by
    simp only [windowed, Nat.not_le.mpr function, Bool.true_eq_false, or_self, not_false_eq_true]
  exact (if_neg taken).trans (if_neg allowed)

/-! ## Pinned windows (R286, R287) -/

/-- PIN_BINDING_SET: PRE and POST of a binding, the code, the mask and the severity of its trigger. -/
def pinBindingSet (d : Dev) (k code mask sev pre post : Nat) : Dev × Ans :=
  if ¬ (k < 16 ∧ code < 65536 ∧ mask < 65536 ∧ sev < 8 ∧ pre ≤ pinMax ∧ post ≤ pinMax) then (d, .invalid)
  else
    ((({ d with bindPre := d.bindPre.put k pre, bindPost := d.bindPost.put k post }.cfgF F.TRIG_MATCH_CODE k code).cfgF
      F.TRIG_MATCH_MASK k mask).cfgF F.TRIG_CTRL_MIN_SEV k sev, .ok)

/-- PIN_NOW's answer: the window that was opened, or that none is free. -/
def pinAnswer : Option Nat → Ans
  | some w => .okW [w]
  | none => .noResource

/-- PIN_NOW under its own binding, with the records that the opening of a window gives. -/
def pinNow (d : Dev) (t pre post : Nat) : Dev × Ans :=
  if ¬ (t < 2 ^ 64 ∧ pre ≤ pinMax ∧ post ≤ pinMax) then (d, .invalid)
  else ((openWin d 16 t pre post).2.2.foldl Dev.record (openWin d 16 t pre post).1, pinAnswer (openWin d 16 t pre post).2.1)

theorem pinNow_of_ok {d : Dev} {t pre post : Nat} (ht : t < 2 ^ 64) (hpre : pre ≤ pinMax) (hpost : post ≤ pinMax)
    {found : Option Nat} (opened : (openWin d 16 t pre post).2.1 = found) :
    pinNow d t pre post =
      ((openWin d 16 t pre post).2.2.foldl Dev.record (openWin d 16 t pre post).1, pinAnswer found) :=
  opened ▸ if_neg (not_not_intro ⟨ht, hpre, hpost⟩)

/-- PIN_RELEASE: the window goes, and the headers are written. -/
def pinRelease (d : Dev) (ch id : Nat) : Dev × Ans :=
  match d.wins.find? (fun w => w.id == id) with
  | none => (d, .invalid)
  | some w => ({ d with wins := d.wins.erase w }.headerWrite.record { code := 0x0B07, sev := 1, a0 := ch }, .ok)

theorem pinRelease_of_window {d : Dev} {ch id : Nat} {w : Win} (found : d.wins.find? (fun w => w.id == id) = some w) :
    pinRelease d ch id =
      ({ d with wins := d.wins.erase w }.headerWrite.record { code := 0x0B07, sev := 1, a0 := ch }, .ok) := by
  unfold pinRelease
  simp only [found]

/-! ## Commands: the operation on the device that the command starts from -/

section FolioCommands

variable {s : State} {rq : Sfi} {role : Nat}

theorem answers_folioConfig (granted : Granted s rq 0x700 2 false role) (links pin hi lo : Nat) (cap : Bool) (rb : Nat) :
    Answers (.folioConfig rq links pin hi lo cap rb) s rq 0x700 role (fun d => folioConfig d links pin hi lo cap rb) :=
  granted_sfi granted (fun d _ => folioConfig d links pin hi lo cap rb)

theorem answers_folioStart (granted : Granted s rq 0x701 2 false role) (format : Bool) :
    Answers (.folioStart rq format) s rq 0x701 role (fun d => folioStart d format) :=
  granted_sfi granted (fun d _ => folioStart d format)

theorem answers_folioStop (granted : Granted s rq 0x702 2 false role) :
    Answers (.folioStop rq) s rq 0x702 role (fun d =>
      if d.folioRuns = false then (d, .invalid) else (d.flushAsm.closeSeg.headerWrite.folioOff, .ok)) :=
  granted_sfi granted _

theorem answers_folioQuery (granted : Granted s rq 0x703 0 false role) (start : Nat) :
    Answers (.folioQuery rq start) s rq 0x703 role (fun d =>
      (d, d.listing rq 0x703 1 (d.folioRows.filter (fun e => decide (start ≤ e.1))))) :=
  granted_sfi granted _

theorem answers_captureClassSet (granted : Granted s rq 0x704 2 false role) (cls snap : Nat) :
    Answers (.captureClassSet rq cls snap) s rq 0x704 role (fun d =>
      okIf (decide (1 ≤ cls ∧ cls < 8) && F.CLASS_CFG_SNAP_LEN.ok snap) d (d.cfg .CLASS_CFG cls snap)) :=
  granted_sfi granted _

theorem answers_portCaptureSet (granted : Granted s rq 0x705 2 false role) (port ing mask : Nat) :
    Answers (.portCaptureSet rq port ing mask) s rq 0x705 role (fun d =>
      okIf (decide (port < 256 ∧ ing < 8 ∧ mask < 256)) d (d.cfg .FOLIO_PORT_CAP port (ing + 8 * mask))) :=
  granted_sfi granted _

theorem answers_pinBindingSet (granted : Granted s rq 0x706 2 false role) (k code mask sev pre post : Nat) :
    Answers (.pinBindingSet rq k code mask sev pre post) s rq 0x706 role (fun d => pinBindingSet d k code mask sev pre post) :=
  granted_sfi granted (fun d _ => pinBindingSet d k code mask sev pre post)

theorem answers_pinNow (granted : Granted s rq 0x707 1 false role) (t pre post : Nat) :
    Answers (.pinNow rq t pre post) s rq 0x707 role (fun d => pinNow d t pre post) := by
  refine answers_of (granted_sfi granted _) ?_
  unfold pinNow
  dsimp only
  split
  · rfl
  · cases (openWin (s.start rq 0x707) 16 t pre post).2.1 <;> rfl

theorem answers_pinRelease (granted : Granted s rq 0x708 1 false role) (id : Nat) :
    Answers (.pinRelease rq id) s rq 0x708 role (fun d => pinRelease d rq.ch id) :=
  granted_sfi granted (fun d _ => pinRelease d rq.ch id)

theorem answers_folioRead (granted : Granted s rq 0x709 1 false role) (x : FolioReadArgs) :
    Answers (.folioRead rq x) s rq 0x709 role (fun d => folioRead d rq.ch x) :=
  granted_sfi granted (fun d _ => folioRead d rq.ch x)

/-- FOLIO_ERASE asks for the unlock key and for nothing else. -/
theorem answers_folioErase (granted : Granted s rq 0x70A 3 true role) :
    Answers (.folioErase rq) s rq 0x70A role (fun d =>
      (d.folioErase.headerWrite.record { code := 0x0B0C, sev := 6, a0 := rq.ch.val }, .ok)) :=
  granted_sfiKey granted _

end FolioCommands

/-- Settles O23: an admitted command answers what its operation makes of the device it starts from; on values in range, in the
state of the Folio that the command asks for and with the window it names, that is the change of its listing. -/
theorem folioSfi : Obligations.FolioSfi := by
  unfold Obligations.FolioSfi
  refine ⟨fun s rq role => ⟨fun links pin hi lo cap rb granted hlinks leastPin mostPin ordered hhi leastRb mostRb may => ?_,
      fun format granted stopped => ?_, fun granted runs => ?_, fun start granted => ?_,
      fun x granted ordered holdsHeader hcls runs function windowed => ?_, fun granted => ?_⟩,
    fun s rq role => ⟨fun cls snap granted least most hsnap => ?_, fun port ing mask granted hport hing hmask => ?_,
      fun k code mask sev pre post granted hk hcode hmask hsev hpre hpost => ?_,
      fun t pre post granted ht hpre hpost => ⟨fun w opened => ?_, fun unopened => ?_⟩, fun id w granted found => ?_⟩⟩
  · refine answers_of_eq ?_ (answers_folioConfig granted links pin hi lo cap rb)
    exact folioConfig_of_ok hlinks ⟨leastPin, mostPin⟩ ⟨ordered, hhi⟩ ⟨leastRb, mostRb⟩ may
  · exact answers_of_eq (if_neg (not_not_intro stopped)) (answers_folioStart granted format)
  · exact answers_of_eq (if_neg (Bool.ne_false_iff.mpr runs)) (answers_folioStop granted)
  · exact answers_folioQuery granted start
  · refine answers_of_eq ?_ (answers_folioRead granted x)
    exact folioRead_of_ok ordered holdsHeader hcls runs function windowed
  · exact answers_folioErase granted
  · refine answers_of_eq (okIf_of_true ?_ _ _) (answers_captureClassSet granted cls snap)
    exact Bool.and_eq_true_iff.mpr ⟨decide_eq_true ⟨least, most⟩, hsnap⟩
  · exact answers_of_eq (okIf_of_true (decide_eq_true ⟨hport, hing, hmask⟩) _ _)
      (answers_portCaptureSet granted port ing mask)
  · exact answers_of_eq (if_neg (not_not_intro ⟨hk, hcode, hmask, hsev, hpre, hpost⟩))
      (answers_pinBindingSet granted k code mask sev pre post)
  · exact answers_of_eq (pinNow_of_ok ht hpre hpost opened) (answers_pinNow granted t pre post)
  · exact answers_of_eq (pinNow_of_ok ht hpre hpost unopened) (answers_pinNow granted t pre post)
  · exact answers_of_eq (pinRelease_of_window found) (answers_pinRelease granted id)

end Sys2Proof.Proofs
end

section
/-! PROOF. Rings (R301 to R316): what descriptor and completion rings make of entries, polls, doorbells, enables and interrupts, and
what becomes of a copy of port 256, in the branches that their commands can meet. -/

namespace Sys2Proof.Proofs

open Sys2Proof Sys2Proof.Machine Sys2Proof.Laws

/-! ## Fetching, polling and doorbells (R305, R306) -/

/-- The ring polls again POLL_INTERVAL after the core cycle `t`, at once where `t` is 0 (R306). -/
def pollFrom (d : Dev) (r t : Nat) : Dev := { d with rings := d.rings.put r { d.rings.get r with pollWait := t } }

section Fetching

variable {d : Dev} {r : Nat}

section Polling

variable {phase : Bool} (e : Desc) (mode : d.on F.RING_CFG_MODE r = true) (fetches : (d.startJob r).canFetch r = true)
  (due : (d.startJob r).pollWaits r = false)
include mode fetches due

/-- A poll that the ring may make takes the entry at C where its phase is that of C's pass over the ring. -/
theorem pollRead_eq :
    d.pollRead r phase e =
      (let a := d.startJob r
       if b2n phase = ringPhase (a.reg .RING_CONS r) (a.get F.RING_CFG_LOG2SIZE r) then (pollFrom a r 0).readEntry r e
       else pollFrom a r (a.cycle + 1)) := by
  have may : ¬ ((d.startJob r).canFetch r = false ∨ (d.startJob r).pollWaits r = true) := by simp [fetches, due]
  unfold Dev.pollRead pollFrom
  simp only [mode, Bool.true_eq_false, if_false, if_neg may, beq_iff_eq]
  split <;> rfl

theorem pollRead_of_new
    (new : b2n phase = ringPhase ((d.startJob r).reg .RING_CONS r) ((d.startJob r).get F.RING_CFG_LOG2SIZE r)) :
    d.pollRead r phase e = (pollFrom (d.startJob r) r 0).readEntry r e := (pollRead_eq e mode fetches due).trans (if_pos new)

theorem pollRead_of_old
    (old : b2n phase ≠ ringPhase ((d.startJob r).reg .RING_CONS r) ((d.startJob r).get F.RING_CFG_LOG2SIZE r)) :
    d.pollRead r phase e = pollFrom (d.startJob r) r ((d.startJob r).cycle + 1) :=
  (pollRead_eq e mode fetches due).trans (if_neg old)

end Polling

section Doorbell

variable {w : Nat} (noReset : d.flrNow (d.get F.RING_OWNER_FUNC r) = false)
include noReset

theorem ringDb_of_poll (poll : d.on F.RING_CFG_MODE r = true) : d.ringDb r w = pollFrom d r 0 :=
  (if_neg (Bool.eq_false_iff.mp noReset)).trans (if_pos poll)

variable (doorbell : d.on F.RING_CFG_MODE r = false)
include doorbell

/-- A doorbell past neither C nor the last doorbell by more than the ring holds is taken. -/
theorem ringDb_of_fits (held : ringUsed (w % 65536) (d.reg .RING_CONS r) ≤ d.ringSize r)
    (ahead : ringUsed (w % 65536) (d.reg .RING_DB r) ≤ d.ringSize r) : d.ringDb r w = d.setReg .RING_DB r (w % 65536) :=
  (if_neg (Bool.eq_false_iff.mp noReset)).trans
    ((if_neg (Bool.eq_false_iff.mp doorbell)).trans (if_pos ⟨held, ahead⟩))

theorem ringDb_of_overfull (excess : d.ringSize r < ringUsed (w % 65536) (d.reg .RING_CONS r)) :
    d.ringDb r w = ((d.count 0x44 6).raise F.HOST_EVENT_DB_INVALID).ringRec 0x0C01 4 r :=
  (if_neg (Bool.eq_false_iff.mp noReset)).trans
    ((if_neg (Bool.eq_false_iff.mp doorbell)).trans (if_neg fun ⟨held, _⟩ => Nat.not_lt.mpr held excess))

end Doorbell

end Fetching

/-! ## Enabling rings (R302, R304) -/

section Enabling

variable {d : Dev} {r k w : Nat}

theorem ringCfg_of_enabled (enabled : d.on F.RING_CFG_EN r = true) : d.ringCfg r w = d.store .RING_CFG r w :=
  if_pos (Or.inl enabled)

/-- A ring that its owner's completion ring and windows carry starts empty. -/
theorem ringCfg_of_enabling {e : Dev} (stored : d.store .RING_CFG r w = e) (disabled : d.on F.RING_CFG_EN r = false)
    (enabled : e.on F.RING_CFG_EN r = true)
    (owned : e.get F.CQ_OWNER_FUNC (e.get F.RING_CFG_CQ r) = e.get F.RING_OWNER_FUNC r)
    (covered : e.dmaOk (e.get F.RING_OWNER_FUNC r) (e.ringBase r) (32 * e.ringSize r) false = true) :
    d.ringCfg r w =
      (({ e with rings := e.rings.put r { (default : Ring) with drop := (e.rings.get r).drop } }.setReg .RING_DB r 0).setReg
        .RING_CONS r 0) := by
  subst stored
  unfold Dev.ringCfg
  simp [disabled, enabled, owned, covered]

/-- A completion ring's enable starts it empty. -/
theorem cqCfg_of_enabling {e : Dev} (stored : d.store .CQ_CFG k w = e) (disabled : d.on F.CQ_CFG_EN k = false)
    (enabled : e.on F.CQ_CFG_EN k = true) : d.cqCfg k w = ((e.setReg .CQ_PROD k 0).setReg .CQ_CONS k 0).cqSettle k := by
  subst stored
  unfold Dev.cqCfg
  simp [disabled, enabled]

/-- An enabled completion ring that stays enabled only takes its word. -/
theorem cqCfg_of_enabled (enabled : d.on F.CQ_CFG_EN k = true) (stays : w % 2 = 1) : d.cqCfg k w = d.store .CQ_CFG k w := by
  unfold Dev.cqCfg
  simp [enabled, stays]

theorem intTime_of_due (set : d.get F.CQ_CFG_INT_TIME k ≠ 0) (unsignalled : (d.cqs.get k).sinceInt ≠ 0)
    (due : (d.cqs.get k).firstAt + d.get F.CQ_CFG_INT_TIME k * 1500 ≤ d.cycle + 1) : d.intTime k = d.cqInterrupt k :=
  if_pos ⟨set, unsignalled, due⟩

end Enabling

/-! ## Delivery of a copy of port 256 (R311, R312) -/

/-- A copy of a frozen function's ring is counted and discarded. -/
def rxFrozen (d : Dev) (c : Copy) : Dev := (d.count 0x44 3 1 { tc := some c.tc }).consume c.frame

/-- The bytes that a copy brings into ring `r`. -/
def rxBytes (d : Dev) (r : Nat) (c : Copy) : List Byte :=
  (if d.on F.RING_CFG_META_EN r then metaBytes (d.frames.get c.frame) c else []) ++ (d.frames.get c.frame).readBytes

/-- A copy on a ring that has fetched what it may: written, discarded where the buffers are too few, or where the fetch froze the
owner. -/
def rxPlaced (d : Dev) (r fn : Nat) (c : Copy) : Dev :=
  match bufsFor (d.rings.get r).fetched (rxBytes d r c).length with
  | some n => if d.isFrozen fn then rxFrozen d c else d.rxWrite r c n (rxBytes d r c)
  | none => d.rxDrop r c

/-- What becomes of a copy of port 256 once it has left its queue. -/
def rxTaken (d : Dev) (c : Copy) (es : List Desc) : Dev :=
  let r := (d.rxRing c).1
  let fn := d.get F.RING_OWNER_FUNC r
  if d.isFrozen fn then rxFrozen d c
  else if !(d.rxRing c).2 || d.on F.RING_CFG_EN r = false || !d.cqCredit (d.get F.RING_CFG_CQ r) then d.rxDrop r c
  else rxPlaced (d.fetchAll r es) r fn c

theorem rxDeliver_of_taken {d a : Dev} {c : Copy} {us : List Upset} (taken : d.takeHead 256 255 us = (a, some c))
    (es : List Desc) : d.rxDeliver es us = rxTaken a c es := by
  unfold Dev.rxDeliver
  rw [taken]
  rfl

section Delivery

variable {d : Dev} {c : Copy} {r fn : Nat}

theorem rxTaken_of_frozen (es : List Desc) (frozen : d.isFrozen (d.get F.RING_OWNER_FUNC (d.rxRing c).1) = true) :
    rxTaken d c es = rxFrozen d c := if_pos frozen

section Unfrozen

variable (es : List Desc) (unfrozen : d.isFrozen (d.get F.RING_OWNER_FUNC (d.rxRing c).1) = false)
include unfrozen

theorem rxTaken_of_disabled (disabled : d.on F.RING_CFG_EN (d.rxRing c).1 = false) :
    rxTaken d c es = d.rxDrop (d.rxRing c).1 c := by
  unfold rxTaken
  simp [unfrozen, disabled]

theorem rxTaken_of_ready (mapped : (d.rxRing c).2 = true) (enabled : d.on F.RING_CFG_EN (d.rxRing c).1 = true)
    (credit : d.cqCredit (d.get F.RING_CFG_CQ (d.rxRing c).1) = true) :
    rxTaken d c es =
      rxPlaced (d.fetchAll (d.rxRing c).1 es) (d.rxRing c).1 (d.get F.RING_OWNER_FUNC (d.rxRing c).1) c := by
  unfold rxTaken
  simp [unfrozen, mapped, enabled, credit]

end Unfrozen

theorem rxPlaced_of_short (short : bufsFor (d.rings.get r).fetched (rxBytes d r c).length = none) :
    rxPlaced d r fn c = d.rxDrop r c := by
  unfold rxPlaced
  simp only [short]

theorem rxPlaced_of_room {n : Nat} (room : bufsFor (d.rings.get r).fetched (rxBytes d r c).length = some n)
    (unfrozen : d.isFrozen fn = false) : rxPlaced d r fn c = d.rxWrite r c n (rxBytes d r c) := by
  unfold rxPlaced
  simp only [room, unfrozen, Bool.false_eq_true, if_false]

end Delivery

/-! ## Commands: the operation on the device that the command finds -/

section RingWrites

variable {s : State} {m : Fin 32} {w : Word}

theorem does_ringDb {r : Fin 136} (passes : Writes s m .RING_DB r w.toNat) :
    Does (.ringDb m r w) s ((s.passed m .RING_DB r w.toNat).ringDb r w.toNat) := writes_act passes (fun d w => d.ringDb r w)

theorem does_ringEnable {r : Fin 136} (passes : Writes s m .RING_CFG r w.toNat) :
    Does (.ringEnable m r w) s ((s.passed m .RING_CFG r w.toNat).ringCfg r w.toNat) :=
  writes_act passes (fun d w => d.ringCfg r w)

theorem does_cqEnable {k : Fin 8} (passes : Writes s m .CQ_CFG k w.toNat) :
    Does (.cqEnable m k w) s ((s.passed m .CQ_CFG k w.toNat).cqCfg k w.toNat) := writes_act passes (fun d w => d.cqCfg k w)

theorem does_cqConsWrite {k : Fin 8} (passes : WritesAt s atRelease m .CQ_CONS k w.toNat) :
    Does (.cqConsWrite m k w) s ((s.passedAt atRelease m .CQ_CONS k w.toNat).cqCons k w.toNat) :=
  writesAt_act passes (fun d w => d.cqCons k w)

end RingWrites

section RingMoments

variable {s : State} (live : s.live)
include live

/-- A ring in poll mode fetches by its polls alone. -/
theorem does_descriptorFetch (r : Fin 136) (es : List Desc) :
    Does (.descriptorFetch r es) s
      (if (s.due (untied 12 0)).on F.RING_CFG_MODE r then s.due (untied 12 0) else (s.due (untied 12 0)).fetchAll r es) :=
  live_later live 12 0 (fun d => if d.on F.RING_CFG_MODE r then d else d.fetchAll r es)

theorem does_pollRead (r : Fin 136) (phase : Bool) (e : Desc) :
    Does (.pollRead r phase e) s ((s.due (untied 12 0)).pollRead r phase e) := live_later live 12 0 (·.pollRead r phase e)

theorem does_intTimeExpire (k : Fin 8) : Does (.intTimeExpire k) s ((s.due (untied 12 0)).intTime k) :=
  live_later live 12 0 (·.intTime k)

theorem does_rxDeliver (es : List Desc) (us : List Upset) : Does (.rxDeliver es us) s ((s.due atSend).rxDeliver es us) :=
  live_due live _ (·.rxDeliver es us)

end RingMoments

/-- Settles O24: fetches, polls and interrupts come with block 12, register writes at their places, a delivery among what the ports
send; each takes the branch that the ring's mode, its enable, its buffers or its owner's freeze names. -/
theorem hostRings : Obligations.HostRings := by
  unfold Obligations.HostRings
  refine ⟨fun s m r k w => ⟨fun live => ⟨fun es doorbell => ?_, fun phase e poll fetches due => ⟨fun new => ?_, fun old => ?_⟩,
      fun set unsignalled due => ?_⟩,
    fun passes noReset => ⟨fun poll => ?_, fun doorbell held ahead => ?_, fun doorbell excess => ?_⟩,
    fun passes => ⟨fun enabled => ?_, fun disabled enabled owned covered => ?_⟩,
    fun passes => ⟨fun disabled enabled => ?_, fun enabled stays => ?_⟩, fun passes => ?_⟩,
    fun s es us live d c taken => ⟨fun frozen => ?_, fun unfrozen disabled => ?_,
      fun unfrozen mapped enabled credit => ⟨fun short => ?_, fun n room unfrozen' => ?_⟩⟩⟩
  · exact does_of_eq (if_neg (Bool.eq_false_iff.mp doorbell)) (does_descriptorFetch live r es)
  · exact does_of_eq (pollRead_of_new e poll fetches due new) (does_pollRead live r phase e)
  · exact does_of_eq (pollRead_of_old e poll fetches due old) (does_pollRead live r phase e)
  · exact does_of_eq (intTime_of_due set unsignalled due) (does_intTimeExpire live k)
  · exact does_of_eq (ringDb_of_poll noReset poll) (does_ringDb passes)
  · exact does_of_eq (ringDb_of_fits noReset doorbell held ahead) (does_ringDb passes)
  · exact does_of_eq (ringDb_of_overfull noReset doorbell excess) (does_ringDb passes)
  · exact does_of_eq (ringCfg_of_enabled enabled) (does_ringEnable passes)
  · exact does_of_eq (ringCfg_of_enabling rfl disabled enabled owned covered) (does_ringEnable passes)
  · exact does_of_eq (cqCfg_of_enabling rfl disabled enabled) (does_cqEnable passes)
  · exact does_of_eq (cqCfg_of_enabled enabled stays) (does_cqEnable passes)
  · exact does_cqConsWrite passes
  · exact does_of_eq ((rxDeliver_of_taken taken es).trans (rxTaken_of_frozen es frozen)) (does_rxDeliver live es us)
  · exact does_of_eq ((rxDeliver_of_taken taken es).trans (rxTaken_of_disabled es unfrozen disabled)) (does_rxDeliver live es us)
  · refine does_of_eq ?_ (does_rxDeliver live es us)
    rw [rxDeliver_of_taken taken, rxTaken_of_ready es unfrozen mapped enabled credit, rxPlaced_of_short short]
  · refine does_of_eq ?_ (does_rxDeliver live es us)
    rw [rxDeliver_of_taken taken, rxTaken_of_ready es unfrozen mapped enabled credit, rxPlaced_of_room room unfrozen']
    rfl

end Sys2Proof.Proofs
end

section
/-! PROOF. The host link, its resets and the mailboxes (R298, R317 to R323, R465): what each operation does in the branches that its
command can meet. -/

namespace Sys2Proof.Proofs

open Sys2Proof Sys2Proof.Machine Sys2Proof.Laws

/-! ## The host link and its resets (R298, R320, R323) -/

/-- Every function is reset and the link left down; PCIE_PERST_N low, kind 0, also holds the endpoint in reset. -/
def functionsReset (d : Dev) (kind : Nat) : Dev :=
  let d := (List.range 8).foldl (fun d f => d.funcReset f)
    ((d.set F.HOST_STATUS_LINK_WIDTH 0 0).set F.HOST_STATUS_LINK_SPEED 0 0)
  { d with linkReset := decide (kind ≠ 0) && d.linkReset }

section Link

variable {d : Dev} {f kind : Nat}

theorem flrDone_of_busy (busy : d.bit F.HOST_STATUS_FLR_BUSY 0 f = true) :
    d.flrDone f =
      ((d.setBit F.HOST_STATUS_FLR_BUSY 0 f false).raise F.HOST_EVENT_FLR_DONE).record { code := 0x0C06, sev := 2, a0 := f } :=
  if_pos busy

theorem flrDone_of_idle (idle : d.bit F.HOST_STATUS_FLR_BUSY 0 f = false) : d.flrDone f = d :=
  if_neg (Bool.eq_false_iff.mp idle)

theorem pcieUp_of_legal {width speed : Nat} (released : d.linkReset = true) (least : 1 ≤ width) (most : width ≤ 3)
    (hspeed : speed < 4) :
    d.pcieUp width speed = (d.set F.HOST_STATUS_LINK_WIDTH 0 width).set F.HOST_STATUS_LINK_SPEED 0 speed :=
  if_pos ⟨released, least, most, hspeed⟩

theorem pcieDown_of_up (up : d.on F.HOST_STATUS_LINK_WIDTH = true) :
    d.pcieDown =
      (List.range 16).foldl Dev.chanReset
        ((((d.set F.HOST_STATUS_LINK_WIDTH 0 0).set F.HOST_STATUS_LINK_SPEED 0 0).raise F.HOST_EVENT_PCIE_LINK_DOWN).record
          { code := 0x0C07, sev := 5 }) := if_pos up

theorem hostReset_of_down (down : d.on F.HOST_STATUS_LINK_WIDTH = false) : d.hostReset kind = functionsReset d kind :=
  if_neg (Bool.eq_false_iff.mp down)

/-- A link that was up leaves L0 with its event and record. -/
theorem hostReset_of_up (up : d.on F.HOST_STATUS_LINK_WIDTH = true) :
    d.hostReset kind =
      ((functionsReset d kind).raise F.HOST_EVENT_PCIE_LINK_DOWN).record { code := 0x0C07, sev := 5 } := if_pos up

end Link

/-! ## Mailboxes (R317, R327, R465) -/

section Mailboxes

variable {d : Dev} {c w : Nat}

theorem mbPost_of_no_reset (noReset : d.flrNow (d.sender c) = false) :
    d.mbPost c w = d.postReq c w ((List.range (w / 4096 % 16)).map (fun k => (d.chans.get c).stage.get k)) :=
  if_neg (Bool.eq_false_iff.mp noReset)

/-- A post in the core cycle of its sender's reset is lost. -/
theorem mbPost_of_reset (reset : d.flrNow (d.sender c) = true) : d.mbPost c w = d := if_pos reset

end Mailboxes

/-! ## Commands: the operation on the device that the command finds -/

section LinkMoments

variable {s : State} (live : s.live) (f : Fin 8)
include live

theorem does_flr : Does (.flr f) s ((s.due atRelease).flr f) := live_due live _ (·.flr f)

theorem does_flrDone : Does (.flrDone f) s ((s.due (untied 12 0)).flrDone f) := live_later live 12 0 (·.flrDone f)

theorem does_pciePerstNRelease : Does .pciePerstNRelease s { s.due (untied 12 0) with linkReset := true } :=
  live_later live 12 0 (fun d => { d with linkReset := true })

theorem does_pcieLinkUp (width speed : Nat) : Does (.pcieLinkUp width speed) s ((s.due (untied 12 0)).pcieUp width speed) :=
  live_later live 12 0 (·.pcieUp width speed)

theorem does_pcieAerError : Does .pcieAerError s ((s.due (untied 12 0)).record { code := 0x0C08, sev := 5 }) :=
  live_later live 12 0 (·.record { code := 0x0C08, sev := 5 })

theorem does_pcieLinkDown : Does .pcieLinkDown s (s.due (untied 13 60)).pcieDown := live_later live 13 60 (·.pcieDown)

theorem does_hostLinkReset (kind : Fin 3) : Does (.hostLinkReset kind) s ((s.due (untied 13 60)).hostReset kind) :=
  live_later live 13 60 (·.hostReset kind)

/-- A wake starts the clock of a core that is up, and of no other. -/
theorem does_coreWake (n : Fin 4) :
    Does (.coreWake n) s
      (let u := s.due (untied 13 0)
       if u.bit F.PROMPTER_STATUS_CORE_UP 0 n then u.setBit F.GATE_STATUS_1_CORE_CLK_ON 0 n true else u) :=
  live_later live 13 0 _

end LinkMoments

section MailboxWrites

variable {s : State} {m c : Fin 32}

theorem does_mbPost {w : Word} (passes : Writes s m .MB_POST c w.toNat) :
    Does (.mbPost m c w) s ((s.passed m .MB_POST c w.toNat).mbPost c w.toNat) := writes_act passes (fun d w => d.mbPost c w)

theorem does_mbRspPop (passes : WritesAt s atPop m .MB_RSP_POP c 1) :
    Does (.mbRspPop m c) s ((s.passedAt atPop m .MB_RSP_POP c 1).mbPop c) := writesAt_act passes (fun d _ => d.mbPop c)

end MailboxWrites

/-- Settles O25: resets of functions come with the releases, the link's own moments with block 12, its loss and its resets at the end
of block 13's, posts and pops at their places; each takes the branch that FLR_BUSY, the link's width, the sender's reset or the
core's state names. -/
theorem hostLinkAndMailboxes : Obligations.HostLinkAndMailboxes := by
  unfold Obligations.HostLinkAndMailboxes
  refine ⟨fun s f live => ⟨?_, ⟨fun busy => ?_, fun idle => ?_, ?_, fun width speed released least most hspeed => ?_, ?_⟩,
      fun up => ?_, fun kind => ⟨fun down => ?_, fun up => ?_⟩⟩,
    fun s m c n w => ⟨fun passes => ⟨fun noReset => ?_, fun reset => ?_⟩, fun passes => ?_,
      fun live => ⟨fun up => ?_, fun down => ?_⟩⟩⟩
  · exact does_flr live f
  · exact does_of_eq (flrDone_of_busy busy) (does_flrDone live f)
  · exact does_of_eq (flrDone_of_idle idle) (does_flrDone live f)
  · exact does_pciePerstNRelease live
  · exact does_of_eq (pcieUp_of_legal released least most hspeed) (does_pcieLinkUp live width speed)
  · exact does_pcieAerError live
  · exact does_of_eq (pcieDown_of_up up) (does_pcieLinkDown live)
  · exact does_of_eq (hostReset_of_down down) (does_hostLinkReset live kind)
  · exact does_of_eq (hostReset_of_up up) (does_hostLinkReset live kind)
  · exact does_of_eq (mbPost_of_no_reset noReset) (does_mbPost passes)
  · exact does_of_eq (mbPost_of_reset reset) (does_mbPost passes)
  · exact does_mbRspPop passes
  · exact does_of_eq (if_pos up) (does_coreWake live n)
  · exact does_of_eq (if_neg (Bool.eq_false_iff.mp down)) (does_coreWake live n)

end Sys2Proof.Proofs
end

section
/-! PROOF. The SFI commands of the host group (R326, R328): the values that each takes, and what it answers to them. -/

namespace Sys2Proof.Proofs

open Sys2Proof Sys2Proof.Machine Sys2Proof.Laws

/-! ## Windows and rings (R301, R328) -/

/-- FUNC_WINDOW_SET: a window of a function, aligned to its size. -/
def funcWindowSet (d : Dev) (x : WindowArgs) : Dev × Ans :=
  if ¬ (x.fn < 8 ∧ x.win < 8 ∧ 12 ≤ x.log2 ∧ x.log2 ≤ 48 ∧ x.base < 2 ^ 64 ∧ x.base % 2 ^ x.log2 = 0) then (d, .invalid)
  else
    ((d.cfg .WIN_HI (x.fn * 8 + x.win) (x.base / 2 ^ 32)).cfg .WIN_LO (x.fn * 8 + x.win)
      (b2n x.en + 2 * b2n x.rd + 4 * b2n x.wr + 8 * x.log2 + x.base % 2 ^ 32 / 4096 * 4096), .ok)

/-- RING_ASSIGN: BUSY 9 while the ring is enabled. -/
def ringAssign (d : Dev) (isCq : Bool) (ring fn : Nat) : Dev × Ans :=
  if ¬ (fn < 8 ∧ ring < (if isCq then 8 else 136)) then (d, .invalid)
  else if (if isCq then d.on F.CQ_CFG_EN ring else d.on F.RING_CFG_EN ring) = true then (d, .busy 9)
  else (d.cfg (if isCq then .CQ_OWNER else .RING_OWNER) ring fn, .ok)

section Rings

variable {d : Dev} {ring fn : Nat} (hfn : fn < 8)
include hfn

theorem ringAssign_of_cq (hring : ring < 8) (disabled : d.on F.CQ_CFG_EN ring = false) :
    ringAssign d true ring fn = (d.cfg .CQ_OWNER ring fn, .ok) :=
  (if_neg (not_not_intro ⟨hfn, hring⟩)).trans (if_neg (Bool.eq_false_iff.mp disabled))

theorem ringAssign_of_ring (hring : ring < 136) (disabled : d.on F.RING_CFG_EN ring = false) :
    ringAssign d false ring fn = (d.cfg .RING_OWNER ring fn, .ok) :=
  (if_neg (not_not_intro ⟨hfn, hring⟩)).trans (if_neg (Bool.eq_false_iff.mp disabled))

end Rings

/-! ## Mailbox channels (R317, R333) -/

/-- Channels 16 to 19 and 24 to 31 are core 0's. -/
def coreFixed (c : Nat) : Bool := decide (16 ≤ c ∧ c < 20 ∨ 24 ≤ c)

/-- SENDER is given for channels 24 to 31 alone: a cluster, or none. -/
def senderOk (c : Nat) : Option Nat → Bool
  | none => true
  | some x => decide (24 ≤ c ∧ (8 ≤ x ∧ x < 24 ∨ x = 31))

/-- MBOX_CHANNEL_SET: the channel's priority, core, sender and vector. -/
def mboxChannelSet (d : Dev) (c : Nat) (sender : Option Nat) (prio core vector : Nat) : Dev × Ans :=
  if ¬ (c < 32 ∧ prio < 4 ∧ core < 4 ∧ vector < 16) ∨ senderOk c sender = false ∨
      (if coreFixed c then core ≠ 0 else core = 0) then (d, .invalid)
  else (d.cfg .MB_CFG c (prio + 4 * core + 16 * (sender.getD (d.sender c)) + 512 * vector), .ok)

section Channels

variable {d : Dev} {c prio vector : Nat} (hprio : prio < 4) (hvector : vector < 16)
include hprio hvector

theorem mboxChannelSet_of_ok {sender : Option Nat} {core : Nat} (hcore : core < 4) (hc : c < 32)
    (given : senderOk c sender = true) (served : coreFixed c = decide (core = 0)) :
    mboxChannelSet d c sender prio core vector =
      (d.cfg .MB_CFG c (prio + 4 * core + 16 * (sender.getD (d.sender c)) + 512 * vector), .ok) := by
  have placed : ¬ (if coreFixed c then core ≠ 0 else core = 0) := by
    rw [served]
    by_cases h : core = 0 <;> simp [h]
  exact if_neg (not_or.mpr ⟨not_not_intro ⟨hc, hprio, hcore, hvector⟩, not_or.mpr ⟨Bool.ne_false_iff.mpr given, placed⟩⟩)

/-- A function's channel keeps its sender and goes to one of cores 1 to 3. -/
theorem mboxChannelSet_of_function {core : Nat} (hcore : core < 4) (hc : c < 16) (shared : 1 ≤ core) :
    mboxChannelSet d c none prio core vector =
      (d.cfg .MB_CFG c (prio + 4 * core + 16 * d.sender c + 512 * vector), .ok) := by
  have free : coreFixed c = false := decide_eq_false (by omega)
  exact mboxChannelSet_of_ok hprio hvector hcore (by omega) rfl
    (free.trans (decide_eq_false (Nat.ne_of_gt shared)).symm)

/-- A channel of 24 to 31 takes a sender and stays core 0's. -/
theorem mboxChannelSet_of_sender {x : Nat} (least : 24 ≤ c) (most : c < 32) (sender : (8 ≤ x ∧ x < 24) ∨ x = 31) :
    mboxChannelSet d c (some x) prio 0 vector = (d.cfg .MB_CFG c (prio + 16 * x + 512 * vector), .ok) := by
  have fixed : coreFixed c = true := decide_eq_true (Or.inr least)
  exact mboxChannelSet_of_ok hprio hvector (by decide) most (decide_eq_true ⟨least, sender⟩) fixed

end Channels

/-! ## Frozen masters (R325, R326) -/

/-- MASTER_QUERY: one master's words, or a listing of all from START on. -/
def masterQuery (d : Dev) (rq : Sfi) (m : Option Nat) (start : Nat) : Dev × Ans :=
  match m with
  | some x => if 30 ≤ x then (d, .invalid) else (d, .okW (d.masterRow x))
  | none => (d, d.listing rq 0xC15 3 (((List.range 30).map (fun m => (m, d.masterRow m))).filter (fun e => decide (start ≤ e.1))))

theorem masterQuery_of_master {x : Nat} (hx : x < 30) (d : Dev) (rq : Sfi) (start : Nat) :
    masterQuery d rq (some x) start = (d, .okW (d.masterRow x)) := if_neg (Nat.not_le.mpr hx)

section Release

variable {d : Dev} {ch x role : Nat} {z : Freeze} (reset : Bool) (frozen : d.frozen.get x = some z)
include frozen

/-- A master does not release itself, and is released under a role above that it was frozen at. -/
theorem masterRelease_of_frozen :
    d.masterRelease ch x reset role =
      if d.sender ch = x ∨ mayRelease role z.role = false then (d, .denied)
      else ((d.released x reset).record { code := 0x0E02, sev := 2, a0 := ch, a1 := b2n reset, obj := .chan ch }, .ok) := by
  unfold Dev.masterRelease
  simp only [frozen]

theorem masterRelease_of_allowed (other : d.sender ch ≠ x) (allowed : mayRelease role z.role = true) :
    d.masterRelease ch x reset role =
      ((d.released x reset).record { code := 0x0E02, sev := 2, a0 := ch, a1 := b2n reset, obj := .chan ch }, .ok) :=
  (masterRelease_of_frozen reset frozen).trans (if_neg fun refused => refused.elim other (Bool.ne_false_iff.mpr allowed))

theorem masterRelease_of_refused (refused : mayRelease role z.role = false) :
    d.masterRelease ch x reset role = (d, .denied) := (masterRelease_of_frozen reset frozen).trans (if_pos (Or.inr refused))

end Release

/-! ## Commands: the operation on the device that the command starts from -/

section HostCommands

variable {s : State} {rq : Sfi} {role : Nat}

theorem answers_funcWindowSet (granted : Granted s rq 0xC10 3 false role) (x : WindowArgs) :
    Answers (.funcWindowSet rq x) s rq 0xC10 role (fun d => funcWindowSet d x) := granted_sfi granted (fun d _ => funcWindowSet d x)

theorem answers_funcGrant (granted : Granted s rq 0xC11 3 false role) (fn : Nat) (cw direct : Bool) :
    Answers (.funcGrant rq fn cw direct) s rq 0xC11 role (fun d =>
      okIf (decide (fn < 8)) d (d.cfg .FUNC_PERM fn (b2n cw + 2 * b2n direct))) := granted_sfi granted _

theorem answers_ringAssign (granted : Granted s rq 0xC12 3 false role) (isCq : Bool) (ring fn : Nat) :
    Answers (.ringAssign rq isCq ring fn) s rq 0xC12 role (fun d => ringAssign d isCq ring fn) :=
  granted_sfi granted (fun d _ => ringAssign d isCq ring fn)

theorem answers_rxMapSet (granted : Granted s rq 0xC13 2 false role) (grp tc ring : Nat) (en : Bool) :
    Answers (.rxMapSet rq grp tc ring en) s rq 0xC13 role (fun d =>
      okIf (decide (grp < 16 ∧ tc < 8 ∧ ring < 64)) d (d.cfg .HOST_RX_MAP (2 * grp + tc / 4)
        (withBits (d.reg .HOST_RX_MAP (2 * grp + tc / 4)) (8 * (tc % 4) + 7) (8 * (tc % 4)) (ring + 128 * b2n en)))) :=
  granted_sfi granted _

theorem answers_mboxChannelSet (granted : Granted s rq 0xC14 3 false role) (c : Nat) (sender : Option Nat)
    (prio core vector : Nat) :
    Answers (.mboxChannelSet rq c sender prio core vector) s rq 0xC14 role (fun d =>
      mboxChannelSet d c sender prio core vector) :=
  granted_sfi granted (fun d _ => mboxChannelSet d c sender prio core vector)

theorem answers_masterQuery (granted : Granted s rq 0xC15 0 false role) (m : Option Nat) (start : Nat) :
    Answers (.masterQuery rq m start) s rq 0xC15 role (fun d => masterQuery d rq m start) :=
  granted_sfi granted (fun d _ => masterQuery d rq m start)

theorem answers_masterRelease (granted : Granted s rq 0xC16 0 false role) (x : Nat) (reset : Bool) :
    Answers (.masterRelease rq x reset) s rq 0xC16 role (fun d => d.masterRelease rq.ch x reset role) :=
  granted_sfi granted (fun d role => d.masterRelease rq.ch x reset role)

end HostCommands

/-- Settles O26: an admitted command answers what its operation makes of the device it starts from; on values in range, a ring that
is not enabled and a master frozen at a role below the channel's, that is the change of its listing. -/
theorem hostSfi : Obligations.HostSfi := by
  unfold Obligations.HostSfi
  refine fun s rq role => ⟨fun x granted hfn hwin least most hbase aligned => ?_, fun fn cw direct granted hfn => ?_,
    fun ring fn granted hfn => ⟨fun hring disabled => ?_, fun hring disabled => ?_⟩,
    fun grp tc ring en granted hgrp htc hring => ?_,
    fun c prio core vector granted hprio hcore hvector => ⟨fun hc shared => ?_, fun x least most fixed sender => ?_⟩,
    fun x start granted hx => ?_, fun x reset z granted frozen other => ⟨fun allowed => ?_, fun refused => ?_⟩⟩
  · exact answers_of_eq (if_neg (not_not_intro ⟨hfn, hwin, least, most, hbase, aligned⟩)) (answers_funcWindowSet granted x)
  · exact answers_of_eq (okIf_of_true (decide_eq_true hfn) _ _) (answers_funcGrant granted fn cw direct)
  · exact answers_of_eq (ringAssign_of_cq hfn hring disabled) (answers_ringAssign granted true ring fn)
  · exact answers_of_eq (ringAssign_of_ring hfn hring disabled) (answers_ringAssign granted false ring fn)
  · exact answers_of_eq (okIf_of_true (decide_eq_true ⟨hgrp, htc, hring⟩) _ _) (answers_rxMapSet granted grp tc ring en)
  · refine answers_of_eq ?_ (answers_mboxChannelSet granted c none prio core vector)
    exact mboxChannelSet_of_function hprio hvector hcore hc shared
  · subst fixed
    refine answers_of_eq ?_ (answers_mboxChannelSet granted c (some x) prio 0 vector)
    exact mboxChannelSet_of_sender hprio hvector least most sender
  · exact answers_of_eq (masterQuery_of_master hx _ rq start) (answers_masterQuery granted (some x) start)
  · exact answers_of_eq (masterRelease_of_allowed reset frozen other allowed) (answers_masterRelease granted x reset)
  · exact answers_of_eq (masterRelease_of_refused reset frozen refused) (answers_masterRelease granted x reset)

end Sys2Proof.Proofs
end

section
/-! PROOF. What reset leaves (R476, R479): every register at its reset value but PAIR_STATUS, and empty tables. -/

namespace Sys2Proof.Proofs

open Sys2Proof Sys2Proof.Machine Sys2Proof.Laws

/-- After reset a register holds its reset value, PAIR_STATUS 0. -/
theorem reset_reg (r : RegName) (i : Nat) :
    Dev.reset.reg r i = if regAddr .PAIR_STATUS 0 = regAddr r i then 0 else regReset r i % 2 ^ 32 := by
  unfold Dev.reg
  show BitVec.toNat (Tbl.getD [(regAddr .PAIR_STATUS 0, 0)] _ _) = _
  unfold Tbl.getD
  split
  · rfl
  · exact BitVec.toNat_ofNat _ _

/-- A field that is 0 in its register's reset value is off after reset, wherever its element lies. -/
theorem reset_off {f : Fld} {i : Nat} (zero : bitsOf (regReset f.reg i % 2 ^ 32) f.hi f.lo = 0) : Dev.reset.on f i = false := by
  have none : Dev.reset.get f i = 0 := by
    unfold Dev.get
    rw [reset_reg]
    split
    · unfold bitsOf
      simp
    · exact zero
  unfold Dev.on
  rw [none]
  rfl

/-- No window of any function is open. -/
theorem reset_dmaOk (fn addr len : Nat) (write : Bool) : Dev.reset.dmaOk fn addr len write = false := by
  have closed : ∀ k, Dev.reset.on F.WIN_LO_EN k = false := fun k => reset_off (by simp [F.WIN_LO_EN, regReset, bitsOf])
  unfold Dev.dmaOk Dev.winCovers
  simp [closed]

theorem reset_ring_disabled (r : Nat) : Dev.reset.on F.RING_CFG_EN r = false :=
  reset_off (by simp [F.RING_CFG_EN, regReset, bitsOf])

theorem reset_perf_of_ne {k : Nat} (noRecord : k ≠ 0x280) (noCode : k ≠ 0x281) : Dev.reset.perf.get k = 0 := by
  show Tbl.getD [(0x280, 1), (0x281, 1)] 0 k = 0
  simp [Tbl.getD, noRecord.symm, noCode.symm]

/-- Settles O45: the reset state's registers are the map's reset values, in which every window and ring is off, and its tables of freezes
and sessions are empty. -/
theorem resetState : Obligations.ResetState := by
  unfold Obligations.ResetState
  refine ⟨rfl, rfl, fun c waits => absurd waits List.not_mem_nil, rfl, rfl, rfl, rfl, rfl,
    reset_reg .RESET_CAUSE 0, reset_dmaOk, fun m => rfl, fun c => rfl, reset_ring_disabled, fun k => reset_perf_of_ne⟩

end Sys2Proof.Proofs
end

section
/-! PROOF. A stopped device and the trip (R468, R476), and the queue of every device: what a command does that finds the clocks
standing, and what a step leaves waiting. -/

namespace Sys2Proof.Proofs

open Sys2Proof Sys2Proof.Machine Sys2Proof.Laws

/-! ## A stopped device (R468, R476) -/

/-- Every command but those of the always-on domain acts where the clocks run alone. -/
theorem exists_does_clocked {c : Instr} (clocked : alwaysOn c = false) (s : State) :
    ∃ d, Does c s (if s.toDev.stopped then s.toDev else d) := by
  cases c with
  | thermalTrip | lifeHoursUpdate | powerOnReset | resetNAssert | resetNRelease | internalResetEnd => nomatch clocked
  | _ => exact ⟨_, rfl⟩

theorem does_of_stopped {c : Instr} {s : State} (clocked : alwaysOn c = false) (stopped : s.toDev.stopped = true) :
    Does c s s.toDev := by
  obtain ⟨d, h⟩ := exists_does_clocked clocked s
  rwa [if_pos stopped] at h

/-- Settles O47: a command that acts at a place of the core cycle finds no cycle. -/
theorem stoppedDeviceWaits : Obligations.StoppedDeviceWaits := by
  unfold Obligations.StoppedDeviceWaits
  intro c s stopped clocked
  exact does_of_stopped clocked (eq_true_of_ne_false stopped)

/-! ## The trip (R468) -/

theorem stopped_of_tripped {d : Dev} (tripped : d.tripped = true) : d.stopped = true := by
  unfold Dev.stopped
  rw [tripped, Bool.or_true]

theorem thermalTrip_of_tripped {d : Dev} (tripped : d.tripped = true) : d.thermalTrip = d := if_pos tripped

/-- On a tripped device a command that is no reset does nothing but let LIFE_HOURS go on. -/
theorem exists_does_of_tripped {s : State} (tripped : s.toDev.tripped = true) {c : Instr} (noReset : resets c = false) :
    ∃ a, Does c s { s.toDev with lifeAcc := a } ∧ s.toDev.lifeAcc ≤ a := by
  cases clocked : alwaysOn c with
  | false =>
    exact ⟨s.toDev.lifeAcc, does_of_stopped clocked (stopped_of_tripped tripped), Nat.le_refl _⟩
  | true =>
    cases c with
    | lifeHoursUpdate t => exact ⟨_, rfl, Nat.le_add_right _ _⟩
    | thermalTrip =>
      have trips : Does .thermalTrip s s.toDev.thermalTrip := rfl
      exact ⟨s.toDev.lifeAcc, does_of_eq (thermalTrip_of_tripped tripped) trips, Nat.le_refl _⟩
    | powerOnReset | resetNAssert | resetNRelease | internalResetEnd => nomatch noReset
    | _ => nomatch clocked

/-- One step of a tripped device takes the command in front, and changes LIFE_HOURS alone. -/
theorem step_of_tripped {s : State} (tripped : s.toDev.tripped = true) (noReset : ∀ c ∈ s.pending, resets c = false) :
    ∃ a, step s = .next { toDev := { s.toDev with lifeAcc := a }, pending := s.pending.drop 1 } ∧ s.toDev.lifeAcc ≤ a := by
  obtain ⟨d, q⟩ := s
  cases q with
  | nil =>
    refine ⟨d.lifeAcc, ?_, Nat.le_refl _⟩
    rw [step_of_pending_nil rfl, idle_of_stopped (stopped_of_tripped tripped)]
    rfl
  | cons c rest =>
    obtain ⟨a, done, le⟩ := exists_does_of_tripped (s := { toDev := d, pending := rest }) tripped
      (noReset c List.mem_cons_self)
    exact ⟨a, done, le⟩

/-- Settles O48: by induction on the steps, each of which leaves a tripped device and the queue's rest. -/
theorem tripHolds : Obligations.TripHolds := by
  unfold Obligations.TripHolds
  intro n
  induction n with
  | zero => exact fun s _ _ => ⟨s, s.toDev.lifeAcc, rfl, rfl, rfl, Nat.le_refl _⟩
  | succ n ih =>
    intro s tripped noReset
    obtain ⟨a, hstep, le⟩ := step_of_tripped tripped noReset
    obtain ⟨t, b, hrun, hpending, hdev, le'⟩ :=
      ih { toDev := { s.toDev with lifeAcc := a }, pending := s.pending.drop 1 } tripped
        (fun c waits => noReset c (List.mem_of_mem_drop waits))
    refine ⟨t, b, ?_, ?_, hdev, Nat.le_trans le le'⟩
    · simp only [run, hstep, hrun]
    · rw [hpending, List.drop_drop, Nat.add_comm]

/-! ## The queue -/

/-- Settles O46. -/
theorem everyCommandCompletes : Obligations.EveryCommandCompletes := by
  unfold Obligations.EveryCommandCompletes
  exact exists_does

/-- A step leaves the queue without the command that it took. -/
theorem step_pending {s t : State} (h : step s = .next t) : t.pending = s.pending.drop 1 := by
  obtain ⟨d, q⟩ := s
  cases q with
  | nil =>
    rw [step_of_pending_nil rfl] at h
    cases h
    rfl
  | cons c rest =>
    obtain ⟨e, done⟩ := exists_does c { toDev := d, pending := rest }
    cases done.symm.trans h
    rfl

/-- Settles O50: what a step leaves waiting waited before. -/
theorem queueStaysLegal : Obligations.QueueStaysLegal := by
  unfold Obligations.QueueStaysLegal
  intro s t legal h c waits
  rw [step_pending h] at waits
  exact legal c (List.mem_of_mem_drop waits)

end Sys2Proof.Proofs
end

section
/-! PROOF. How an SFI request is settled and answered (R341, R348, R351, R353, R357): the branches of `Dev.sfiRun`, which every
SFI command runs through, and the messages that replies are. -/

namespace Sys2Proof.Proofs

open Sys2Proof Sys2Proof.Machine Sys2Proof.Laws

/-! ## What an event and its record leave alone -/

theorem exists_countQ (d : Dev) (s i n : Nat) (a : Attr) : ∃ c, d.countQ s i n a = { d with toCoreSt := c } := by
  unfold Dev.countQ
  split
  · dsimp only
    split
    · exact ⟨_, rfl⟩
    · split <;> exact ⟨_, rfl⟩
  · exact ⟨_, rfl⟩

/-- An event's record changes the common facilities, the book and the pair's note of a FATAL event alone. -/
theorem exists_record (d : Dev) (e : Evt) :
    ∃ c b p, d.record e = { d with toCoreSt := c, toBookSt := b, toPairSt := p } := by
  have args : ∃ c, (sampled d e).1 = { noteFatal d e with toCoreSt := c } := by
    obtain ⟨c, hc⟩ := exists_countQ (noteFatal d e) 0x50 0 1 {}
    unfold sampled recArgs
    rw [hc]
    split <;> exact ⟨_, rfl⟩
  obtain ⟨c, hc⟩ := args
  rw [record_eq, hc]
  unfold noteFatal
  split <;> exact ⟨_, _, _, rfl⟩

@[simp] theorem record_toSfiSt (d : Dev) (e : Evt) : (d.record e).toSfiSt = d.toSfiSt := by
  obtain ⟨c, b, p, h⟩ := exists_record d e
  rw [h]

@[simp] theorem record_toHostSt (d : Dev) (e : Evt) : (d.record e).toHostSt = d.toHostSt := by
  obtain ⟨c, b, p, h⟩ := exists_record d e
  rw [h]

@[simp] theorem recordLim_toSfiSt (d : Dev) (n : Nat) (e : Evt) : (d.recordLim n e).toSfiSt = d.toSfiSt := by
  unfold Dev.recordLim
  dsimp only
  split
  · exact record_toSfiSt _ e
  · rfl

@[simp] theorem recordLim_toHostSt (d : Dev) (n : Nat) (e : Evt) : (d.recordLim n e).toHostSt = d.toHostSt := by
  unfold Dev.recordLim
  dsimp only
  split
  · exact record_toHostSt _ e
  · rfl

@[simp] theorem count_toSfiSt (d : Dev) (s i n : Nat) (a : Attr) : (d.count s i n a).toSfiSt = d.toSfiSt := by
  obtain ⟨c, h⟩ := exists_countQ d s i n a
  unfold Dev.count
  split
  · rw [recordLim_toSfiSt, h]
  · rw [h]

@[simp] theorem count_toHostSt (d : Dev) (s i n : Nat) (a : Attr) : (d.count s i n a).toHostSt = d.toHostSt := by
  obtain ⟨c, h⟩ := exists_countQ d s i n a
  unfold Dev.count
  split
  · rw [recordLim_toHostSt, h]
  · rw [h]

@[simp] theorem chanInt_toHostSt (d : Dev) (c : Nat) : (d.chanInt c).toHostSt = d.toHostSt := by
  unfold Dev.chanInt
  split <;> rfl

@[simp] theorem countAns_toSfiSt (d : Dev) (a : Ans) (role : Nat) : (d.countAns a role).toSfiSt = d.toSfiSt := by
  unfold Dev.countAns
  dsimp only
  split
  · split <;> exact count_toSfiSt _ _ _ _ _
  · split
    · exact count_toSfiSt _ _ _ _ _
    · split
      · exact count_toSfiSt _ _ _ _ _
      · rfl

theorem roleOf_congr {d e : Dev} (h : e.toSfiSt = d.toSfiSt) (c : Nat) : e.roleOf c = d.roleOf c := by
  unfold Dev.roleOf
  rw [h]

/-! ## Every SFI command runs through `Dev.sfiRun` -/

theorem exists_sfiRun {c : Instr} {x : SfiCall} (h : sfiOf c = some x) (s : State) :
    ∃ f, Does c s (if s.toDev.stopped then s.toDev else (s.sfiDue x.op).sfiRun x.rq x.op x.need x.key f) := by
  cases c <;> cases h <;> exact ⟨_, rfl⟩

theorem exists_does_sfiRun {c : Instr} {x : SfiCall} {s : State} (h : sfiOf c = some x) (live : s.live) :
    ∃ f, Does c s ((s.sfiDue x.op).sfiRun x.rq x.op x.need x.key f) := by
  obtain ⟨f, done⟩ := exists_sfiRun h s
  exact ⟨f, by rwa [if_neg (Bool.eq_false_iff.mp live)] at done⟩

/-- The commands marked "with the unlock key" ask for SECURITY_ADMIN. -/
theorem need_of_keyed {c : Instr} {x : SfiCall} (h : sfiOf c = some x) (keyed : x.key = true) : x.need = 3 := by
  cases c <;> cases h <;> cases keyed <;> rfl

/-! ## The branches of `Dev.sfiRun` (R351) -/

section Branches

variable {d : Dev} {rq : Sfi} {op need : Nat} {key : Bool} (f : Dev → Nat → Dev × Ans)

theorem sfiRun_of_unserved (unserved : d.served rq.ch = false) : d.sfiRun rq op need key f = d := by
  unfold Dev.sfiRun
  simp [unserved]

section Served

variable (served : d.served rq.ch = true)
include served

theorem sfiRun_of_refused {a : Ans} (refused : d.sfiRole rq op need key = .error a) :
    d.sfiRun rq op need key f =
      ((d.sfiTake rq op).refuseReq rq.ch need a).reply rq.ch rq.tag op (d.sfiBack rq op).1 (d.sfiBack rq op).2 a := by
  unfold Dev.sfiRun
  simp [served, refused]

/-- While another request is the core's next, the command waits in the core's queue. -/
theorem sfiRun_of_waiting {role : Nat} (admitted : d.sfiRole rq op need key = .ok role) (waits : d.myTurn rq op = false) :
    d.sfiRun rq op need key f = if (d.request rq op).isSome then d else d.enqueueReq (d.asReq rq op role) := by
  unfold Dev.sfiRun
  simp [served, admitted, waits]

theorem sfiRun_of_untagged {role : Nat} (admitted : d.sfiRole rq op need key = .ok role) (next : d.myTurn rq op = true)
    (untagged : rq.tag.val = 0) : d.sfiRun rq op need key f = d.answers rq op role (fun d => (d, .invalid)) := by
  unfold Dev.sfiRun Dev.answers
  simp only [served, admitted, next, untagged, if_true, Bool.not_true, Bool.false_eq_true, if_false]

end Served

end Branches

/-! ## The checks in their order (R351) -/

section Unqueued

variable {d : Dev} {rq : Sfi} {op : Nat} (unqueued : d.request rq op = none)
include unqueued

theorem sfiTake_of_unqueued : d.sfiTake rq op = d := by
  unfold Dev.sfiTake
  rw [unqueued]

theorem sfiBack_of_unqueued : d.sfiBack rq op = ((d.chans.get rq.ch).epochS, rq.ring) := by
  unfold Dev.sfiBack
  rw [unqueued]

theorem sfiRole_of_unqueued (need : Nat) (key : Bool) :
    d.sfiRole rq op need key = d.settle rq.ch op need (if key then some rq.key.toNat else none) := by
  unfold Dev.sfiRole
  rw [unqueued]

end Unqueued

section Settle

variable {d : Dev} {c op need : Nat} {key : Option Nat}

theorem settle_of_frozen (frozen : d.isFrozen (d.sender c) = true) : d.settle c op need key = .error .frozen := if_pos frozen

section Known

variable (free : d.isFrozen (d.sender c) = false) (open_ : c < 24) (known : op < 0xD00)
include free open_ known

/-- Past steps 1 to 3 of R351 the role and the key decide. -/
theorem settle_of_known :
    d.settle c op need key =
      if d.roleOf c < need ∨ (match key with | some k => k != unlockKey | none => false) = true then .error .denied
      else
        let n := d.rxCore c
        let q := d.coreQ n
        let t := prioLimit (d.get F.MB_CFG_PRIO c)
        let s := d.get F.CORE_LOAD_SERVICE n
        if t ≤ q then .error (.busy 1 (max 1 (((q - t + 1) * s + 9) / 10)))
        else if 8 ≤ d.inFlight c then .error (.busy 2 ((s + 9) / 10))
        else .ok (d.roleOf c) := by
  have channel : ¬ (24 ≤ c ∧ ¬ (0x6F0 ≤ op ∧ op ≤ 0x6FF)) := fun h => absurd h.1 (Nat.not_le.mpr open_)
  unfold Dev.settle
  exact (if_neg (Bool.eq_false_iff.mp free)).trans ((if_neg channel).trans (if_neg (Nat.not_le.mpr known)))

theorem settle_of_low_role (low : d.roleOf c < need) : d.settle c op need key = .error .denied :=
  (settle_of_known free open_ known).trans (if_pos (Or.inl low))

theorem settle_of_wrong_key {k : Nat} (wrong : k ≠ unlockKey) : d.settle c op need (some k) = .error .denied :=
  (settle_of_known free open_ known).trans (if_pos (Or.inr (bne_iff_ne.mpr wrong)))

section Allowed

variable (role : need ≤ d.roleOf c) (keyed : ∀ k, key = some k → k = unlockKey)
include role keyed

theorem settle_of_allowed :
    d.settle c op need key =
      (let n := d.rxCore c
       let q := d.coreQ n
       let t := prioLimit (d.get F.MB_CFG_PRIO c)
       let s := d.get F.CORE_LOAD_SERVICE n
       if t ≤ q then .error (.busy 1 (max 1 (((q - t + 1) * s + 9) / 10)))
       else if 8 ≤ d.inFlight c then .error (.busy 2 ((s + 9) / 10))
       else .ok (d.roleOf c)) := by
  refine (settle_of_known free open_ known).trans (if_neg (not_or.mpr ⟨Nat.not_lt.mpr role, ?_⟩))
  cases key with
  | none => exact Bool.false_ne_true
  | some k => exact fun wrong => bne_iff_ne.mp wrong (keyed k rfl)

theorem exists_settle_of_full_queue (full : prioLimit (d.get F.MB_CFG_PRIO c) ≤ d.coreQ (d.rxCore c)) :
    ∃ h, d.settle c op need key = .error (.busy 1 h) :=
  ⟨_, (settle_of_allowed free open_ known role keyed).trans (if_pos full)⟩

variable (room : d.coreQ (d.rxCore c) < prioLimit (d.get F.MB_CFG_PRIO c))
include room

theorem exists_settle_of_busy_channel (busy : 8 ≤ d.inFlight c) : ∃ h, d.settle c op need key = .error (.busy 2 h) :=
  ⟨_, (settle_of_allowed free open_ known role keyed).trans ((if_neg (Nat.not_le.mpr room)).trans (if_pos busy))⟩

theorem settle_of_room (few : d.inFlight c < 8) : d.settle c op need key = .ok (d.roleOf c) :=
  (settle_of_allowed free open_ known role keyed).trans
    ((if_neg (Nat.not_le.mpr room)).trans (if_neg (Nat.not_le.mpr few)))

end Allowed

end Known

end Settle

/-- A command that needs no key, or that brings it, brings no wrong one. -/
theorem unlockKey_of_given {key : Bool} {w : Nat} (given : key = false ∨ w = unlockKey) (k : Nat)
    (h : (if key then some w else none) = some k) : k = unlockKey := by
  cases key with
  | false => cases h
  | true =>
    cases h
    exact given.resolve_left nofun

/-- Settles O51: `Dev.sfiRun` answers what each branch names, and `Dev.settle` makes the checks of R351 in turn. -/
theorem sfiSettling : Obligations.SfiSettling := by
  unfold Obligations.SfiSettling
  intro c x s h live
  obtain ⟨f, done⟩ := exists_does_sfiRun h live
  refine ⟨fun unserved => ?_, fun a served refused => ?_, fun role served admitted waits =>
    ⟨fun unqueued => ?_, fun queued => ?_⟩, fun unqueued => ?_⟩
  · exact does_of_eq (sfiRun_of_unserved f unserved) done
  · exact does_of_eq (sfiRun_of_refused f served refused) done
  · refine does_of_eq ((sfiRun_of_waiting f served admitted waits).trans (if_neg ?_)) done
    rw [unqueued]
    exact Bool.false_ne_true
  · exact does_of_eq ((sfiRun_of_waiting f served admitted waits).trans (if_pos queued)) done
  · rw [sfiRole_of_unqueued unqueued]
    refine ⟨settle_of_frozen, fun free open_ known => ⟨settle_of_low_role free open_ known, fun role given => ?_⟩⟩
    have keyed := unlockKey_of_given given
    exact ⟨exists_settle_of_full_queue free open_ known role keyed, fun room =>
      ⟨exists_settle_of_busy_channel free open_ known role keyed room, settle_of_room free open_ known role keyed room⟩⟩

/-! ## A wrong key (R353, R355) -/

theorem refuseReq_of_denied {d : Dev} {c need : Nat} (role : need ≤ d.roleOf c) :
    d.refuseReq c need .denied = (d.countAns .denied (d.roleOf c)).authFail c := by
  have kept : (d.countAns .denied (d.roleOf c)).roleOf c = d.roleOf c := roleOf_congr (countAns_toSfiSt _ _ _) c
  unfold Dev.refuseReq
  dsimp only
  exact (if_neg (fun shed => nomatch shed.1)).trans (if_pos ⟨rfl, Nat.le_trans role (Nat.le_of_eq kept.symm)⟩)

theorem sfiRun_of_wrong_key {d : Dev} {rq : Sfi} {op need : Nat} (f : Dev → Nat → Dev × Ans) (served : d.served rq.ch = true)
    (free : d.isFrozen (d.sender rq.ch) = false) (open_ : rq.ch.val < 24) (known : op < 0xD00)
    (role : need ≤ d.roleOf rq.ch) (unqueued : d.request rq op = none) (wrong : rq.key.toNat ≠ unlockKey) :
    d.sfiRun rq op need true f =
      ((d.countAns .denied (d.roleOf rq.ch)).authFail rq.ch).reply rq.ch rq.tag op (d.chans.get rq.ch).epochS rq.ring
        .denied := by
  have refused : d.sfiRole rq op need true = .error .denied :=
    (sfiRole_of_unqueued unqueued need true).trans (settle_of_wrong_key free open_ known wrong)
  rw [sfiRun_of_refused f served refused, sfiTake_of_unqueued unqueued, sfiBack_of_unqueued unqueued,
    refuseReq_of_denied role]

theorem does_fwActivate {s : State} (live : s.live) (rq : Sfi) (now : Bool) :
    Does (.fwActivate rq now) s
      (((s.sfiDue 0x008).sfiRun rq 0x008 3 true (fun d _ => d.fwActivate now)).restartIfAsked 2) :=
  live_due live _ (fun d => (d.sfiRun rq 0x008 3 true (fun d _ => d.fwActivate now)).restartIfAsked 2)

/-- What SYS_RESET leaves to be done once its reply is posted (R362). -/
def resetAsked (d : Dev) : Dev := if d.resetReq = 2 then d.internalReset else d.restartIfAsked 1

theorem does_sysReset {s : State} {rq : Sfi} {role : Nat} (granted : Granted s rq 0x004 2 false role) (kind : Nat) :
    Does (.sysReset rq kind) s (resetAsked ((s.sfiDue 0x004).answers rq 0x004 role (fun d => d.sysReset rq role kind))) := by
  rw [← sfiRun_granted granted (fun d role => d.sysReset rq role kind)]
  exact live_due granted.live _ (fun d => resetAsked (d.sfiRun rq 0x004 2 false (fun d role => d.sysReset rq role kind)))

theorem sysReset_of_wrong_key {d : Dev} {rq : Sfi} {role : Nat} (admin : 3 ≤ role) (wrong : rq.key.toNat ≠ unlockKey) :
    d.sysReset rq role 1 = (d.authFail rq.ch, .denied) := by
  unfold Dev.sysReset
  simp [Nat.not_lt.mpr admin, wrong]

/-- Settles O52: R351 refuses a keyed command at its step 4, FW_ACTIVATE among them, and SYS_RESET asks for the key itself. -/
theorem unlockKeyOfCommands : Obligations.UnlockKeyOfCommands := by
  unfold Obligations.UnlockKeyOfCommands
  intro s rq op live wrong
  refine ⟨fun served free open_ admin unqueued => ⟨?_, ?_⟩, fun role granted admin => ?_⟩
  · rintro c x h rfl keyed rfl known
    obtain ⟨f, done⟩ := exists_does_sfiRun h live
    rw [keyed, need_of_keyed h keyed] at done
    exact does_of_eq (sfiRun_of_wrong_key f served free open_ known admin unqueued wrong) done
  · rintro rfl now
    exact does_of_eq (congrArg (Dev.restartIfAsked · 2)
      (sfiRun_of_wrong_key _ served free open_ (by decide) admin unqueued wrong)) (does_fwActivate live rq now)
  · refine does_of_eq (congrArg resetAsked (devAnswers_congr ?_)) (does_sysReset granted 1)
    exact sysReset_of_wrong_key admin wrong

/-! ## Replies (R348) -/

/-- The fields of the reply word. -/
theorem word_fields {a : Ans} (hst : a.st < 8) (hcause : a.cause < 32) (hdetail : a.detail < 256) (hhint : a.hint < 65536) :
    bitsOf a.word 2 0 = a.st ∧ bitsOf a.word 7 3 = (if a.st = 1 then a.cause else 0) ∧ bitsOf a.word 15 8 = a.detail ∧
      bitsOf a.word 31 16 = (if a.st = 1 then a.hint else 0) := by
  unfold Ans.word bitsOf
  split <;> omega

/-- The responses of a channel, those that wait for room after those in the queue. -/
def responses (d : Dev) (c : Nat) : List Msg := (d.chans.get c).rsp ++ (d.chans.get c).wait

theorem responses_congr {d e : Dev} (h : e.toHostSt = d.toHostSt) (c : Nat) : responses e c = responses d c := by
  unfold responses
  rw [h]

/-- Messages enter the queue in the order in which they waited. -/
theorem pushRsp_responses (n : Nat) (d : Dev) (c : Nat) : responses (Dev.pushRsp n d c) c = responses d c := by
  induction n generalizing d with
  | zero => rfl
  | succ n ih =>
    unfold Dev.pushRsp
    dsimp only
    split
    case h_1 => rfl
    case h_2 m r waiting =>
      split
      · rw [ih, responses_congr ((count_toHostSt _ _ _ _ _).trans ((chanInt_toHostSt _ _).trans (raise_toHostSt _ _ _ _)))]
        unfold responses
        rw [tbl_get_put, waiting]
        simp
      · rfl

/-- The message that the Prompter posts on a channel (R318). -/
def response (d : Dev) (c op tag echo : Nat) (words : List Nat) : Msg :=
  { hdr := msgHdr op (min words.length 15) tag (d.chans.get c).epochP echo
    words := (words.take 15).map (· % 2 ^ 32), stale := false }

theorem postRsp_responses (d : Dev) (c op tag echo : Nat) (words : List Nat) :
    responses (d.postRsp c op tag echo words) c = responses d c ++ [response d c op tag echo words] := by
  unfold Dev.postRsp
  dsimp only
  rw [pushRsp_responses]
  unfold responses response
  rw [tbl_get_put, List.append_assoc]

theorem msgHdr_op {op : Nat} (h : op < 4096) (len tag epoch echo : Nat) : msgHdr op len tag epoch echo % 4096 = op := by
  unfold msgHdr
  omega

theorem msgHdr_tag {tag : Nat} (h : tag < 256) (op len epoch echo : Nat) : msgHdr op len tag epoch echo / 65536 % 256 = tag := by
  unfold msgHdr
  omega

theorem word_lt (a : Ans) : a.word < 2 ^ 32 := by
  unfold Ans.word
  split <;> omega

/-- Settles O53: the reply word by its fields, the status codes by definition, and a reply as the one message that the channel's
responses gain. -/
theorem replies : Obligations.Replies := by
  unfold Obligations.Replies
  refine ⟨fun a => word_fields, fun cause hint detail data => ⟨rfl, rfl, rfl, rfl, rfl, rfl, rfl, rfl⟩,
    fun d c op tag echo a hop htag => ?_, fun c x s role h live served admitted next untagged => ?_⟩
  · refine ⟨response d c op tag echo (a.word :: a.words), postRsp_responses d c op tag echo (a.word :: a.words),
      msgHdr_op hop _ _ _ _, msgHdr_tag htag _ _ _ _, ?_⟩
    exact congrArg some (Nat.mod_eq_of_lt (word_lt a))
  · obtain ⟨f, done⟩ := exists_does_sfiRun h live
    exact does_of_eq (sfiRun_of_untagged f served admitted next untagged) done

end Sys2Proof.Proofs
end

section
/-! PROOF. Event registers (R373): how events and clears change the flags and SEQ. -/

namespace Sys2Proof.Proofs

open Sys2Proof Sys2Proof.Machine Sys2Proof.Laws

/-! ## Words by their bits -/

/-- Numbers that share no bit add without a carry. -/
theorem add_eq_or_of_and_eq_zero {a b : Nat} (apart : a &&& b = 0) : a + b = a ||| b := by
  have ha : a < 2 ^ (a + b + 1) := Nat.lt_of_lt_of_le Nat.lt_two_pow_self (Nat.pow_le_pow_right Nat.two_pos (by omega))
  have hsum : a + b < 2 ^ (a + b + 1) := Nat.lt_of_lt_of_le Nat.lt_two_pow_self (Nat.pow_le_pow_right Nat.two_pos (by omega))
  have h := BitVec.add_eq_or_of_and_eq_zero (BitVec.ofNat (a + b + 1) a) (BitVec.ofNat (a + b + 1) b)
    (by rw [← BitVec.ofNat_and, apart])
  rw [← BitVec.ofNat_add, ← BitVec.ofNat_or] at h
  have := congrArg BitVec.toNat h
  rwa [BitVec.toNat_ofNat, BitVec.toNat_ofNat, Nat.mod_eq_of_lt hsum,
    Nat.mod_eq_of_lt (Nat.or_lt_two_pow ha (Nat.lt_of_le_of_lt (Nat.le_add_left b a) hsum))] at this

theorem sub_and_eq_xor (v m : Nat) : v - (v &&& m) = v ^^^ (v &&& m) := by
  have apart : (v &&& m) &&& (v ^^^ (v &&& m)) = 0 := by
    apply Nat.eq_of_testBit_eq
    intro k
    simp only [Nat.testBit_and, Nat.testBit_xor, Nat.zero_testBit]
    cases v.testBit k <;> cases m.testBit k <;> rfl
  have both : (v &&& m) ||| (v ^^^ (v &&& m)) = v := by
    apply Nat.eq_of_testBit_eq
    intro k
    simp only [Nat.testBit_or, Nat.testBit_and, Nat.testBit_xor]
    cases v.testBit k <;> cases m.testBit k <;> rfl
  have := add_eq_or_of_and_eq_zero apart
  omega

/-- A cleared word keeps the bits that the clear does not name. -/
theorem testBit_sub_and (v m k : Nat) : (v - (v &&& m)).testBit k = (v.testBit k && !m.testBit k) := by
  rw [sub_and_eq_xor, Nat.testBit_xor, Nat.testBit_and]
  cases v.testBit k <;> cases m.testBit k <;> rfl

/-- Bits above a mask's stand still. -/
theorem sub_and_div (v : Nat) {m n : Nat} (hm : m < 2 ^ n) : (v - (v &&& m)) / 2 ^ n = v / 2 ^ n := by
  apply Nat.eq_of_testBit_eq
  intro k
  have above : m.testBit (n + k) = false :=
    Nat.testBit_lt_two_pow (Nat.lt_of_lt_of_le hm (Nat.pow_le_pow_right Nat.two_pos (Nat.le_add_right n k)))
  rw [Nat.testBit_div_two_pow, Nat.testBit_div_two_pow, testBit_sub_and, Nat.add_comm k n, above, Bool.not_false,
    Bool.and_true]

/-- The flags of an event register's word: bits 23 to 0 below SEQ. -/
theorem testBit_flags (flags seq : Nat) {k : Nat} (hk : k < 24) :
    (flags % 2 ^ 24 + seq * 2 ^ 24).testBit k = flags.testBit k := by
  rw [Nat.add_comm, Nat.mul_comm, Nat.testBit_two_pow_mul_add _ (Nat.mod_lt _ (Nat.two_pow_pos _)), if_pos hk,
    Nat.testBit_mod_two_pow, decide_eq_true hk, Bool.true_and]

/-! ## Events and clears -/

/-- SEQ advances with the first event of a core cycle at the register. -/
def nextSeqOf (d : Dev) (r : RegName) (i : Nat) : Nat :=
  if d.evMark.get (regAddr r i) = d.cycle + 1 then d.reg r i / 2 ^ 24 else (d.reg r i / 2 ^ 24 + 1) % 256

theorem nextSeqOf_lt (d : Dev) (r : RegName) (i : Nat) : nextSeqOf d r i < 256 := by
  have := reg_lt d r i
  unfold nextSeqOf
  split <;> omega

theorem reg_raiseBits (d : Dev) (r : RegName) (i bits : Nat) :
    (d.raiseBits r i bits).reg r i = (d.reg r i ||| bits) % 2 ^ 24 + nextSeqOf d r i * 2 ^ 24 := by
  have hseq := nextSeqOf_lt d r i
  have hlt : (d.reg r i ||| bits) % 2 ^ 24 + nextSeqOf d r i * 2 ^ 24 < 2 ^ 32 := by omega
  exact (reg_setReg _ _ _ _).trans (Nat.mod_eq_of_lt hlt)

theorem seq_raiseBits (d : Dev) (r : RegName) (i bits : Nat) :
    (d.raiseBits r i bits).reg r i / 2 ^ 24 = nextSeqOf d r i := by
  rw [reg_raiseBits]
  omega

theorem raiseBits_evMark (d : Dev) (r : RegName) (i bits : Nat) :
    (d.raiseBits r i bits).evMark.get (regAddr r i) = d.cycle + 1 := by
  unfold Dev.raiseBits
  dsimp only
  rw [setReg_evMark]
  exact tbl_get_put d.evMark (d.cycle + 1) (regAddr r i)

theorem reg_rsqClear_of_same {d : Dev} {r : RegName} {i w : Nat} (same : w / 2 ^ 24 % 256 = d.reg r i / 2 ^ 24) :
    (d.rsqClear r i w).reg r i = d.reg r i - (d.reg r i &&& (w % 2 ^ 24)) := by
  have hlt : d.reg r i - (d.reg r i &&& (w % 2 ^ 24)) < 2 ^ 32 := Nat.lt_of_le_of_lt (Nat.sub_le _ _) (reg_lt d r i)
  unfold Dev.rsqClear
  dsimp only
  rw [if_pos same, reg_setReg, Nat.mod_eq_of_lt hlt]

theorem rsqClear_of_other {d : Dev} {r : RegName} {i w : Nat} (other : w / 2 ^ 24 % 256 ≠ d.reg r i / 2 ^ 24) :
    d.rsqClear r i w = d := if_neg other

theorem regReset_of_rsq {r : RegName} (h : (regInfo r).kind = .rsq) (i : Nat) : regReset r i = 0 := by
  cases r <;> cases h <;> simp [regReset]

/-- Settles O54: an event sets its flag and the register's next SEQ, a clear takes out the flags it names. -/
theorem eventRegisters : Obligations.EventRegisters := by
  unfold Obligations.EventRegisters
  intro d r i
  refine ⟨fun bits _ => ⟨fun k hk => ?_, fun first => ?_, fun again => ?_, raiseBits_evMark d r i bits⟩,
    fun w => ⟨fun same => ⟨fun k hk => ?_, ?_⟩, rsqClear_of_other⟩, fun rsq => ?_⟩
  · rw [reg_raiseBits, testBit_flags _ _ hk, Nat.testBit_or]
  · exact (seq_raiseBits d r i bits).trans (if_neg first)
  · exact (seq_raiseBits d r i bits).trans (if_pos again)
  · rw [reg_rsqClear_of_same same, testBit_sub_and, Nat.testBit_mod_two_pow, decide_eq_true hk, Bool.true_and]
  · rw [reg_rsqClear_of_same same, sub_and_div _ (Nat.mod_lt _ (Nat.two_pow_pos _))]
  · refine (reset_reg r i).trans ?_
    rw [regReset_of_rsq rsq, Nat.zero_mod, ite_self]

end Sys2Proof.Proofs
end

section
/-! PROOF. The unlock state of a block for one master (R325, R371): what each branch of the gate makes of it. -/

namespace Sys2Proof.Proofs

open Sys2Proof Sys2Proof.Machine Sys2Proof.Laws

/-! ## Counting and recording leave the locks alone -/

@[simp] theorem countQ_unlock (d : Dev) (s i n : Nat) (a : Attr) : (d.countQ s i n a).unlock = d.unlock := by
  unfold Dev.countQ
  split
  · dsimp only
    split
    · rfl
    · split
      · rfl
      · rw [raise_unlock]
  · rfl

@[simp] theorem recArgs_unlock (d : Dev) (e : Evt) : (recArgs d e).1.unlock = d.unlock := by
  unfold recArgs
  split <;> rfl

@[simp] theorem record_unlock (d : Dev) (e : Evt) : (d.record e).unlock = d.unlock := by
  unfold Dev.record
  simp only [recArgs_unlock, countQ_unlock]
  split <;> rfl

@[simp] theorem recordLim_unlock (d : Dev) (n : Nat) (e : Evt) : (d.recordLim n e).unlock = d.unlock := by
  unfold Dev.recordLim
  dsimp only
  split
  · rw [record_unlock, mark_unlock]
  · rfl

@[simp] theorem count_unlock (d : Dev) (s i n : Nat) (a : Attr) : (d.count s i n a).unlock = d.unlock := by
  unfold Dev.count
  dsimp only
  split
  · rw [recordLim_unlock, countQ_unlock]
  · rw [countQ_unlock]

theorem ite_unlock (c : Prop) [Decidable c] (a b : Dev) : (if c then a else b).unlock = if c then a.unlock else b.unlock := by
  split <;> rfl

@[simp] theorem violate_unlock (d : Dev) (m kind addr data : Nat) : (d.violate m kind addr data).unlock = d.unlock := by
  unfold Dev.violate
  simp only [record_unlock, ite_unlock, setBit_unlock, raise_unlock, setReg_unlock, ite_self]

/-- A violation freezes every master but core 0 (R325). -/
theorem violate_isFrozen (d : Dev) {m : Nat} (kind addr data : Nat) (other : m ≠ 24) :
    (d.violate m kind addr data).isFrozen m = true := by
  unfold Dev.violate Dev.isFrozen
  dsimp only
  rw [record_toSfiSt, if_neg other]
  split
  · simp
  · split <;> simp

/-! ## The branches of the gate -/

/-- Whatever a master writes, the block is locked for it again (R371). -/
theorem heard_unlock (d : Dev) (m : Nat) (r : RegName) (i : Nat) :
    (d.heard m r i).unlock = d.unlock.put (unlockSlot m r i) false := by
  unfold Dev.heard
  simp only [count_unlock]

theorem partialWrite_unlock (d : Dev) (m : Nat) (r : RegName) (i : Nat) :
    (d.partialWrite m r i).unlock = d.unlock.put (unlockSlot m r i) false := by
  unfold Dev.partialWrite
  simp only [recordLim_unlock, raise_unlock, count_unlock, heard_unlock]

theorem passed_unlock (d : Dev) (m : Nat) (r : RegName) (i : Nat) :
    (d.passed m r i).unlock = d.unlock.put (unlockSlot m r i) false := by
  unfold Dev.passed
  simp only [ite_unlock, count_unlock, heard_unlock, ite_self]

theorem keyWrite_unlock_of_key (d : Dev) (m i : Nat) :
    (d.keyWrite m i unlockKey).unlock =
      (d.unlock.put (unlockSlot m .GUARD_UNLOCK i) false).put (unlockSlot m .GUARD_UNLOCK i) true := by
  unfold Dev.keyWrite
  simp only [if_true, count_unlock, heard_unlock]

theorem keyWrite_unlock_of_other (d : Dev) {m i w : Nat} (other : w ≠ unlockKey) :
    (d.keyWrite m i w).unlock = d.unlock.put (unlockSlot m .GUARD_UNLOCK i) false := by
  unfold Dev.keyWrite
  simp only [if_neg other, heard_unlock]

section Gate

variable {d : Dev} {m : Nat} {r : RegName} {i w be : Nat} (free : d.isFrozen m = false)
include free

/-- A full write of the key to the lock, by a master that may write it, opens the block. -/
theorem gateBe_of_key (full : be % 16 = 15) (may : d.writeKind m .GUARD_UNLOCK i unlockKey = none) :
    d.gateBe m .GUARD_UNLOCK i unlockKey be = (d.keyWrite m i unlockKey, none) := by
  unfold Dev.gateBe
  simp [free, full, may]

/-- Any other write leaves the block locked. -/
theorem gateBe_unlock_of_no_key (noKey : r ≠ .GUARD_UNLOCK ∨ w ≠ unlockKey ∨ be % 16 ≠ 15) :
    (d.gateBe m r i w be).1.unlock = d.unlock.put (unlockSlot m r i) false := by
  unfold Dev.gateBe
  rw [free, if_neg Bool.false_ne_true]
  split
  · exact partialWrite_unlock d m r i
  · rename_i whole
    split
    · exact (violate_unlock _ _ _ _ _).trans (heard_unlock d m r i)
    · split
      · rename_i lock
        subst lock
        refine keyWrite_unlock_of_other d (noKey.resolve_left (not_not_intro rfl) |>.resolve_right fun part => ?_)
        exact whole ⟨part, by decide⟩
      · split
        · exact heard_unlock d m r i
        · split
          · exact (violate_unlock _ _ _ _ _).trans ((count_unlock _ _ _ _ _).trans (heard_unlock d m r i))
          · exact passed_unlock d m r i

section Keyed

variable (keyed : (regInfo r).kind = .rwk) (full : be % 16 = 15) (may : d.writeKind m r i w = none) (register : r ≠ .GUARD_UNLOCK)
include keyed full may register

theorem gateBe_of_open (opened : d.unlock.get (unlockSlot m r i) = true) :
    d.gateBe m r i w be = (d.passed m r i, some w) := by
  unfold Dev.gateBe Dev.locked RegName.closed Dev.merge
  simp [free, full, may, register, keyed, opened]

theorem gateBe_of_locked (closed : d.unlock.get (unlockSlot m r i) = false) :
    d.gateBe m r i w be =
      (((d.heard m r i).count 0 4 1 (d.writeAttr m r i)).violate m 2 (regAddr r i) w, none) := by
  unfold Dev.gateBe Dev.locked RegName.closed
  simp [free, full, may, register, keyed, closed]

end Keyed

end Gate

theorem gateBe_of_frozen {d : Dev} {m : Nat} (frozen : d.isFrozen m = true) (r : RegName) (i w be : Nat) :
    d.gateBe m r i w be = (d, none) := if_pos frozen

/-- A write changes the lock of its master at its block alone. -/
theorem gateBe_unlock_other (d : Dev) (m : Nat) (r : RegName) (i w be : Nat) {j : Nat} (other : j ≠ unlockSlot m r i) :
    (d.gateBe m r i w be).1.unlock.get j = d.unlock.get j := by
  cases frozen : d.isFrozen m with
  | true => rw [gateBe_of_frozen frozen]
  | false =>
    by_cases noKey : r ≠ .GUARD_UNLOCK ∨ w ≠ unlockKey ∨ be % 16 ≠ 15
    · rw [gateBe_unlock_of_no_key frozen noKey, tbl_get_put_ne _ _ other]
    · obtain ⟨rfl, rfl, full⟩ : r = .GUARD_UNLOCK ∧ w = unlockKey ∧ be % 16 = 15 := by simpa using noKey
      unfold Dev.gateBe
      rw [frozen, if_neg Bool.false_ne_true, if_neg (fun part => part.1 full)]
      split
      · exact (congrArg (Tbl.get · j) ((violate_unlock _ _ _ _ _).trans (heard_unlock _ _ _ _))).trans
          (tbl_get_put_ne _ _ other)
      · rw [if_pos rfl, keyWrite_unlock_of_key, tbl_get_put_ne _ _ other, tbl_get_put_ne _ _ other]

/-- Settles O56: of all writes only the whole key at the lock opens its block, and only for its master. -/
theorem unlockStates : Obligations.UnlockStates := by
  unfold Obligations.UnlockStates
  intro d m r i w be
  refine ⟨fun frozen => gateBe_of_frozen frozen r i w be, fun j other => gateBe_unlock_other d m r i w be other,
    fun free => ⟨?_, fun noKey => ?_, fun keyed full may register => ⟨fun opened => ?_, fun locked => ?_⟩⟩⟩
  · rintro rfl rfl full may
    rw [show 0xC3A5 = unlockKey from rfl, gateBe_of_key free full may, keyWrite_unlock_of_key, tbl_get_put]
  · rw [gateBe_unlock_of_no_key free noKey, tbl_get_put]
  · rw [gateBe_of_open free keyed full may register opened]
  · rw [gateBe_of_locked free keyed full may register locked]
    exact ⟨rfl, violate_isFrozen _ _ _ _⟩

end Sys2Proof.Proofs
end

section
/-! PROOF. What a new record displaces in a full book (R388). -/

namespace Sys2Proof.Proofs

open Sys2Proof Sys2Proof.Machine Sys2Proof.Laws

/-! ## The order of the book -/

theorem seqAfter_irrefl (a : Nat) : seqAfter a a = false := by
  unfold seqAfter
  exact decide_eq_false (by omega)

section Ordered

variable {b : List Rec} (ordered : b.Pairwise (fun x y => seqAfter y.seq x.seq = true))
include ordered

/-- A book in SEQ order holds no record twice. -/
theorem nodup_of_ordered : b.Nodup := ordered.imp fun {x y} after same => by
  rw [same, seqAfter_irrefl] at after
  exact Bool.false_ne_true after

/-- Of the records with severity below `t` the first is the oldest. -/
theorem oldest_of_findIdx {t k : Nat} (found : b.findIdx? (fun x => decide (x.sev < t)) = some k) :
    ∃ h : k < b.length, b[k].sev < t ∧ (∀ z ∈ b, z.sev < t → z = b[k] ∨ seqAfter z.seq b[k].seq = true) ∧
      b.erase b[k] = b.eraseIdx k := by
  obtain ⟨h, low, first⟩ := List.findIdx?_eq_some_iff_getElem.mp found
  refine ⟨h, of_decide_eq_true low, fun z hz hlow => ?_,
    List.erase_eq_eraseIdx_of_idxOf ((nodup_of_ordered ordered).idxOf_getElem k h)⟩
  obtain ⟨j, hj, rfl⟩ := List.getElem_of_mem hz
  rcases Nat.lt_trichotomy j k with hjk | rfl | hkj
  · exact absurd (decide_eq_true hlow) (first j hjk)
  · exact .inl rfl
  · exact .inr (List.pairwise_iff_getElem.mp ordered k j h hj hkj)

end Ordered

/-! ## The counters of the book -/

theorem regAddr_DROPPED (i : Nat) : regAddr .DROPPED i = 0x500030 + i % 8 * 4 := by
  simp [regAddr, regInfo]

theorem regAddr_OVERWRITTEN (i : Nat) : regAddr .OVERWRITTEN i = 0x500050 + i % 8 * 4 := by
  simp [regAddr, regInfo]

theorem raiseFirst_reg_ne (d : Dev) (f : Fld) (i b n : Nat) {r : RegName} {j : Nat}
    (other : regAddr r j ≠ regAddr f.reg i) : (d.raiseFirst f i b n).reg r j = d.reg r j := by
  unfold Dev.raiseFirst
  dsimp only
  split
  · unfold Dev.raise Dev.raiseBits
    exact reg_setReg_ne _ _ _ _ _ _ other
  · rfl

theorem raiseFirst_toBookSt (d : Dev) (f : Fld) (i b n : Nat) : (d.raiseFirst f i b n).toBookSt = d.toBookSt := by
  unfold Dev.raiseFirst
  dsimp only
  split
  · exact raise_toBookSt _ _ _ _
  · rfl

/-! ## Storing a record (R388) -/

/-- The device with a record put into the book `b`, its SEQ staged in the large configuration (R386). -/
def putRec (d : Dev) (b : List Rec) (staged : List Nat) (r : Rec) : Dev :=
  { d with book := insertRec b r
           staged := if d.on F.BOOK_STATUS_MODE_ACTIVE then staged ++ [r.seq] else staged }

/-- The record in slot `k` gives way to a new one. -/
def overwritten (d : Dev) (r x : Rec) (k : Nat) : Dev :=
  (((putRec d (d.book.eraseIdx k) (d.staged.erase x.seq) r).satCount .OVERWRITTEN x.sev).countQ 0x50 2).countQ 0x50 1

def dropped (d : Dev) (r : Rec) : Dev :=
  ((d.satCount .DROPPED r.sev).countQ 0x50 3).raiseFirst F.BOOK_EVENT_DROPPED 0 0 secCycles

theorem overwritten_book (d : Dev) (r x : Rec) (k : Nat) :
    (overwritten d r x k).book = insertRec (d.book.eraseIdx k) r := by
  unfold overwritten
  rw [countQ_toBookSt, countQ_toBookSt, satCount_toBookSt]
  rfl

theorem overwritten_counts (d : Dev) (r x : Rec) (k : Nat) :
    (overwritten d r x k).reg .OVERWRITTEN x.sev = satAdd (d.reg .OVERWRITTEN x.sev) 1 := by
  have apart : regAddr .OVERWRITTEN x.sev ≠ regAddr .PERF_EVENT 0 := by
    rw [regAddr_OVERWRITTEN, show regAddr .PERF_EVENT 0 = 0x540018 from rfl]
    omega
  unfold overwritten
  rw [countQ_reg _ _ _ _ _ _ _ apart, countQ_reg _ _ _ _ _ _ _ apart, reg_satCount]
  rfl

theorem dropped_book (d : Dev) (r : Rec) : (dropped d r).book = d.book := by
  unfold dropped
  rw [raiseFirst_toBookSt, countQ_toBookSt, satCount_toBookSt]

theorem dropped_counts (d : Dev) (r : Rec) : (dropped d r).reg .DROPPED r.sev = satAdd (d.reg .DROPPED r.sev) 1 := by
  have apart : regAddr .DROPPED r.sev ≠ regAddr .PERF_EVENT 0 := by
    rw [regAddr_DROPPED, show regAddr .PERF_EVENT 0 = 0x540018 from rfl]
    omega
  have event : regAddr .DROPPED r.sev ≠ regAddr .BOOK_EVENT 0 := by
    rw [regAddr_DROPPED, show regAddr .BOOK_EVENT 0 = 0x500018 from rfl]
    omega
  unfold dropped
  rw [raiseFirst_reg_ne _ _ _ _ _ event, countQ_reg _ _ _ _ _ _ _ apart, reg_satCount]

/-- The slot whose record gives way to one of severity `sev`: that of the oldest of lower severity, for a FATAL record else that
of the oldest. -/
def victim (b : List Rec) (sev : Nat) : Option Nat :=
  let old (t : Nat) : Option Nat := b.findIdx? (fun x => decide (x.sev < t))
  if (old sev).isSome then old sev else if sev = 7 then old 8 else none

section Store

variable {d : Dev} {r : Rec} (room : d.staged.length < 16384)
include room

theorem freeSlot_of_staging : d.freeSlot = decide (d.book.length < d.bookCap) := by
  unfold Dev.freeSlot
  rw [decide_eq_true room, Bool.or_true, Bool.and_true]

theorem storeRec_of_free (free : d.book.length < d.bookCap) :
    storeRec d r = ((putRec d d.book d.staged r).countQ 0x50 1, true) :=
  if_pos ((freeSlot_of_staging room).trans (decide_eq_true free))

/-- In a full book the record's fate is the victim's. -/
theorem storeRec_of_full (full : d.bookCap ≤ d.book.length) :
    storeRec d r =
      match victim d.book r.sev with
      | some k => (overwritten d r (d.book.getD k r) k, true)
      | none => (dropped d r, false) := by
  have none : d.freeSlot = false := (freeSlot_of_staging room).trans (decide_eq_false (Nat.not_lt.mpr full))
  have every : ∀ x : Rec, d.replaceable x = true := fun x => by
    unfold Dev.replaceable
    rw [decide_eq_true room, Bool.true_or]
  unfold storeRec victim
  simp only [none, every, Bool.and_true, Bool.false_eq_true, if_false]
  rfl

/-- A victim gives way: the oldest of severity below `t`. -/
theorem storeRec_of_victim (full : d.bookCap ≤ d.book.length) {t k : Nat}
    (ordered : d.book.Pairwise (fun x y => seqAfter y.seq x.seq = true))
    (chosen : victim d.book r.sev = d.book.findIdx? (fun x => decide (x.sev < t)))
    (found : d.book.findIdx? (fun x => decide (x.sev < t)) = some k) :
    ∃ x ∈ d.book, x.sev < t ∧ (∀ z ∈ d.book, z.sev < t → z = x ∨ seqAfter z.seq x.seq = true) ∧
      (storeRec d r).2 = true ∧ (storeRec d r).1.book = insertRec (d.book.erase x) r ∧
      (storeRec d r).1.reg .OVERWRITTEN x.sev = satAdd (d.reg .OVERWRITTEN x.sev) 1 := by
  obtain ⟨h, low, oldest, hole⟩ := oldest_of_findIdx ordered found
  have hstore : storeRec d r = (overwritten d r d.book[k] k, true) := by
    rw [storeRec_of_full room full, chosen, found]
    simp only [List.getD_eq_getElem?_getD, List.getElem?_eq_getElem h, Option.getD_some]
  refine ⟨d.book[k], List.getElem_mem h, low, oldest, ?_⟩
  rw [hstore, hole]
  exact ⟨rfl, overwritten_book d r _ k, overwritten_counts d r _ k⟩

end Store

/-! ## The three fates -/

/-- A record of lower severity is there to be found. -/
theorem exists_findIdx_of_lower {b : List Rec} {t : Nat} (lower : ∃ x ∈ b, x.sev < t) :
    ∃ k, b.findIdx? (fun x => decide (x.sev < t)) = some k := by
  obtain ⟨x, hx, low⟩ := lower
  cases found : b.findIdx? (fun x => decide (x.sev < t)) with
  | some k => exact ⟨k, rfl⟩
  | none => exact absurd (decide_eq_true low) (Bool.eq_false_iff.mp (List.findIdx?_eq_none_iff.mp found x hx))

theorem findIdx_of_no_lower {b : List Rec} {t : Nat} (noLower : ∀ x ∈ b, t ≤ x.sev) :
    b.findIdx? (fun x => decide (x.sev < t)) = none :=
  List.findIdx?_eq_none_iff.mpr fun x hx => decide_eq_false (Nat.not_lt.mpr (noLower x hx))

theorem victim_of_lower {b : List Rec} {sev k : Nat} (found : b.findIdx? (fun x => decide (x.sev < sev)) = some k) :
    victim b sev = b.findIdx? (fun x => decide (x.sev < sev)) :=
  if_pos (Option.isSome_iff_exists.mpr ⟨k, found⟩)

theorem victim_of_no_lower {b : List Rec} {sev : Nat} (noLower : ∀ x ∈ b, sev ≤ x.sev) :
    victim b sev = if sev = 7 then b.findIdx? (fun x => decide (x.sev < 8)) else none :=
  if_neg (Option.not_isSome_iff_eq_none.mpr (findIdx_of_no_lower noLower))

/-- Settles O58: in SEQ order the first record below a severity is the oldest, and a book in order holds it once. -/
theorem fullBook : Obligations.FullBook := by
  unfold Obligations.FullBook
  intro d r _ severities room ordered
  refine ⟨fun free => ?_, fun full => ⟨fun lower => ?_, fun fatals fatal nonempty => ?_, fun noLower low => ?_⟩⟩
  · rw [storeRec_of_free room free]
    exact ⟨rfl, congrArg BookSt.book (countQ_toBookSt _ _ _ _ _)⟩
  · obtain ⟨k, found⟩ := exists_findIdx_of_lower lower
    exact storeRec_of_victim room full ordered (victim_of_lower found) found
  · obtain ⟨x, hx⟩ := List.exists_mem_of_ne_nil _ nonempty
    obtain ⟨k, found⟩ := exists_findIdx_of_lower ⟨x, hx, severities x hx⟩
    have chosen := (victim_of_no_lower (sev := r.sev) (fun z hz => fatal ▸ fatals z hz)).trans (if_pos fatal)
    obtain ⟨x, hx, sev, oldest, stored, book, counts⟩ := storeRec_of_victim room full ordered chosen found
    have seven : x.sev = 7 := Nat.le_antisymm (Nat.le_of_lt_succ sev) (fatals x hx)
    rw [seven] at counts
    exact ⟨x, hx, fun z hz => oldest z hz (severities z hz), stored, book, counts⟩
  · have nobody : victim d.book r.sev = none := (victim_of_no_lower noLower).trans (if_neg (Nat.ne_of_lt low))
    rw [storeRec_of_full room full, nobody]
    exact ⟨rfl, dropped_book d r, dropped_counts d r⟩

end Sys2Proof.Proofs
end

section
/-! PROOF. The claims that a die drives (R411, R414, R415). -/

namespace Sys2Proof.Proofs

open Sys2Proof Sys2Proof.Machine Sys2Proof.Laws

/-! ## The claim of a state (R414) -/

/-- The claim's lowest four bits: CLAIM_LEVEL above UNIT_ID. -/
def claimBase (d : Dev) : Nat := 2 * d.get F.PAIR_CFG_CLAIM_LEVEL + d.get F.PAIR_STATUS_UNIT_ID

theorem claimLevel_lt (d : Dev) : d.get F.PAIR_CFG_CLAIM_LEVEL < 8 := bitsOf_lt _ _ _

theorem unitId_lt (d : Dev) : d.get F.PAIR_STATUS_UNIT_ID < 2 := bitsOf_lt _ _ _

theorem claimBase_lt (d : Dev) : claimBase d < 16 := by
  have := claimLevel_lt d
  have := unitId_lt d
  unfold claimBase
  omega

theorem claimOf_of_unpaired {d : Dev} (st : d.pst = 0) : d.claimOf = 0 := by
  unfold Dev.claimOf
  simp [st]

theorem claimOf_of_waiting {d : Dev} (st : d.pst = 1 ∨ d.pst = 2 ∨ d.pst = 3) : d.claimOf = claimBase d := by
  unfold Dev.claimOf claimBase
  rcases st with st | st | st <;> simp [st]

theorem claimOf_of_synced {d : Dev} (st : d.pst = 4) : d.claimOf = 16 + claimBase d := by
  unfold Dev.claimOf claimBase
  simp [st]

theorem claimOf_of_active {d : Dev} (st : d.pst = 5) : d.claimOf = 32 + claimBase d := by
  unfold Dev.claimOf claimBase
  simp [st]

theorem claimOf_of_preferred {d : Dev} (st : d.pst = 6) : d.claimOf = 48 + claimBase d := by
  unfold Dev.claimOf claimBase
  simp [st]

/-- Whatever the state, the claim is none or the base under one of four ranks. -/
theorem claimOf_lt (d : Dev) : d.claimOf < 64 := by
  have hbase := claimBase_lt d
  unfold claimBase at hbase
  unfold Dev.claimOf
  dsimp only
  generalize (if d.pst = 8 then d.leftState else d.pst) = st
  split
  · omega
  · split
    · omega
    · split
      · omega
      · split <;> omega

/-- Bit 0 of the claim of a paired state is UNIT_ID. -/
theorem claimOf_unit {d : Dev} (least : 1 ≤ d.pst) (most : d.pst ≤ 6) : d.claimOf % 2 = d.get F.PAIR_STATUS_UNIT_ID := by
  have hunit := unitId_lt d
  have hstates : (d.pst = 1 ∨ d.pst = 2 ∨ d.pst = 3) ∨ d.pst = 4 ∨ d.pst = 5 ∨ d.pst = 6 := by omega
  have hbase : claimBase d % 2 = d.get F.PAIR_STATUS_UNIT_ID := by
    unfold claimBase
    omega
  rcases hstates with st | st | st | st
  · rw [claimOf_of_waiting st, hbase]
  · rw [claimOf_of_synced st, Nat.add_mod, hbase]
    omega
  · rw [claimOf_of_active st, Nat.add_mod, hbase]
    omega
  · rw [claimOf_of_preferred st, Nat.add_mod, hbase]
    omega

/-! ## The seven pins (R411, R415) -/

theorem gatedPins_claim {d : Dev} {v : Nat} (h : (if d.arbGo then d.claimOf else d.claimOf % 32) = v) (hv : v < 64) :
    d.gatedPins % 64 = v := by
  unfold Dev.gatedPins
  dsimp only
  rw [h]
  omega

theorem gatedPins_of_go {d : Dev} (go : d.arbGo = true) : d.gatedPins % 64 = d.claimOf :=
  gatedPins_claim (if_pos go) (claimOf_lt d)

theorem gatedPins_of_no_go {d : Dev} (noGo : d.arbGo = false) : d.gatedPins % 64 = d.claimOf % 32 :=
  gatedPins_claim (if_neg (Bool.eq_false_iff.mp noGo)) (by omega)

/-- CLAIM_PAR makes the number of set pins even. -/
theorem even_with_parity6 : ∀ v < 64, ((List.range 7).filter (fun k => (v + 64 * parity6 v).testBit k)).length % 2 = 0 := by
  decide

theorem gatedPins_even (d : Dev) : ((List.range 7).filter (fun k => d.gatedPins.testBit k)).length % 2 = 0 := by
  have hclaim := claimOf_lt d
  refine even_with_parity6 (if d.arbGo then d.claimOf else d.claimOf % 32) ?_
  split
  · exact hclaim
  · omega

theorem foldl_toPairSt {α : Type} (f : Dev → α → Dev) (h : ∀ d a, (f d a).toPairSt = d.toPairSt) (l : List α) (d : Dev) :
    (l.foldl f d).toPairSt = d.toPairSt := by
  induction l generalizing d with
  | nil => rfl
  | cons a l ih => rw [List.foldl_cons, ih, h]

theorem driveClaim_pins7 (d : Dev) : d.driveClaim.pins7 = d.gatedPins := by
  unfold Dev.driveClaim
  dsimp only
  rw [set_toPairSt, set_toPairSt, set_toPairSt, foldl_toPairSt]
  intro e k
  split
  · rfl
  · exact emit_toPairSt _ _

/-- Settles O59: a claim is the state's rank over CLAIM_LEVEL and UNIT_ID, which fill its lowest four bits. -/
theorem claims : Obligations.Claims := by
  unfold Obligations.Claims
  intro d e
  refine ⟨⟨claimOf_of_unpaired, claimOf_of_waiting, claimOf_of_synced, claimOf_of_active, claimOf_of_preferred, fun level => ?_⟩,
    fun dLeast dMost eLeast eMost units same => ?_, gatedPins_of_go, gatedPins_of_no_go, gatedPins_even d, driveClaim_pins7 d⟩
  · have := claimLevel_lt d
    have := unitId_lt d
    omega
  · exact units ((claimOf_unit dLeast dMost).symm.trans ((congrArg (· % 2) same).trans (claimOf_unit eLeast eMost)))

end Sys2Proof.Proofs
end

section
/-! PROOF. Commands that observe, and those of the Promptbook, the counters, the monitors and the credentials, leave the fabric
alone (R396, R404, R365, R342). -/

namespace Sys2Proof.Proofs

open Sys2Proof Sys2Proof.Machine Sys2Proof.Laws

/-! ## The Promptbook (R386 to R395) -/

@[simp] theorem raiseCurtain_fabric (d : Dev) (o : Nat) : (d.raiseCurtain o).fabric = d.fabric := by
  unfold Dev.raiseCurtain
  dsimp only
  split
  · exact writeEvents_fabric d
  · exact writeEvents_fabric d

@[simp] theorem bookClear_fabric (d : Dev) (chan role : Nat) : (d.bookClear chan role).fabric = d.fabric := by
  unfold Dev.bookClear
  dsimp only
  split <;>
    rw [ite_fabric, liftRecs_fabric _ id _ (fun _ => rfl), upd_fabric, recordNow_fabric, upd_fabric, recordNow_fabric, raise_fabric,
      ite_self] <;> rfl

theorem bookCmd_fabric (d : Dev) (w : Nat) : (d.bookCmd w).fabric = d.fabric := by
  unfold Dev.bookCmd
  simp only [ite_fabric, bookClear_fabric, lowerCurtain_fabric, raiseCurtain_fabric, ite_self]

theorem curtainLimit_fabric (d : Dev) : d.curtainLimit.fabric = d.fabric := by
  unfold Dev.curtainLimit
  split
  · rw [ite_fabric, lowerCurtain_fabric, ite_self]
  · rfl

theorem stagingWrite_fabric (d : Dev) : d.stagingWrite.fabric = d.fabric := by
  unfold Dev.stagingWrite
  split
  · rfl
  · split
    · rfl
    · split <;> rfl

theorem bookEvent_fabric (d : Dev) (c : Nat) : (d.bookEvent c).fabric = d.fabric := by
  unfold Dev.bookEvent
  split
  · rfl
  · dsimp only
    split
    · rfl
    · rw [count_fabric, notify_fabric]
      rfl

theorem bookRead_fabric (d : Dev) (c : Nat) (x : BookReadArgs) : (d.bookRead c x).1.fabric = d.fabric := by
  unfold Dev.bookRead
  dsimp only
  split
  · rfl
  · split <;> rfl

theorem bookCurtain_fabric (d : Dev) (c : Nat) (up : Bool) : (d.bookCurtain c up).1.fabric = d.fabric := by
  unfold Dev.bookCurtain
  split
  · split
    · rfl
    · split
      · rfl
      · exact lowerCurtain_fabric d 0
  · split
    · exact raiseCurtain_fabric d c
    · rfl

theorem triggerSet_fabric (d : Dev) (k : Nat) (x : TriggerArgs) : (d.triggerSet k x).1.fabric = d.fabric := by
  unfold Dev.triggerSet
  exact okIf_fabric _ _ _ (by simp only [cfg_fabric])

/-! ## Statistics and performance counters (R396 to R402) -/

@[simp] theorem latch_fabric (d : Dev) (cause opId : Nat) : (d.latch cause opId).fabric = d.fabric := by
  unfold Dev.latch
  simp only [ite_fabric, recordOnce_fabric, latchDump_fabric, ite_self]

theorem statsLatch_fabric (d : Dev) : d.statsLatch.fabric = d.fabric := by
  unfold Dev.statsLatch
  split
  · rw [upd_fabric]
  · dsimp only
    rw [latch_fabric, upd_fabric]

/-- A write to a function's memory, but for an entry of the learn ring. -/
theorem devWrite_fabric (d : Dev) (fn addr : Nat) (bytes : List Byte) : (d.devWrite fn addr bytes).fabric = d.fabric := by
  unfold Dev.devWrite Dev.dmaOut
  split
  · rfl
  · dsimp only
    split <;> simp

theorem dumpDone_fabric (d : Dev) : d.dumpDone.fabric = d.fabric := by
  unfold Dev.dumpDone
  split
  · rfl
  · simp only [ite_fabric, raise_fabric, set_fabric, count_fabric, devWrite_fabric, ite_self]
    split
    · exact set_fabric _ _ _ _
    · rw [dmaCheck_fabric, set_fabric, upd_fabric]

theorem perfCmd_fabric (d : Dev) (w : Nat) : (d.perfCmd w).fabric = d.fabric := by
  unfold Dev.perfCmd
  simp only [ite_fabric, latch_fabric, takeSnap_fabric, ite_self]

theorem snapDone_fabric (d : Dev) : d.snapDone.fabric = d.fabric := by
  unfold Dev.snapDone
  simp only [ite_fabric, finishOp_fabric, raise_fabric, set_fabric, ite_self]

@[simp] theorem pcClear_fabric (d : Dev) (slot mask : Nat) : (d.pcClear slot mask).fabric = d.fabric := by
  unfold Dev.pcClear
  refine foldl_fabric _ (fun d i => ?_) _ d
  split <;> rfl

@[simp] theorem store_fabric (d : Dev) (r : RegName) (i w : Nat) : (d.store r i w).fabric = d.fabric := by
  unfold Dev.store Dev.postShadow
  simp only [ite_fabric, upd_fabric, setReg_fabric, ite_self]

theorem dumpCfg_fabric (d : Dev) (w : Nat) : (d.dumpCfg w).fabric = d.fabric := by
  unfold Dev.dumpCfg
  simp only [ite_fabric, upd_fabric, store_fabric, ite_self]

theorem dumpSet_fabric (d : Dev) (c sets period mask buf0 buf1 : Nat) (en : Bool) :
    (d.dumpSet c sets period mask buf0 buf1 en).1.fabric = d.fabric := by
  unfold Dev.dumpSet
  dsimp only
  split
  · rfl
  · split
    · rfl
    · simp only [dumpCfg_fabric, setReg_fabric, cfg_fabric]

theorem statsQuery_fabric (d : Dev) (rq : Sfi) (kind idx cls start : Nat) :
    (d.statsQuery rq kind idx cls start).1.fabric = d.fabric := by
  unfold Dev.statsQuery
  repeat' split
  all_goals rfl

theorem perfConfig_fabric (d : Dev) (x : PerfArgs) : (d.perfConfig x).1.fabric = d.fabric := by
  unfold Dev.perfConfig
  exact okIf_fabric _ _ _ (by simp only [cfg_fabric])

theorem ifPerf_fabric (d : Dev) (rq : Sfi) {x : Dev × Ans} (h : x.1.fabric = d.fabric) : (d.ifPerf rq x).1.fabric = d.fabric := by
  unfold Dev.ifPerf
  split
  · exact h
  · rfl

/-! ## The monitors (R462, R467 to R470) -/

@[simp] theorem pwrRec_fabric (d : Dev) (e : Evt) : (d.pwrRec e).fabric = d.fabric := by
  unfold Dev.pwrRec
  rw [record_fabric]

theorem railSample_fabric (d : Dev) (r mv : Nat) : (d.railSample r mv).fabric = d.fabric := by
  unfold Dev.railSample
  simp only [ite_fabric, pwrRec_fabric, count_fabric, raise_fabric, setBit_fabric, upd_fabric, setReg_fabric, ite_self]

theorem railsSample_fabric (d : Dev) (mv : List Nat) : (d.railsSample mv).fabric = d.fabric := by
  unfold Dev.railsSample
  exact foldl_fabric _ (fun d r => railSample_fabric d r _) _ d

@[simp] theorem thermJudge_fabric (d : Dev) (k : Nat) (temps : List Int) : (d.thermJudge k temps).fabric = d.fabric := by
  unfold Dev.thermJudge
  dsimp only
  split
  · rfl
  · simp only [ite_fabric, pwrRec_fabric, raise_fabric, upd_fabric, ite_self]

theorem thermSample_fabric (d : Dev) (temps : List Int) : (d.thermSample temps).fabric = d.fabric := by
  unfold Dev.thermSample
  simp only [thermJudge_fabric, ite_fabric, count_fabric, set_fabric, upd_fabric, setReg_fabric, ite_self]
  exact foldl_fabric _ (fun _ _ => setReg_fabric _ _ _ _) _ d

@[simp] theorem thermRearm_fabric (d : Dev) (k : Nat) : (d.thermRearm k).fabric = d.fabric := by
  unfold Dev.thermRearm
  split
  · rw [ite_fabric, pwrRec_fabric, upd_fabric, ite_self]
  · rfl

theorem pllUnlock_fabric (d : Dev) (pll : Nat) : (d.pllUnlock pll).fabric = d.fabric := by
  unfold Dev.pllUnlock
  simp only [ite_fabric, pwrRec_fabric, raise_fabric, setReg_fabric, ite_self]

/-! ## Queries and credentials -/

/-- A query under a condition gives its device back. -/
theorem query_fabric (c : Prop) [Decidable c] (d : Dev) (a b : Ans) : (if c then (d, a) else (d, b)).1.fabric = d.fabric := by
  split <;> rfl

theorem tabCmd_fabric (d : Dev) (ch : Nat) (k : Dev → Dev × Ans) (h : (k d).1.fabric = d.fabric) :
    (d.tabCmd ch k).1.fabric = d.fabric := by
  unfold Dev.tabCmd
  split
  · rfl
  · exact h

@[simp] theorem fwRec_fabric (d : Dev) (code sev a0 a1 : Nat) : (d.fwRec code sev a0 a1).fabric = d.fabric := by
  unfold Dev.fwRec
  rw [record_fabric]

/-- What every command of `observes` does to the fabric, by the place it acts at. -/
theorem inCycle_of_observes {c : Instr} {s t : State} (obs : observes c = true) (next : exec c s = .next t) : InCycle s t := by
  cases c with
  | curtainUp | curtainDown | bookCmdClear => exact write_fabric next bookCmd_fabric
  | curtainLimitExpire => exact act_fabric next curtainLimit_fabric
  | bookStagingWrite => exact act_fabric next stagingWrite_fabric
  | bookEvent c => exact act_fabric (f := (·.bookEvent c)) next (bookEvent_fabric · c)
  | statsLatch => exact act_fabric next statsLatch_fabric
  | dumpWriteDone => exact act_fabric next dumpDone_fabric
  | perfCmdSnap | perfCmdDumpNow => exact write_fabric next perfCmd_fabric
  | perfSnapDone => exact act_fabric next snapDone_fabric
  | pcClear m slot w =>
    refine act_fabric (f := fun d => if (blockAt slot).isNone then d else
      d.gated m .PC_CLEAR slot w.toNat (fun d w => d.pcClear slot (w % 256))) next (fun d => ?_)
    rw [ite_fabric, gated_fabric _ _ _ _ _ _ (fun d w => pcClear_fabric d slot _), ite_self]
  | railMonitorSample mv => exact act_fabric (f := (·.railsSample mv)) next (railsSample_fabric · mv)
  | thermalSample temps => exact act_fabric (f := (·.thermSample temps)) next (thermSample_fabric · temps)
  | thermClear => exact act_fabric (f := fun d => (d.thermRearm 0).thermRearm 1) next (fun d => by rw [thermRearm_fabric, thermRearm_fabric])
  | lifeHoursUpdate t => exact .inl (actAo_fabric (f := fun d => { d with lifeAcc := d.lifeAcc + lifeRate t }) next (upd_fabric _ _ _ _ _ _ _ _ _))
  | corePllUnlock pll => exact act_fabric (f := (·.pllUnlock pll)) next (pllUnlock_fabric · pll)
  | sysQuery | powerQuery | timeQuery | stageQuery | folioQuery | bookQuery | pairQuery | domainQuery | domainTreeQuery
  | configSave => exact sfi_fabric next (fun _ _ => rfl)
  | portQuery | policerQuery | streamQuery | cueListQuery => exact sfi_fabric next (fun d _ => query_fabric _ d _ _)
  | bpmQuery rq range start =>
    refine sfi_fabric next (fun d _ => ?_)
    cases range with
    | none => rfl
    | some r => exact query_fabric _ d _ _
  | masterQuery rq m start =>
    refine sfi_fabric next (fun d _ => ?_)
    cases m with
    | none => rfl
    | some m => exact query_fabric _ d _ _
  | sessionQuery rq c start =>
    refine sfi_fabric next (fun d _ => ?_)
    cases c with
    | none => rfl
    | some c => exact query_fabric _ d _ _
  | plateQuery => exact sfi_fabric next (fun d _ => tabCmd_fabric d _ _ rfl)
  | fdbQuery rq key start count filter =>
    refine sfi_fabric next (fun d _ => tabCmd_fabric d _ _ ?_)
    cases key with
    | none => exact query_fabric _ d _ _
    | some k => exact query_fabric _ d _ _
  | statsQuery => exact sfi_fabric next (fun d _ => statsQuery_fabric d _ _ _ _ _)
  | bookRead => exact sfi_fabric next (fun d _ => bookRead_fabric d _ _)
  | bookCurtain => exact sfi_fabric next (fun d _ => bookCurtain_fabric d _ _)
  | bookClear => exact sfiKey_fabric next (fun d _ => bookClear_fabric d _ _)
  | bookTriggerSet => exact sfi_fabric next (fun d _ => triggerSet_fabric d _ _)
  | bookSubscribe => exact sfi_fabric next (fun d _ => okIf_fabric _ d _ rfl)
  | thermalSet | bookConfig | bookSnapSet | perfAllowSet | sysConfig =>
    exact sfi_fabric next (fun d _ => okIf_fabric _ d _ (cfg_fabric d _ _ _))
  | statsDumpSet => exact sfi_fabric next (fun d _ => dumpSet_fabric d _ _ _ _ _ _ _)
  | statsDumpNow =>
    refine sfi_fabric next (fun d _ => ?_)
    split
    · rfl
    · exact latch_fabric d 2 0
  | perfConfig => exact sfi_fabric next (fun d _ => ifPerf_fabric d _ (perfConfig_fabric d _))
  | perfSnap => exact sfi_fabric next (fun d _ => ifPerf_fabric d _ (takeSnap_fabric d))
  | perfClear => exact sfi_fabric next (fun d _ => ifPerf_fabric d _ (okIf_fabric _ d _ (pcClear_fabric d _ _)))
  | credentialSet => exact sfiKey_fabric next (fun d _ => okIf_fabric _ d _ (fwRec_fabric _ _ _ _ _))
  | keySlotLoad => exact sfiKey_fabric next (fun d _ => okIf_fabric _ d _ (fwRec_fabric _ _ _ _ _))
  | keySlotClear => exact sfi_fabric next (fun d _ => okIf_fabric _ d _ rfl)
  | _ => nomatch obs

theorem pending_of_next {c : Instr} {s t : State} (next : exec c s = .next t) : t.pending = s.pending := by
  obtain ⟨d, does⟩ := exists_does c s
  cases does.symm.trans next
  rfl

/-- Settles O60: each such command acts at its place in the core cycle by an operation that leaves the fabric alone. -/
theorem observersLeaveTheFabric : Obligations.ObserversLeaveTheFabric := by
  unfold Obligations.ObserversLeaveTheFabric
  intro c s t obs next
  exact ⟨inCycle_of_observes obs next, pending_of_next next⟩

end Sys2Proof.Proofs
end

section
/-! PROOF. The Prompter: boot, restarts and the watchdog (R335 to R347), the firmware's own work (R333, R334, R337, R344, R350), the
SFI commands of the system, recovery and update groups (R342, R345, R360, R362), and sessions (R354 to R356, R365). -/

namespace Sys2Proof.Proofs

open Sys2Proof Sys2Proof.Machine Sys2Proof.Laws

theorem past_iff {d : Dev} {t n : Nat} : d.past t n = true ↔ t + n ≤ d.cycle := decide_eq_true_iff

theorem past_of_le {d : Dev} {t n : Nat} (due : t + n ≤ d.cycle) : d.past t n = true := past_iff.mpr due

theorem past_of_lt {d : Dev} {t n : Nat} (early : d.cycle < t + n) : d.past t n = false :=
  Bool.eq_false_iff.mpr (fun h => Nat.not_le.mpr early (past_iff.mp h))

/-! ## Boot (R339 to R343) -/

/-- The device with the failure of the slot tried first on record. -/
def bootFellBack (d : Dev) (cause : Nat) : Dev := (d.raise F.PROMPTER_EVENT_BOOT_FALLBACK).fwRec 0x0E04 5 cause 0

section Boot

variable {d : Dev} {a b : ImageArgs} (waits : d.get F.PROMPTER_STATUS_BOOT_STATE < 2) (plain : d.on F.STRAPS_TEST_EN = false)
include waits plain

/-- A device that waits for its boot tries the slot of R340, and the other where the first fails. -/
theorem boot_of_waiting :
    d.boot a b =
      (let x := d.bootReady.bootSlot
       let im (n : Nat) : ImageArgs := if n = 0 then a else b
       let c := x.1.imageCause (im x.2.1)
       if c = 0 then x.1.bootRun x.2.1 x.2.2 false (im x.2.1)
       else
         let e := bootFellBack x.1 c
         if e.imageCause (im (1 - x.2.1)) = 0 then e.bootRun (1 - x.2.1) false true (im (1 - x.2.1))
         else e.bootFailed (e.imageCause a) (e.imageCause b)) :=
  if_neg (not_or.mpr ⟨Nat.not_le.mpr waits, Bool.eq_false_iff.mp plain⟩)

theorem boot_of_slot_a (first : d.bootReady.bootSlot.2.1 = 0) (good : d.bootReady.bootSlot.1.imageCause a = 0) :
    d.boot a b = d.bootReady.bootSlot.1.bootRun 0 d.bootReady.bootSlot.2.2 false a := by
  simp [boot_of_waiting waits plain, first, good]

theorem boot_of_slot_b (first : d.bootReady.bootSlot.2.1 = 1) (good : d.bootReady.bootSlot.1.imageCause b = 0) :
    d.boot a b = d.bootReady.bootSlot.1.bootRun 1 d.bootReady.bootSlot.2.2 false b := by
  simp [boot_of_waiting waits plain, first, good]

theorem boot_of_fallback (first : d.bootReady.bootSlot.2.1 = 0) (bad : d.bootReady.bootSlot.1.imageCause a ≠ 0)
    (good : (bootFellBack d.bootReady.bootSlot.1 (d.bootReady.bootSlot.1.imageCause a)).imageCause b = 0) :
    d.boot a b =
      (bootFellBack d.bootReady.bootSlot.1 (d.bootReady.bootSlot.1.imageCause a)).bootRun 1 false true b := by
  simp [boot_of_waiting waits plain, first, bad, good]

theorem boot_of_both_failing (first : d.bootReady.bootSlot.2.1 = 0) (bad : d.bootReady.bootSlot.1.imageCause a ≠ 0)
    (bad' : (bootFellBack d.bootReady.bootSlot.1 (d.bootReady.bootSlot.1.imageCause a)).imageCause b ≠ 0) :
    d.boot a b =
      (let e := bootFellBack d.bootReady.bootSlot.1 (d.bootReady.bootSlot.1.imageCause a)
       e.bootFailed (e.imageCause a) (e.imageCause b)) := by
  simp [boot_of_waiting waits plain, first, bad, bad']

end Boot

theorem does_boot {s : State} (live : s.live) (a b : ImageArgs) : Does (.boot a b) s ((s.due (untied 14 0)).boot a b) :=
  live_later live 14 0 (·.boot a b)

/-! ## The watchdog, the cores and CONFIRM_TIME (R335, R336, R345, R347) -/

/-- The restarts by the watchdog within 600 s, this one with them. -/
def recentRestarts (d : Dev) : List Nat := d.restarts.filter (fun t => decide (d.cycle < t + 600 * secCycles)) ++ [d.cycle]

section Core0

variable {d : Dev} (up : d.core0Up = true)
include up

theorem core0Dog_of_silence (silent : d.readyAt + 50 * msCycles ≤ d.cycle) :
    d.core0Dog =
      (let e := { d with restarts := recentRestarts d }
       if (recentRestarts d).length < 3 then e.promptRestart 3
       else
         (((e.set F.PROMPTER_STATUS_DEGRADED 0 1).set F.PROMPTER_STATUS_CORE_UP 0 0).set F.GATE_STATUS_1_CORE_CLK_ON 0 0 |>.raise
           F.PROMPTER_EVENT_DEGRADED).fwRec 0x0E07 6 0 0) := by
  unfold Dev.core0Dog
  rw [up, past_of_le silent]
  rfl

theorem coreBack_of_down {n : Nat} (other : n ≠ 0) (down : d.bit F.PROMPTER_STATUS_CORE_UP 0 n = false) :
    d.coreBack n =
      ({ d with beat := d.beat.put n d.cycle }.setBit F.PROMPTER_STATUS_CORE_UP 0 n true).setBit F.GATE_STATUS_1_CORE_CLK_ON 0 n
        true := by
  unfold Dev.coreBack
  simp [up, other, down]

/-- The check of cores 1 to 3 by core 0, every 10 ms. -/
theorem heartbeats_of_due {beats : Nat} (due : d.beatAt + 10 * msCycles ≤ d.cycle) :
    d.heartbeats beats =
      ([1, 2, 3] : List Nat).foldl (fun (d : Dev) n =>
        if d.bit F.PROMPTER_STATUS_CORE_UP 0 n = false then d
        else if beats / 2 ^ (n - 1) % 2 = 1 then { d with beat := d.beat.put n d.cycle }
        else if d.beat.get n + 100 * msCycles ≤ d.cycle then d.coreReset n 1 else d) { d with beatAt := d.cycle } := by
  unfold Dev.heartbeats
  rw [up, past_of_le due]
  rfl

variable (trial : d.on F.PROMPTER_STATUS_TRIAL = true)
include trial

theorem confirmExpire_of_late (late : d.readyAt + d.get F.PROMPTER_CTRL_CONFIRM_TIME * secCycles ≤ d.cycle) :
    d.confirmExpire =
      ((({ d with trialSlot := 0, trialCount := 0 }.dirWrite).raise F.PROMPTER_EVENT_FW_REVERTED).fwRec 0x0E12 5 0 0).promptRestart
        6 := by
  unfold Dev.confirmExpire
  rw [trial, up, decide_eq_true late]
  rfl

end Core0

theorem confirmExpire_of_early {d : Dev}
    (early : d.cycle < d.readyAt + d.get F.PROMPTER_CTRL_CONFIRM_TIME * secCycles) :
    d.confirmExpire = d := by
  unfold Dev.confirmExpire
  rw [decide_eq_false (Nat.not_le.mpr early), Bool.and_false]
  rfl

theorem sramError_of_corrected (d : Dev) (n : Nat) (image : Bool) :
    d.sramError n true image =
      ((d.satCount .SRAM_ECC_CORR 0).raiseFirst F.PROMPTER_EVENT_SRAM_ECC_CORR 0 0 secCycles).recordOnce secCycles
        { code := 0x0E0E, sev := 1, a0 := n, fw := true } := if_pos rfl

section Live

variable {s : State} (live : s.live)
include live

theorem does_core0WatchdogExpire : Does .core0WatchdogExpire s (s.due (untied 14 0)).core0Dog := live_later live 14 0 Dev.core0Dog

theorem does_sramEccError (n : Fin 4) (corrected image : Bool) :
    Does (.sramEccError n corrected image) s ((s.due (untied 14 0)).sramError n corrected image) :=
  live_later live 14 0 (·.sramError n corrected image)

theorem does_coreResetDone (n : Fin 4) : Does (.coreResetDone n) s ((s.due (untied 14 0)).coreBack n) :=
  live_later live 14 0 (·.coreBack n)

theorem does_coreHeartbeatCheck (beats : Fin 8) :
    Does (.coreHeartbeatCheck beats) s ((s.due (untied 14 0)).heartbeats beats) := live_later live 14 0 (·.heartbeats beats)

theorem does_confirmTimeExpire : Does .confirmTimeExpire s (s.due atExpiry).confirmExpire := live_due live _ Dev.confirmExpire

end Live

/-- Settles O27. -/
theorem bootAndResets : Obligations.BootAndResets := by
  unfold Obligations.BootAndResets
  intro s m n
  refine ⟨fun passes => writes_act passes (fun d _ => d.promptRestart 5), fun live => ⟨fun a b waits plain => ?_,
    fun up silent => ⟨fun few => ?_, fun many => ?_⟩, fun image => ?_, fun up other down => ?_, fun beats up due => ?_⟩,
    fun live trial up => ⟨fun late => ?_, fun early => ?_⟩⟩
  · have boots := does_boot live a b
    exact ⟨fun first good => does_of_eq (boot_of_slot_a waits plain first good) boots,
      fun first good => does_of_eq (boot_of_slot_b waits plain first good) boots, fun first bad =>
      ⟨fun good => does_of_eq (boot_of_fallback waits plain first bad good) boots,
        fun bad' => does_of_eq (boot_of_both_failing waits plain first bad bad') boots⟩⟩
  · exact does_of_eq ((core0Dog_of_silence up silent).trans (if_pos few)) (does_core0WatchdogExpire live)
  · exact does_of_eq ((core0Dog_of_silence up silent).trans (if_neg (Nat.not_lt.mpr many))) (does_core0WatchdogExpire live)
  · exact does_of_eq (sramError_of_corrected _ n image) (does_sramEccError live n true image)
  · exact does_of_eq (coreBack_of_down up (fun h => other (Fin.ext h)) down) (does_coreResetDone live n)
  · exact does_of_eq (heartbeats_of_due up due) (does_coreHeartbeatCheck live beats)
  · exact does_of_eq (confirmExpire_of_late up trial late) (does_confirmTimeExpire live)
  · exact does_of_eq (confirmExpire_of_early early) (does_confirmTimeExpire live)

end Sys2Proof.Proofs
end

section
/-! PROOF. The firmware's own work (R333, R334, R337, R344, R350, R351). -/

namespace Sys2Proof.Proofs

open Sys2Proof Sys2Proof.Machine Sys2Proof.Laws

section Core0

variable {d : Dev} (up : d.core0Up = true)
include up

/-- Every part of the startup configuration applies where no command of it fails (R344). -/
theorem autoApply_of_success {x : Startup} (saved : d.startup = some x) (pending : d.get F.PROMPTER_STATUS_CFG_STATE = 1) :
    d.autoApply none =
      (List.range 16).foldl (fun d c => d.notify c 0x00B [0, 0])
        ((((List.range 8).foldl (fun d k => d.applyPart x k) d).set F.PROMPTER_STATUS_CFG_STATE 0 2).fwRec 0x0E14 2 0 0) := by
  have applies : ¬ (d.get F.PROMPTER_STATUS_CFG_STATE ≠ 1 ∨ d.core0Up = false) :=
    not_or.mpr ⟨not_not_intro pending, Bool.not_eq_false _ ▸ up⟩
  unfold Dev.autoApply
  rw [saved]
  exact if_neg applies

section Lldp

variable {p : Nat} (on : d.lldp.get p ≠ 0) (due : d.lldpAt.get p + d.lldp.get p * secCycles ≤ d.cycle)
include on due

/-- The interval of a port's LLDP frames has passed. -/
theorem lldpTx_of_due :
    d.lldpTx p =
      (let e := { d with lldpAt := d.lldpAt.put p d.cycle }
       if e.linkState p = 1 then e.promptTx (lldpBytes p (e.lldp.get p)) (some (p, 6)) else e) := by
  unfold Dev.lldpTx
  rw [up, past_of_le due, decide_eq_false on]
  rfl

end Lldp

end Core0

/-- What core 0's tick does with the targets it holds (R333). -/
def heldTick (d : Dev) : Dev :=
  if d.core0Up && d.past d.heldAt secCycles then d.heldT.foldl Dev.armHeld { d with heldAt := d.cycle } else d

theorem heldTick_of_due {d : Dev} (up : d.core0Up = true) (due : d.heldAt + secCycles ≤ d.cycle) :
    heldTick d = d.heldT.foldl Dev.armHeld { d with heldAt := d.cycle } := by
  unfold heldTick
  rw [up, past_of_le due]
  rfl

theorem heldTick_of_early {d : Dev} (early : d.cycle < d.heldAt + secCycles) : heldTick d = d := by
  unfold heldTick
  rw [past_of_lt early, Bool.and_false]
  rfl

/-- Core 0 takes the next frame of Q_6 and Q_7 (R334). -/
theorem promptRx_of_head {d e : Dev} {us : List Upset} {x : Copy} (up : d.bit F.PROMPTER_STATUS_CORE_UP 0 0 = true)
    (apart : d.on F.DOM_CFG_DOM_EN = false) (head : d.takeHead 257 192 us = (e, some x)) :
    d.promptRx 0 us = (((e.delivered x).count 0x4C 5).agentRead (e.frames.get x.frame)).consume x.frame := by
  have all : d.domMask = 0 := if_neg (Bool.eq_false_iff.mp apart)
  unfold Dev.promptRx
  simp [all, up, head]

/-- The head request of a channel is popped and settled (R351). -/
theorem takeRequest_of_head {d : Dev} {c : Nat} {m : Msg} {r : List Msg} (head : (d.chans.get c).req = m :: r)
    (fresh : m.stale = false) (sfi : d.sfiUp = true) (running : d.get F.PROMPTER_STATUS_BOOT_STATE = 2)
    (up : d.bit F.PROMPTER_STATUS_CORE_UP 0 (d.rxCore c) = true)
    (clocked : d.bit F.GATE_STATUS_1_CORE_CLK_ON 0 (d.rxCore c) = true) :
    d.takeRequest c =
      ((d.popReq c).domRole c).admitReq c (m.hdr % 4096) (m.hdr / 2 ^ 16 % 256) (m.hdr / 2 ^ 24 % 16) m.words false := by
  unfold Dev.takeRequest
  rw [head]
  simp [fresh, sfi, running, up, clocked]

section StageReport

variable {d : Dev} {k c : Nat} (free : d.isFrozen (8 + k) = false) (program : 24 ≤ c)
include free program

/-- A cluster's report takes the channel that its cluster owns (R352, R317). -/
theorem stageReport_of_free (op tag : Nat) (words : List Nat) :
    d.stageReport k c op tag words =
      if d.sender c ≠ 8 + k then d.violate (8 + k) 5 (regAddr .MB_POST c) (msgHdr op words.length tag 0 0)
      else d.postReq c (msgHdr op (min words.length 15) tag 0 0) (words.map (· % 2 ^ 32)) := by
  unfold Dev.stageReport
  dsimp only
  rw [free, decide_eq_false (Nat.not_lt.mpr program)]
  rfl

end StageReport

section Live

variable {s : State} (live : s.live)
include live

theorem does_core0LoadCheck (loads : List (Nat × Nat)) :
    Does (.core0LoadCheck loads) s
      (let d := s.due (untied 14 0)
       if d.core0Up then d.loadCheck loads else d) :=
  live_later live 14 0 (fun d => if d.core0Up then d.loadCheck loads else d)

theorem does_configAutoApply (fail : Option (Nat × Nat)) :
    Does (.configAutoApply fail) s ((s.due (untied 14 0)).autoApply fail) := live_later live 14 0 (·.autoApply fail)

theorem does_heldTargetTick : Does .heldTargetTick s (heldTick (s.due (untied 14 0))) := live_later live 14 0 heldTick

theorem does_lldpTx (p : Fin 256) : Does (.lldpTx p) s ((s.due (untied 14 0)).lldpTx p) := live_later live 14 0 (·.lldpTx p)

theorem does_prompterRxFrame (core : Fin 4) (us : List Upset) :
    Does (.prompterRxFrame core us) s ((s.due atSend).promptRx core us) := live_due live _ (·.promptRx core us)

theorem does_sfiRequestTake (c : Fin 32) : Does (.sfiRequestTake c) s ((s.due atTake).takeRequest c) :=
  live_due live _ (·.takeRequest c)

/-- The job that core 3 ends, if it is still on its list (R350). -/
theorem does_sfiJobDone (c : Fin 32) (tag : Fin 256) (im : ImageArgs) :
    Does (.sfiJobDone c tag im) s
      (match (s.due atSfi).jobs.find? (fun j => j.ch == c.val && j.tag == tag.val) with
        | some j => (s.due atSfi).jobDone j im
        | none => s.due atSfi) :=
  live_due live _ (fun d => match d.jobs.find? (fun j => j.ch == c.val && j.tag == tag.val) with
    | some j => d.jobDone j im
    | none => d)

theorem does_stageReport (k : Fin 16) (c : Fin 32) (op tag : Nat) (words : List Nat) :
    Does (.stageReport k c op tag words) s ((s.due (untied 13 20)).stageReport k c op tag words) :=
  live_later live 13 20 (·.stageReport k c op tag words)

end Live

/-- Settles O28. -/
theorem firmwareWork : Obligations.FirmwareWork := by
  unfold Obligations.FirmwareWork
  intro s c p us live
  refine ⟨fun up => ⟨fun loads => ?_, fun x saved pending => ?_, fun due => ?_, fun early => ?_, fun on due =>
    ⟨fun linked => ?_, fun unlinked => ?_⟩⟩, fun d x up apart head => ?_, fun m r head fresh sfi running up clocked => ?_,
    fun tag im => ⟨fun j found => ?_, fun gone => ?_⟩, fun k op tag words free program => ⟨fun own => ?_, fun foreign => ?_⟩⟩
  · exact does_of_eq (if_pos up) (does_core0LoadCheck live loads)
  · exact does_of_eq (autoApply_of_success up saved pending) (does_configAutoApply live none)
  · exact does_of_eq (heldTick_of_due up due) (does_heldTargetTick live)
  · exact does_of_eq (heldTick_of_early early) (does_heldTargetTick live)
  · exact does_of_eq ((lldpTx_of_due up on due).trans (if_pos linked)) (does_lldpTx live p)
  · exact does_of_eq ((lldpTx_of_due up on due).trans (if_neg unlinked)) (does_lldpTx live p)
  · exact does_of_eq (promptRx_of_head up apart head) (does_prompterRxFrame live 0 us)
  · exact does_of_eq (takeRequest_of_head head fresh sfi running up clocked) (does_sfiRequestTake live c)
  · exact does_of_eq (by rw [found]) (does_sfiJobDone live c tag im)
  · exact does_of_eq (by rw [gone]) (does_sfiJobDone live c tag im)
  · exact does_of_eq ((stageReport_of_free free program op tag words).trans (if_neg (not_not_intro own)))
      (does_stageReport live k c op tag words)
  · exact does_of_eq ((stageReport_of_free free program op tag words).trans (if_pos foreign))
      (does_stageReport live k c op tag words)

end Sys2Proof.Proofs
end

section
/-! PROOF. The SFI commands of the system, recovery and update groups (R342, R345, R360, R362), and sessions, credentials and keys
(R354 to R356, R365). -/

namespace Sys2Proof.Proofs

open Sys2Proof Sys2Proof.Machine Sys2Proof.Laws

/-! ## The system group -/

section Granted

variable {s : State} {rq : Sfi} {role : Nat}

theorem answers_sysConfig (granted : Granted s rq 0x00C 3 false role) (idle confirm : Nat) (auto : Bool) :
    Answers (.sysConfig rq idle confirm auto) s rq 0x00C role (fun d =>
      okIf (decide (idle < 65536) && F.PROMPTER_CTRL_CONFIRM_TIME.ok confirm) d
        (d.cfg .PROMPTER_CTRL 0 (idle + 65536 * confirm + 2 ^ 26 * b2n auto))) := granted_sfi granted _

theorem answers_lldpSet (granted : Granted s rq 0x109 2 false role) (port : Nat) (en : Bool) (interval : Nat) :
    Answers (.lldpSet rq port en interval) s rq 0x109 role (fun d =>
      okIf (decide (port < 256 ∧ 1 ≤ interval ∧ interval ≤ 3600)) d
        { d with lldp := d.lldp.put port (if en then interval else 0), lldpAt := d.lldpAt.put port d.cycle }) :=
  granted_sfi granted _

theorem answers_fwUpdateBegin (granted : Granted s rq 0x005 3 true role) (len : Nat) :
    Answers (.fwUpdateBegin rq len) s rq 0x005 role (fun d =>
      if 4194304 < len then (d, .invalid)
      else ({ d with fwBegun := true, stagedSlot := none }.flashWrite (0x100000 + 0x400000 * d.otherSlot) [], .pending)) :=
  granted_sfiKey granted _

theorem answers_fwUpdateWrite (granted : Granted s rq 0x006 3 false role) (offset : Nat) (words : List Nat) :
    Answers (.fwUpdateWrite rq offset words) s rq 0x006 role (fun d =>
      okIf (rq.ring && d.fwBegun && decide (words.length ≤ 16384 ∧ offset + 4 * words.length ≤ 4194304)) d
        ({ d with stagedSlot := none }.flashWrite (0x100000 + 0x400000 * d.otherSlot + offset) words)) := granted_sfi granted _

theorem answers_fwUpdateEnd (granted : Granted s rq 0x007 3 false role) :
    Answers (.fwUpdateEnd rq) s rq 0x007 role (fun d => if d.fwBegun then (d, .pending) else (d, .invalid)) :=
  granted_sfi granted _

end Granted

theorem fwActivate_of_staged {d : Dev} (staged : d.stagedSlot.isSome = true) (now : Bool) :
    d.fwActivate now =
      ({ { d with trialSlot := d.otherSlot + 1, trialCount := 0 }.dirWrite with resetReq := b2n now }, .ok) := by
  unfold Dev.fwActivate
  rw [Option.isNone_eq_false_iff.mpr staged]
  rfl

/-! ## Recovery (R342) -/

/-- In the recovery state a command of channel 0 is carried out and answered at once, without a session. -/
theorem recoveryRun_of_recovery {d : Dev} {rq : Sfi} (recovery : d.get F.PROMPTER_STATUS_BOOT_STATE = 3) (channel : rq.ch.val = 0)
    (tagged : rq.tag.val ≠ 0) (op : Nat) (f : Dev → Dev × Ans) :
    d.recoveryRun rq op f =
      (let x := f (d.recoveryTake rq op)
       x.1.reply 0 rq.tag op (d.recoveryEcho rq op) false x.2) := by
  unfold Dev.recoveryRun
  simp [recovery, channel, tagged]

/-- What RECOVERY_WRITE does: a part of the slots is written. -/
def recoveryWrite (offset : Nat) (words : List Nat) (d : Dev) : Dev × Ans :=
  okIf (decide (0x100000 ≤ offset ∧ offset + 4 * words.length ≤ 0x900000 ∧ words.length ≤ 13)) d (d.flashWrite offset words)

/-- What RECOVERY_REBOOT does: the ROM boots again. -/
def recoveryReboot (d : Dev) : Dev × Ans :=
  (({ d with bootAt := d.cycle }.set F.PROMPTER_STATUS_BOOT_STATE 0 0).set F.PROMPTER_STATUS_CORE_UP 0 0, .ok)

theorem does_recoveryWrite {s : State} (live : s.live) (rq : Sfi) (offset : Nat) (words : List Nat) :
    Does (.recoveryWrite rq offset words) s ((s.sfiDue 0x0F0).recoveryRun rq 0x0F0 (recoveryWrite offset words)) :=
  live_due live _ (·.recoveryRun rq 0x0F0 (recoveryWrite offset words))

theorem does_recoveryReboot {s : State} (live : s.live) (rq : Sfi) :
    Does (.recoveryReboot rq) s ((s.sfiDue 0x0F1).recoveryRun rq 0x0F1 recoveryReboot) :=
  live_due live _ (·.recoveryRun rq 0x0F1 recoveryReboot)

/-- Settles O29. -/
theorem systemSfi : Obligations.SystemSfi := by
  unfold Obligations.SystemSfi
  refine ⟨fun s rq role => ⟨fun page granted _ => granted_sfi granted (fun d _ => d.capsPage page),
    fun granted => granted_sfi granted _, fun granted => granted_sfi granted (fun d _ => (d, .pending)),
    fun idle confirm auto granted hidle hconfirm => ?_, fun port en interval granted hport hlow hhigh => ?_,
    fun live channel tagged => ⟨fun recovery offset words hlow hhigh hlen => ?_, fun recovery => ?_⟩⟩,
    fun s rq role => ⟨fun len granted hlen => ?_, fun offset words granted ring begun hlen hend => ?_, fun granted begun => ?_,
    fun now granted staged => ?_, fun granted _ => granted_sfi granted (fun d _ => d.fwConfirm)⟩⟩
  · exact answers_of_eq (okIf_of_true (by simp [hidle, hconfirm]) _ _) (answers_sysConfig granted idle confirm auto)
  · exact answers_of_eq (okIf_of_true (decide_eq_true ⟨hport, hlow, hhigh⟩) _ _) (answers_lldpSet granted port en interval)
  · refine does_of_eq ?_ (does_recoveryWrite live rq offset words)
    rw [recoveryRun_of_recovery recovery channel tagged, recoveryWrite, okIf_of_true (decide_eq_true ⟨hlow, hhigh, hlen⟩)]
  · exact does_of_eq (recoveryRun_of_recovery recovery channel tagged _ recoveryReboot) (does_recoveryReboot live rq)
  · exact answers_of_eq (if_neg (Nat.not_lt.mpr hlen)) (answers_fwUpdateBegin granted len)
  · exact answers_of_eq (okIf_of_true (by simp [ring, begun, hlen, hend]) _ _) (answers_fwUpdateWrite granted offset words)
  · exact answers_of_eq (if_pos begun) (answers_fwUpdateEnd granted)
  · refine does_of_eq (congrArg (Dev.restartIfAsked · 2) ?_) (does_fwActivate granted.live rq now)
    exact (sfiRun_granted granted _).trans (devAnswers_congr (fwActivate_of_staged staged now))

/-! ## Sessions, credentials and keys -/

/-- SESSION_OPEN of a role that asks for proof: the nonce is drawn and returned (R354). -/
theorem sessionOpen_of_role {d : Dev} {c r : Nat} (asked : r = 1 ∨ r = 2) (unlocked : (d.sess.get c).lockUntil ≤ d.cycle) :
    d.sessionOpen c r =
      (let w := d.drawNonce
       ({ w.2 with sess := w.2.sess.put c { d.sess.get c with nonce := some (w.1, r, d.cycle + 10 * secCycles) } },
         { detail := 1, words := d.drawNonce.1 })) := by
  unfold Dev.sessionOpen
  rcases asked with rfl | rfl <;> simp [Nat.not_lt.mpr unlocked]

/-- SESSION_AUTH with the answer to its nonce, in time (R354). -/
theorem sessionAuth_of_proof {d : Dev} {c r t : Nat} {answer n : List Nat} (asked : (d.sess.get c).nonce = some (n, r, t))
    (inTime : d.cycle < t) (keyed : (d.creds.get r).isEmpty = false)
    (proof : answer = hmacWords (d.creds.get r) (n ++ [c, r, (d.chans.get c).epochS])) :
    d.sessionAuth c answer =
      ({ d with sess := d.sess.put c { d.sess.get c with nonce := none } }.openSession c r, .ok) := by
  unfold Dev.sessionAuth
  dsimp only
  rw [asked]
  exact if_pos ⟨inTime, keyed, proof⟩

section Idle

variable {d : Dev} {c : Nat} (open_ : (d.sess.get c).isOpen = true) (idleTime : d.get F.PROMPTER_CTRL_SESSION_IDLE ≠ 0)
  (up : d.core0Up = true)
include open_ idleTime up

/-- A session's last use, but for a request taken in this core cycle (R366). -/
theorem sessionIdle_of_open :
    d.sessionIdle c =
      (let last := if (d.sess.get c).lastUse = d.cycle then (d.sess.get c).prevUse else (d.sess.get c).lastUse
       if d.past last (d.get F.PROMPTER_CTRL_SESSION_IDLE * secCycles) then d.endSession c 3 else d) := by
  unfold Dev.sessionIdle
  simp [open_, idleTime, up]

end Idle

theorem does_sessionIdleExpire {s : State} (live : s.live) (c : Fin 32) :
    Does (.sessionIdleExpire c) s ((s.due atExpiry).sessionIdle c) := live_due live _ (·.sessionIdle c)

section Granted

variable {s : State} {rq : Sfi} {role : Nat}

theorem answers_sessionOpen (granted : Granted s rq 0xC00 0 false role) (r : Nat) :
    Answers (.sessionOpen rq r) s rq 0xC00 role (fun d => d.sessionOpen rq.ch r) := granted_sfi granted _

theorem answers_sessionAuth (granted : Granted s rq 0xC01 0 false role) (answer : List Nat) :
    Answers (.sessionAuth rq answer) s rq 0xC01 role (fun d => d.sessionAuth rq.ch answer) := granted_sfi granted _

theorem answers_sessionQuery (granted : Granted s rq 0xC03 0 false role) (c start : Nat) :
    Answers (.sessionQuery rq (some c) start) s rq 0xC03 role (fun d =>
      if 32 ≤ c then (d, .invalid) else (d, .okW (d.sessRow c))) := granted_sfi granted _

theorem answers_credentialSet (granted : Granted s rq 0xC04 3 true role) (r : Nat) (words : List Nat) :
    Answers (.credentialSet rq r words) s rq 0xC04 role (fun d =>
      okIf (decide (1 ≤ r ∧ r < 4 ∧ words.length = 8)) d ({ d with creds := d.creds.put r words }.fwRec 0x0E16 2 r 0)) :=
  granted_sfiKey granted _

theorem answers_keySlotLoad (granted : Granted s rq 0xC20 3 true role) (x : KeyArgs) :
    Answers (.keySlotLoad rq x) s rq 0xC20 role (fun d =>
      okIf (rq.ring && decide (x.slot < 512 ∧ (x.key.length = 4 ∨ x.key.length = 8) ∧ x.start ≤ x.stop)) d
        ({ d with keySlots := d.keySlots.put (2 * x.slot + b2n x.next) ([x.keyId, x.key.length, x.start, x.stop] ++
            x.key) }.fwRec 0x0E17 2 x.slot 0)) := granted_sfiKey granted _

/-- KEY_SLOT_CLEAR of the current key (0) or of the next (1). -/
theorem answers_keySlotClear (granted : Granted s rq 0xC21 3 false role) (slot which : Nat) :
    Answers (.keySlotClear rq slot which) s rq 0xC21 role (fun d =>
      okIf (decide (slot < 512 ∧ which < 3)) d
        (let k := if which = 1 then d.keySlots else d.keySlots.put (2 * slot) []
         { d with keySlots := if which = 0 then k else k.put (2 * slot + 1) [] })) := granted_sfi granted _

end Granted

/-- Settles O30. -/
theorem sessionSfi : Obligations.SessionSfi := by
  unfold Obligations.SessionSfi
  intro s rq role
  refine ⟨fun granted => ⟨?_, fun r asked unlocked => ?_⟩, fun answer n r t granted asked inTime keyed proof => ?_,
    fun granted => granted_sfi granted (fun d _ => (d.endSession rq.ch 1, .ok)), fun c start granted hc => ?_,
    fun r words granted hlow hhigh hlen => ?_, fun x granted ring hslot hkey hspan => ?_, fun slot granted hslot => ⟨?_, ?_⟩,
    fun live c open_ idleTime up => ⟨fun late => ?_, fun early => ?_⟩⟩
  · exact answers_of_eq rfl (answers_sessionOpen granted 0)
  · exact answers_of_eq (sessionOpen_of_role asked unlocked) (answers_sessionOpen granted r)
  · exact answers_of_eq (sessionAuth_of_proof asked inTime keyed proof) (answers_sessionAuth granted answer)
  · exact answers_of_eq (if_neg (Nat.not_le.mpr hc)) (answers_sessionQuery granted c start)
  · exact answers_of_eq (okIf_of_true (decide_eq_true ⟨hlow, hhigh, hlen⟩) _ _) (answers_credentialSet granted r words)
  · exact answers_of_eq (okIf_of_true (by simp [ring, hslot, hkey, hspan]) _ _) (answers_keySlotLoad granted x)
  · exact answers_of_eq (okIf_of_true (by simp [hslot]) _ _) (answers_keySlotClear granted slot 0)
  · exact answers_of_eq (okIf_of_true (by simp [hslot]) _ _) (answers_keySlotClear granted slot 1)
  · exact does_of_eq ((sessionIdle_of_open open_ idleTime up).trans (if_pos (past_of_le late))) (does_sessionIdleExpire live c)
  · refine does_of_eq ((sessionIdle_of_open open_ idleTime up).trans (if_neg ?_)) (does_sessionIdleExpire live c)
    exact Bool.eq_false_iff.mp (past_of_lt early)

end Sys2Proof.Proofs
end

section
/-! PROOF. The Promptbook: the curtain, the clear, staged records and notifications (R386, R389, R390, R392, R395), and its SFI
commands (R404). -/

namespace Sys2Proof.Proofs

open Sys2Proof Sys2Proof.Machine Sys2Proof.Laws

/-! ## The curtain (R389, R390) -/

section Curtain

variable {d : Dev} (owner cause : Nat)

theorem raiseCurtain_of_down (down : d.writeEvents.curtain = none) :
    d.raiseCurtain owner =
      { d.writeEvents with curtain := some (owner, d.writeEvents.cycle), held := [], heldDropped := 0 } := by
  unfold Dev.raiseCurtain
  exact if_neg (by rw [down]; exact Bool.false_ne_true)

theorem raiseCurtain_of_up (up : d.writeEvents.curtain.isSome = true) : d.raiseCurtain owner = d.writeEvents := if_pos up

theorem lowerCurtain_of_down (down : d.writeEvents.curtain = none) : d.lowerCurtain cause = d.writeEvents :=
  if_pos (Option.isNone_iff_eq_none.mpr down)

theorem lowerCurtain_of_up (up : d.writeEvents.curtain.isSome = true) :
    d.lowerCurtain cause = d.writeEvents.liftRecs id cause :=
  if_neg (fun down => by rw [Option.isNone_iff_eq_none.mp down] at up; cases up)

end Curtain

/-! BOOK_CMD by its bits (R375). -/

theorem bookCmd_curtainUp (d : Dev) : d.bookCmd 1 = d.raiseCurtain 32 := rfl

theorem bookCmd_curtainDown (d : Dev) : d.bookCmd 2 = d.lowerCurtain 0 := rfl

theorem bookCmd_clear (d : Dev) (chan : Fin 256) (role : Fin 4) :
    d.bookCmd (4 + 256 * chan.val + 65536 * role.val) = d.bookClear chan role := by
  have hchan := chan.isLt
  have hrole := role.isLt
  have up : bitsOf (4 + 256 * chan.val + 65536 * role.val) 0 0 ≠ 1 := by unfold bitsOf; omega
  have down : bitsOf (4 + 256 * chan.val + 65536 * role.val) 1 1 ≠ 1 := by unfold bitsOf; omega
  have clear : bitsOf (4 + 256 * chan.val + 65536 * role.val) 2 2 = 1 := by unfold bitsOf; omega
  have channel : bitsOf (4 + 256 * chan.val + 65536 * role.val) 15 8 = chan.val := by unfold bitsOf; omega
  have roleBits : bitsOf (4 + 256 * chan.val + 65536 * role.val) 17 16 = role.val := by unfold bitsOf; omega
  unfold Dev.bookCmd
  dsimp only
  rw [if_neg up, if_neg down, if_pos clear, channel, roleBits]

section Limit

variable {d : Dev} {o t : Nat} (up : d.curtain = some (o, t))
include up

theorem curtainLimit_of_up :
    d.curtainLimit = if t + d.get F.BOOK_CFG_CURTAIN_LIMIT * secCycles ≤ d.cycle then d.lowerCurtain 3 else d := by
  unfold Dev.curtainLimit
  rw [up]

end Limit

theorem curtainLimit_of_down {d : Dev} (down : d.curtain = none) : d.curtainLimit = d := by
  unfold Dev.curtainLimit
  rw [down]

/-! ## Staged records (R386) -/

theorem stagingWrite_of_staged {d : Dev} {q n : Nat} {qs : List Nat} (active : d.on F.BOOK_STATUS_MODE_ACTIVE = true)
    (runs : 2 ≤ d.get F.FOLIO_STATUS_STATE) (staged : d.staged = q :: qs) (drive : d.bookDrive (q % 67108864) = some n) :
    d.stagingWrite =
      { d with staged := (q :: qs).dropWhile (fun x => x / 64 == q / 64) }.nvme n 2 (q % 67108864 / 64 * 4096) 4096 := by
  unfold Dev.stagingWrite
  simp [active, Nat.not_lt.mpr runs, staged, drive]

theorem stagingWrite_of_empty {d : Dev} (empty : d.staged = []) : d.stagingWrite = d := by
  unfold Dev.stagingWrite
  simp [empty]

/-! ## Notifications (R395) -/

section Note

variable {d : Dev} {c : Nat} {n : Nat × Rec × Nat} (sfi : d.sfiUp = true) (oldest : d.notes.find? (fun n => n.1 == c) = some n)
include sfi oldest

/-- The oldest notification of a channel is taken off the list, and sent or counted as missed. -/
theorem bookEvent_of_note :
    d.bookEvent c =
      (let d := { d with notes := d.notes.erase n }
       let u := d.subs.get c
       let q := d.chans.get c
       if u.lastMs = d.cycle / msCycles + 1 ∨ ¬ (msgWords q.rsp + 10 ≤ 16 ∧ q.wait.isEmpty = true) then
         { d with subs := d.subs.put c { u with missed := u.missed + 1 } }
       else
         ({ d with subs := d.subs.put c { u with missed := 0, lastMs := d.cycle / msCycles + 1 } }.notify c 0x808
           (noteWords n.2.1 u.missed n.2.2)).count 0x50 7) := by
  unfold Dev.bookEvent
  rw [sfi, if_pos rfl, oldest]

end Note

section Live

variable {s : State} (live : s.live)
include live

theorem does_curtainLimitExpire : Does .curtainLimitExpire s (s.due atCurtain).curtainLimit := live_due live _ Dev.curtainLimit

theorem does_bookStagingWrite : Does .bookStagingWrite s (s.due (untied 15 0)).stagingWrite := live_later live 15 0 Dev.stagingWrite

theorem does_bookEvent (c : Fin 24) : Does (.bookEvent c) s ((s.due (untied 15 0)).bookEvent c) :=
  live_later live 15 0 (·.bookEvent c)

end Live

section Write

variable {s : State} {m : Fin 32}

theorem does_curtainUp (passes : WritesAt s atCurtain m .BOOK_CMD 0 1) :
    Does (.curtainUp m) s ((s.passedAt atCurtain m .BOOK_CMD 0 1).bookCmd 1) := writesAt_act passes Dev.bookCmd

theorem does_curtainDown (passes : WritesAt s atCurtain m .BOOK_CMD 0 2) :
    Does (.curtainDown m) s ((s.passedAt atCurtain m .BOOK_CMD 0 2).bookCmd 2) := writesAt_act passes Dev.bookCmd

theorem does_bookCmdClear {chan : Fin 256} {role : Fin 4}
    (passes : WritesAt s atCurtain m .BOOK_CMD 0 (4 + 256 * chan.val + 65536 * role.val)) :
    Does (.bookCmdClear m chan role) s ((s.passedAt atCurtain m .BOOK_CMD 0 (4 + 256 * chan.val + 65536 * role.val)).bookCmd
      (4 + 256 * chan.val + 65536 * role.val)) := writesAt_act passes Dev.bookCmd

end Write

/-- Settles O31. -/
theorem bookEvents : Obligations.BookEvents := by
  unfold Obligations.BookEvents
  intro s m
  refine ⟨fun passes => ⟨fun down => ?_, fun up => ?_⟩, fun passes => ⟨fun down => ?_, fun up => ?_⟩, fun chan role passes => ?_,
    fun live => ⟨fun o t up => ⟨fun late => ?_, fun early => ?_⟩, fun down => ?_⟩,
    fun live => ⟨fun q qs n active runs staged drive => ?_, fun empty => ?_, fun c n sfi oldest =>
      ⟨fun fresh room waits => ?_, fun missed => ?_⟩⟩⟩
  · exact does_of_eq ((bookCmd_curtainUp _).trans (raiseCurtain_of_down 32 down)) (does_curtainUp passes)
  · exact does_of_eq ((bookCmd_curtainUp _).trans (raiseCurtain_of_up 32 up)) (does_curtainUp passes)
  · exact does_of_eq ((bookCmd_curtainDown _).trans (lowerCurtain_of_down 0 down)) (does_curtainDown passes)
  · exact does_of_eq ((bookCmd_curtainDown _).trans (lowerCurtain_of_up 0 up)) (does_curtainDown passes)
  · exact does_of_eq (bookCmd_clear _ chan role) (does_bookCmdClear passes)
  · exact does_of_eq ((curtainLimit_of_up up).trans (if_pos late)) (does_curtainLimitExpire live)
  · exact does_of_eq ((curtainLimit_of_up up).trans (if_neg (Nat.not_le.mpr early))) (does_curtainLimitExpire live)
  · exact does_of_eq (curtainLimit_of_down down) (does_curtainLimitExpire live)
  · exact does_of_eq (stagingWrite_of_staged active runs staged drive) (does_bookStagingWrite live)
  · exact does_of_eq (stagingWrite_of_empty empty) (does_bookStagingWrite live)
  · refine does_of_eq ((bookEvent_of_note sfi oldest).trans (if_neg ?_)) (does_bookEvent live c)
    exact not_or.mpr ⟨fresh, not_not_intro ⟨room, waits⟩⟩
  · refine does_of_eq ((bookEvent_of_note sfi oldest).trans (if_pos (missed.imp_right fun full => ?_))) (does_bookEvent live c)
    rintro ⟨room, waits⟩
    exact full.elim (Nat.not_lt.mpr room) (fun some_ => Bool.eq_false_iff.mp some_ waits)

/-! ## The SFI commands of the Promptbook (R404) -/

theorem bookRead_of_range {d : Dev} {c : Nat} {x : BookReadArgs} (hlo : x.lo < 2 ^ 32) (hhi : x.hi < 2 ^ 32)
    (hsev : x.minSev < 8) (hcode : x.code < 65536) (hmask : x.mask < 65536) (fn : d.sender c < 8)
    (window : d.dmaOk (d.sender c) x.addr x.len true = true) :
    d.bookRead c x = (d, .pending [x.lo, x.hi, x.minSev, x.code, x.mask, x.addr, x.len, d.sender c]) := by
  have inRange : ¬ ¬ (x.lo < 2 ^ 32 ∧ x.hi < 2 ^ 32 ∧ x.minSev < 8 ∧ x.code < 65536 ∧ x.mask < 65536) :=
    not_not_intro ⟨hlo, hhi, hsev, hcode, hmask⟩
  have allowed : ¬ (8 ≤ d.sender c ∨ d.dmaOk (d.sender c) x.addr x.len true = false) :=
    not_or.mpr ⟨Nat.not_le.mpr fn, Bool.not_eq_false _ ▸ window⟩
  unfold Dev.bookRead
  exact (if_neg inRange).trans (if_neg allowed)

section Curtain

variable {d : Dev} {o t c : Nat}

theorem bookCurtain_of_down (down : d.curtain = none) (up : Bool) :
    d.bookCurtain c up = if up then (d.raiseCurtain c, .ok) else (d, .invalid) := by
  unfold Dev.bookCurtain
  rw [down]

theorem bookCurtain_of_up (raised : d.curtain = some (o, t)) (up : Bool) :
    d.bookCurtain c up = if o ≠ c then (d, .busy 9) else if up then (d, .ok) else (d.lowerCurtain 0, .ok) := by
  unfold Dev.bookCurtain
  rw [raised]

end Curtain

section Granted

variable {s : State} {rq : Sfi} {role : Nat}

theorem answers_bookRead (granted : Granted s rq 0x801 0 false role) (x : BookReadArgs) :
    Answers (.bookRead rq x) s rq 0x801 role (fun d => d.bookRead rq.ch x) := granted_sfi granted _

theorem answers_bookCurtain (granted : Granted s rq 0x802 1 false role) (up : Bool) :
    Answers (.bookCurtain rq up) s rq 0x802 role (fun d => d.bookCurtain rq.ch up) := granted_sfi granted _

theorem answers_bookConfig (granted : Granted s rq 0x804 2 false role) (mode : Bool) (sev limit : Nat) :
    Answers (.bookConfig rq mode sev limit) s rq 0x804 role (fun d =>
      okIf (F.BOOK_CFG_RECORD_MIN_SEV.ok sev && F.BOOK_CFG_CURTAIN_LIMIT.ok limit) d
        (d.cfg .BOOK_CFG 0 (b2n mode + 2 * sev + 65536 * limit))) := granted_sfi granted _

theorem answers_bookSnapSet (granted : Granted s rq 0x805 2 false role) (src k addr : Nat) (rel internal en : Bool) :
    Answers (.bookSnapSet rq src k addr rel internal en) s rq 0x805 role (fun d =>
      okIf (isSource src && decide (k < 8 ∧ addr < 2 ^ 24) &&
          (if internal then decide (addr < 16) else decide (addr % 4 = 0) && inBlock addr)) d
        (d.cfg .SNAP_ENTRY (8 * src + k) (addr + 2 ^ 24 * b2n rel + 2 ^ 25 * b2n internal + 2 ^ 26 * b2n en))) :=
  granted_sfi granted _

theorem answers_bookTriggerSet (granted : Granted s rq 0x806 2 false role) (k : Nat) (x : TriggerArgs) :
    Answers (.bookTriggerSet rq k x) s rq 0x806 role (fun d => d.triggerSet k x) := granted_sfi granted _

theorem answers_bookSubscribe (granted : Granted s rq 0x807 0 false role) (sev code mask : Nat) (en : Bool) :
    Answers (.bookSubscribe rq sev code mask en) s rq 0x807 role (fun d =>
      okIf (decide (rq.ch.val < 24 ∧ sev < 8 ∧ code < 65536 ∧ mask < 65536)) d
        { d with subs := d.subs.put rq.ch { d.subs.get rq.ch with on := en, minSev := sev, code := code, mask := mask } }) :=
  granted_sfi granted _

end Granted

theorem triggerSet_of_range {d : Dev} {k : Nat} {x : TriggerArgs} (hk : k < 16) (hcode : x.code < 65536) (hmask : x.mask < 65536)
    (hsev : x.minSev < 8) (hchan : F.TRIG_CTRL_NOTIFY_CHAN.ok x.chan = true) :
    d.triggerSet k x =
      ((d.cfg .TRIG_MATCH k (x.code + 65536 * x.mask)).cfg .TRIG_CTRL k
        (x.minSev + 8 * b2n x.en + 16 * b2n x.pin + 32 * b2n x.notify + 64 * b2n x.dump + 256 * x.chan), .ok) :=
  okIf_of_true (by simp [hk, hcode, hmask, hsev, hchan]) _ _

/-- An entry of a source that lies in its place names an address of the block, or an internal one. -/
theorem snapEntry_ok {src k addr : Nat} {inside : Bool} (source : isSource src = true) (hk : k < 8) (haddr : addr < 2 ^ 24)
    (there : inside = true) : (isSource src && decide (k < 8 ∧ addr < 2 ^ 24) && inside) = true := by
  rw [source, decide_eq_true (And.intro hk haddr), there]
  rfl

/-- Settles O32. -/
theorem bookSfi : Obligations.BookSfi := by
  unfold Obligations.BookSfi
  intro s rq role
  refine ⟨fun start granted => granted_sfi granted (fun d _ => (d, d.listing rq 0x800 1 (wordRows d.bookWords start))),
    fun x granted hlo hhi hsev hcode hmask fn window => ?_, fun granted down => ⟨fun stays => ?_, ?_⟩,
    fun o t granted raised => ⟨fun own => ?_, fun up other => ?_⟩,
    fun granted => granted_sfiKey granted (fun d role => (d.bookClear rq.ch role, .ok)),
    fun mode sev limit granted hsev hlimit => ?_, fun src k addr rel en granted source hk haddr =>
      ⟨fun internal => ?_, fun aligned block => ?_⟩, fun k x granted hk hcode hmask hsev hchan => ?_,
    fun sev code mask en granted hch hsev hcode hmask => ?_⟩
  · exact answers_of_eq (bookRead_of_range hlo hhi hsev hcode hmask fn window) (answers_bookRead granted x)
  · exact answers_of_eq ((bookCurtain_of_down down true).trans (congrArg (·, Ans.ok) (raiseCurtain_of_down _ stays)))
      (answers_bookCurtain granted true)
  · exact answers_of_eq (bookCurtain_of_down down false) (answers_bookCurtain granted false)
  · exact answers_of_eq ((bookCurtain_of_up raised false).trans (if_neg (not_not_intro own))) (answers_bookCurtain granted false)
  · exact answers_of_eq ((bookCurtain_of_up raised up).trans (if_pos other)) (answers_bookCurtain granted up)
  · exact answers_of_eq (okIf_of_true (by simp [hsev, hlimit]) _ _) (answers_bookConfig granted mode sev limit)
  · exact answers_of_eq (okIf_of_true (snapEntry_ok source hk haddr (decide_eq_true internal)) _ _)
      (answers_bookSnapSet granted src k addr rel true en)
  · exact answers_of_eq (okIf_of_true (snapEntry_ok source hk haddr (by simp [aligned, block])) _ _)
      (answers_bookSnapSet granted src k addr rel false en)
  · exact answers_of_eq (triggerSet_of_range hk hcode hmask hsev hchan) (answers_bookTriggerSet granted k x)
  · exact answers_of_eq (okIf_of_true (decide_eq_true ⟨hch, hsev, hcode, hmask⟩) _ _)
      (answers_bookSubscribe granted sev code mask en)

end Sys2Proof.Proofs
end

section
/-! PROOF. Statistics latches, dumps, snapshots and performance counters (R396 to R402, R405). -/

namespace Sys2Proof.Proofs

open Sys2Proof Sys2Proof.Machine Sys2Proof.Laws

/-! ## Latches and dumps (R396 to R398) -/

theorem statsLatch_of_due {d : Dev} (due : d.latchDue = true) :
    d.statsLatch =
      (let p := d.get F.DUMP_CFG_DUMP_PERIOD * msCycles
       { d with dumpMark := d.dumpMark + (d.cycle - d.dumpMark) / p * p, dumpPt := d.ptNs }.latch 1 0) := by
  unfold Dev.statsLatch
  rw [due]
  rfl

theorem statsLatch_of_early {d : Dev} (early : d.latchDue = false) :
    d.statsLatch = { d with dumpPt := min d.dumpPt d.ptNs } := by
  unfold Dev.statsLatch
  rw [early]
  rfl

/-- The device as it checks where the image of a dump goes, and whether it may go there (R301). -/
def dumpCheck (u : Dev) (x : DumpRec) : Dev × Bool :=
  let d := { u with dump := none }.set F.PERF_STATUS_DUMP_BUSY 0 0
  if d.isFrozen x.fn then (d, true) else d.dmaCheck x.fn (u.dumpBuf x.seq) (imageLen x.sets x.mask) true

section Dump

variable {d : Dev} {x : DumpRec} (dumping : d.dump = some x)
include dumping

theorem dumpDone_of_inside (inside : (dumpCheck d x).2 = true) :
    d.dumpDone =
      ((((((dumpCheck d x).1.devWrite x.fn (d.dumpBuf x.seq + 64) x.body).devWrite x.fn (d.dumpBuf x.seq) x.header).count 0x54 4
        (imageLen x.sets x.mask / 64)).set F.PERF_STATUS_LAST_BUF 0 (x.seq % 2)).raise F.PERF_EVENT_DUMP_DONE) := by
  unfold Dev.dumpDone
  rw [dumping]
  exact if_neg (by rw [Bool.not_eq_true']; exact ne_false_of_eq_true inside)

theorem dumpDone_of_outside (outside : (dumpCheck d x).2 = false) : d.dumpDone = (dumpCheck d x).1 := by
  unfold Dev.dumpDone
  rw [dumping]
  exact if_pos (by rw [Bool.not_eq_true']; exact outside)

end Dump

/-! ## Performance counters (R399 to R402) -/

theorem perfCmd_snap (d : Dev) :
    d.perfCmd 1 = if d.perfAllowed (d.get F.DUMP_FN_DUMP_FN) = true then takeSnap d else d := by
  have snap : bitsOf 1 0 0 = 1 := rfl
  have noDump : bitsOf 1 1 1 ≠ 1 := by decide
  unfold Dev.perfCmd
  simp only [snap, noDump, true_and, if_false]

theorem perfCmd_dump (d : Dev) : d.perfCmd 2 = d.latch 2 0 := by
  have noSnap : bitsOf 2 0 0 ≠ 1 := by decide
  have dump : bitsOf 2 1 1 = 1 := rfl
  unfold Dev.perfCmd
  simp only [noSnap, dump, false_and, if_false, if_true]

theorem snapDone_of_busy {d : Dev} (busy : d.on F.PERF_STATUS_SNAP_BUSY = true) :
    d.snapDone =
      ((d.set F.PERF_STATUS_SNAP_BUSY 0 0).raise F.PERF_EVENT_SNAP_DONE).finishOp 0x904
        (.okW [d.reg .SNAP_FIRST_PT, d.reg .SNAP_LAST_PT]) := if_pos busy

theorem snapDone_of_idle {d : Dev} (idle : d.on F.PERF_STATUS_SNAP_BUSY = false) : d.snapDone = d :=
  if_neg (Bool.eq_false_iff.mp idle)

section Live

variable {s : State} (live : s.live)
include live

theorem does_statsLatch : Does .statsLatch s (s.due atLatch).statsLatch := live_due live _ Dev.statsLatch

theorem does_dumpWriteDone : Does .dumpWriteDone s (s.due (untied 16 0)).dumpDone := live_later live 16 0 Dev.dumpDone

theorem does_perfSnapDone : Does .perfSnapDone s (s.due (untied 16 30)).snapDone := live_later live 16 30 Dev.snapDone

end Live

section Write

variable {s : State} {m : Fin 32}

theorem does_perfCmdSnap (passes : Writes s m .PERF_CMD 0 1) :
    Does (.perfCmdSnap m) s ((s.passed m .PERF_CMD 0 1).perfCmd 1) := writes_act passes Dev.perfCmd

theorem does_perfCmdDumpNow (passes : WritesAt s atLatch m .PERF_CMD 0 2) :
    Does (.perfCmdDumpNow m) s ((s.passedAt atLatch m .PERF_CMD 0 2).perfCmd 2) := writesAt_act passes Dev.perfCmd

theorem does_pcClear {slot : Fin 97} {w : Word} (passes : WritesAt s atPcClear m .PC_CLEAR slot w.toNat)
    (present : (blockAt slot).isSome = true) :
    Does (.pcClear m slot w) s ((s.passedAt atPcClear m .PC_CLEAR slot w.toNat).pcClear slot (w.toNat % 256)) := by
  have acts := live_act passes.live (fun d => d.wrPlace m .PC_CLEAR slot w.toNat atPcClear)
    (fun d => if (blockAt slot).isNone then d else d.gated m .PC_CLEAR slot w.toNat (fun d w => d.pcClear slot (w % 256)))
  refine does_of_eq ?_ acts
  exact (if_neg (by rw [Option.isNone_eq_false_iff.mpr present]; exact Bool.false_ne_true)).trans (mayWrite_gate passes.may _)

end Write

/-! ## The SFI commands of the counters (R405) -/

theorem dumpSet_of_windows {d : Dev} {c sets period mask b0 b1 : Nat} {en : Bool} (channel : c < 16) (fn : d.sender c < 8)
    (range : sets < 16 ∧ mask < 65536 ∧ b0 < 2 ^ 64 ∧ b1 < 2 ^ 64 ∧ b0 % 64 = 0 ∧ b1 % 64 = 0)
    (hperiod : F.DUMP_CFG_DUMP_PERIOD.ok period = true) (window0 : d.dmaOk (d.sender c) b0 (imageLen sets mask) true = true)
    (window1 : d.dmaOk (d.sender c) b1 (imageLen sets mask) true = true) :
    d.dumpSet c sets period mask b0 b1 en =
      (((((((d.cfg .DUMP_FN 0 (d.sender c)).setReg .DUMP_STREAM_MASK 0 mask).setReg .DUMP_BASE 0 (b0 % 2 ^ 32)).setReg .DUMP_BASE 1
        (b0 / 2 ^ 32)).setReg .DUMP_BASE 2 (b1 % 2 ^ 32)).setReg .DUMP_BASE 3 (b1 / 2 ^ 32)).dumpCfg
          (b2n en + 2 * sets + 32 * period), .ok) := by
  have valid : ¬ (16 ≤ c ∨ 8 ≤ d.sender c ∨
      ¬ (sets < 16 ∧ mask < 65536 ∧ b0 < 2 ^ 64 ∧ b1 < 2 ^ 64 ∧ b0 % 64 = 0 ∧ b1 % 64 = 0) ∨
      F.DUMP_CFG_DUMP_PERIOD.ok period = false) := by
    simp only [not_or]
    exact ⟨Nat.not_le.mpr channel, Nat.not_le.mpr fn, not_not_intro range, Bool.not_eq_false _ ▸ hperiod⟩
  have allowed : ¬ (d.dmaOk (d.sender c) b0 (imageLen sets mask) true = false ∨
      d.dmaOk (d.sender c) b1 (imageLen sets mask) true = false) :=
    not_or.mpr ⟨Bool.not_eq_false _ ▸ window0, Bool.not_eq_false _ ▸ window1⟩
  unfold Dev.dumpSet
  exact (if_neg valid).trans (if_neg allowed)

theorem statsQuery_of_port (d : Dev) (rq : Sfi) {idx : Nat} (hidx : idx < 256) (cls start : Nat) :
    d.statsQuery rq 0 idx cls start = (d, d.listing rq 0x900 2 (statRows d.portStats 40 (40 * idx) start)) :=
  if_pos ⟨rfl, hidx⟩

theorem statsQuery_of_class (d : Dev) (rq : Sfi) {idx cls : Nat} (hidx : idx ∈ classPorts) (hcls : cls < 8) (start : Nat) :
    d.statsQuery rq 1 idx cls start = (d, d.listing rq 0x900 2 (statRows d.classStats 8 (8 * (8 * idx + cls)) start)) :=
  (if_neg (fun h => nomatch h.1)).trans (if_pos ⟨rfl, hidx, hcls⟩)

theorem statsQuery_of_stream (d : Dev) (rq : Sfi) {idx : Nat} (hidx : idx < 16384) (cls start : Nat) :
    d.statsQuery rq 2 idx cls start = (d, d.listing rq 0x900 2 (statRows d.streamStats 8 (8 * idx) start)) :=
  (if_neg (fun h => nomatch h.1)).trans ((if_neg (fun h => nomatch h.1)).trans (if_pos ⟨rfl, hidx⟩))

theorem perfConfig_of_range {d : Dev} {x : PerfArgs} (present : (blockAt x.slot).isSome = true)
    (range : x.index < 8 ∧ x.tcMask < 256 ∧ x.roleMask < 16 ∧ x.master < 32 ∧ x.lo < 2 ^ 32 ∧ x.hi < 2 ^ 32) :
    d.perfConfig x =
      (((d.cfg .PC_CFG (8 * x.slot + x.index) (x.tcMask + 256 * x.roleMask + 4096 * x.master + 2 ^ 17 * b2n x.addrEn +
        2 ^ 18 * b2n x.ovfMode)).cfg .ADDR_LO x.slot x.lo).cfg .ADDR_HI x.slot x.hi, .ok) :=
  okIf_of_true (by rw [present, decide_eq_true range]; rfl) _ _

section Granted

variable {s : State} {rq : Sfi} {role : Nat}

theorem answers_statsQuery (granted : Granted s rq 0x900 0 false role) (kind idx cls start : Nat) :
    Answers (.statsQuery rq kind idx cls start) s rq 0x900 role (fun d => d.statsQuery rq kind idx cls start) :=
  granted_sfi granted _

theorem answers_statsDumpSet (granted : Granted s rq 0x901 1 false role) (sets period mask b0 b1 : Nat) (en : Bool) :
    Answers (.statsDumpSet rq sets period mask b0 b1 en) s rq 0x901 role
      (fun d => d.dumpSet rq.ch sets period mask b0 b1 en) := granted_sfi granted _

theorem answers_statsDumpNow (granted : Granted s rq 0x902 1 false role) :
    Answers (.statsDumpNow rq) s rq 0x902 role (fun d => if d.dump.isSome then (d, .busy 9) else (d.latch 2 0, .ok)) :=
  granted_sfi granted _

theorem answers_perfConfig (granted : Granted s rq 0x903 2 false role) (x : PerfArgs) :
    Answers (.perfConfig rq x) s rq 0x903 role (fun d => d.ifPerf rq (d.perfConfig x)) := granted_sfi granted _

theorem answers_perfSnap (granted : Granted s rq 0x904 0 false role) :
    Answers (.perfSnap rq) s rq 0x904 role (fun d => d.ifPerf rq (takeSnap d, .pending)) := granted_sfi granted _

theorem answers_perfClear (granted : Granted s rq 0x905 2 false role) (slot mask : Nat) :
    Answers (.perfClear rq slot mask) s rq 0x905 role (fun d =>
      d.ifPerf rq (okIf ((blockAt slot).isSome && decide (mask < 256)) d (d.pcClear slot mask))) := granted_sfi granted _

theorem answers_perfAllowSet (granted : Granted s rq 0x906 3 false role) (mask : Nat) :
    Answers (.perfAllowSet rq mask) s rq 0x906 role (fun d =>
      okIf (decide (mask < 256)) d (d.cfg .PERF_ALLOW 0 mask)) := granted_sfi granted _

end Granted

theorem ifPerf_of_allowed {d : Dev} {rq : Sfi} (allowed : d.perfAllowed (d.sender rq.ch) = true) (x : Dev × Ans) :
    d.ifPerf rq x = x := if_pos allowed

theorem ifPerf_of_barred {d : Dev} {rq : Sfi} (barred : d.perfAllowed (d.sender rq.ch) = false) (x : Dev × Ans) :
    d.ifPerf rq x = (d, .denied) := if_neg (Bool.eq_false_iff.mp barred)

/-- Settles O33. -/
theorem statistics : Obligations.Statistics := by
  unfold Obligations.Statistics
  intro s m rq role
  refine ⟨fun live => ⟨fun due => ?_, fun early => ?_⟩, fun live x dumping => ⟨fun inside => ?_, fun outside => ?_⟩,
    fun passes => ⟨fun allowed => ?_, fun barred => ?_⟩, fun passes => ?_, fun live => ⟨fun busy => ?_, fun idle => ?_⟩,
    fun slot w passes present => does_pcClear passes present,
    fun granted => ⟨fun idx cls start hidx => ?_, fun idx cls start hidx hcls => ?_, fun idx cls start hidx => ?_⟩,
    fun sets period mask b0 b1 en granted channel fn hsets hmask hb0 hb1 align0 align1 hperiod window0 window1 => ?_,
    fun granted => ⟨fun free => ?_, fun busy => ?_⟩,
    fun x granted allowed present hindex htc hrole hmaster hlo hhi => ?_,
    fun granted => ⟨fun allowed => ?_, fun barred => ?_⟩, fun slot mask granted allowed present hmask => ?_,
    fun mask granted hmask => ?_⟩
  · exact does_of_eq (statsLatch_of_due due) (does_statsLatch live)
  · exact does_of_eq (statsLatch_of_early early) (does_statsLatch live)
  · exact does_of_eq (dumpDone_of_inside dumping inside) (does_dumpWriteDone live)
  · exact does_of_eq (dumpDone_of_outside dumping outside) (does_dumpWriteDone live)
  · exact does_of_eq ((perfCmd_snap _).trans (if_pos allowed)) (does_perfCmdSnap passes)
  · exact does_of_eq ((perfCmd_snap _).trans (if_neg (Bool.eq_false_iff.mp barred))) (does_perfCmdSnap passes)
  · exact does_of_eq (perfCmd_dump _) (does_perfCmdDumpNow passes)
  · exact does_of_eq (snapDone_of_busy busy) (does_perfSnapDone live)
  · exact does_of_eq (snapDone_of_idle idle) (does_perfSnapDone live)
  · exact answers_of_eq (statsQuery_of_port _ rq hidx cls start) (answers_statsQuery granted 0 idx cls start)
  · exact answers_of_eq (statsQuery_of_class _ rq hidx hcls start) (answers_statsQuery granted 1 idx cls start)
  · exact answers_of_eq (statsQuery_of_stream _ rq hidx cls start) (answers_statsQuery granted 2 idx cls start)
  · exact answers_of_eq (dumpSet_of_windows channel fn ⟨hsets, hmask, hb0, hb1, align0, align1⟩ hperiod window0 window1)
      (answers_statsDumpSet granted sets period mask b0 b1 en)
  · exact answers_of_eq (if_neg (by rw [free]; exact Bool.false_ne_true)) (answers_statsDumpNow granted)
  · exact answers_of_eq (if_pos busy) (answers_statsDumpNow granted)
  · exact answers_of_eq ((ifPerf_of_allowed allowed _).trans
      (perfConfig_of_range present ⟨hindex, htc, hrole, hmaster, hlo, hhi⟩)) (answers_perfConfig granted x)
  · exact answers_of_eq (ifPerf_of_allowed allowed _) (answers_perfSnap granted)
  · exact answers_of_eq (ifPerf_of_barred barred _) (answers_perfSnap granted)
  · exact answers_of_eq ((ifPerf_of_allowed allowed _).trans
      (okIf_of_true (by rw [present, decide_eq_true hmask]; rfl) _ _)) (answers_perfClear granted slot mask)
  · exact answers_of_eq (okIf_of_true (decide_eq_true hmask) _ _) (answers_perfAllowSet granted mask)

end Sys2Proof.Proofs
end

section
/-! PROOF. The monitors and the trip (R462, R467 to R471), the SFI commands of power and pins (R490, R491), and the resets (R476 to
R479, R491, R362). -/

namespace Sys2Proof.Proofs

open Sys2Proof Sys2Proof.Machine Sys2Proof.Laws

/-! ## Monitors -/

section Pll

variable {d : Dev} {pll : Nat}

theorem pllUnlock_of_locked (locked : bitsOf (d.reg .PWR_STATUS) (6 + pll) (6 + pll) = 1) :
    d.pllUnlock pll =
      ((d.setReg .PWR_STATUS 0 (withBits (d.reg .PWR_STATUS) (6 + pll) (6 + pll) 0)).raise F.PWR_EVENT_PLL_UNLOCK).pwrRec
        { code := 0x1305, sev := 5, a0 := pll } := by
  unfold Dev.pllUnlock
  exact if_neg (by rw [locked]; exact Nat.one_ne_zero)

theorem pllUnlock_of_unlocked (unlocked : bitsOf (d.reg .PWR_STATUS) (6 + pll) (6 + pll) = 0) : d.pllUnlock pll = d :=
  if_pos unlocked

end Pll

theorem thermalTrip_of_untripped {d : Dev} (cool : d.tripped = false) :
    d.thermalTrip =
      { (d.pwrRec { code := 0x1304, sev := 7 }).writeEvents.releaseOutputs.emit (.pin 4 0 0) with tripped := true } :=
  if_neg (Bool.eq_false_iff.mp cool)

theorem does_corePllUnlock {s : State} (live : s.live) (pll : Fin 5) :
    Does (.corePllUnlock pll) s ((s.due (untied 19 0)).pllUnlock pll) := live_later live 19 0 (·.pllUnlock pll)

theorem does_thermalTrip (s : State) : Does .thermalTrip s s.toDev.thermalTrip := rfl

section Granted

variable {s : State} {rq : Sfi} {role : Nat}

theorem answers_thermalSet (granted : Granted s rq 0x00E 2 false role) (warn crit : Nat) :
    Answers (.thermalSet rq warn crit) s rq 0x00E role (fun d =>
      okIf (decide (60 ≤ warn ∧ warn < crit ∧ crit ≤ 120)) d (d.cfg .PWR_CTRL 0 (warn + 256 * crit))) := granted_sfi granted _

end Granted

/-- Settles O39. -/
theorem powerMonitors : Obligations.PowerMonitors := by
  unfold Obligations.PowerMonitors
  refine ⟨fun s => ⟨fun live => ⟨fun mv => live_later live 19 0 (·.railsSample mv),
      fun temps => live_later live 19 0 (·.thermSample temps),
      live_later live 19 0 (fun d => (d.thermRearm 0).thermRearm 1), fun pll locked => ?_, fun pll unlocked => ?_⟩,
      fun cool => ?_, fun tripped => ?_, fun t => rfl⟩,
    fun s rq role => ⟨fun start granted => granted_sfi granted _, fun warn crit granted hwarn hlt hcrit => ?_,
      fun oe out granted => granted_sfi granted _⟩⟩
  · exact does_of_eq (pllUnlock_of_locked locked) (does_corePllUnlock live pll)
  · exact does_of_eq (pllUnlock_of_unlocked unlocked) (does_corePllUnlock live pll)
  · exact does_of_eq (thermalTrip_of_untripped cool) (does_thermalTrip s)
  · exact does_of_eq (thermalTrip_of_tripped tripped) (does_thermalTrip s)
  · exact answers_of_eq (okIf_of_true (decide_eq_true ⟨hwarn, hlt, hcrit⟩) _ _) (answers_thermalSet granted warn crit)

/-! ## RESET_N and the internal reset (R476 to R479) -/

section Release

variable {d : Dev} {straps : Nat} {temps : List Int}

theorem resetAssert_of_running (running : d.inReset = false) :
    d.resetAssert = { d.deviceReset with inReset := true, intReset := false } := if_neg (Bool.eq_false_iff.mp running)

theorem resetAssert_of_held (held : d.inReset = true) : d.resetAssert = d := if_pos held

section Held

variable (held : d.inReset = true)
include held

theorem resetRelease_of_untripped (cool : d.tripped = false) :
    d.resetRelease straps temps = d.startUp straps (if d.powerOn then 1 else 2) := by
  unfold Dev.resetRelease
  simp [held, cool]

theorem resetRelease_of_hot (tripped : d.tripped = true) (hot : ∃ t ∈ temps, 1600 ≤ t) :
    d.resetRelease straps temps = { d with inReset := false } := by
  have stays : temps.any (fun t => decide (1600 ≤ t)) = true := List.any_eq_true.mpr (by simpa using hot)
  unfold Dev.resetRelease
  simp only [held, tripped, stays, Bool.and_self, if_true, Bool.true_eq_false, if_false]

theorem resetRelease_of_cooled (tripped : d.tripped = true) (warm : d.powerOn = false) (cooled : ∀ t ∈ temps, t < 1600) :
    d.resetRelease straps temps = ({ d with tripped := false }.emit (.pin 4 0 2)).startUp straps 4 := by
  have lets : temps.any (fun t => decide (1600 ≤ t)) = false := List.any_eq_false.mpr (by simpa using cooled)
  unfold Dev.resetRelease
  simp [held, tripped, warm, lets]

end Held

end Release

/-- The end of an internal reset, unless RESET_N holds the device (R478). -/
def internalEnd (straps : Nat) (d : Dev) : Dev := if d.intReset && !d.inReset then d.startUp straps 3 else d

theorem internalEnd_of_running {d : Dev} {straps : Nat} (internal : d.intReset = true) (running : d.inReset = false) :
    internalEnd straps d = d.startUp straps 3 := by
  unfold internalEnd
  rw [internal, running]
  rfl

/-! ## What a reply leaves of SYS_RESET's wish (R362) -/

theorem resetReq_congr {d e : Dev} (h : e.toSfiSt = d.toSfiSt) : e.resetReq = d.resetReq := by rw [h]

theorem ite_resetReq (c : Prop) [Decidable c] (a b : Dev) :
    (if c then a else b).resetReq = if c then a.resetReq else b.resetReq := by
  split <;> rfl

theorem raiseFirst_toSfiSt (d : Dev) (f : Fld) (i b n : Nat) : (d.raiseFirst f i b n).toSfiSt = d.toSfiSt := by
  unfold Dev.raiseFirst
  dsimp only
  split <;> simp

theorem chanInt_toSfiSt (d : Dev) (c : Nat) : (d.chanInt c).toSfiSt = d.toSfiSt := by
  unfold Dev.chanInt
  split <;> rfl

theorem pushRsp_toSfiSt (n : Nat) (d : Dev) (c : Nat) : (Dev.pushRsp n d c).toSfiSt = d.toSfiSt := by
  induction n generalizing d with
  | zero => rfl
  | succ n ih =>
    unfold Dev.pushRsp
    dsimp only
    split
    · rfl
    · split
      · rw [ih, count_toSfiSt, chanInt_toSfiSt, raise_toSfiSt]
      · rfl

theorem postRsp_toSfiSt (d : Dev) (c op tag echo : Nat) (words : List Nat) :
    (d.postRsp c op tag echo words).toSfiSt = d.toSfiSt := by
  unfold Dev.postRsp
  rw [pushRsp_toSfiSt]

theorem cqReserve_toSfiSt (d : Dev) (k : Nat) : (d.cqReserve k).toSfiSt = d.toSfiSt := by
  unfold Dev.cqReserve Dev.cqSettle
  dsimp only
  split <;> simp [raiseFirst_toSfiSt]

theorem violate_resetReq (d : Dev) (m kind addr data : Nat) : (d.violate m kind addr data).resetReq = d.resetReq := by
  unfold Dev.violate
  simp only [record_toSfiSt, ite_resetReq, raise_toSfiSt, setBit_toSfiSt, setReg_toSfiSt, ite_self]

theorem dmaCheck_resetReq (d : Dev) (fn addr len : Nat) (write : Bool) : (d.dmaCheck fn addr len write).1.resetReq = d.resetReq := by
  unfold Dev.dmaCheck
  split
  · rfl
  · exact violate_resetReq _ _ _ _ _

theorem reply_resetReq (d : Dev) (ch tag op echo : Nat) (ring : Bool) (a : Ans) :
    (d.reply ch tag op echo ring a).resetReq = d.resetReq := by
  unfold Dev.reply
  split
  · rw [postRsp_toSfiSt]
  · split
    · by_cases pending : a.st = 5
      · simp [pending, Dev.complete, cqReserve_toSfiSt]
      · simp [pending, Dev.complete, ite_resetReq, dmaCheck_resetReq]
    · rfl

theorem carry_toSfiSt (d : Dev) (c op : Nat) (a : Ans) : (d.carry c op a).toSfiSt = d.toSfiSt := by
  unfold Dev.carry
  split <;> rfl

theorem enlist_resetReq (d : Dev) (rq : Sfi) (op role : Nat) (back : Nat × Bool) (a : Ans) :
    (d.enlist rq op role back a).resetReq = d.resetReq := by
  unfold Dev.enlist
  split <;> rfl

theorem sfiDone_resetReq (d : Dev) (rq : Sfi) (op role : Nat) (back : Nat × Bool) (a : Ans) :
    (d.sfiDone rq op role back a).resetReq = d.resetReq := by
  unfold Dev.sfiDone
  simp only [ite_resetReq, reply_resetReq, enlist_resetReq, carry_toSfiSt, count_toSfiSt, countAns_toSfiSt, ite_self]

theorem sfiAnswer_resetReq (d : Dev) (rq : Sfi) (op role : Nat) (back : Nat × Bool) (a : Ans) :
    (d.sfiAnswer rq op role back a).resetReq = d.resetReq := by
  unfold Dev.sfiAnswer
  split
  · rw [sfiDone_resetReq, draw_toSfiSt]
  · exact sfiDone_resetReq _ _ _ _ _ _

/-- A device that asked for a restart alone does no reset. -/
theorem resetAsked_of_restart {d : Dev} (asked : d.resetReq = 1) : resetAsked d = d.restartIfAsked 1 := by
  unfold resetAsked
  exact if_neg (by rw [asked]; decide)

/-- Settles O40. -/
theorem resets : Obligations.Resets := by
  unfold Obligations.Resets
  intro s m straps temps
  refine ⟨rfl, fun running => ?_, fun held => ?_, fun held => ⟨fun cool => ?_, fun tripped hot => ?_,
    fun tripped warm cooled => ?_⟩, fun passes => writes_act passes (fun d _ => d.internalReset), fun internal running => ?_,
    fun rq role granted => ?_⟩
  · exact does_of_eq (resetAssert_of_running running) rfl
  · exact does_of_eq (resetAssert_of_held held) rfl
  · exact does_of_eq (resetRelease_of_untripped held cool) rfl
  · exact does_of_eq (resetRelease_of_hot held tripped hot) rfl
  · exact does_of_eq (resetRelease_of_cooled held tripped warm cooled) rfl
  · exact does_of_eq (internalEnd_of_running internal running) rfl
  · exact does_of_eq (resetAsked_of_restart (sfiAnswer_resetReq _ _ _ _ _ _)) (does_sysReset granted 0)

end Sys2Proof.Proofs
end

section
/-! PROOF. A write by address goes through the gate to the register that it names (R370, R371), the parity sweep and the shadow
copies (R376, R377). -/

namespace Sys2Proof.Proofs

open Sys2Proof Sys2Proof.Machine Sys2Proof.Laws

/-! ## The register at an address -/

theorem regInfo_n2_pos (r : RegName) : 0 < (regInfo r).n2 := by
  cases r <;> decide

/-- A register's element lies at its address. -/
theorem regAddr_of_regIndex {r : RegName} {addr i : Nat} (found : regIndex r addr = some i) :
    regAddr r i = addr ∧ i < (regInfo r).n := by
  have n2 := regInfo_n2_pos r
  unfold regIndex at found
  unfold regAddr
  generalize regInfo r = x at found n2 ⊢
  dsimp only at found
  by_cases low : addr < x.base
  · rw [if_pos low] at found
    cases found
  rw [if_neg low] at found
  have whole : (if x.s1 = 0 then 0 else (addr - x.base) / x.s1) * x.s1 +
      (if x.s1 = 0 then addr - x.base else (addr - x.base) % x.s1) = addr - x.base := by
    split
    · omega
    · exact Nat.div_add_mod' _ _
  generalize (if x.s1 = 0 then 0 else (addr - x.base) / x.s1) = q at found whole
  generalize (if x.s1 = 0 then addr - x.base else (addr - x.base) % x.s1) = m at found whole
  by_cases single : x.n2 = 1
  · by_cases start : m = 0
    · rw [if_pos single, if_pos start] at found
      dsimp only at found
      split at found <;> cases found
      rename_i inside
      rw [single, Nat.div_one, Nat.mod_one]
      exact ⟨by omega, inside⟩
    · rw [if_pos single, if_neg start] at found
      cases found
  · by_cases flat : x.s2 = 0
    · rw [if_neg single, if_pos flat] at found
      cases found
    · by_cases start : m % x.s2 = 0 ∧ m / x.s2 < x.n2
      · rw [if_neg single, if_neg flat, if_pos start] at found
        dsimp only at found
        split at found <;> cases found
        rename_i inside
        have column := Nat.div_mul_cancel (Nat.dvd_of_mod_eq_zero start.1)
        rw [Nat.mul_comm q, Nat.mul_add_div n2, Nat.div_eq_of_lt start.2, Nat.mul_add_mod, Nat.mod_eq_of_lt start.2]
        exact ⟨by rw [column, Nat.add_zero]; omega, by rwa [Nat.mul_comm x.n2]⟩
      · rw [if_neg single, if_neg flat, if_neg start] at found
        cases found

/-- What `regAt` finds is one of the three headers of a block, or lies in its register's array. -/
theorem regIndex_of_regAt {addr : Nat} {r : RegName} {i : Nat} (found : regAt addr = some (r, i)) :
    r = .CAP_HEADER ∨ r = .CAP_INFO ∨ r = .GUARD_UNLOCK ∨ regIndex r addr = some i := by
  unfold regAt at found
  split at found
  · rename_i x first
    cases found
    obtain ⟨r', -, there⟩ := List.exists_of_findSome?_eq_some first
    split at there
    · cases there
    · cases there
    · cases there
    · obtain ⟨j, index, same⟩ := Option.map_eq_some_iff.mp there
      cases same
      exact .inr (.inr (.inr index))
  · split at found
    · split at found
      · cases found
        exact .inl rfl
      · split at found
        · cases found
          exact .inr (.inl rfl)
        · split at found
          · cases found
            exact .inr (.inr (.inl rfl))
          · cases found
    · cases found

/-- The event registers lie outside the shadow's profile bank. -/
theorem rsq_outside_bank (r : RegName) : (regInfo r).kind = .rsq →
    0x241800 ≤ (regInfo r).base ∨
      (regInfo r).base + ((regInfo r).n - 1) / (regInfo r).n2 * (regInfo r).s1 + ((regInfo r).n2 - 1) * (regInfo r).s2 <
        0x241000 := by
  cases r <;> decide

theorem inBank_of_rsq {addr : Nat} {r : RegName} {i : Nat} (found : regAt addr = some (r, i)) (rsq : (regInfo r).kind = .rsq) :
    inBank 0x241000 addr = false := by
  have index : regIndex r addr = some i := by
    rcases regIndex_of_regAt found with rfl | rfl | rfl | index
    · cases rsq
    · cases rsq
    · cases rsq
    · exact index
  obtain ⟨rfl, inside⟩ := regAddr_of_regIndex index
  have row : i / (regInfo r).n2 * (regInfo r).s1 ≤ ((regInfo r).n - 1) / (regInfo r).n2 * (regInfo r).s1 :=
    Nat.mul_le_mul_right _ (Nat.div_le_div_right (by omega))
  have column : i % (regInfo r).n2 * (regInfo r).s2 ≤ ((regInfo r).n2 - 1) * (regInfo r).s2 :=
    Nat.mul_le_mul_right _ (Nat.le_pred_of_lt (Nat.mod_lt _ (regInfo_n2_pos r)))
  have apart := rsq_outside_bank r rsq
  unfold inBank regAddr
  exact decide_eq_false (by omega)

theorem regUnused_of_rsq {r : RegName} (rsq : (regInfo r).kind = .rsq) (i : Nat) : regUnused r i = false := by
  cases r with
  | CLASS_CFG | SHED | OVERRUN | PROG_CFG | PC_CLEAR | ADDR_LO | ADDR_HI | PC_CFG | PC_LO | PC_HI => cases rsq
  | _ => rfl

/-- No register's array reaches into the header of a block. -/
theorem regAt_guardUnlock : ∀ slot : Fin 97, (blockAt slot).isSome = true →
    regAt (slot.val * 0x10000 + 8) = some (.GUARD_UNLOCK, slot.val) := by
  decide +kernel

/-! ## A write by address -/

/-- What the effective word does to the register at address `a`: the shadow's profile bank reaches the peer die too (R428). -/
def addrEffect (a : Nat) (r : RegName) (i : Nat) (d : Dev) (w : Nat) : Dev :=
  if inBank 0x241000 a then (d.regEffect r i w).mirrorProf ((a - 0x241000) / 64) else d.regEffect r i w

theorem regWrite_of_none {d : Dev} {m addr w be : Nat} (empty : regAt (addr % 2 ^ 24 / 4 * 4) = none) :
    d.regWrite m addr w be = d.unusedWrite m (addr % 2 ^ 24 / 4 * 4) := by
  unfold Dev.regWrite
  dsimp only
  rw [empty]

section Used

variable {d : Dev} {m addr w be i : Nat} {r : RegName} (found : regAt (addr % 2 ^ 24 / 4 * 4) = some (r, i))
  (used : regUnused r i = false)
include found used

theorem regWrite_of_passed {e : Dev} {v : Nat} (gate : d.gateBe m r i w be = (e, some v)) :
    d.regWrite m addr w be = addrEffect (addr % 2 ^ 24 / 4 * 4) r i e v := by
  unfold Dev.regWrite
  dsimp only
  rw [found]
  dsimp only
  rw [used, if_neg Bool.false_ne_true, gate]
  rfl

theorem regWrite_of_stopped {e : Dev} (gate : d.gateBe m r i w be = (e, none)) : d.regWrite m addr w be = e := by
  unfold Dev.regWrite
  dsimp only
  rw [found]
  dsimp only
  rw [used, if_neg Bool.false_ne_true, gate]

/-- A write of a whole word. -/
theorem regWrite_eq_gated : d.regWrite m addr w 15 = d.gated m r i w (addrEffect (addr % 2 ^ 24 / 4 * 4) r i) := by
  unfold Dev.regWrite
  dsimp only
  rw [found]
  dsimp only
  rw [used, if_neg Bool.false_ne_true]
  rfl

end Used

theorem addrEffect_of_rsq {addr : Nat} {r : RegName} {i : Nat} (found : regAt addr = some (r, i))
    (rsq : (regInfo r).kind = .rsq) (d : Dev) (w : Nat) : addrEffect addr r i d w = d.rsqClear r i w := by
  unfold addrEffect Dev.regEffect
  rw [inBank_of_rsq found rsq]
  exact if_pos rsq

/-- A word's address in BAR0 is itself. -/
theorem wordAddr {addr : Nat} (inside : addr < 2 ^ 24) (aligned : addr % 4 = 0) : addr % 2 ^ 24 / 4 * 4 = addr := by
  omega

section Live

variable {s : State} (live : s.live)
include live

/-- The device as a write by address finds it. -/
theorem does_registerWrite (m : Fin 32) (addr : Nat) (w : Word) (be : Fin 16) :
    Does (.registerWrite m addr w be) s
      ((s.toDev.turn (fun d => d.addrPlace m addr w.toNat (ownPlace addr (untied (addrBlock addr) (8 + masterOrder m))))).regWrite
        m addr w.toNat be) := live_act live _ (·.regWrite m addr w.toNat be)

theorem does_guardUnlock (m : Fin 32) (slot : Fin 97) (w : Word) :
    Does (.guardUnlock m slot w) s
      ((s.toDev.turn (fun d => d.regPlace m .GUARD_UNLOCK slot w.toNat)).regWrite m (slot * 0x10000 + 8) w.toNat 15) :=
  live_act live _ (·.regWrite m (slot * 0x10000 + 8) w.toNat 15)

theorem does_rsqClear (m : Fin 32) (addr : Nat) (w : Word) :
    Does (.rsqClear m addr w) s ((s.toDev.turn (fun d => d.addrPlace m addr w.toNat atClear)).regWrite m addr w.toNat 15) :=
  live_act live _ (·.regWrite m addr w.toNat 15)

end Live

theorem guardUnlock_of_stopped {d : Dev} {m w : Nat} {slot : Fin 97} (present : (blockAt slot).isSome = true)
    (keyed : (d.gateReg m .GUARD_UNLOCK slot w).2 = none) :
    d.regWrite m (slot * 0x10000 + 8) w 15 = (d.gateReg m .GUARD_UNLOCK slot w).1 := by
  have header : (slot.val * 0x10000 + 8) % 2 ^ 24 / 4 * 4 = slot.val * 0x10000 + 8 := wordAddr (by omega) (by omega)
  exact regWrite_of_stopped (by rw [header]; exact regAt_guardUnlock slot present) rfl (Prod.ext rfl keyed)

theorem rsqClear_of_passed {s : State} {m : Fin 32} {addr i : Nat} {w : Word} {r : RegName} (found : regAt addr = some (r, i))
    (rsq : (regInfo r).kind = .rsq) (inside : addr < 2 ^ 24) (aligned : addr % 4 = 0)
    (passes : WritesAt s atClear m r i w.toNat) :
    (s.toDev.turn (fun d => d.addrPlace m addr w.toNat atClear)).regWrite m addr w.toNat 15 =
      (s.passedAt atClear m r i w.toNat).rsqClear r i w.toNat := by
  have there : regAt (addr % 2 ^ 24 / 4 * 4) = some (r, i) := by rw [wordAddr inside aligned]; exact found
  have place : (fun d : Dev => d.addrPlace m addr w.toNat atClear) = fun d => d.wrPlace m r i w.toNat atClear := by
    funext d
    unfold Dev.addrPlace
    rw [there]
  rw [place, regWrite_eq_gated there (regUnused_of_rsq rsq i), wordAddr inside aligned]
  exact (mayWrite_gate passes.may _).trans (addrEffect_of_rsq found rsq _ _)

/-! ## Parity (R376, R377) -/

section Sweep

variable {d : Dev} {addr i : Nat} {r : RegName} (found : regAt addr = some (r, i))
include found

theorem paritySweep_of_written (written : d.regWrote.contains addr = true) (upset : Option Word) :
    d.paritySweep addr upset = d := by
  unfold Dev.paritySweep
  rw [found]
  dsimp only
  rw [written, Bool.not_true, Bool.and_false, if_neg Bool.false_ne_true]

variable (guarded : hasParity r i = true) (unwritten : d.regWrote.contains addr = false)
include guarded unwritten

theorem paritySweep_of_sound : d.paritySweep addr none = d.parityRead r i := by
  unfold Dev.paritySweep
  rw [found]
  exact if_pos (by rw [guarded, unwritten]; rfl)

theorem paritySweep_of_upset (w : Word) : d.paritySweep addr (some w) = (d.regUpset r i w.toNat).parityRead r i := by
  unfold Dev.paritySweep
  rw [found]
  exact if_pos (by rw [guarded, unwritten]; rfl)

end Sweep

/-- What core 0 restores from its shadow copies: a table's place or a register (R376, R377). -/
def restore (table : Bool) (place : Nat) (d : Dev) : Dev :=
  if !d.core0Up then d else if table then d.placeRestore place else d.regRestore place

theorem restore_of_up {d : Dev} (up : d.core0Up = true) (table : Bool) (place : Nat) :
    restore table place d = if table then d.placeRestore place else d.regRestore place := by
  unfold restore
  rw [up]
  rfl

theorem restore_of_down {d : Dev} (down : d.core0Up = false) (table : Bool) (place : Nat) : restore table place d = d := by
  unfold restore
  rw [down]
  rfl

section Live

variable {s : State} (live : s.live)
include live

theorem does_paritySweep (addr : Nat) (upset : Option Word) :
    Does (.paritySweep addr upset) s ((s.due (untied (addrBlock addr) 40)).paritySweep addr upset) :=
  live_due live _ (·.paritySweep addr upset)

theorem does_shadowRestore (table : Bool) (place : Nat) :
    Does (.shadowRestore table place) s (restore table place (s.due atSfi)) := live_due live _ (restore table place)

end Live

/-- Settles O41. -/
theorem registerCommands : Obligations.RegisterCommands := by
  unfold Obligations.RegisterCommands
  intro s m addr w be live
  refine ⟨⟨fun empty => ?_, fun r i found used => ⟨fun d v gate => ?_, fun d gate => ?_⟩⟩, fun slot present keyed => ?_,
    fun r i found rsq inside aligned passes => ?_, fun r i found guarded => ⟨fun unwritten => ⟨?_, ?_⟩, fun written x => ?_⟩,
    fun up => ⟨?_, ?_⟩, fun down table => ?_⟩
  · exact does_of_eq (regWrite_of_none empty) (does_registerWrite live m addr w be)
  · exact does_of_eq (regWrite_of_passed found used gate) (does_registerWrite live m addr w be)
  · exact does_of_eq (regWrite_of_stopped found used gate) (does_registerWrite live m addr w be)
  · exact does_of_eq (guardUnlock_of_stopped present keyed) (does_guardUnlock live m slot w)
  · exact does_of_eq (rsqClear_of_passed found rsq inside aligned passes) (does_rsqClear live m addr w)
  · exact does_of_eq (paritySweep_of_sound found guarded unwritten) (does_paritySweep live addr none)
  · exact does_of_eq (paritySweep_of_upset found guarded unwritten w) (does_paritySweep live addr (some w))
  · exact does_of_eq (paritySweep_of_written found written x) (does_paritySweep live addr x)
  · exact does_of_eq (restore_of_up up false addr) (does_shadowRestore live false addr)
  · exact does_of_eq (restore_of_up up true addr) (does_shadowRestore live true addr)
  · exact does_of_eq (restore_of_down down table addr) (does_shadowRestore live table addr)

end Sys2Proof.Proofs
end

section
/-! PROOF. The SFI commands of the ports group, of a quad and of a pipe (R363). -/

namespace Sys2Proof.Proofs

open Sys2Proof Sys2Proof.Machine Sys2Proof.Laws

/-! ## Ports -/

section Ports

variable {d : Dev} {port : Nat} (hport : port < 256)
include hport

theorem portConfigSet_of_range {maxFrame hold up : Nat} (en : Bool) (hmax : F.PORT_CFG_MAX_FRAME.ok maxFrame = true)
    (hhold : F.PORT_LINK_LINK_HOLD.ok hold = true) (hup : F.PORT_LINK_LINK_UP_TIME.ok up = true)
    (fits : d.fMaxAbove port maxFrame = false) :
    d.portConfigSet port en maxFrame hold up =
      ((d.cfg .PORT_LINK port (hold + 65536 * up)).portCfg port (maxFrame + 16384 * b2n en), .ok) :=
  okIf_of_true (by simp [hport, hmax, hhold, hup, fits]) _ _

theorem portPreSet_of_range {time addFrag tcs : Nat} (en verify : Bool) (htime : F.PORT_PRE_VERIFY_TIME.ok time = true)
    (hfrag : addFrag < 4) (htcs : tcs < 256) :
    d.portPreSet port en verify time addFrag tcs =
      (d.portPre port (b2n en + 2 * b2n verify + 4 * time + 1024 * addFrag + 4096 * (tcs % 128) +
        2 ^ 20 * d.get F.PORT_PRE_PARTNER_ADD_FRAG port), .ok) :=
  okIf_of_true (by simp [hport, htime, hfrag, htcs]) _ _

theorem portEeeSet_of_range {idle : Nat} (en ovr : Bool) (hidle : F.PORT_EEE_EEE_IDLE.ok idle = true) :
    d.portEeeSet port en idle ovr =
      (let d := (d.cfgF F.PORT_EEE_EEE_EN port (b2n en)).cfgF F.PORT_EEE_EEE_IDLE port idle
       { d with eeeOver := d.eeeOver.put port (en && ovr) }, .ok) :=
  okIf_of_true (by simp [hport, hidle]) _ _

theorem portParseSet_of_range {grp pcp pvid fwd : Nat} (prp slow : Bool) (hgrp : grp < 16) (hpcp : pcp < 8) (hfwd : fwd < 4)
    (hpvid : F.PARSER_PORT_CFG_PVID.ok pvid = true) :
    d.portParseSet port prp slow grp pcp pvid fwd =
      (d.cfg .PARSER_PORT_CFG port (b2n prp + 2 * b2n slow + 4 * grp + 64 * pcp + 512 * pvid + 2 ^ 22 * fwd), .ok) :=
  okIf_of_true (by simp [hport, hgrp, hpcp, hfwd, hpvid]) _ _

end Ports

/-! ## Lanes -/

section Lanes

variable {d : Dev} {quad qmode : Nat} {lanes : List LaneArgs} (hquad : quad < 16) (four : lanes.length = 4)
  (range : ∀ x ∈ lanes, x.lmode < 9 ∧ x.fec < 3 ∧ x.loopback < 3)
include hquad four range

/-- LANE_MODE_SET with every value in range: the rates of a quad of single lanes, then the FEC of each lane. -/
theorem laneModeSet_of_range (hqmode : qmode < 3) :
    d.laneModeSet quad qmode lanes =
      if qmode = 0 ∧ 2 < (quadRates (fun k => d.on F.LANE_CFG_LANE_EN (4 * quad + k)) (laneModes lanes)).length then
        (d.modeConflict quad, .invalid 1)
      else if lanes.any (fun x => decide (x.fec ≠ 0 ∧ x.lmode ≠ 8)) then (d.modeConflict quad, .invalid 2)
      else (d.laneModeTake quad qmode lanes, .ok) := by
  have all : lanes.all (fun x => decide (x.lmode < 9 ∧ x.fec < 3 ∧ x.loopback < 3)) = true :=
    List.all_eq_true.mpr (fun x mem => decide_eq_true (range x mem))
  unfold Dev.laneModeSet
  rw [all, decide_eq_true (And.intro hquad (And.intro hqmode four))]
  rfl

theorem laneModeSet_of_third_rate
    (third : 2 < (quadRates (fun k => d.on F.LANE_CFG_LANE_EN (4 * quad + k)) (laneModes lanes)).length) :
    d.laneModeSet quad 0 lanes = (d.modeConflict quad, .invalid 1) :=
  (laneModeSet_of_range hquad four range (by decide)).trans (if_pos ⟨rfl, third⟩)

/-- A quad whose lanes work together takes lanes without FEC. -/
theorem laneModeSet_of_joined (joined : qmode = 1 ∨ qmode = 2) (plain : ∀ x ∈ lanes, x.fec = 0) :
    d.laneModeSet quad qmode lanes = (d.laneModeTake quad qmode lanes, .ok) := by
  have noFec : ¬ lanes.any (fun x => decide (x.fec ≠ 0 ∧ x.lmode ≠ 8)) = true := by
    simp only [List.any_eq_true, decide_eq_true_eq, not_exists, not_and]
    exact fun x mem fec => absurd (plain x mem) fec
  refine (laneModeSet_of_range hquad four range (by omega)).trans ((if_neg ?_).trans (if_neg noFec))
  exact fun single => by omega

end Lanes

section Granted

variable {s : State} {rq : Sfi} {role : Nat}

theorem answers_portQuery (granted : Granted s rq 0x100 0 false role) (port : Nat) :
    Answers (.portQuery rq port) s rq 0x100 role (fun d => if 256 ≤ port then (d, .invalid) else
      (d, .okW [d.view .PORT_STATUS port, d.view .PORT_CFG port, d.view .PORT_LINK port, d.view .PORT_PRE port,
        d.view .PORT_EEE port, d.reg .LANE_STATUS (port / 4)])) := granted_sfi granted _

theorem answers_portConfigSet (granted : Granted s rq 0x103 2 false role) (port : Nat) (en : Bool) (maxFrame hold up : Nat) :
    Answers (.portConfigSet rq port en maxFrame hold up) s rq 0x103 role (fun d => d.portConfigSet port en maxFrame hold up) :=
  granted_sfi granted _

theorem answers_portPreSet (granted : Granted s rq 0x104 2 false role) (port : Nat) (en verify : Bool) (time addFrag tcs : Nat) :
    Answers (.portPreSet rq port en verify time addFrag tcs) s rq 0x104 role
      (fun d => d.portPreSet port en verify time addFrag tcs) := granted_sfi granted _

theorem answers_portEeeSet (granted : Granted s rq 0x105 2 false role) (port : Nat) (en : Bool) (idle : Nat) (ovr : Bool) :
    Answers (.portEeeSet rq port en idle ovr) s rq 0x105 role (fun d => d.portEeeSet port en idle ovr) := granted_sfi granted _

theorem answers_portParseSet (granted : Granted s rq 0x106 2 false role) (port : Nat) (prp slow : Bool)
    (grp pcp pvid fwd : Nat) :
    Answers (.portParseSet rq port prp slow grp pcp pvid fwd) s rq 0x106 role
      (fun d => d.portParseSet port prp slow grp pcp pvid fwd) := granted_sfi granted _

theorem answers_portTsTrimSet (granted : Granted s rq 0x107 2 false role) (port ing egr : Nat) :
    Answers (.portTsTrimSet rq port ing egr) s rq 0x107 role (fun d =>
      okIf (decide (port < 256 ∧ ing < 2 ^ 32 ∧ egr < 2 ^ 32)) d
        ((d.cfg .TS_ING_TRIM port ing).cfg .TS_EGR_TRIM port egr)) := granted_sfi granted _

theorem answers_laneModeSet (granted : Granted s rq 0x101 2 false role) (quad qmode : Nat) (lanes : List LaneArgs) :
    Answers (.laneModeSet rq quad qmode lanes) s rq 0x101 role (fun d => d.laneModeSet quad qmode lanes) :=
  granted_sfi granted _

theorem answers_laneEnable (granted : Granted s rq 0x102 2 false role) (mask : Nat) (en : Bool) :
    Answers (.laneEnable rq mask en) s rq 0x102 role (fun d => d.laneEnable mask en) := granted_sfi granted _

theorem answers_pcpMapSet (granted : Granted s rq 0x108 2 false role) (pipe map : Nat) :
    Answers (.pcpMapSet rq pipe map) s rq 0x108 role (fun d =>
      okIf (decide (pipe < 2 ∧ map < 2 ^ 24)) d (d.cfg .PCP_TO_TC pipe map)) := granted_sfi granted _

end Granted

/-- Settles O3. -/
theorem portAndLaneCommands : Obligations.PortAndLaneCommands := by
  unfold Obligations.PortAndLaneCommands
  refine ⟨fun s rq role port hport => ⟨fun granted => ?_, fun en maxFrame hold up granted hmax hhold hup fits => ?_,
    fun en verify time addFrag tcs granted htime hfrag htcs => ?_, fun en idle ovr granted hidle => ?_,
    fun prp slow grp pcp pvid fwd granted hgrp hpcp hfwd hpvid => ?_, fun ing egr granted hing hegr => ?_⟩,
    fun s rq role => ⟨fun quad a b c e granted hquad range third => ?_, fun quad qmode a b c e granted hquad joined range => ?_,
    fun mask en granted hmask => ?_, fun pipe map granted hpipe hmap => ?_⟩⟩
  · exact answers_of_eq (if_neg (Nat.not_le.mpr hport)) (answers_portQuery granted port)
  · exact answers_of_eq (portConfigSet_of_range hport en hmax hhold hup fits)
      (answers_portConfigSet granted port en maxFrame hold up)
  · exact answers_of_eq (portPreSet_of_range hport en verify htime hfrag htcs)
      (answers_portPreSet granted port en verify time addFrag tcs)
  · exact answers_of_eq (portEeeSet_of_range hport en ovr hidle) (answers_portEeeSet granted port en idle ovr)
  · exact answers_of_eq (portParseSet_of_range hport prp slow hgrp hpcp hfwd hpvid)
      (answers_portParseSet granted port prp slow grp pcp pvid fwd)
  · exact answers_of_eq (okIf_of_true (decide_eq_true ⟨hport, hing, hegr⟩) _ _) (answers_portTsTrimSet granted port ing egr)
  · exact answers_of_eq (laneModeSet_of_third_rate hquad rfl range third) (answers_laneModeSet granted quad 0 [a, b, c, e])
  · refine answers_of_eq (laneModeSet_of_joined hquad rfl (fun x mem => ?_) joined (fun x mem => (range x mem).2.1))
      (answers_laneModeSet granted quad qmode [a, b, c, e])
    obtain ⟨mode, fec, loopback⟩ := range x mem
    exact ⟨mode, by omega, loopback⟩
  · exact answers_of_eq (okIf_of_true (decide_eq_true hmask) _ _) (answers_laneEnable granted mask en)
  · exact answers_of_eq (okIf_of_true (decide_eq_true ⟨hpipe, hmap⟩) _ _) (answers_pcpMapSet granted pipe map)

end Sys2Proof.Proofs
end

section
/-! PROOF. What pins, heartbeat and link do to a die (R411 to R418, R426). -/

namespace Sys2Proof.Proofs

open Sys2Proof Sys2Proof.Machine Sys2Proof.Laws

/-! ## Fields that an input leaves alone -/

theorem get_of_regs {d e : Dev} (h : e.regs = d.regs) (f : Fld) (i : Nat) : e.get f i = d.get f i := by
  unfold Dev.get Dev.reg
  rw [h]

theorem get_raise_ne (d : Dev) (f g : Fld) (i j b : Nat) (h : regAddr g.reg j ≠ regAddr f.reg i) :
    (d.raise f i b).get g j = d.get g j := by
  unfold Dev.get Dev.raise Dev.raiseBits
  exact congrArg (bitsOf · g.hi g.lo) (reg_setReg_ne _ _ _ _ _ _ h)

theorem foldl_regs {α : Type} (f : Dev → α → Dev) (h : ∀ d a, (f d a).regs = d.regs) (l : List α) (d : Dev) :
    (l.foldl f d).regs = d.regs := by
  induction l generalizing d with
  | nil => rfl
  | cons a l ih => rw [List.foldl_cons, ih, h]

/-- A field of PAIR_STATUS beside STATE leaves STATE as it is. -/
theorem pst_set (d : Dev) (f : Fld) (v : Nat) (reg : F.PAIR_STATUS_STATE.reg = f.reg) (span : f.lo ≤ f.hi) (word : f.hi < 32)
    (apart : f.hi < F.PAIR_STATUS_STATE.lo ∨ F.PAIR_STATUS_STATE.hi < f.lo) : (d.set f 0 v).pst = d.pst :=
  get_set_field d f F.PAIR_STATUS_STATE 0 v reg span word apart

theorem past_set (d : Dev) (f : Fld) (i v t n : Nat) : (d.set f i v).past t n = d.past t n := rfl

theorem pst_arbGo (d : Dev) (go : Bool) : ({ d with arbGo := go } : Dev).pst = d.pst := rfl

theorem driveClaim_pst (d : Dev) : d.driveClaim.pst = d.pst := by
  unfold Dev.driveClaim
  dsimp only
  rw [pst_set _ F.PAIR_STATUS_PAR_RB _ rfl (by decide) (by decide) (by decide),
    pst_set _ F.PAIR_STATUS_CLAIM_RB _ rfl (by decide) (by decide) (by decide),
    pst_set _ F.PAIR_STATUS_CLAIM _ rfl (by decide) (by decide) (by decide)]
  refine get_of_regs (foldl_regs _ (fun e k => ?_) _ _) _ _
  split <;> rfl

/-! ## ARB_GO and ARB_FAULT_IN (R417) -/

/-- The pins once ARB_GO and ARB_FAULT_IN have settled. -/
def arbPins (d : Dev) (go fault : Bool) : Dev :=
  { ((d.set F.PAIR_STATUS_ARB_GO 0 (b2n go)).set F.PAIR_STATUS_ARB_FAULT_IN 0 (b2n fault)) with arbGo := go }.driveClaim

theorem arbPins_pst (d : Dev) (go fault : Bool) : (arbPins d go fault).pst = d.pst := by
  unfold arbPins
  rw [driveClaim_pst, pst_arbGo, pst_set _ F.PAIR_STATUS_ARB_FAULT_IN _ rfl (by decide) (by decide) (by decide),
    pst_set _ F.PAIR_STATUS_ARB_GO _ rfl (by decide) (by decide) (by decide)]

theorem peerFault_pst (d : Dev) : (d.raise F.PAIR_EVENT_PEER_FAULT).pst = d.pst :=
  get_raise_ne _ _ _ _ _ _ (by decide)

/-- The two inputs are shown, and a fault of the peer is told. -/
def arbShown (d : Dev) (go fault : Bool) : Dev :=
  if fault && !d.on F.PAIR_STATUS_ARB_FAULT_IN then (arbPins d go fault).raise F.PAIR_EVENT_PEER_FAULT else arbPins d go fault

theorem arbShown_pst (d : Dev) (go fault : Bool) : (arbShown d go fault).pst = d.pst := by
  unfold arbShown
  split
  · exact (peerFault_pst _).trans (arbPins_pst d go fault)
  · exact arbPins_pst d go fault

/-- In UNPAIRED nothing more follows. -/
theorem arbSettled_of_unpaired {d : Dev} (unpaired : d.pst = 0) (go fault : Bool) : d.arbSettled go fault = arbShown d go fault := by
  have stays : (arbShown d go fault).pst = 0 := (arbShown_pst d go fault).trans unpaired
  unfold Dev.arbSettled
  unfold arbShown arbPins at stays ⊢
  dsimp only at stays ⊢
  generalize (if (fault && !d.on F.PAIR_STATUS_ARB_FAULT_IN) = true then _ else _ : Dev) = told at stays ⊢
  have quiet : ¬ ((fault && !d.on F.PAIR_STATUS_ARB_FAULT_IN) = true ∧ (told.pst = 5 ∨ told.pst = 6 ∨ told.pst = 8)) := by
    rw [stays]
    simp
  rw [if_neg quiet, if_pos stays]

theorem arbShown_eq (d : Dev) (go fault : Bool) :
    arbShown d go fault =
      if fault = true ∧ d.on F.PAIR_STATUS_ARB_FAULT_IN = false then (arbPins d go fault).raise F.PAIR_EVENT_PEER_FAULT
      else arbPins d go fault :=
  ite_congr (by simp) (fun _ => rfl) (fun _ => rfl)

/-! ## The heartbeat (R416) -/

section Heartbeat

variable {d : Dev} {tm fw : Bool} (paired : d.on F.PAIR_STATUS_PAIR_EN = true)
include paired

theorem pairEn_of_health (v : Nat) : (d.set F.PAIR_STATUS_HEALTH_OK 0 v).on F.PAIR_STATUS_PAIR_EN = true := by
  unfold Dev.on at paired ⊢
  rwa [get_set_field d F.PAIR_STATUS_HEALTH_OK F.PAIR_STATUS_PAIR_EN 0 v rfl (by decide) (by decide) (by decide)]

omit paired in
theorem hbHalf_of_health (v : Nat) : (d.set F.PAIR_STATUS_HEALTH_OK 0 v).hbHalf = d.hbHalf := by
  unfold Dev.hbHalf
  rw [get_set_ne d F.PAIR_STATUS_HEALTH_OK F.PAIR_CFG_HB_HALF 0 0 v (by decide)]

theorem heartbeat_of_health (healthy : d.unhealthy tm fw = 0) :
    d.heartbeat tm fw =
      (let e := d.set F.PAIR_STATUS_HEALTH_OK 0 1
       if d.past d.hbAt d.hbHalf = true then
         { e with hbLevel := !e.hbLevel, hbRun := true, hbAt := e.cycle }.emit (.pin 3 7 (b2n !e.hbLevel))
       else e) := by
  unfold Dev.heartbeat
  dsimp only
  have well : b2n (0 == 0) = 1 := rfl
  rw [healthy, well, pairEn_of_health paired, if_neg (by decide : ¬ true = false), if_pos rfl, past_set,
    set_toPairSt, hbHalf_of_health]

theorem heartbeat_of_failure (bad : d.unhealthy tm fw ≠ 0) (beating : d.hbRun = true) :
    d.heartbeat tm fw =
      ((({ d.set F.PAIR_STATUS_HEALTH_OK 0 0 with hbRun := false } : Dev).raise F.PAIR_EVENT_HEALTH_FAIL).pairRec 0x110D 5
        (d.unhealthy tm fw)) := by
  have unwell : b2n (d.unhealthy tm fw == 0) = 0 := by
    rw [beq_eq_false_iff_ne.mpr bad]
    rfl
  unfold Dev.heartbeat
  dsimp only
  rw [unwell, pairEn_of_health paired, if_neg (by decide : ¬ true = false), if_neg bad,
    set_toPairSt, if_pos beating]

end Heartbeat

/-! ## The pins' reading (R411), START_WAIT (R418) and the link (R412, R426) -/

/-- The pins as read back. -/
def claimRead (d : Dev) (read : Nat) : Dev := (d.set F.PAIR_STATUS_CLAIM_RB 0 (read % 64)).set F.PAIR_STATUS_PAR_RB 0 (read / 64)

theorem claimMismatch_of_match {d : Dev} {read : Nat} (same : read = d.pins7) : d.claimMismatch read = claimRead d read := by
  unfold Dev.claimMismatch
  dsimp only
  rw [set_toPairSt, set_toPairSt, if_pos same]
  rfl

theorem claimMismatch_of_difference {d : Dev} {read : Nat} (other : read ≠ d.pins7) :
    d.claimMismatch read = ((claimRead d read).raise F.PAIR_EVENT_CLAIM_MISMATCH).pairRec 0x110C 5 d.pins7 read := by
  unfold Dev.claimMismatch
  dsimp only
  rw [set_toPairSt, set_toPairSt, if_neg other]
  rfl

theorem startWait_of_passed {d : Dev} (passed : d.initAt + d.get F.PAIR_CFG_START_WAIT * 100 * msCycles ≤ d.cycle)
    (waits : d.pst = 1) (preferred : d.on F.PAIR_STATUS_EFF_PREFERRED = true) (go : d.on F.PAIR_STATUS_ARB_GO = true)
    (alone : d.peerActive = false) : d.startWait = d.pairState 6 :=
  (if_pos passed).trans (if_pos ⟨waits, preferred, go, alone⟩)

theorem startWait_of_early {d : Dev} (early : d.cycle < d.initAt + d.get F.PAIR_CFG_START_WAIT * 100 * msCycles) :
    d.startWait = d := if_neg (Nat.not_le.mpr early)

section Link

variable {d : Dev} {lane : Nat}

theorem ulkUp_of_down (down : d.on F.PAIR_STATUS_LINK_UP = false) :
    d.ulkUp lane =
      { (d.setBit F.PAIR_STATUS_ULK_UP 0 lane true).set F.PAIR_STATUS_LINK_UP 0 1 with rxFresh := true }.sendHello :=
  if_neg (Bool.eq_false_iff.mp down)

theorem ulkUp_of_up (up : d.on F.PAIR_STATUS_LINK_UP = true) :
    d.ulkUp lane = (d.setBit F.PAIR_STATUS_ULK_UP 0 lane true).set F.PAIR_STATUS_LINK_UP 0 1 := if_pos up

theorem laneLost_of_locked (locked : d.bit F.PAIR_STATUS_ULK_UP 0 lane = true) :
    d.laneLost lane =
      ((d.setBit F.PAIR_STATUS_ULK_UP 0 lane false).raise F.PAIR_EVENT_ULK_LANE_DOWN).pairRec 0x110A 3 lane := if_pos locked

theorem ulkDown_of_up (up : d.on F.PAIR_STATUS_LINK_UP = true) :
    d.ulkDown =
      (let d := (List.range 4).foldl (fun d k => d.chanReset (16 + k))
         ((((d.laneLost 0).laneLost 1).set F.PAIR_STATUS_LINK_UP 0 0).set F.PEER_STATUS_PEER_VALID 0 0)
       (if d.handover.isSome || d.proposed.isSome then d.abortHandover 4 else d).syncLost 1) :=
  if_neg (by rw [up]; decide)

theorem hello_of_unpaired (unpaired : d.on F.PAIR_STATUS_PAIR_EN = false) (x : HelloArgs) : d.hello x = d :=
  if_pos (Or.inl unpaired)

theorem peerMessage_of_up {c op tag : Nat} {words : List Nat} (up : d.on F.PAIR_STATUS_LINK_UP = true)
    (free : d.isFrozen 29 = false) :
    d.peerMessage c op tag words = d.postReq (16 + c) (msgHdr op (min words.length 15) tag 0 0) (words.map (· % 2 ^ 32)) :=
  if_neg (not_or.mpr ⟨by rw [up]; decide, by rw [free]; decide⟩)

end Link

section Live

variable {s : State} (live : s.live)
include live

theorem does_arbInputSettled (go fault : Bool) :
    Does (.arbInputSettled go fault) s ((s.due (untied 17 0)).arbSettled go fault) := live_later live 17 0 (·.arbSettled go fault)

theorem does_hbToggle (tm fw : Bool) : Does (.hbToggle tm fw) s ((s.due (untied 17 0)).heartbeat tm fw) :=
  live_later live 17 0 (·.heartbeat tm fw)

theorem does_claimMismatch (read : Fin 128) : Does (.claimMismatch read) s ((s.due (untied 17 0)).claimMismatch read) :=
  live_later live 17 0 (·.claimMismatch read)

theorem does_ulkLinkUp (lane : Fin 2) : Does (.ulkLinkUp lane) s ((s.due (untied 17 0)).ulkUp lane) :=
  live_later live 17 0 (·.ulkUp lane)

/-- A further lane of a link that is up. -/
theorem does_ulkLaneUp (lane : Fin 2) :
    Does (.ulkLaneUp lane) s
      (let d := s.due (untied 17 0)
       if d.on F.PAIR_STATUS_LINK_UP then d.ulkUp lane else d) :=
  live_later live 17 0 (fun d => if d.on F.PAIR_STATUS_LINK_UP then d.ulkUp lane else d)

/-- A lane of a link whose other lane stays. -/
theorem does_ulkLaneDown (lane : Fin 2) :
    Does (.ulkLaneDown lane) s
      (let d := s.due (untied 17 0)
       if d.bit F.PAIR_STATUS_ULK_UP 0 (1 - lane.val) then d.laneLost lane else d) :=
  live_later live 17 0 (fun d => if d.bit F.PAIR_STATUS_ULK_UP 0 (1 - lane.val) then d.laneLost lane else d)

theorem does_ulkLinkDown : Does .ulkLinkDown s (s.due (untied 17 0)).ulkDown := live_later live 17 0 Dev.ulkDown

theorem does_helloRx (x : HelloArgs) : Does (.helloRx x) s ((s.due (untied 17 0)).hello x) := live_later live 17 0 (·.hello x)

theorem does_startWaitExpire : Does .startWaitExpire s (s.due (untied 17 0)).startWait := live_later live 17 0 Dev.startWait

theorem does_peerMessage (c : Fin 4) (op tag : Nat) (words : List Nat) :
    Does (.peerMessage c op tag words) s ((s.due (untied 13 20)).peerMessage c op tag words) :=
  live_later live 13 20 (·.peerMessage c op tag words)

end Live

/-- Settles O34. -/
theorem pairInputs : Obligations.PairInputs := by
  unfold Obligations.PairInputs
  intro s lane read live
  refine ⟨⟨live_later live 17 0 (fun d => { d with arbGo := false : Dev }.driveClaim), fun go fault unpaired => ?_,
    fun paired tm fw => ⟨fun healthy => ⟨fun due => ?_, fun early => ?_⟩, fun bad beating => ?_⟩,
    ⟨fun same => ?_, fun other => ?_⟩, fun down => ?_, fun up => ?_, fun other locked => ?_, fun up => ?_,
    fun unpaired x => ?_, fun _ _ x => does_helloRx live x, fun passed waits preferred go alone => ?_, fun early => ?_⟩,
    fun c op tag words up free => ?_⟩
  · exact does_of_eq ((arbSettled_of_unpaired unpaired go fault).trans (arbShown_eq _ go fault))
      (does_arbInputSettled live go fault)
  · exact does_of_eq ((heartbeat_of_health paired healthy).trans (if_pos due)) (does_hbToggle live tm fw)
  · exact does_of_eq ((heartbeat_of_health paired healthy).trans (if_neg (Bool.eq_false_iff.mp early))) (does_hbToggle live tm fw)
  · exact does_of_eq (heartbeat_of_failure paired bad beating) (does_hbToggle live tm fw)
  · exact does_of_eq (claimMismatch_of_match same) (does_claimMismatch live read)
  · exact does_of_eq (claimMismatch_of_difference other) (does_claimMismatch live read)
  · exact does_of_eq (ulkUp_of_down down) (does_ulkLinkUp live lane)
  · exact does_of_eq ((if_pos up).trans (ulkUp_of_up up)) (does_ulkLaneUp live lane)
  · exact does_of_eq ((if_pos other).trans (laneLost_of_locked locked)) (does_ulkLaneDown live lane)
  · exact does_of_eq (ulkDown_of_up up) (does_ulkLinkDown live)
  · exact does_of_eq (hello_of_unpaired unpaired x) (does_helloRx live x)
  · exact does_of_eq (startWait_of_passed passed waits preferred go alone) (does_startWaitExpire live)
  · exact does_of_eq (startWait_of_early early) (does_startWaitExpire live)
  · exact does_of_eq (peerMessage_of_up up free) (does_peerMessage live c op tag words)

end Sys2Proof.Proofs
end

section
/-! PROOF. Mirroring, resynchronisation, revert and switchover, and the SFI commands of the pair (R422 to R432). -/

namespace Sys2Proof.Proofs

open Sys2Proof Sys2Proof.Machine Sys2Proof.Laws

/-! ## Mirroring and resynchronisation (R427 to R429) -/

theorem syncLost_of_standby {d : Dev} (standby : d.pst = 3 ∨ d.pst = 4) (cause : Nat) :
    d.syncLost cause = (((d.raise F.PAIR_EVENT_SYNC_LOST).pairRec 0x1106 3 cause).pairState 2).pairSettle := if_pos standby

section Gap

variable {d : Dev}

theorem pst_rxGaps (d : Dev) (gaps : List (Nat × Nat × Nat)) : ({ d with rxGaps := gaps } : Dev).pst = d.pst := rfl

/-- A gap that has lasted for 2 µs costs the synchronism of a standby. -/
theorem mirrorGap_of_gap (standby : d.pst = 3 ∨ d.pst = 4)
    (lasted : d.rxGaps.any (fun g => decide (g.2.2 + 3000 ≤ d.cycle)) = true) :
    d.mirrorGap =
      (((({ d with rxGaps := [] } : Dev).raise F.PAIR_EVENT_SYNC_LOST).pairRec 0x1106 3 2).pairState 2).pairSettle := by
  unfold Dev.mirrorGap
  rw [if_pos lasted, syncLost_of_standby (by rw [pst_rxGaps]; exact standby)]

theorem mirrorGap_of_none (none_ : d.rxGaps.any (fun g => decide (g.2.2 + 3000 ≤ d.cycle)) = false) : d.mirrorGap = d :=
  if_neg (Bool.eq_false_iff.mp none_)

theorem mirrorTick_of_due (mirrors : d.mirrors = true) (due : d.past d.mirTbAt msCycles = true) :
    d.mirrorTick = ({ d with mirTbAt := d.cycle }.mirrorBase 0).mirrorBase 1 := by
  unfold Dev.mirrorTick
  rw [mirrors, due]
  rfl

theorem mirrorTick_of_early (early : d.mirrors = false ∨ d.past d.mirTbAt msCycles = false) : d.mirrorTick = d := by
  unfold Dev.mirrorTick
  rcases early with early | early <;> simp [early]

/-- The device as the bulk copy ends, its digest taken anew. -/
def copyEnd (d : Dev) : Dev :=
  (((d.set F.MIRROR_STATUS_RESYNC_BUSY 0 0).set F.MIRROR_STATUS_RESYNC_PCT 0 100).set F.MIRROR_STATUS_OVERFLOWED 0 0).digest.count
    0x58 5

theorem resyncDone_of_copy (resyncs : d.pst = 3) (busy : d.on F.MIRROR_STATUS_RESYNC_BUSY = true) :
    d.resyncDone =
      if (copyEnd d).reg .CFG_DIGEST = (copyEnd d).reg .PEER_CFG_DIGEST then
        ((((copyEnd d).fillStreams.pairState 4).raise F.PAIR_EVENT_SYNCED).pairRec 0x1105 1).finishOp 0xA02 .ok
      else
        (({ copyEnd d with retryAt := some ((copyEnd d).cycle + secCycles) } : Dev).raise F.PAIR_EVENT_CFG_DIVERGED).pairRec 0x110F
          3 :=
  if_neg (not_or.mpr ⟨not_not_intro resyncs, by rw [busy]; decide⟩)

theorem resyncRetry_of_due {t : Nat} (retry : d.retryAt = some t) (due : t ≤ d.cycle) (resyncs : d.pst = 3) :
    d.resyncRetry = ({ d with retryAt := none } : Dev).pairState 3 := by
  unfold Dev.resyncRetry
  rw [retry]
  exact if_pos ⟨due, resyncs⟩

end Gap

/-! ## Revert and switchover (R422 to R425) -/

section Handover

variable {d : Dev} {t : Nat}

theorem revertHold_of_met (since : d.revertSince = some t) (ready : d.revertReady = true) (free : d.proposed = none)
    (idle : d.handover = none) (held : t + d.get F.PAIR_TIMERS_REVERT_HOLD * 100 * msCycles ≤ d.cycle) :
    d.revertHold = d.propose := by
  unfold Dev.revertHold
  rw [since]
  simp [ready, free, idle, held]

/-- The device that accepts a proposal, the handover before it. -/
def accepted (d : Dev) (tr : Nat) : Dev :=
  { d.emit (.ulk [258, 1]) with handover := some tr, trOpen := false, overlapSeen := false }

section Proposal

variable (free : d.proposed = none) (idle : d.handover = none)
include free idle

theorem proposalRx_of_free (tr : Nat) :
    d.proposalRx tr =
      if (d.pst == 5 || d.pst == 4) = true then
        if d.pst = 5 then ({ accepted d tr with leftState := 5 } : Dev).pairState 8 else (accepted d tr).pairState 7
      else d.emit (.ulk [258, 0]) := by
  unfold Dev.proposalRx
  rw [free, idle]
  rfl

theorem proposalRx_of_active (active : d.pst = 5) (tr : Nat) :
    d.proposalRx tr = ({ accepted d tr with leftState := 5 } : Dev).pairState 8 := by
  rw [proposalRx_of_free free idle, if_pos (by rw [active]; rfl), if_pos active]

theorem proposalRx_of_standby (standby : d.pst = 4) (tr : Nat) : d.proposalRx tr = (accepted d tr).pairState 7 := by
  rw [proposalRx_of_free free idle, if_pos (by rw [standby]; rfl), if_neg (by rw [standby]; decide)]

theorem proposalRx_of_other (inactive : d.pst ≠ 5) (unsynced : d.pst ≠ 4) (tr : Nat) :
    d.proposalRx tr = d.emit (.ulk [258, 0]) := by
  rw [proposalRx_of_free free idle, if_neg (by simp [inactive, unsynced])]

end Proposal

theorem noAnswer_of_late (proposed : d.proposed.isSome = true) (late : d.past d.proposedAt 150000 = true) :
    d.noAnswer = d.abortHandover 2 := by
  unfold Dev.noAnswer
  rw [proposed, late]
  rfl

theorem noAnswer_of_early (early : d.proposed = none ∨ d.past d.proposedAt 150000 = false) : d.noAnswer = d := by
  unfold Dev.noAnswer
  rcases early with early | early <;> simp [early]

section Pending

variable (pending : d.handover = some t)
include pending

theorem handoverTr_of_due (due : t ≤ d.pt) (closed : d.trOpen = false) :
    d.handoverTr =
      if d.pst = 7 then ({ d with trOpen := true } : Dev).emit (.ulk [259]) else { d with trOpen := true } := by
  unfold Dev.handoverTr
  rw [pending]
  exact if_pos ⟨due, closed⟩

/-- T_s has come. -/
theorem handoverTs_of_due (due : t + d.get F.PAIR_TIMERS_OVERLAP * usLt ≤ d.pt) :
    d.handoverTs =
      (let ts := t + d.get F.PAIR_TIMERS_OVERLAP * usLt
       if d.pst = 7 then d.handoverDone ts d.activeState (d.on F.PAIR_STATUS_EFF_PREFERRED)
       else if d.pst = 8 then
         if (d.overlapSeen && d.on F.PAIR_STATUS_LINK_UP) = true then
           (d.handoverDone ts 3 (!d.on F.PAIR_STATUS_EFF_PREFERRED)).finishOp 0xA03 .ok
         else d.abortHandover 6
       else d) := by
  unfold Dev.handoverTs
  rw [pending]
  exact if_neg (Nat.not_lt.mpr due)

end Pending

end Handover

/-- OVERLAP_STARTED of the peer concerns a yielding die alone (R423). -/
def overlapStarted (d : Dev) : Dev := if d.pst = 8 then { d with overlapSeen := true } else d

section Live

variable {s : State} (live : s.live)
include live

theorem does_mirrorGap : Does .mirrorGap s (s.due (untied 17 0)).mirrorGap := live_later live 17 0 Dev.mirrorGap

theorem does_timeMirrorTick : Does .timeMirrorTick s (s.due (untied 17 0)).mirrorTick := live_later live 17 0 Dev.mirrorTick

theorem does_resyncCopyDone : Does .resyncCopyDone s (s.due (untied 17 0)).resyncDone := live_later live 17 0 Dev.resyncDone

theorem does_resyncRetry : Does .resyncRetry s (s.due (untied 17 0)).resyncRetry := live_later live 17 0 Dev.resyncRetry

theorem does_revertHoldMet : Does .revertHoldMet s (s.due (untied 17 0)).revertHold := live_later live 17 0 Dev.revertHold

theorem does_revertProposalRx (tr : Nat) : Does (.revertProposalRx tr) s ((s.due (untied 17 0)).proposalRx tr) :=
  live_later live 17 0 (·.proposalRx tr)

theorem does_revertNoAnswer : Does .revertNoAnswer s (s.due (untied 17 0)).noAnswer := live_later live 17 0 Dev.noAnswer

theorem does_handoverTr : Does .handoverTr s (s.due (untied 17 0)).handoverTr := live_later live 17 0 Dev.handoverTr

theorem does_overlapStartedRx : Does .overlapStartedRx s (overlapStarted (s.due (untied 17 0))) :=
  live_later live 17 0 overlapStarted

theorem does_handoverTs : Does .handoverTs s (s.due (untied 17 0)).handoverTs := live_later live 17 0 Dev.handoverTs

end Live

/-! ## The SFI commands (R432) -/

theorem pairConfig_of_range {d : Dev} {x : PairArgs} (hlevel : F.PAIR_CFG_CLAIM_LEVEL.ok x.level = true)
    (hhalf : F.PAIR_CFG_HB_HALF.ok x.hbHalf = true) (hwait : F.PAIR_CFG_START_WAIT.ok x.startWait = true)
    (hhold : F.PAIR_TIMERS_REVERT_HOLD.ok x.revertHold = true) (hoverlap : F.PAIR_TIMERS_OVERLAP.ok x.overlap = true) :
    d.pairConfig x =
      (let w0 := x.level + 16 * x.hbHalf + 4096 * b2n x.hbFw + 8192 * b2n x.revertEn + 65536 * x.startWait
       let w1 := x.revertHold + 65536 * x.overlap
       ((d.cfg .PAIR_CFG 0 w0).cfg .PAIR_TIMERS 0 w1).driveClaim, .ok) :=
  okIf_of_true (by simp [hlevel, hhalf, hwait, hhold, hoverlap]) _ _

/-- PAIR_RESYNC: a standby resynchronises, if its peer is there. -/
def resync (d : Dev) : Dev × Ans :=
  if d.pst == 0 || decide (5 ≤ d.pst) then (d, .invalid)
  else
    (if d.on F.PAIR_STATUS_LINK_UP && d.peerActive && !d.unitClash then { d with retryAt := none }.pairState 3 else d, .pending)

section Resync

variable {d : Dev}

theorem resync_of_no_standby (other : d.pst = 0 ∨ 5 ≤ d.pst) : resync d = (d, .invalid) := by
  unfold resync
  rcases other with other | other <;> simp [other]

theorem resync_of_standby (least : 1 ≤ d.pst) (most : d.pst < 5) (up : d.on F.PAIR_STATUS_LINK_UP = true)
    (peer : d.peerActive = true) (units : d.unitClash = false) :
    resync d = (({ d with retryAt := none } : Dev).pairState 3, .pending) := by
  unfold resync
  simp [Nat.not_le.mpr most, Nat.ne_of_gt least, up, peer, units]

theorem switchover_of_ready (free : d.proposed = none) (idle : d.handover = none) (active : d.pst = 5 ∨ d.pst = 6)
    (valid : d.on F.PEER_STATUS_PEER_VALID = true) (synced : d.get F.PEER_STATUS_PEER_STATE = 4) :
    d.switchover = (d.propose, { Ans.pending with words := (List.range 3).map (ltWord (d.pt + msLt)) }) := by
  unfold Dev.switchover
  rcases active with active | active <;> simp [free, idle, active, valid, synced]

end Resync

/-- PAIR_REVERT_CANCEL: a proposal or a handover ends before its T_r. -/
def revertCancel (d : Dev) : Dev × Ans :=
  match (match d.proposed with | some t => some t | none => d.handover) with
  | some t => if d.pt < t then ((d.emit (.ulk [261])).abortHandover 5, .ok) else (d, .invalid)
  | none => (d, .invalid)

theorem revertCancel_of_pending {d : Dev} {t : Nat} (pending : d.proposed = some t ∨ d.proposed = none ∧ d.handover = some t) :
    revertCancel d = if d.pt < t then ((d.emit (.ulk [261])).abortHandover 5, .ok) else (d, .invalid) := by
  unfold revertCancel
  rcases pending with proposed | ⟨free, handover⟩
  · rw [proposed]
  · rw [free, handover]

section Granted

variable {s : State} {rq : Sfi} {role : Nat}

theorem answers_pairConfig (granted : Granted s rq 0xA01 2 false role) (x : PairArgs) :
    Answers (.pairConfig rq x) s rq 0xA01 role (fun d => d.pairConfig x) := granted_sfi granted _

theorem answers_pairResync (granted : Granted s rq 0xA02 1 false role) : Answers (.pairResync rq) s rq 0xA02 role resync :=
  granted_sfi granted (fun d _ => resync d)

theorem answers_pairSwitchover (granted : Granted s rq 0xA03 2 false role) :
    Answers (.pairSwitchover rq) s rq 0xA03 role Dev.switchover := granted_sfi granted (fun d _ => d.switchover)

theorem answers_pairRevertCancel (granted : Granted s rq 0xA04 1 false role) :
    Answers (.pairRevertCancel rq) s rq 0xA04 role revertCancel := granted_sfi granted (fun d _ => revertCancel d)

end Granted

/-- Settles O35. -/
theorem pairProtocol : Obligations.PairProtocol := by
  unfold Obligations.PairProtocol
  intro s rq role
  refine ⟨fun live => ⟨fun x => live_later live 17 0 (·.mirrorRx x), fun standby lasted => ?_, fun none_ => ?_,
    fun mirrors due => ?_, fun early => ?_, fun resyncs busy => ⟨fun same => ?_, fun other => ?_⟩,
    fun t retry due resyncs => ?_, fun t since ready free idle held => ?_,
    fun tr free idle => ⟨fun active => ?_, fun standby => ?_, fun inactive unsynced => ?_⟩, fun proposed late => ?_,
    fun early => ?_, fun t pending due closed => ⟨fun entering => ?_, fun yielding => ?_⟩, fun yielding => ?_,
    fun t pending due => ⟨fun entering => ?_, fun yielding seen up => ?_, fun yielding unseen => ?_⟩⟩,
    fun granted => granted_sfi granted _, fun x granted hlevel hhalf hwait hhold hoverlap => ?_,
    fun granted => ⟨fun other => ?_, fun least most up peer units => ?_⟩,
    fun granted free idle active valid synced => ?_, fun granted t pending => ⟨fun early => ?_, fun late => ?_⟩⟩
  · exact does_of_eq (mirrorGap_of_gap standby lasted) (does_mirrorGap live)
  · exact does_of_eq (mirrorGap_of_none none_) (does_mirrorGap live)
  · exact does_of_eq (mirrorTick_of_due mirrors due) (does_timeMirrorTick live)
  · exact does_of_eq (mirrorTick_of_early early) (does_timeMirrorTick live)
  · exact does_of_eq ((resyncDone_of_copy resyncs busy).trans (if_pos same)) (does_resyncCopyDone live)
  · exact does_of_eq ((resyncDone_of_copy resyncs busy).trans (if_neg other)) (does_resyncCopyDone live)
  · exact does_of_eq (resyncRetry_of_due retry due resyncs) (does_resyncRetry live)
  · exact does_of_eq (revertHold_of_met since ready free idle held) (does_revertHoldMet live)
  · exact does_of_eq (proposalRx_of_active free idle active tr) (does_revertProposalRx live tr)
  · exact does_of_eq (proposalRx_of_standby free idle standby tr) (does_revertProposalRx live tr)
  · exact does_of_eq (proposalRx_of_other free idle inactive unsynced tr) (does_revertProposalRx live tr)
  · exact does_of_eq (noAnswer_of_late proposed late) (does_revertNoAnswer live)
  · exact does_of_eq (noAnswer_of_early early) (does_revertNoAnswer live)
  · exact does_of_eq ((handoverTr_of_due pending due closed).trans (if_pos entering)) (does_handoverTr live)
  · exact does_of_eq ((handoverTr_of_due pending due closed).trans (if_neg (by rw [yielding]; decide))) (does_handoverTr live)
  · exact does_of_eq (if_pos yielding) (does_overlapStartedRx live)
  · exact does_of_eq ((handoverTs_of_due pending due).trans (if_pos entering)) (does_handoverTs live)
  · refine does_of_eq ((handoverTs_of_due pending due).trans ?_) (does_handoverTs live)
    exact (if_neg (by rw [yielding]; decide)).trans ((if_pos yielding).trans (if_pos (by rw [seen, up]; rfl)))
  · refine does_of_eq ((handoverTs_of_due pending due).trans ?_) (does_handoverTs live)
    exact (if_neg (by rw [yielding]; decide)).trans ((if_pos yielding).trans (if_neg (by rw [unseen]; exact Bool.false_ne_true)))
  · exact answers_of_eq (pairConfig_of_range hlevel hhalf hwait hhold hoverlap) (answers_pairConfig granted x)
  · exact answers_of_eq (resync_of_no_standby other) (answers_pairResync granted)
  · exact answers_of_eq (resync_of_standby least most up peer units) (answers_pairResync granted)
  · exact answers_of_eq (switchover_of_ready free idle active valid synced) (answers_pairSwitchover granted)
  · exact answers_of_eq ((revertCancel_of_pending pending).trans (if_pos early)) (answers_pairRevertCancel granted)
  · exact answers_of_eq ((revertCancel_of_pending pending).trans (if_neg (Nat.not_lt.mpr late))) (answers_pairRevertCancel granted)

end Sys2Proof.Proofs
end

section
/-! PROOF. The domain tree and its frames (R437 to R442), its proofs, actions and barriers (R444 to R453). -/

namespace Sys2Proof.Proofs

open Sys2Proof Sys2Proof.Machine Sys2Proof.Laws

/-! ## The tree (R437) -/

section Tree

variable {d : Dev}

theorem helloTick_of_due (member : d.domEn = true) (child : d.domRoot = false) (sends : d.domTx = true)
    (due : d.helloAt = none ∨ ∃ t, d.helloAt = some t ∧ t + d.helloPeriod ≤ d.cycle) (unstamped : d.parentStamp = 0) :
    d.helloTick =
      ({ d with helloAt := some d.cycle } : Dev).domUp 1 0 (wordBytes [d.domIndex, d.get F.DOM_CFG_DEPTH] ++ beBytes 8 0) := by
  unfold Dev.helloTick
  rcases due with first | ⟨t, last, passed⟩
  · simp [member, child, sends, first, unstamped]
  · simp [member, child, sends, last, passed, unstamped]

theorem childLost_of_silent {n : Nat} (alive : (d.children.get n).live = true)
    (silent : (d.children.get n).hello + 3 * d.helloPeriod ≤ d.cycle) :
    d.childLost n =
      (({ d with children := d.children.put n { d.children.get n with live := false } } : Dev).raise
        F.DOM_EVENT_CHILD_LOST).domRec 0x1203 4 (d.children.get n).index :=
  if_pos (by rw [alive, decide_eq_true silent]; rfl)

theorem childLost_of_gone {n : Nat} (gone : (d.children.get n).live = false) : d.childLost n = d :=
  if_neg (by rw [gone]; exact Bool.false_ne_true)

theorem parentGone_of_silent (member : d.domEn = true) (child : d.domRoot = false) (had : d.parentLost = false)
    (silent : d.parentAt + 3 * d.helloPeriod ≤ d.cycle) :
    d.parentGone =
      ((({ d with parentLost := true } : Dev).set F.DOM_STATUS_PARENT_LIVE 0 0).raise F.DOM_EVENT_PARENT_LOST).domRec 0x1206 5 :=
  if_pos (by rw [member, child, had, decide_eq_true silent]; rfl)

/-! ## Frames sent and received (R440 to R442) -/

theorem domTxOn_of_valid {t : Nat} (since : d.validSince = some t) (member : d.domEn = true)
    (settled : t + 300 * msCycles ≤ d.cycle) : d.domTxOn = { d with domTx := true } := by
  unfold Dev.domTxOn
  rw [since]
  exact if_pos (by rw [member, decide_eq_true settled]; rfl)

theorem mseqAge_of_old {i : Nat} (used : (d.domSeen.get i).1 ≠ 0)
    (old : 2 ^ 30 ≤ (d.ptCount + 2 ^ 32 - (d.domSeen.get i).2) % 2 ^ 32) :
    d.mseqAge i = { d with domSeen := d.domSeen.put i (0, 0) } := if_pos ⟨used, old⟩

/-- What the agent does with a copy of its queue. -/
def mgmtTake (d : Dev) (c : Copy) : Dev :=
  let e := d.delivered c
  let f := e.frames.get c.frame
  let p := f.parsed
  if p.etype ≠ 0x88B5 ∨ (p.da ≠ e.domMac ∧ p.da ≠ e.domGroup) then ((e.count 0x4C 5).agentRead f).consume c.frame
  else ((e.count 0x5C 0).consume c.frame).domAccept f.port p.sa (f.bytes.drop (p.etOff + 2))

theorem mgmtRx_of_head {us : List Upset} {e : Dev} {c : Copy} (head : d.takeHead 257 d.domMask us = (e, some c)) :
    d.mgmtRx us = mgmtTake e c := by
  unfold Dev.mgmtRx
  rw [head]
  rfl

theorem mgmtTake_of_other {c : Copy} (other : ((d.delivered c).frames.get c.frame).parsed.etype ≠ 0x88B5) :
    mgmtTake d c =
      (let e := d.delivered c
       ((e.count 0x4C 5).agentRead (e.frames.get c.frame)).consume c.frame) := if_pos (Or.inl other)

theorem mgmtTake_of_domain {c : Copy} (domain : ((d.delivered c).frames.get c.frame).parsed.etype = 0x88B5)
    (mine : ((d.delivered c).frames.get c.frame).parsed.da = (d.delivered c).domMac ∨
      ((d.delivered c).frames.get c.frame).parsed.da = (d.delivered c).domGroup) :
    mgmtTake d c =
      (let e := d.delivered c
       let f := e.frames.get c.frame
       ((e.count 0x5C 0).consume c.frame).domAccept f.port f.parsed.sa (f.bytes.drop (f.parsed.etOff + 2))) :=
  if_neg (not_or.mpr ⟨not_not_intro domain, fun others => mine.elim others.1 others.2⟩)

end Tree

section Live

variable {s : State} (live : s.live)
include live

theorem does_domainHelloTick : Does .domainHelloTick s (s.due (untied 18 0)).helloTick := live_later live 18 0 Dev.helloTick

theorem does_childLost (n : Fin 64) : Does (.childLost n) s ((s.due (untied 18 0)).childLost n) :=
  live_later live 18 0 (·.childLost n)

theorem does_parentLost : Does .parentLost s (s.due (untied 18 0)).parentGone := live_later live 18 0 Dev.parentGone

theorem does_domainTxEnable : Does .domainTxEnable s (s.due (untied 18 0)).domTxOn := live_later live 18 0 Dev.domTxOn

theorem does_mseqEntryAge (i : Fin 16384) : Does (.mseqEntryAge i) s ((s.due (untied 18 0)).mseqAge i) :=
  live_later live 18 0 (·.mseqAge i)

theorem does_mgmtFrameRx (us : List Upset) : Does (.mgmtFrameRx us) s ((s.due atSend).mgmtRx us) := live_due live _ (·.mgmtRx us)

end Live

/-- Settles O36. -/
theorem domainTree : Obligations.DomainTree := by
  unfold Obligations.DomainTree
  intro s live
  refine ⟨⟨fun member child sends due unstamped => ?_, fun n => ⟨fun alive silent => ?_, fun gone => ?_⟩,
    fun member child had silent => ?_, fun t since member settled => ?_, live_later live 18 0 Dev.domRelease,
    fun i used old => ?_⟩, fun us d c head => ⟨fun other => ?_, fun domain mine => ?_⟩⟩
  · exact does_of_eq (helloTick_of_due member child sends due unstamped) (does_domainHelloTick live)
  · exact does_of_eq (childLost_of_silent alive silent) (does_childLost live n)
  · exact does_of_eq (childLost_of_gone gone) (does_childLost live n)
  · exact does_of_eq (parentGone_of_silent member child had silent) (does_parentLost live)
  · exact does_of_eq (domTxOn_of_valid since member settled) (does_domainTxEnable live)
  · exact does_of_eq (mseqAge_of_old used old) (does_mseqEntryAge live i)
  · exact does_of_eq ((mgmtRx_of_head head).trans (mgmtTake_of_other other)) (does_mgmtFrameRx live us)
  · exact does_of_eq ((mgmtRx_of_head head).trans (mgmtTake_of_domain domain mine)) (does_mgmtFrameRx live us)

/-! ## Proofs (R445, R447) -/

section Proof

variable {d : Dev} {p : DomProof} (opened : d.proof = some p)
include opened

theorem proofLatch_of_due (armed : p.latched = false) (due : p.t ≤ d.pt) : d.proofLatch = d.proofTake p := by
  unfold Dev.proofLatch
  rw [opened]
  exact if_pos (by rw [armed, decide_eq_true due]; rfl)

theorem proofLatch_of_early (early : d.pt < p.t) : d.proofLatch = d := by
  unfold Dev.proofLatch
  rw [opened]
  exact if_neg (by rw [decide_eq_false (Nat.not_le.mpr early), Bool.and_false]; exact Bool.false_ne_true)

theorem proofDeadline_of_late (latched : p.latched = true) (late : p.t + d.levels * d.hopWait ≤ d.pt) :
    d.proofDeadline = d.proofForward p := by
  unfold Dev.proofDeadline
  rw [opened]
  exact if_pos (by rw [latched, decide_eq_true late]; rfl)

theorem proofDeadline_of_armed (armed : p.latched = false) : d.proofDeadline = d := by
  unfold Dev.proofDeadline
  rw [opened]
  exact if_neg (by rw [armed]; exact Bool.false_ne_true)

end Proof

/-! ## Actions (R451, R452) -/

section Action

variable {d : Dev} {a : DomAction}

/-- The effect of an action's KIND before it is reported. -/
def actionEffect (a : DomAction) (d : Dev) : Dev :=
  if a.kind = 1 then d.timedCommit else if a.kind = 2 then (portsOf a.ports).foldl (fun d p => d.takeover p) d else d

/-- The member's outcome is DONE. -/
def actionDone (a : DomAction) (d : Dev) : Dev :=
  ((d.raise F.DOM_EVENT_ACTION_DONE).domRec 0x120A 2 a.opId a.kind).actionSettle 0

/-- The effect of an action's KIND after it is reported. -/
def actionEnd (a : DomAction) (d : Dev) : Dev :=
  if a.kind = 3 then d.actionCheck.promptRestart 7 else if a.kind = 4 then d.actionCheck.internalReset else d

section Open

variable (opened : d.action = some a)
include opened

theorem actionTake_of_early (early : d.pt < a.t) : d.actionTake = d := by
  unfold Dev.actionTake
  rw [opened]
  exact if_pos (Or.inr (Or.inl early))

theorem actionTake_of_due (armed : a.armed = true) (due : a.t ≤ d.pt) (free : d.heldT.any (fun h => h.kind == 3) = false) :
    d.actionTake = actionEnd a (actionDone a (actionEffect a d)) := by
  unfold Dev.actionTake
  rw [opened]
  have now : ¬ (a.armed = false ∨ d.pt < a.t ∨ d.heldT.any (fun h => h.kind == 3) = true) :=
    not_or.mpr ⟨by rw [armed]; decide, not_or.mpr ⟨Nat.not_lt.mpr due, Bool.eq_false_iff.mp free⟩⟩
  exact if_neg now

end Open

variable {kind : Nat} (k : a.kind = kind)
include k

/-- An action of KIND 1 or 2 takes its effect at T. -/
theorem actionEnd_of_le_two (le : kind ≤ 2) : actionEnd a d = d := by
  subst k
  exact (if_neg (by omega)).trans (if_neg (by omega))

/-- An action of KIND 3 or 4 has no effect before its report. -/
theorem actionEffect_of_two_lt (lt : 2 < kind) : actionEffect a d = d := by
  subst k
  exact (if_neg (by omega)).trans (if_neg (by omega))

end Action

theorem actionDeadline_of_late {d : Dev} {a : DomAction} (opened : d.actionTake.action = some a)
    (late : a.t + (if d.actionTake.domRoot then d.actionTake.get F.DOM_CFG_DEPTH_LIMIT + 1 else d.actionTake.levels) *
      d.actionTake.hopWait ≤ d.actionTake.pt) : d.actionDeadline = d.actionTake.actionReport a := by
  unfold Dev.actionDeadline
  dsimp only
  generalize d.actionTake = e at *
  rw [opened]
  exact if_pos late

/-! ## Barriers and messages without an answer (R453, R455) -/

theorem domRoot_closeBarrier (d : Dev) : ({ d with barrier := none } : Dev).domRoot = d.domRoot := rfl

section Barrier

variable {d : Dev} {b : DomBarrier} (opened : d.barrier = some b)
include opened

theorem barrierTimeout_of_early (early : d.ptNs < b.until_) : d.barrierTimeout = d := by
  unfold Dev.barrierTimeout
  rw [opened]
  exact if_pos early

theorem barrierTimeout_of_late_member (late : b.until_ ≤ d.ptNs) (member : d.domRoot = false) :
    d.barrierTimeout = { d with barrier := none } := by
  unfold Dev.barrierTimeout
  rw [opened]
  exact (if_neg (Nat.not_lt.mpr late)).trans (if_pos (by rw [domRoot_closeBarrier, member]; rfl))

theorem barrierTimeout_of_late_root (late : b.until_ ≤ d.ptNs) (root : d.domRoot = true) :
    d.barrierTimeout =
      (let d : Dev := { d with barrier := none }
       ((d.raise F.DOM_EVENT_BARRIER_TIMEOUT).domRec 0x120D 3 b.opId).opFinish b.opId
         { Ans.busy 9 with words := (if d.barrierOwn b then [] else [d.domIndex]) ++
           ((b.need ++ d.liveKids.map (fun c => c.index)).eraseDups.filter (fun i => !d.kidReady b i)) }) := by
  unfold Dev.barrierTimeout
  rw [opened]
  exact (if_neg (Nat.not_lt.mpr late)).trans (if_neg (by rw [domRoot_closeBarrier, root]; exact Bool.false_ne_true))

end Barrier

theorem domTimeouts_of_send {d : Dev} {j : Job}
    (late : d.jobs.filter (fun j => (j.op == 0xB04 || j.op == 0xB05) && decide (j.data.getD 1 0 ≤ d.cycle)) = [j])
    (send : j.op = 0xB04) : d.domTimeouts = d.finishJob j (.busy 9) := by
  unfold Dev.domTimeouts
  rw [late]
  exact if_pos send

section Live

variable {s : State} (live : s.live)
include live

theorem does_proofLatch : Does .proofLatch s (s.due atLatch).proofLatch := live_due live _ Dev.proofLatch

theorem does_proofReportDeadline : Does .proofReportDeadline s (s.due (untied 18 0)).proofDeadline :=
  live_later live 18 0 Dev.proofDeadline

theorem does_actionTake : Does .actionTake s (s.due (untied 18 0)).actionTake := live_later live 18 0 Dev.actionTake

theorem does_actionCompletionDeadline : Does .actionCompletionDeadline s (s.due (untied 18 0)).actionDeadline :=
  live_later live 18 0 Dev.actionDeadline

theorem does_barrierTimeout : Does .barrierTimeout s (s.due (untied 18 0)).barrierTimeout :=
  live_later live 18 0 Dev.barrierTimeout

theorem does_domainSendTimeout : Does .domainSendTimeout s (s.due (untied 18 0)).domTimeouts :=
  live_later live 18 0 Dev.domTimeouts

/-- The compare of an armed action fires. -/
theorem does_actionTake_of_due {a : DomAction} (opened : (s.due (untied 18 0)).action = some a) (armed : a.armed = true)
    (due : a.t ≤ (s.due (untied 18 0)).pt) (free : (s.due (untied 18 0)).heldT.any (fun h => h.kind == 3) = false) :
    Does .actionTake s (actionEnd a (actionDone a (actionEffect a (s.due (untied 18 0))))) :=
  does_of_eq (actionTake_of_due opened armed due free) (does_actionTake live)

end Live

/-- Settles O37. -/
theorem domainOperations : Obligations.DomainOperations := by
  unfold Obligations.DomainOperations
  intro s live
  refine ⟨fun p opened => ⟨fun armed due => ?_, fun early => ?_⟩,
    fun p opened => ⟨fun latched late => ?_, fun armed => ?_⟩,
    fun a opened armed => ⟨fun early => ?_, fun due free => ?_⟩, fun a opened late => ?_,
    fun b opened => ⟨fun early => ?_, fun late member => ?_, fun late root => ?_⟩, fun j late send => ?_⟩
  · exact does_of_eq (proofLatch_of_due opened armed due) (does_proofLatch live)
  · exact does_of_eq (proofLatch_of_early opened early) (does_proofLatch live)
  · exact does_of_eq (proofDeadline_of_late opened latched late) (does_proofReportDeadline live)
  · exact does_of_eq (proofDeadline_of_armed opened armed) (does_proofReportDeadline live)
  · exact does_of_eq (actionTake_of_early opened early) (does_actionTake live)
  · have taken := does_actionTake_of_due live opened armed due free
    refine ⟨fun k => ?_, fun k => ?_, fun k => ?_, fun k => ?_⟩
    · rw [actionEnd_of_le_two k (by decide)] at taken
      exact does_of_eq (congrArg (actionDone a) (if_pos k)) taken
    · rw [actionEnd_of_le_two k (by decide)] at taken
      exact does_of_eq (congrArg (actionDone a) ((if_neg (by rw [k]; decide)).trans (if_pos k))) taken
    · rw [actionEffect_of_two_lt k (by decide)] at taken
      exact does_of_eq (if_pos k) taken
    · rw [actionEffect_of_two_lt k (by decide)] at taken
      exact does_of_eq ((if_neg (by rw [k]; decide)).trans (if_pos k)) taken
  · exact does_of_eq (actionDeadline_of_late opened late) (does_actionCompletionDeadline live)
  · exact does_of_eq (barrierTimeout_of_early opened early) (does_barrierTimeout live)
  · exact does_of_eq (barrierTimeout_of_late_member opened late member) (does_barrierTimeout live)
  · exact does_of_eq (barrierTimeout_of_late_root opened late root) (does_barrierTimeout live)
  · exact does_of_eq (domTimeouts_of_send late send) (does_domainSendTimeout live)

end Sys2Proof.Proofs
end

section
/-! PROOF. The SFI commands of the domain group (R455). -/

namespace Sys2Proof.Proofs

open Sys2Proof Sys2Proof.Machine Sys2Proof.Laws

section Operations

variable {d : Dev}

/-- DOMAIN_CONFIG on operands in range, MAX_ROLE changed by SECURITY_ADMIN alone. -/
theorem domConfig_of_range {role : Nat} {x : DomCfgArgs} (may : role = 3 ∨ x.maxRole = d.get F.DOM_CFG_MAX_ROLE)
    (hports : x.ports < 2 ^ 256) (htc : x.tc < 6) (hrole : x.maxRole < 4) (hrate : F.DOM_RATE_RATE.ok x.rate = true)
    (hhop : F.DOM_TIMERS_HOP_WAIT.ok x.hopWait = true) (harm : F.DOM_TIMERS_ARM_MIN.ok x.armMin = true)
    (hskew : F.DOM_TIMERS_SKEW_MAX.ok x.skewMax = true) (hhello : F.DOM_TIMERS_HELLO_PERIOD.ok x.helloPeriod = true)
    (hlead : F.DOM_LEAD_LEAD.ok x.lead = true) :
    d.domConfig role x =
      (let d := (((d.cfgF F.DOM_CFG_MAX_ROLE 0 x.maxRole).cfgF F.DOM_CFG_DOM_TC 0 x.tc).cfg .DOM_RATE 0 x.rate).cfg .DOM_LEAD 0 x.lead
       let d := d.cfg .DOM_TIMERS 0 (x.hopWait + 2 ^ 8 * x.armMin + 2 ^ 16 * x.skewMax + 2 ^ 24 * x.helloPeriod)
       ((List.range 8).foldl (fun d w => d.cfg .DOMAIN_PORTS w (x.ports / 2 ^ (32 * w) % 2 ^ 32)) d).domShape, .ok) := by
  have allowed : ¬ (role < 3 ∧ x.maxRole ≠ d.get F.DOM_CFG_MAX_ROLE) := fun refused =>
    may.elim (fun admin => absurd refused.1 (by omega)) refused.2
  refine (if_neg allowed).trans (okIf_of_true ?_ _ _)
  rw [decide_eq_true ⟨hports, htc, hrole⟩, hrate, hhop, harm, hskew, hhello, hlead]
  rfl

theorem newOp_domIndex (d : Dev) : d.newOp.2.domIndex = d.domIndex := rfl

section Member

variable (member : d.domEn = true)
include member

section Message

variable {role : Nat} {msg : List Nat} (some_ : msg ≠ []) (short : msg.length ≤ 16)
include some_ short

theorem domSendSfi_of_other {target : Nat} (inRange : target < 16384) (other : target ≠ d.domIndex) :
    d.domSendSfi role target msg =
      (let e := d.newOp.2.domUnicast 2 target d.newOp.1 role (wordBytes msg)
       (e, .pending [d.newOp.1, e.cycle + secCycles])) := by
  have valid : ¬ (!d.domEn || decide (16384 ≤ target ∨ 16 < msg.length) || msg.isEmpty) = true := by
    simp [member, inRange, short, some_]
  unfold Dev.domSendSfi
  rw [if_neg valid]
  dsimp only
  rw [if_neg (by rw [newOp_domIndex]; exact other)]

theorem domBroadcast_of_message :
    d.domBroadcast role msg =
      (let e := Dev.domCast { d.newOp.2 with domCasts := d.newOp.2.domCasts ++ [(d.newOp.1, 0, 0)] } d.newOp.1 role
         (wordBytes (0 :: msg))
       (e.domSfi e.domIndex role d.newOp.1 msg, .pending [d.newOp.1, e.cycle + secCycles])) :=
  if_neg (by simp [member, short, some_])

end Message

section Root

variable {role : Nat} (root : d.domRoot = true)
include root

theorem proofStart_of_free {rq : Sfi} {t addr len : Nat} (inRange : t < 2 ^ 80) (free : d.proof = none)
    (function : d.sender rq.ch < 8) (window : d.dmaOk (d.sender rq.ch) addr len true = true) :
    d.proofStart rq role t addr len =
      ((d.newOp.2.domCast d.newOp.1 role (wordBytes ([1] ++ (List.range 3).map (ltWord t)))).proofArm d.newOp.1 t
        (d.sender rq.ch, addr, len), { Ans.pending [d.newOp.1] with words := [d.newOp.1] }) := by
  have valid : ¬ (!d.domEn || !d.domRoot || decide (2 ^ 80 ≤ t)) = true := by
    rw [member, root, decide_eq_false (Nat.not_le.mpr inRange)]
    decide
  have mine : ¬ (8 ≤ d.sender rq.ch ∨ d.dmaOk (d.sender rq.ch) addr len true = false) :=
    not_or.mpr ⟨Nat.not_le.mpr function, by rw [window]; decide⟩
  exact (if_neg valid).trans ((if_neg (by rw [free]; decide)).trans (if_neg mine))

section Curtain

variable {kind t ports : Nat} (least : 1 ≤ kind) (most : kind ≤ 4) (inRange : ports < 2 ^ 256)
include least most inRange

/-- Operands that CURTAIN_ARM takes are judged by the role next. -/
theorem curtainArm_of_range :
    d.curtainArm role kind t ports =
      if role < actionRole kind then (d, .denied)
      else if d.action.isSome then (d, .busy 9)
      else if t < d.pt + d.get F.DOM_LEAD_LEAD * msLt ∨ d.pt + 3600000 * msLt < t then (d, .invalid)
      else (d.newOp.2.actionStart d.newOp.1 kind t ports role, { Ans.pending [d.newOp.1] with words := [d.newOp.1] }) := by
  have operands : ¬ (kind = 0 ∨ 4 < kind ∨ 2 ^ 256 ≤ ports) := by
    rintro (zero | beyond | wide)
    · omega
    · omega
    · exact absurd inRange (Nat.not_lt.mpr wide)
  exact if_neg (by rw [member, root, decide_eq_false operands]; decide)

theorem curtainArm_of_free (may : actionRole kind ≤ role) (free : d.action = none)
    (lead : d.pt + d.get F.DOM_LEAD_LEAD * msLt ≤ t) (horizon : t ≤ d.pt + 3600000 * msLt) :
    d.curtainArm role kind t ports =
      (d.newOp.2.actionStart d.newOp.1 kind t ports role, { Ans.pending [d.newOp.1] with words := [d.newOp.1] }) := by
  rw [curtainArm_of_range member root least most inRange, if_neg (Nat.not_lt.mpr may), if_neg (by rw [free]; decide),
    if_neg (not_or.mpr ⟨Nat.not_lt.mpr lead, Nat.not_lt.mpr horizon⟩)]

end Curtain

/-- A barrier without an action. -/
theorem barrierStart_of_free {cond arg timeout : Nat} (hcond : cond < 4) (harg : arg < 2 ^ 32) (htimeout : timeout < 2 ^ 32)
    (free : d.barrier = none) :
    d.barrierStart role cond arg timeout none =
      (let e := d.newOp.2.domCast d.newOp.1 role (wordBytes [4, cond, arg, timeout])
       (e.barrierArm d.newOp.1 cond arg timeout role e.domIndex none, .pending [d.newOp.1])) := by
  have operands : ¬ (4 ≤ cond ∨ 2 ^ 32 ≤ arg ∨ 2 ^ 32 ≤ timeout ∨ 3 = 0 ∨ 4 < 3) := by omega
  have valid : ¬ (!d.domEn || !d.domRoot || decide (4 ≤ cond ∨ 2 ^ 32 ≤ arg ∨ 2 ^ 32 ≤ timeout ∨ 3 = 0 ∨ 4 < 3)) = true := by
    rw [member, root, decide_eq_false operands]
    decide
  have actionless : ¬ ((none : Option (Nat × Nat)).isSome = true ∧ role < actionRole 3) := fun h => Bool.false_ne_true h.1
  exact (if_neg valid).trans ((if_neg actionless).trans (if_neg (by rw [free]; decide)))

end Root

end Member

theorem curtainCancel_of_open {a : DomAction} (opened : d.action = some a) (root : d.domRoot = true) (role : Nat) :
    d.curtainCancel role a.opId = ((d.domCast a.opId role (wordBytes [3])).actionCancel a.opId, .ok) := by
  unfold Dev.curtainCancel
  rw [opened]
  exact if_pos (by rw [root, beq_self_eq_true]; rfl)

section Ready

variable {b : DomBarrier} (opened : d.barrier = some b)
include opened

theorem hostReady_of_open : d.hostReady b.opId = ({ d with barrier := some { b with host := true } }, .ok) := by
  unfold Dev.hostReady
  rw [opened]
  exact if_pos rfl

theorem hostReady_of_other {opId : Nat} (other : opId ≠ b.opId) : d.hostReady opId = (d, .invalid) := by
  unfold Dev.hostReady
  rw [opened]
  exact if_neg other.symm

end Ready

end Operations

section Granted

variable {s : State} {rq : Sfi} {role : Nat}

theorem answers_domainConfig (granted : Granted s rq 0xB02 2 false role) (x : DomCfgArgs) :
    Answers (.domainConfig rq x) s rq 0xB02 role (fun d => d.domConfig role x) :=
  granted_sfi granted (fun d role => d.domConfig role x)

theorem answers_domainSend (granted : Granted s rq 0xB04 0 false role) (target : Nat) (msg : List Nat) :
    Answers (.domainSend rq target msg) s rq 0xB04 role (fun d => d.domSendSfi role target msg) :=
  granted_sfi granted (fun d role => d.domSendSfi role target msg)

theorem answers_domainBroadcast (granted : Granted s rq 0xB05 2 false role) (msg : List Nat) :
    Answers (.domainBroadcast rq msg) s rq 0xB05 role (fun d => d.domBroadcast role msg) :=
  granted_sfi granted (fun d role => d.domBroadcast role msg)

theorem answers_proofStart (granted : Granted s rq 0xB06 1 false role) (t addr len : Nat) :
    Answers (.proofStart rq t addr len) s rq 0xB06 role (fun d => d.proofStart rq role t addr len) :=
  granted_sfi granted (fun d role => d.proofStart rq role t addr len)

theorem answers_curtainArm (granted : Granted s rq 0xB07 2 false role) (kind t ports : Nat) :
    Answers (.curtainArm rq kind t ports) s rq 0xB07 role (fun d => d.curtainArm role kind t ports) :=
  granted_sfi granted (fun d role => d.curtainArm role kind t ports)

theorem answers_curtainCancel (granted : Granted s rq 0xB08 2 false role) (opId : Nat) :
    Answers (.curtainCancel rq opId) s rq 0xB08 role (fun d => d.curtainCancel role opId) :=
  granted_sfi granted (fun d role => d.curtainCancel role opId)

theorem answers_barrierStart (granted : Granted s rq 0xB09 2 false role) (cond arg timeout : Nat) (action : Option (Nat × Nat)) :
    Answers (.barrierStart rq cond arg timeout action) s rq 0xB09 role (fun d => d.barrierStart role cond arg timeout action) :=
  granted_sfi granted (fun d role => d.barrierStart role cond arg timeout action)

theorem answers_barrierReady (granted : Granted s rq 0xB0A 1 false role) (opId : Nat) :
    Answers (.barrierReady rq opId) s rq 0xB0A role (fun d => d.hostReady opId) :=
  granted_sfi granted (fun d _ => d.hostReady opId)

end Granted

/-- Settles O38. -/
theorem domainSfi : Obligations.DomainSfi := by
  unfold Obligations.DomainSfi
  intro s rq role
  refine ⟨fun granted => granted_sfi granted _, fun x granted => granted_sfiKey granted (fun d _ => d.domJoin rq x),
    fun x granted may hports htc hrole hrate hhop harm hskew hhello hlead => ?_,
    fun granted => granted_sfi granted (fun d _ => d.domLeave),
    fun target msg granted member inRange some_ short other => ?_,
    fun msg granted member some_ short => ?_,
    fun t addr len granted member root inRange free function window => ?_,
    fun kind t ports granted member root least most inRange => ⟨fun below => ?_, fun may free lead horizon => ?_⟩,
    fun a granted opened root => ?_,
    fun cond arg timeout granted member root hcond harg htimeout free => ?_,
    fun b granted opened => ⟨?_, fun opId other => ?_⟩, fun start granted => granted_sfi granted _⟩
  · exact answers_of_eq (domConfig_of_range may hports htc hrole hrate hhop harm hskew hhello hlead)
      (answers_domainConfig granted x)
  · exact answers_of_eq (domSendSfi_of_other member some_ short inRange other) (answers_domainSend granted target msg)
  · exact answers_of_eq (domBroadcast_of_message member some_ short) (answers_domainBroadcast granted msg)
  · exact answers_of_eq (proofStart_of_free member root inRange free function window) (answers_proofStart granted t addr len)
  · exact answers_of_eq ((curtainArm_of_range member root least most inRange).trans (if_pos below))
      (answers_curtainArm granted kind t ports)
  · exact answers_of_eq (curtainArm_of_free member root least most inRange may free lead horizon)
      (answers_curtainArm granted kind t ports)
  · exact answers_of_eq (curtainCancel_of_open opened root role) (answers_curtainCancel granted a.opId)
  · exact answers_of_eq (barrierStart_of_free member root hcond harg htimeout free)
      (answers_barrierStart granted cond arg timeout none)
  · exact answers_of_eq (hostReady_of_open opened) (answers_barrierReady granted b.opId)
  · exact answers_of_eq (hostReady_of_other opened other) (answers_barrierReady granted opId)

end Sys2Proof.Proofs
end
